-- ==== Sys2Proof/Word.lean ====
section
/-! DEFINITION. The word types of the register space, the engine's registers and the serial links, and the two conversions
between a stored field value and the signed number it stands for. -/

namespace Sys2Proof

/-- A byte of a memory or of a frame. -/
abbrev Byte := BitVec 8

/-- A 32-bit register, X, Y or D word. -/
abbrev Word := BitVec 32

/-- A 64-bit control-engine bundle. -/
abbrev Bundle := BitVec 64

/-- A 72-bit accumulator (R16, R239). -/
abbrev Acc := BitVec 72

/-- The signed number that a field of `w` bits holding `v` stands for (two's complement). -/
def signedOf (w v : Nat) : Int := if v < 2 ^ (w - 1) then (v : Int) else (v : Int) - 2 ^ w

/-- The field value of `w` bits that stands for a signed number, wrapped. -/
def fieldOf (w : Nat) (x : Int) : Nat := (x % (2 ^ w : Int)).toNat

/-- Limit an integer to a closed range. -/
def clampInt (lo hi x : Int) : Int := if x < lo then lo else if hi < x then hi else x

end Sys2Proof
end

