-- ==== Sys2Proof/Syntax.lean ====
section
/-! DEFINITION. The commands the block takes, one constructor per row of the table of operations and events, with the data
that comes with each from outside the half (frames, register values, measurements, pin levels). -/

namespace Sys2Proof

/-- The two parts of R1. -/
inductive Part where
  | hx962d | hx961s
  deriving DecidableEq, Repr

/-- Half A or half B (R2, R3). -/
inductive HalfId where
  | a | b
  deriving DecidableEq, Repr

/-- A motor channel M0 to M2; also a bank, an encoder port or a Hall triple. -/
abbrev Motor := Fin 3

/-- A phase or leg, 3 × m + phase (R342). -/
abbrev Phase := Fin 9

/-- A switch, 6 × m + g with g numbered as in the per-gate fields of R334: 0 GHU, 1 GLU, 2 GHV, 3 GLV, 4 GHW, 5 GLW. -/
abbrev Gate := Fin 18

/-- A register access of a path: writer, offset, and the word written, or none for a read (R83). -/
abbrev Access := Nat × Nat × Option Word

/-- What happens beside word `word` of a burst or of a request frame: the hardware's updates of the accessed register's fields in
the word's CEC, as (low bit, value or increment) (R85), and the accesses of other paths that arrive with it (R83). -/
structure Beside where
  word : Nat
  hw : List (Nat × Nat)
  others : List Access
  deriving DecidableEq, Repr

/-- What a series-switch test measured, step by step (R330). -/
structure SluiceMeas where
  /-- Step 1: gate senses off, high side and low side. -/
  hsOff : Bool
  lsOff : Bool
  /-- Chopper current at CHOP_IMIN or above in steps 2 and 3. -/
  cur2 : Bool
  cur3 : Bool
  /-- Pass conditions of steps 4 and 5 met in time. -/
  dv4 : Bool
  dv5 : Bool
  /-- The step during which the command ends, by an abort of the test if one is due; 6 or more for the end of the test. -/
  stop : Nat
  /-- VDS of the high-side and of the low-side switch below SL_VDS_ON when the command ends. -/
  hsOn : Bool
  lsOn : Bool
  deriving DecidableEq, Repr

/-- A word an encoder port has clocked in (R145): start bit found within ACK_MAX clocks, the WLEN data bits, nE, nW and the
received CRC bits of BiSS C, the last extra bit of SSI, and the level of the data line in the clock after the last bit. -/
structure EncWord where
  started : Bool
  bits : Nat
  nE : Bool
  nW : Bool
  crc : Nat
  extra : Bool
  endHigh : Bool
  deriving DecidableEq, Repr

/-- What a calibration window converted (R137): S and G of the amplifier, and A and B of the cores. -/
structure CalMeas where
  short : Nat
  ref : Nat
  quarter : List Nat
  threeQuarter : List Nat
  deriving DecidableEq, Repr

/-- A symbol on a lane of the Brine link (R393, R394): a data byte, a control symbol of R394, a code violation, a disparity error or
a control symbol that R394 does not know, or a lane without activity (R395). -/
inductive Sym where
  | d (b : Byte)
  | k285 | k277 | k282 | k283 | k297 | k286 | k280
  | bad
  | quiet
  deriving DecidableEq, Repr

/-- A symbol slot: the symbols of lane 0 and lane 1. -/
abbrev LaneSlot := Sym × Sym

/-- A training set after its K28.5, the same on both lanes (R397): the half number, the training step as what it shows of the sender (whether
it has aligned its lanes and measured the delay; the spec gives the steps no numbers), and the echo token. -/
structure TrainSet where
  half : Nat
  done : Bool
  token : Nat
  deriving DecidableEq, Repr

/-- A fabric frame as its receiver finds it after the MAC: the PCP of its tag (R411), the header of R413, the payload and the
trailer of R414. -/
structure FabFrame where
  pcp : Nat
  ver : Nat
  typ : Nat
  src : Nat
  dst : Nat
  flow : Nat
  seq : Nat
  reqId : Nat
  hops : Nat
  flags : Nat
  time : Nat
  payload : List Byte
  alive : Nat
  /-- E2E_CRC as carried. -/
  crc : Nat
  /-- Last byte of the destination MAC address: DST, or the gateway's address (R411, R427). -/
  da : Nat
  /-- Last two bytes of the source MAC address: ring and source node (R411). -/
  sa : Nat
  /-- The Ethernet FCS is valid (R426). -/
  fcs : Bool
  deriving DecidableEq, Repr

/-- A CAN frame: FD or classical, with a bit-rate switch, 29-bit identifier, identifier, data. -/
structure CanFrame where
  fd : Bool
  brs : Bool
  ide : Bool
  id : Nat
  data : List Byte
  deriving DecidableEq, Repr

/-- What moves the error counters of a CAN FD controller beside its frames (R435): an error as transmitter, as receiver, a dominant bit after
the own error flag as receiver, and times in which the bus showed 11 recessive bits in a row. -/
inductive CanEvent where
  | txError
  | rxError
  | rxDominant
  | idle (times : Nat)
  deriving DecidableEq, Repr

/-- A clock as the best master clock algorithm compares it: priority1, clock quality, priority2, clock identity (R428). -/
structure PtpClock where
  prio1 : Nat
  quality : Nat
  prio2 : Nat
  id : Nat
  deriving DecidableEq, Repr

/-- What an Announce message says: the grandmaster, steps removed from it, and the sending clock and port. -/
structure PtpVector where
  clock : PtpClock
  steps : Nat
  src : Nat
  port : Nat
  deriving DecidableEq, Repr

/-- The messages of the time-aware system (R428); times in ns, of the sender's clock. -/
inductive PtpMsg where
  /-- Announce, with the identities of the clocks on its path. -/
  | announce (v : PtpVector) (path : List Nat)
  /-- Sync, two-step or one-step, and its Follow_Up: the time of the grandmaster, and what has passed since. -/
  | sync (seq : Nat) (twoStep : Bool)
  | followUp (seq : Nat) (origin correction : Int)
  /-- Peer delay: the request, its response with the time of receipt, and the follow-up with the time at which the response left. -/
  | pdelayReq (seq : Nat)
  | pdelayResp (seq : Nat) (at_ : Int)
  | pdelayRespFollowUp (seq : Nat) (at_ : Int)
  deriving DecidableEq, Repr

/-! ### Control-engine bundles (R200, R230 to R248) -/

/-- The three streams of the control engine (R200). -/
inductive Strm where
  | passA | passB | bprog
  deriving DecidableEq, Repr

/-- An error in a stored word (R199): in one bit, which a read corrects, or in two, with the data bits that a read finds inverted. -/
inductive Ecc where
  | single
  | double (flip : Word)
  deriving DecidableEq, Repr

/-- The memories of the control engine (R194): program banks, X, Y banks. -/
inductive CeMem where
  | pm0 | pm1 | x | y0 | y1
  deriving DecidableEq, Repr

/-- An error strikes a stored word: a bundle by its number, an X or Y word by its byte address. -/
structure Strike where
  mem : CeMem
  addr : Nat
  err : Ecc
  deriving DecidableEq, Repr

/-- A bundle that issues: its stream, and the errors that have struck stored words since the last one. -/
structure Issue where
  strm : Strm
  strikes : List Strike
  deriving DecidableEq, Repr

/-- Where a disturbance of the known-answer test strikes (R264): a result of pass A or of pass B, or the input of a comparator. -/
inductive HitAt where
  | passA | passB | cmp1 | cmp2
  deriving DecidableEq, Repr

/-- A disturbance of the known-answer test: the bundle and slot of the writeback, and the bits it inverts. -/
structure KatHit where
  at_ : HitAt
  bidx : Nat
  slot : Nat
  flip : Nat
  deriving DecidableEq, Repr

/-- CMP conditions (R243). -/
inductive Cond where
  | eq | ne | lt | le | gt | ge
  deriving DecidableEq, Repr

/-- Address modifiers (R206, R247): none, +4, −4, +PMn, +PMn%. -/
inductive PMod where
  | stay | inc | dec | pm | circ
  deriving DecidableEq, Repr

/-- The modifiers LDXY can name (R247). -/
inductive PMod2 where
  | stay | inc | pm | circ
  deriving DecidableEq, Repr

/-- Special registers of MVTS and MVFS (R247). -/
inductive SReg where
  | p (n : BitVec 3)
  | pm (n : BitVec 3)
  | pl (n : BitVec 3)
  | lc (k : Bool)
  | rrb
  | flags
  deriving DecidableEq, Repr

/-- What LDIM loads (R248). -/
inductive ImmDst where
  | pm (n : BitVec 3) (imm : BitVec 11)
  | pl (n : BitVec 3) (imm : BitVec 11)
  | lc (k : Bool) (imm : BitVec 11)
  | rrb (imm : BitVec 4)
  deriving DecidableEq, Repr

/-- M-slot operations (R239); `s` is the saturation bit. -/
inductive MOp where
  | nop
  | mpy (s : Bool) (dd da db : BitVec 5)
  | mpa (s : Bool) (n : BitVec 2) (da db : BitVec 5)
  | mac (s : Bool) (n : BitVec 2) (da db : BitVec 5)
  | msu (s : Bool) (n : BitVec 2) (da db : BitVec 5)
  | mva (s : Bool) (dd : BitVec 5) (n sh : BitVec 2)
  | lda (s : Bool) (n : BitVec 2) (da : BitVec 5)
  | clra (n : BitVec 2) (t : Bool)
  | adda (s : Bool) (n m : BitVec 2)
  | suba (s : Bool) (n m : BitVec 2)
  | nega (s : Bool) (n m : BitVec 2)
  | muli (s : Bool) (dd da db : BitVec 5)
  deriving DecidableEq, Repr

/-- A-slot operations (R241). -/
inductive AOp where
  | nop
  | add (s : Bool) (dd da db : BitVec 5)
  | sub (s : Bool) (dd da db : BitVec 5)
  | min (s : Bool) (dd da db : BitVec 5)
  | max (s : Bool) (dd da db : BitVec 5)
  | sel (s : Bool) (dd da db : BitVec 5)
  | cmp (s : Bool) (c : Cond) (da db : BitVec 5)
  | div (dd da db : BitVec 5)
  | asr (s : Bool) (dd da n : BitVec 5)
  | asl (s : Bool) (dd da n : BitVec 5)
  | mov (s : Bool) (dd da : BitVec 5)
  | neg (s : Bool) (dd da : BitVec 5)
  | abs (s : Bool) (dd da : BitVec 5)
  | sin (s : Bool) (dd da : BitVec 5)
  | cos (s : Bool) (dd da : BitVec 5)
  | rsqrt (dd da : BitVec 5)
  | not (s : Bool) (dd da : BitVec 5)
  | and (s : Bool) (dd da db : BitVec 5)
  | or (s : Bool) (dd da db : BitVec 5)
  | xor (s : Bool) (dd da db : BitVec 5)
  | addi (s : Bool) (dd da i : BitVec 5)
  deriving DecidableEq, Repr

/-- L-slot operations (R248). -/
inductive LOp where
  | nop
  | ldxy (dx dy : BitVec 5) (px py : BitVec 2) (mx my : PMod2)
  | ldx (dd : BitVec 5) (p : BitVec 3) (m : PMod)
  | ldy (dd : BitVec 5) (p : BitVec 3) (m : PMod)
  | stx (ds : BitVec 5) (p : BitVec 3) (m : PMod)
  | sty (ds : BitVec 5) (p : BitVec 3) (m : PMod)
  | ldi (dd : BitVec 5) (h : Bool) (imm : BitVec 11)
  | ldip (p : BitVec 3) (imm : BitVec 13)
  | ldim (k : ImmDst)
  | mvts (ds : BitVec 5) (r : SReg)
  | mvfs (dd : BitVec 5) (r : SReg)
  deriving DecidableEq, Repr

/-- The control codes that stand with operations in the slots (R219, R232). -/
inductive Ctl where
  | nop
  | ls (k : Bool)
  | le (k : Bool)
  | ler (k : Bool)
  | rot | pp
  deriving DecidableEq, Repr

/-- What a control field says. -/
inductive CtlCode where
  | free (c : Ctl)
  | rep | ctxrun | compete | halt | reserved
  deriving DecidableEq, Repr

/-- A slot as decoded: an operation, or the code of R249 that makes its bundle illegal. -/
inductive Slot (α : Type) where
  | ill (code : Nat)
  | op (o : α)
  deriving DecidableEq, Repr

/-- A bundle R231 and R232 admit: operations in the three slots under a control code that lets them stand, or a control code
with its argument. -/
inductive LegalBundle where
  | ops (c : Ctl) (m : MOp) (a : AOp) (l : LOp)
  | rep (n : BitVec 6)
  | ctxrun (n : BitVec 7)
  | compete (m : Motor)
  | halt
  deriving DecidableEq, Repr

/-- What a boot meets (R102, R116, R120, R268, R330): the step of the boot sequence during which the command ends, 7 for its
end; the JEDEC ID; the logic and memory BIST; whether CMP1 and CMP2 report agreement in each of the four runs of the test CMP;
the bit that the test INJ inverts, as bundle, slot and bits of a pass-B writeback, and what else strikes each of its three runs; failed gate drivers and
sensor supplies as bit masks; the series-switch test and its abort. -/
structure BootEnv where
  upTo : Nat
  jedec : List Byte
  lbist : Bool
  mbist : Bool
  cmp : List (Bool × Bool)
  injAt : Nat × Nat × Nat
  inj : List (List KatHit)
  gd : Nat
  ssup : Nat
  sluice : SluiceMeas
  aborted : Bool
  deriving DecidableEq, Repr

/-- The commands, one per row of the table of operations and events, in its order. -/
inductive Instr where
  /-- NOP (R219): Control code NOP issues a bundle whose control field has no effect. -/
  | nop (e : Issue) (ctl : BitVec 4) (ms as_ ls : BitVec 20)
  /-- REP (R221): REP issues once and then repeats the next bundle n times from the loop cache. -/
  | rep (e : Issue) (ms as_ ls : BitVec 20)
  /-- LS (R219): Loop start LS0 or LS1 writes the PC of its bundle to LSA0 or LSA1. -/
  | ls (e : Issue) (k : Bool) (ms as_ ls : BitVec 20)
  /-- LE (R219): Loop end LE0 or LE1 decrements its counter and branches to the loop start while the counter is non-zero. -/
  | le (e : Issue) (k : Bool) (ms as_ ls : BitVec 20)
  /-- LER (R219): LE0R or LE1R acts as loop end and also rotates RRB in every execution. -/
  | ler (e : Issue) (k : Bool) (ms as_ ls : BitVec 20)
  /-- ROT (R219): ROT rotates RRB by decrementing it modulo 16. -/
  | rot (e : Issue) (ms as_ ls : BitVec 20)
  /-- PP (R226): A preemption point stops the B-program when it issues within PP_WIN before PREEMPT_PHASE. -/
  | pp (e : Issue) (ms as_ ls : BitVec 20)
  /-- CTXRUN (R176): CTXRUN evaluates the law of one loop context in 16 bundles per pass and writes its state words. -/
  | ctxrun (e : Issue) (ms as_ ls : BitVec 20)
  /-- COMPETE (R186): COMPETE forms the torque request of one motor from its primary and bound members, corrects the
  members and forms the winner code. -/
  | compete (e : Issue) (ms as_ ls : BitVec 20)
  /-- HALT (R48): The halt-to-tick bundle ends a pass of the T-program or idles the B-program until the next tick
  boundary. -/
  | halt (e : Issue) (ms as_ ls : BitVec 20)
  /-- MPY (R239): MPY writes the rounded, saturated product of two D registers to a D register. -/
  | mpy (e : Issue) (sat : Bool) (dd da db : BitVec 5)
  /-- MPA (R239): MPA loads an accumulator with the exact product of two D registers. -/
  | mpa (e : Issue) (sat : Bool) (n : BitVec 2) (da db : BitVec 5)
  /-- MAC (R239): MAC adds the exact product of two D registers to an accumulator. -/
  | mac (e : Issue) (sat : Bool) (n : BitVec 2) (da db : BitVec 5)
  /-- MSU (R239): MSU subtracts the exact product of two D registers from an accumulator. -/
  | msu (e : Issue) (sat : Bool) (n : BitVec 2) (da db : BitVec 5)
  /-- MVA (R239): MVA moves an accumulator, shifted and rounded, into a D register. -/
  | mva (e : Issue) (sat : Bool) (dd : BitVec 5) (n sh : BitVec 2)
  /-- LDA (R239): LDA loads an accumulator from a D register. -/
  | lda (e : Issue) (sat : Bool) (n : BitVec 2) (da : BitVec 5)
  /-- CLRA (R239): CLRA clears an accumulator and sets its tag from T. -/
  | clra (e : Issue) (n : BitVec 2) (t : Bool)
  /-- ADDA (R239): ADDA adds one accumulator to another with saturation. -/
  | adda (e : Issue) (sat : Bool) (n m : BitVec 2)
  /-- SUBA (R239): SUBA subtracts one accumulator from another with saturation. -/
  | suba (e : Issue) (sat : Bool) (n m : BitVec 2)
  /-- NEGA (R239): NEGA writes the saturated negation of one accumulator to another. -/
  | nega (e : Issue) (sat : Bool) (n m : BitVec 2)
  /-- MULI (R239): MULI writes the saturated integer product of two C-tagged registers. -/
  | muli (e : Issue) (sat : Bool) (dd da db : BitVec 5)
  /-- ADD (R241): ADD writes the saturated sum of two D registers. -/
  | add (e : Issue) (sat : Bool) (dd da db : BitVec 5)
  /-- SUB (R241): SUB writes the saturated difference of two D registers. -/
  | sub (e : Issue) (sat : Bool) (dd da db : BitVec 5)
  /-- MIN (R241): MIN writes the smaller operand, executing as MAX in pass B for S operands. -/
  | min (e : Issue) (sat : Bool) (dd da db : BitVec 5)
  /-- MAX (R241): MAX writes the larger operand, executing as MIN in pass B for S operands. -/
  | max (e : Issue) (sat : Bool) (dd da db : BitVec 5)
  /-- SEL (R241): SEL writes one of two operands according to TC. -/
  | sel (e : Issue) (sat : Bool) (dd da db : BitVec 5)
  /-- CMP (R243): CMP sets TC from a signed comparison, with the condition mirrored in pass B for S operands. -/
  | cmp (e : Issue) (sat : Bool) (c : Cond) (da db : BitVec 5)
  /-- DIV (R244): DIV writes the rounded Q1.31 quotient of two D registers with a latency of 6. -/
  | div (e : Issue) (dd da db : BitVec 5)
  /-- ASR (R242): ASR shifts a D register right by an immediate with rounding to nearest even. -/
  | asr (e : Issue) (sat : Bool) (dd da n5 : BitVec 5)
  /-- ASL (R241): ASL shifts a D register left by an immediate with saturation. -/
  | asl (e : Issue) (sat : Bool) (dd da n5 : BitVec 5)
  /-- AND (R241): AND writes the bitwise AND of two C-tagged registers. -/
  | and (e : Issue) (sat : Bool) (dd da db : BitVec 5)
  /-- OR (R241): OR writes the bitwise OR of two C-tagged registers. -/
  | or (e : Issue) (sat : Bool) (dd da db : BitVec 5)
  /-- XOR (R241): XOR writes the bitwise XOR of two C-tagged registers. -/
  | xor (e : Issue) (sat : Bool) (dd da db : BitVec 5)
  /-- ADDI (R241): ADDI adds a signed immediate to a C-tagged register with saturation. -/
  | addi (e : Issue) (sat : Bool) (dd da imm5 : BitVec 5)
  /-- MOV (R241): MOV copies a D register with its tag. -/
  | mov (e : Issue) (sat : Bool) (dd da : BitVec 5)
  /-- NEG (R241): NEG writes the saturated negation of a D register. -/
  | neg (e : Issue) (sat : Bool) (dd da : BitVec 5)
  /-- ABS (R241): ABS writes the saturated magnitude of a D register, negated in pass B for S operands. -/
  | abs (e : Issue) (sat : Bool) (dd da : BitVec 5)
  /-- SIN (R246): SIN writes the interpolated sine of an angle. -/
  | sin (e : Issue) (sat : Bool) (dd da : BitVec 5)
  /-- COS (R246): COS writes the interpolated cosine of an angle, negated in pass B for S operands. -/
  | cos (e : Issue) (sat : Bool) (dd da : BitVec 5)
  /-- RSQRT (R245): RSQRT writes 2^-8 divided by the square root of the operand with a latency of 6. -/
  | rsqrt (e : Issue) (dd da : BitVec 5)
  /-- NOT (R241): NOT writes the bitwise complement of a C-tagged register. -/
  | not (e : Issue) (sat : Bool) (dd da : BitVec 5)
  /-- LDXY (R248): LDXY loads one X word and one Y word and post-modifies both address registers. -/
  | ldxy (e : Issue) (dx dy : BitVec 5) (px py : BitVec 2) (mx my : PMod2)
  /-- LDX (R248): LDX loads an S-tagged X word, mirrored and negated in pass B. -/
  | ldx (e : Issue) (dd : BitVec 5) (p : BitVec 3) (md : PMod)
  /-- LDY (R248): LDY loads a C-tagged Y word. -/
  | ldy (e : Issue) (dd : BitVec 5) (p : BitVec 3) (md : PMod)
  /-- STX (R248): STX stores a D register to X, mirrored and negated in pass B, written after comparator agreement. -/
  | stx (e : Issue) (ds : BitVec 5) (p : BitVec 3) (md : PMod)
  /-- STY (R198): STY stores a value to Y once after both comparators agree, in a T-program only. -/
  | sty (e : Issue) (ds : BitVec 5) (p : BitVec 3) (md : PMod)
  /-- LDI (R248): LDI loads a C-tagged immediate into a D register. -/
  | ldi (e : Issue) (dd : BitVec 5) (h : Bool) (imm11 : BitVec 11)
  /-- LDIP (R248): LDIP loads an address register with an immediate word index. -/
  | ldip (e : Issue) (p : BitVec 3) (imm13 : BitVec 13)
  /-- LDIM (R248): LDIM loads a modifier, length, loop counter or RRB with an immediate. -/
  | ldim (e : Issue) (k : ImmDst)
  /-- MVTS (R248): MVTS moves a C-tagged D register into a special register. -/
  | mvts (e : Issue) (ds : BitVec 5) (r : SReg)
  /-- MVFS (R248): MVFS moves a special register into a D register as a C-tagged integer. -/
  | mvfs (e : Issue) (dd : BitVec 5) (r : SReg)
  /-- WRITEBACK_COMPARE (R260): When a pass-B writeback lands, CMP1 and CMP2 compare it with its pass-A twin and decide
  any store. -/
  | writebackCompare (f1 f2 : Word)
  /-- KAT_VERDICT (R265): At TSTART + 520 the known-answer test is judged and a transient is counted or the datapath
  declared broken. -/
  | katVerdict
  /-- TICK_BOUNDARY (R39): At each tick boundary the Rake starts a new tick, reloads the PWM and applies the per-boundary
  updates of every block. -/
  | tickBoundary
  /-- SAMPLE (R129): At SAMPLE_PHASE the sample-and-holds capture their channels simultaneously. -/
  | sample (codes : List Nat)
  /-- CONVERSION_COMPLETE (R133): A conversion slot ends and its corrected result is written to X and its mirror. -/
  | conversionComplete (c j raw : Nat)
  /-- PREEMPTION_REQUEST (R45): At PREEMPT_PHASE a running B-program is asked to stop. -/
  | preemptionRequest
  /-- B_PROGRAM_STOP (R227): The B-program stops at the next bundle boundary outside a REP and its PC, flags and pending
  results are held. -/
  | bProgramStop
  /-- T_PROGRAM_START (R252): At TSTART pass A and pass B of the T-program, or of the known-answer test, begin to issue. -/
  | tProgramStart (hits : List KatHit)
  /-- OUTPUT_COMMIT (R24): At OUT_PHASE the compare values, Sluice requests and transmit words of an agreed T-program are
  committed. -/
  | outputCommit
  /-- B_PROGRAM_RESUME (R46): The B-program resumes from its saved PC and flags in the CEC after the pass-B halt. -/
  | bProgramResume
  /-- ANGLE_RESOLVE (R191): At TSTART − 3 the CE resolves each motor's commutation angle and writes it with its mirror. -/
  | angleResolve
  /-- LOCK_STEP (R64): At a step slot the Rake inserts or deletes one count to reduce the phase error. -/
  | lockStep (k : Nat)
  /-- PHASE_MEASUREMENT (R63): Once per tick the phase error against the lock reference is measured and the lock state
  updated. -/
  | phaseMeasurement (instant : Int)
  /-- HOLDOVER_ENTRY (R68): Four ticks without a measurement move the lock state to HOLDOVER. -/
  | holdoverEntry
  /-- HOLDOVER_TIMEOUT (R68): One second in HOLDOVER moves the lock state to FREE. -/
  | holdoverTimeout
  /-- HOST_SPI_WRITE (R78): A host SPI write frame is checked by its CRC and its words are written in order. -/
  | hostSpiWrite (mosi : List Byte) (clocks : Nat) (bs : List Beside)
  /-- HOST_SPI_READ (R78): A host SPI read frame is checked by its CRC and its words are read and returned with STATUS and
  CRC. -/
  | hostSpiRead (mosi : List Byte) (clocks : Nat) (bs : List Beside) (ups : List (Nat × Nat × Nat × Nat))
  /-- REGISTER_WRITE (R84): A write to a register with no row of its own is applied field by field under its field
  classes. -/
  | registerWrite (w off : Nat) (v : Word) (hw : List (Nat × Nat))
  /-- IDX_ADDR_WRITE (R73): A write to IDX_ADDR sets the indirect address and clears HALF. -/
  | idxAddrWrite (w : Nat) (v : Word)
  /-- IDX_DATA_ACCESS (R73): An access to IDX_DATA transfers a word or bundle half of the indirect space and advances the
  address. -/
  | idxDataAccess (w : Nat) (wr : Option Word) (hw : List (Nat × Nat))
  /-- X_QUEUE_DRAIN (R75): The X write queue drains one word per CEC while draining is allowed. -/
  | xQueueDrain
  /-- COMMIT (R90): A write of SYS_COMMIT.GROUPS makes groups pending for the next snapshot. -/
  | commit (w mask : Nat)
  /-- COMMIT_SNAPSHOT (R90): At TICK_PERIOD − 48 the shadows of pending groups are snapshotted and checked. -/
  | commitSnapshot
  /-- COMMIT_APPLY (R90): Accepted groups become live at once at the tick boundary, or 48 CEC after the snapshot while the
  Rake stops. -/
  | commitApply
  /-- DISCARD (R94): A write of SYS_DISCARD.GROUPS reloads shadows from live values and cancels a pending commit. -/
  | discard (w : Nat) (mask : Nat)
  /-- TMR_REWRITE (R87): All copies of every TMR field are rewritten with their majority value. -/
  | tmrRewrite (ups : List (Nat × Nat × Nat × Nat))
  /-- POR_RELEASE (R116): Release of POR starts the boot sequence through firmware, image check, apply and self-tests to
  STANDBY. -/
  | porRelease (env : BootEnv)
  /-- BOOT_TMO (R340): A half that reaches neither STANDBY nor BOOT_FAIL by 180 ms enters BOOT_FAIL. -/
  | bootTmo
  /-- REQ_ARMED (R125): A request to ARMED starts the series-switch test and is judged against the arming conditions. -/
  | reqArmed (w : Nat)
  /-- REQ_STANDBY (R464): A request to STANDBY disarms the half, leaves SAFE, or wakes it from WATCH. -/
  | reqStandby (w : Nat)
  /-- REQ_SAFE (R464): A request to SAFE takes the half to SAFE as HALF_SAFE would, aborting a running transition. -/
  | reqSafe (w : Nat)
  /-- REQ_WATCH (R468): A request to WATCH runs the sleep vote of phase 1 and the domain shutdown of phase 2. -/
  | reqWatch (w : Nat)
  /-- PENDING_REQUEST (R465): A pending request is judged as a new request at the tick boundary after the running
  transition ends. -/
  | pendingRequest
  /-- SERIES_SWITCH_OPEN_DELAY (R464): One millisecond after a disarm the series switches open and the transition ends. -/
  | seriesSwitchOpenDelay
  /-- AFE_CTRL_STOP (R131): A write of 1 to STOP stops the conversions when the half is out of service. -/
  | afeCtrlStop (w : Nat)
  /-- AFE_CTRL_RUN (R130): A write of 0 to STOP checks the sequence and restarts the conversions or leaves the AFE stopped
  with SEQ_ERR. -/
  | afeCtrlRun (w : Nat)
  /-- AFE_OC (R136): A shunt window comparator trip latches OC and reports AFE_OC to the FC while OC_EN is 1. -/
  | afeOc (k : Nat) (out : Int)
  /-- CALIBRATION_WINDOW (R137): Every CAL_EVERY ticks a calibration window measures one amplifier and the cores. -/
  | calibrationWindow (x : CalMeas)
  /-- HOSTCAL_TIMEOUT (R140): A host offset not written for HOSTCAL_TMO ticks falls back to the hardware offset. -/
  | hostcalTimeout (k : Nat)
  /-- ENCODER_REQUEST (R143): At ENC_REQ_PHASE each enabled port starts an encoder frame. -/
  | encoderRequest
  /-- ENCODER_WORD_RELEASE (R144): At request plus ENC_SPAN POS releases the word and checks it. -/
  | encoderWordRelease (p : Nat) (x : EncWord)
  /-- HALL_CODE_TAKEN (R148): A Hall code stable for 4 × HFILT CEC is taken and judged. -/
  | hallCodeTaken (h code : Nat)
  /-- POSITION_VOTE (R154): At TSTART − 16 POS votes each motor's sources and writes angle, speed and position. -/
  | positionVote
  /-- SOURCE_DROP (R155): A drop counter that reaches VOTE_M drops its source and raises POS_DROP. -/
  | sourceDrop (m src : Nat)
  /-- POS_DIS (R157): DIS_N consecutive V3N or V2D ticks raise POS_DIS. -/
  | posDis (m : Nat)
  /-- POS_ONE (R157): VOTE_M consecutive V1 ticks raise POS_ONE. -/
  | posOne (m : Nat)
  /-- POS_NONE (R157): DIS_N consecutive V0 ticks raise POS_NONE. -/
  | posNone (m : Nat)
  /-- READMIT (R156): A write of READMIT marks a dropped source pending readmission. -/
  | readmit (w : Nat) (m : Nat) (mask : Nat)
  /-- SOURCE_READMITTED (R156): After 64 consecutive good ticks a pending source is readmitted. -/
  | sourceReadmitted (m src : Nat)
  /-- LOAD (R160): A write of LOAD sets the multi-turn position from POS_Mm_LOAD at the next vote and logs it. -/
  | load (m w : Nat)
  /-- CATCH_DECISION (R287): At the end of the catch window the unit decides REFUSE, start, RUN with SYNC or BRAKE. -/
  | catchDecision (m : Nat)
  /-- BRAKE_SEGMENT_END (R283): A sensorless BRAKE segment ends after BRK_SEG and the channel returns to CATCH. -/
  | brakeSegmentEnd (m : Nat)
  /-- REFUSE_SHORT_END (R288): The REFUSE winding short ends after BRK_SEG and the unit observes again. -/
  | refuseShortEnd (m : Nat)
  /-- ALIGN_END (R293): ALIGN_T elapses and the channel enters RAMP. -/
  | alignEnd (m : Nat)
  /-- PAUSE_END (R283): After 50 ms in PAUSE the channel returns to CATCH or to IDLE. -/
  | pauseEnd (m : Nat)
  /-- START_TIMEOUT (R295): START_TMO without handover fails the start and counts a retry. -/
  | startTimeout (m : Nat)
  /-- START_HANDOVER (R294): After 16 consecutive good ticks the channel enters RUN and the speed context is preloaded. -/
  | startHandover (m : Nat)
  /-- HSTEP_WRITE (R296): A write of FIELD_Mm_HSTEP queues or replaces a host start step. -/
  | hstepWrite (w : Nat) (m : Nat) (kind : Nat) (dur : Nat) (param : Nat)
  /-- HSTEP_STEP_END (R296): A host step ends after DUR ticks and the queued step begins, or HSTEP_MISS is set. -/
  | hstepStepEnd (m : Nat)
  /-- FIELD_LOCK (R297): The locked-rotor timer reaching LOCK_T raises FIELD_LOCK. -/
  | fieldLock (m : Nat)
  /-- FIELD_LOCK_HOLD (R297): The locked-rotor timer reaching 2 × LOCK_T raises FIELD_LOCK_HOLD. -/
  | fieldLockHold (m : Nat)
  /-- PWM_EDGE (R308): At an ideal PWM edge the outgoing switch turns off and the incoming one turns on after the
  handshake and dead time. -/
  | pwmEdge (g t : Nat) (sensed : Option Nat)
  /-- GD_HS (R310): A handshake not confirmed by HS_TMO withholds the turn-on and reports GD_HS. -/
  | gdHs (g : Nat)
  /-- GD_XCMD (R312): Both switches of a leg commanded on are refused and GD_XCMD is reported. -/
  | gdXcmd (p : Nat)
  /-- GD_VDS (R313): A VDS above VDS_TH beyond blanking and filter reports GD_VDS. -/
  | gdVds (g : Nat) (above : Bool)
  /-- GD_BSUV (R307): A bootstrap undervoltage reports GD_BSUV and blocks the high side. -/
  | gdBsuv (g : Nat) (low : Bool)
  /-- BSUV_STAGE (R315): An undervoltage still present at two boundaries takes the phase off and the motor to its safe
  state. -/
  | bsuvStage
  /-- GD_CP (R307): A charge pump below range reports GD_CP. -/
  | gdCp (low : Bool)
  /-- GD_CUT (R317): A cut-off gate that does not follow its command within 50 µs reports GD_CUT. -/
  | gdCut (p : Nat) (bad : Bool)
  /-- CUTOFF_FORCED_OPEN (R318): After CUT_DLY ticks a waiting cut-off opens regardless and sets CUT_FORCED. -/
  | cutoffForcedOpen (p : Nat)
  /-- CHOPPER_ON (R319): VBR at OV_CHOP or above turns the chopper on. -/
  | chopperOn
  /-- CHOPPER_OFF (R319): VBR below OV_CHOP − CHOP_HYST turns the chopper off. -/
  | chopperOff
  /-- GD_CHOT (R319): A chopper on for CHOP_TMAX turns off for 4 × CHOP_TMAX and reports GD_CHOT. -/
  | gdChot
  /-- CHOPPER_REST_END (R319): The forced off time of 4 × CHOP_TMAX ends and the chopper follows OV_CHOP again. -/
  | chopperRestEnd
  /-- GD_CHO (R320): No chopper current 2 µs after a turn-on reports an open chopper. -/
  | gdCho
  /-- GD_CHS (R320): Chopper current while off reports a shorted chopper and opens the high-side series switch. -/
  | gdChs (current : Bool)
  /-- GD_OVS (R324): OV_SHORT_N consecutive CH18 results at OV_SHORT raise GD_OVS and short every applicable motor. -/
  | gdOvs
  /-- GD_OVS_RELEASE (R324): OV_REL consecutive results below OV_LIM end GD_OVS. -/
  | gdOvsRelease
  /-- GD_OVABS (R325): VBR at OV_ABS opens the high-side series switch and shorts every applicable motor. -/
  | gdOvabs
  /-- GD_OVABS_RELEASE (R325): VBR below OV_LIM ends GD_OVABS. -/
  | gdOvabsRelease
  /-- GD_SLVDS (R329): A closed series switch with VDS above SL_VDS_ON for 1 µs reports GD_SLVDS. -/
  | gdSlvds (hs above : Bool)
  /-- SLUICE_TEST_END (R330): A series-switch test completes with its result and the switches closed or open. -/
  | sluiceTestEnd (x : SluiceMeas)
  /-- REACTION_RELEASE (R354): A reaction is released after FC_QUIET with no occurrence in its reach and no source active. -/
  | reactionRelease
  /-- FC_SELF (R353): A disagreement among the FC copies turns every gate off, opens the series switches and enters
  LOCKOUT. -/
  | fcSelf (lost : Nat)
  /-- HOST_ANSWER (R351): A write of FC_HANS answers the pending request and may replace its reaction. -/
  | hostAnswer (w : Nat) (seq : Nat) (react : Nat)
  /-- GRACE_EXPIRY (R352): No accepted answer within GRACE applies the table reaction at the next boundary. -/
  | graceExpiry (answered : Bool)
  /-- FIRST_CLR (R348): A write of FIRST_CLR clears the first-source latch. -/
  | firstClr (w : Nat)
  /-- RESTART_EDGE (R358): An accepted RESTART edge leaves LOCKOUT or resets a half in BOOT_FAIL, and is only logged
  otherwise. -/
  | restartEdge (us : Nat) (either : Bool)
  /-- ALIVE_TOGGLE (R359): Every 40,000 CEC ALIVE toggles while the half is in service and ticking. -/
  | aliveToggle
  /-- CLK_MON (R341): A reference or PLL clock outside ±5 % for 500 ns raises CLK_MON. -/
  | clkMon (k : Nat) (bad : Bool)
  /-- MP_WDOG (R340): No MP heartbeat for 5 ms raises MP_WDOG. -/
  | mpWdog (silent : Bool)
  /-- MP_LOCKSTEP (R340): Disagreeing MP cores raise MP_LOCKSTEP and the MP restarts, answering queued requests with
  RESTART. -/
  | mpLockstep
  /-- SENSOR_POLL (R481): Every 1 ms the MP reads the temperature sensors and raises TEMP_WARN or TEMP_CRIT. -/
  | sensorPoll (temps : List Int)
  /-- SUPPLY_POLL (R482): Every 1 ms the MP reads the supply monitors and raises SUP_RANGE. -/
  | supplyPoll (vals : List Nat)
  /-- PEER_ALIVE_EDGE (R363): An edge on PEER_ALIVE keeps the peer ALIVE evidence running. -/
  | peerAliveEdge
  /-- PEER_ALIVE_TIMEOUT (R363): No PEER_ALIVE edge within PA_TMO stops the peer ALIVE evidence. -/
  | peerAliveTimeout
  /-- STATUS_FLOW_SILENT (R363): No status record for FAB_N fabric cycles makes the status flow silent. -/
  | statusFlowSilent
  /-- LIMP_RESTART (R370): A write of RESTART sets the limp timer back to LIMP_TMAX once per episode. -/
  | limpRestart (w : Nat)
  /-- LIMP_EXPIRY (R371): The limp timer expires and the half derates or ramps its shared motors to stop. -/
  | limpExpiry (restarted : Bool)
  /-- LIMP_RAMP_END (R371): The STOP ramp reaches zero and the half enters SAFE. -/
  | limpRampEnd
  /-- TEST_PULSE (R377): A sensor supply is switched off for TP_WIDTH at its slot of TP_PERIOD. -/
  | testPulse (k : Nat)
  /-- TEST_PULSE_SAMPLE (R378): At TP_WIDTH − 5 µs SAFE samples the inputs and raises SSUP_SHORT on a finding. -/
  | testPulseSample (k : Nat) (low : List Bool) (ain : List Nat) (mv : Nat)
  /-- SSUP_RANGE (R379): A supply readback outside its window for 1 ms raises SSUP_RANGE. -/
  | ssupRange (k mv : Nat)
  /-- SLUICE_TEST_RUN (R381): A write of SAFE_SLT.RUN in STANDBY runs a series-switch test. -/
  | sluiceTestRun (w : Nat)
  /-- KEY_WRITE (R383): A write of SAFE_KEY enters one word of the password. -/
  | keyWrite (w : Nat) (v : Word)
  /-- KEY_TIMEOUT (R383): 100 ms without the second key word discard the first. -/
  | keyTimeout
  /-- KEY_CHECK (R383): SAFE compares the password hash and opens the unlock or counts a wrong attempt. -/
  | keyCheck
  /-- UNLOCK_LOCK (R386): A write of SAFE_UNL.LOCK closes the unlock. -/
  | unlockLock (w : Nat)
  /-- UNLOCK_TIMEOUT (R386): 60 s without a member write close the unlock. -/
  | unlockTimeout
  /-- PW_SET (R388): A write of PW_SET stores the new hash with the next generation. -/
  | pwSet (w : Nat)
  /-- BRINE_EXCHANGE (R400): At BRINE_PHASE the per-tick frame is sent on the Brine link. -/
  | brineExchange
  /-- PER_TICK_FRAME_RX (R398): A received per-tick frame is checked and accepted or counted as lost. -/
  | perTickFrameRx (slots : List LaneSlot) (at_ : Nat)
  /-- BRINE_RX_XWRITE (R403): An accepted frame is written to the receive block in X from OUT_PHASE, or judged late. -/
  | brineRxXwrite
  /-- BRINE_FRAME_MISSING (R403): At TSTART − 1 without a written frame, word 0 is cleared and the frame counts as lost. -/
  | brineFrameMissing
  /-- BRINE_ENABLE (R396): A write of BRINE_CTRL.EN enables or disables the link. -/
  | brineEnable (w : Nat) (en : Bool)
  /-- BEACON (R396): In DOWN the half sends training sets for 2 µs every 1 ms. -/
  | beacon
  /-- TRAINING_SET_RX (R397): Training sets received on both lanes move the link to TRAIN. -/
  | trainingSetRx (lane0 : Option TrainSet) (lane1 : Option TrainSet) (trip : Nat) (wrong : Nat)
  /-- TRAIN_DONE (R397): Lanes aligned and delay measured move the link to CONFIRM. -/
  | trainDone
  /-- TRAIN_TIMEOUT (R396): 1 ms in TRAIN without completion returns the link to DOWN. -/
  | trainTimeout
  /-- RETRAIN (R397): A write of RETRAIN moves the link to DOWN. -/
  | retrain (w : Nat)
  /-- COMMAND_FRAME_TX (R404): The MP posts a command frame on the Brine link. -/
  | commandFrameTx (code : Nat) (payload : List Byte)
  /-- COMMAND_FRAME_RX (R404): A received command frame is queued to the MP and answered with ACK or NAK. -/
  | commandFrameRx (slots : List LaneSlot)
  /-- COMMAND_ACK (R404): An ACK or NAK ends or repeats the outstanding command frame. -/
  | commandAck (slots : List LaneSlot)
  /-- COMMAND_RETRY_TIMEOUT (R404): No ACK within 4 ticks repeats the frame or fails it after three repeats. -/
  | commandRetryTimeout
  /-- BULK_UNIT_TX (R405): A bulk unit is sent when a credit of its class is held. -/
  | bulkUnitTx (trace : Bool) (bytes : List Byte)
  /-- BULK_UNIT_RX (R405): A received bulk unit is checked and delivered or discarded. -/
  | bulkUnitRx (slots : List LaneSlot) (bs : List Beside)
  /-- CREDIT_SET (R405): A received credit set returns bulk credits to the sender. -/
  | creditSet (slots : List LaneSlot)
  /-- WAKE_TX (R407): A write of WAKE_TX sends the wake pattern for 40 µs. -/
  | wakeTx (w : Nat)
  /-- FRAME_FORWARD (R425): A fabric frame not for this half is forwarded or dropped by hop limits. -/
  | frameForward (q : Nat) (idle : Bool) (f : FabFrame)
  /-- DATA (R443): A delivered DATA frame is matched to a receive flow and stored. -/
  | data (q : Nat) (idle : Bool) (f : FabFrame)
  /-- REG_REQ (R80): A fabric register request executes its records and returns a response. -/
  | regReq (q : Nat) (idle : Bool) (f : FabFrame) (bs : List Beside)
  /-- REG_RSP (R415): A register response frame is delivered to its flow. -/
  | regRsp (q : Nat) (idle : Bool) (f : FabFrame)
  /-- MBOX_REQ (R478): A mailbox request frame is queued to the MP. -/
  | mboxReq (q : Nat) (idle : Bool) (f : FabFrame)
  /-- MBOX_RSP (R415): A mailbox response frame is delivered to its flow. -/
  | mboxRsp (q : Nat) (idle : Bool) (f : FabFrame)
  /-- ANNOUNCE (R418): A received ANNOUNCE updates routes, claims and kept identities. -/
  | announce (q : Nat) (idle : Bool) (f : FabFrame)
  /-- RING_EVT (R423): A received RING_EVT clears route directions beyond the reporter. -/
  | ringEvt (q : Nat) (idle : Bool) (f : FabFrame)
  /-- NEIGHBOR (R423): A link-local NEIGHBOR frame shows the neighbour's presence. -/
  | neighbor (q : Nat) (f : FabFrame)
  /-- GPTP_FRAME (R428): A gPTP frame is handled by the half's time-aware system. -/
  | gptpFrame (q : Nat) (domain : Nat) (m : PtpMsg)
  /-- OTHER_ETHERTYPE (R412): A frame of another EtherType is forwarded or dropped. -/
  | otherEthertype (q : Nat) (frame : List Byte)
  /-- NEIGHBOR_LOSS (R423): A lost neighbour raises NET_RING, clears its direction and sends a RING_EVT. -/
  | neighborLoss (p : Nat) (down : Bool)
  /-- ADDRESS_HOLD (R418): After CLAIM_N cycles unopposed the half holds its address. -/
  | addressHold
  /-- ROUTE_AGEING (R422): A direction not confirmed for AGE announce periods loses its SEEN bit. -/
  | routeAgeing
  /-- FABRIC_CYCLE_START (R429): At each fabric cycle start windows are checked, credits refilled and lane shares
  recomputed. -/
  | fabricCycleStart
  /-- SCHEDULED_WINDOW (R431): A window sends one DATA frame of its flow at its offset. -/
  | scheduledWindow (k : Nat)
  /-- BULK_PHASE_START (R432): At the bulk phase start NEIGHBOR, ANNOUNCE and RING_EVT frames leave. -/
  | bulkPhaseStart
  /-- BULK_FRAME_SEND (R450): A transmit flow with credit and a waiting record sends a frame in the bulk phase. -/
  | bulkFrameSend (p : Nat)
  /-- E2E_CHECK (R433): At the end of the scheduled phase each scheduled receive flow is checked and NET_E2E raised after
  E2E_N bad cycles. -/
  | e2eCheck
  /-- CAN_FRAME_RX (R436): A mapped CAN FD frame is checked and entered in its flow. -/
  | canFrameRx (c : Nat) (evs : List CanEvent) (f : CanFrame) (bs : List Beside)
  /-- FLOW_ENABLE (R441): A write of EN = 1 enables a flow after its checks. -/
  | flowEnable (w : Nat) (f : Nat)
  /-- FLOW_DISABLE (R441): A write of EN = 0 empties and disables a flow. -/
  | flowDisable (w : Nat) (f : Nat)
  /-- PLEN_WRITE (R454): A write of PLEN to an enabled flow requests a new pan length. -/
  | plenWrite (w : Nat) (f : Nat) (len : Nat)
  /-- PUSH (R445): PAN_OP PUSH adds the entry at WPTR to a queue. -/
  | push (w : Nat) (f : Nat)
  /-- POP (R445): PAN_OP POP removes the entry at RPTR. -/
  | pop (w : Nat) (f : Nat)
  /-- FLUSH (R445): PAN_OP FLUSH removes every entry or slot. -/
  | flush (w : Nat) (f : Nat)
  /-- CLEAR (R445): PAN_OP CLEAR clears one RX_LATEST slot. -/
  | clear (w : Nat) (f : Nat) (slot : Nat)
  /-- X_DELIVERY (R448): An RX_QUEUE flow with XDLV enqueues a whole record to X when it can drain before TSTART. -/
  | xDelivery (f : Nat)
  /-- WATCH_CYCLE (R471): Every PERIOD ms the WATCH sequencer samples its source and wakes the half on a change. -/
  | watchCycle (enc : EncWord) (hall : Nat) (raw : Nat) (wake : Option (Nat × Nat))
  /-- WAKE_PIN (R470): WAKE at its active level for 50 µs wakes the half. -/
  | wakePin (high : Bool)
  /-- CAN_WAKE (R470): A CAN wake-up pattern on CANRX wakes the half. -/
  | canWake (c dom1 rec1 dom2 : Nat)
  /-- ETH_WAKE (R470): ETHWAKE raised by a PHY wakes the half. -/
  | ethWake (p : Nat)
  /-- BRINE_WAKE (R470): The Brine wake pattern on lane 0 for 20 µs wakes the half. -/
  | brineWake (us : Nat)
  /-- POR_ASSERT (R508): A rail below its assert level for 2 µs takes the half to OFF. -/
  | porAssert
  /-- IDENT (R480): Service IDENT returns the identity block. -/
  | ident
  /-- STATUS (R480): Service STATUS returns the state registers. -/
  | status
  /-- LOG_READ (R489): Service LOG_READ returns log entries from a requested ESEQ. -/
  | logRead
  /-- LOG_MARK (R480): Service LOG_MARK enters a mark in the log. -/
  | logMark
  /-- SENSORS (R480): Service SENSORS returns the temperature and supply readings. -/
  | sensors
  /-- FLASH_ERASE (R490): Service FLASH_ERASE erases 64 KiB blocks of a region. -/
  | flashErase
  /-- FLASH_WRITE (R490): Service FLASH_WRITE programs bytes within one page. -/
  | flashWrite (held : Option (List Byte))
  /-- FLASH_READ (R480): Service FLASH_READ returns up to 256 bytes of a region. -/
  | flashRead
  /-- VERIFY (R491): Service VERIFY checks an image copy or firmware slot. -/
  | verify
  /-- IMG_COMMIT (R491): Service IMG_COMMIT verifies copy 1 and copies it over copy 0. -/
  | imgCommit
  /-- IMG_REPAIR (R115): Service IMG_REPAIR writes the valid copy over the invalid one. -/
  | imgRepair
  /-- LONG_SERVICE_DONE (R480): A long service completes and reports its outcome in MGMT_UPD. -/
  | longServiceDone (fails : Bool)
  /-- HALF_RESET (R492): Service HALF_RESET resets the half and repeats the boot. -/
  | halfReset
  /-- UPDATE_ENTER (R492): Service UPDATE_ENTER takes the half from STANDBY to UPDATE. -/
  | updateEnter
  /-- UPDATE_END (R492): Service UPDATE_END starts the boot. -/
  | updateEnd
  /-- HANDOVER (R493): Service HANDOVER starts a handover by sending HO_REQ. -/
  | handover
  /-- PROVISION_KEY (R484): Service PROVISION_KEY writes the image-key hash into blank OTP. -/
  | provisionKey (held : Option (List Byte))
  /-- LOG_WRITE (R488): The MP writes a log entry to the next line and reads it back. -/
  | logWrite (held : Option (List Byte))
  /-- HO_REQ (R494): A received HO_REQ is answered with HO_ACK or HO_NAK. -/
  | hoReq
  /-- HO_ACK (R494): A received HO_ACK starts the split ramp. -/
  | hoAck
  /-- HO_NAK (R494): A received HO_NAK puts the leaving half in FAIL. -/
  | hoNak
  /-- HO_RAMP_DONE (R495): The split reaching its target sends HO_OUT and takes the leaving half out of service. -/
  | hoRampDone
  /-- HO_OUT (R495): A received HO_OUT marks the partner as leaving. -/
  | hoOut
  /-- HO_TIMEOUT (R496): Targets not reached within HO_TMO abort the ramp. -/
  | hoTimeout
  /-- HO_ABORT (R496): A received HO_ABORT ends the handover in FAIL. -/
  | hoAbort
  /-- HO_BACK (R497): A received HO_BACK returns the partner to IDLE. -/
  | hoBack
  /-- UPD_NEXT (R497): A received UPD_NEXT sets MGMT_HO.NEXT. -/
  | updNext
  /-- CAN_FRAME_TX (R451): A CAN FD controller completes the transmission of a mapped frame from a flow record, after
  which a TX_PAN entry may be removed once its other paths are done. -/
  | canFrameTx (c : Nat) (k : Nat) (evs : List CanEvent)
  /-- PORT_LINK_UP (R410): RGMII in-band status of a port reports link up with its speed, setting LINK and SPEED and the
  forwarding mode of the port. -/
  | portLinkUp (p speed : Nat)
  /-- GPTP_SYNC_LOSS (R428): The time-aware system stops being synchronised to a grandmaster, so NET_STAT.GPTP leaves 2
  and windows are no longer sent. -/
  | gptpSyncLoss
  deriving DecidableEq, Repr

end Sys2Proof
end

