-- ==== Sys2Proof/Decode.lean ====
section
/-! DEFINITION. The 64-bit bundle word of the control engine, decoded and encoded slot by slot (R230 to R248). The rows of the
table of operations and events carry no bits, so no table word spells a command. -/

namespace Sys2Proof

/-! ### Field codes -/

def Cond.code : Cond → BitVec 5
  | .eq => 0 | .ne => 1 | .lt => 2 | .le => 3 | .gt => 4 | .ge => 5

def condOf (v : BitVec 5) : Option Cond :=
  match v.toNat with
  | 0 => some .eq | 1 => some .ne | 2 => some .lt | 3 => some .le | 4 => some .gt | 5 => some .ge
  | _ => none

def PMod.code : PMod → BitVec 3
  | .stay => 0 | .inc => 1 | .dec => 2 | .pm => 3 | .circ => 4

def pmodOf (v : BitVec 3) : Option PMod :=
  match v.toNat with
  | 0 => some .stay | 1 => some .inc | 2 => some .dec | 3 => some .pm | 4 => some .circ
  | _ => none

def PMod2.code : PMod2 → BitVec 2
  | .stay => 0 | .inc => 1 | .pm => 2 | .circ => 3

def pmod2Of (v : BitVec 2) : PMod2 :=
  match v.toNat with
  | 0 => .stay | 1 => .inc | 2 => .pm | _ => .circ

/-- Special-register codes (R247): the class in the upper two bits, the number below. -/
def SReg.code : SReg → BitVec 5
  | .p n => 0#2 ++ n
  | .pm n => 1#2 ++ n
  | .pl n => 2#2 ++ n
  | .lc k => 12#4 ++ BitVec.ofBool k
  | .rrb => 26#5
  | .flags => 27#5

def sregOf (v : BitVec 5) : Option SReg :=
  match (v.extractLsb' 3 2).toNat with
  | 0 => some (.p (v.extractLsb' 0 3))
  | 1 => some (.pm (v.extractLsb' 0 3))
  | 2 => some (.pl (v.extractLsb' 0 3))
  | _ =>
    match (v.extractLsb' 0 3).toNat with
    | 0 => some (.lc false) | 1 => some (.lc true) | 2 => some .rrb | 3 => some .flags
    | _ => none

/-- A slot with a reserved value in one of its fields (R231, R249). -/
def slotOf {α : Type} (o : Option α) : Slot α :=
  match o with
  | some o => .op o
  | none => .ill 0x02

/-- A slot whose reserved bits must be zero. -/
def slotIf {α : Type} (reservedZero : Bool) (o : α) : Slot α := if reservedZero then .op o else .ill 0x02

/-! ### M slot (R238, R239) -/

def encodeM : MOp → BitVec 20
  | .nop => 0
  | .mpy s dd da db => 0x1#4 ++ BitVec.ofBool s ++ dd ++ da ++ db
  | .mpa s n da db => 0x2#4 ++ BitVec.ofBool s ++ n ++ 0#3 ++ da ++ db
  | .mac s n da db => 0x3#4 ++ BitVec.ofBool s ++ n ++ 0#3 ++ da ++ db
  | .msu s n da db => 0x4#4 ++ BitVec.ofBool s ++ n ++ 0#3 ++ da ++ db
  | .mva s dd n sh => 0x5#4 ++ BitVec.ofBool s ++ dd ++ n ++ sh ++ 0#6
  | .lda s n da => 0x6#4 ++ BitVec.ofBool s ++ n ++ 0#3 ++ da ++ 0#5
  | .clra n t => 0x7#4 ++ 0#1 ++ n ++ BitVec.ofBool t ++ 0#12
  | .adda s n m => 0x8#4 ++ BitVec.ofBool s ++ n ++ m ++ 0#11
  | .suba s n m => 0x9#4 ++ BitVec.ofBool s ++ n ++ m ++ 0#11
  | .nega s n m => 0xA#4 ++ BitVec.ofBool s ++ n ++ m ++ 0#11
  | .muli s dd da db => 0xB#4 ++ BitVec.ofBool s ++ dd ++ da ++ db

def decodeM (w : BitVec 20) : Slot MOp :=
  if w = 0 then .op .nop
  else
    let s := w.getLsbD 15
    let dd := w.extractLsb' 10 5
    let da := w.extractLsb' 5 5
    let db := w.extractLsb' 0 5
    let n := w.extractLsb' 13 2
    let m := w.extractLsb' 11 2
    let z (lo len : Nat) : Bool := w.extractLsb' lo len == 0
    match (w.extractLsb' 16 4).toNat with
    | 0x0 => .ill 0x02
    | 0x1 => .op (.mpy s dd da db)
    | 0x2 => slotIf (z 10 3) (.mpa s n da db)
    | 0x3 => slotIf (z 10 3) (.mac s n da db)
    | 0x4 => slotIf (z 10 3) (.msu s n da db)
    | 0x5 => slotIf (z 0 6) (.mva s dd (w.extractLsb' 8 2) (w.extractLsb' 6 2))
    | 0x6 => slotIf (z 10 3 && z 0 5) (.lda s n da)
    | 0x7 => slotIf (z 15 1 && z 0 12) (.clra n (w.getLsbD 12))
    | 0x8 => slotIf (z 0 11) (.adda s n m)
    | 0x9 => slotIf (z 0 11) (.suba s n m)
    | 0xA => slotIf (z 0 11) (.nega s n m)
    | 0xB => .op (.muli s dd da db)
    | _ => .ill 0x01

/-! ### A slot (R240, R241) -/

/-- The UNARY form: sub-operation in the Db field. -/
def unaryWord (s : Bool) (dd da sub : BitVec 5) : BitVec 20 := BitVec.ofBool s ++ 0xA#4 ++ dd ++ da ++ sub

def encodeA : AOp → BitVec 20
  | .nop => 0
  | .add s dd da db => BitVec.ofBool s ++ 0x1#4 ++ dd ++ da ++ db
  | .sub s dd da db => BitVec.ofBool s ++ 0x2#4 ++ dd ++ da ++ db
  | .min s dd da db => BitVec.ofBool s ++ 0x3#4 ++ dd ++ da ++ db
  | .max s dd da db => BitVec.ofBool s ++ 0x4#4 ++ dd ++ da ++ db
  | .sel s dd da db => BitVec.ofBool s ++ 0x5#4 ++ dd ++ da ++ db
  | .cmp s c da db => BitVec.ofBool s ++ 0x6#4 ++ c.code ++ da ++ db
  | .div dd da db => 1#1 ++ 0x7#4 ++ dd ++ da ++ db
  | .asr s dd da n => BitVec.ofBool s ++ 0x8#4 ++ dd ++ da ++ n
  | .asl s dd da n => BitVec.ofBool s ++ 0x9#4 ++ dd ++ da ++ n
  | .mov s dd da => unaryWord s dd da 0
  | .neg s dd da => unaryWord s dd da 1
  | .abs s dd da => unaryWord s dd da 2
  | .sin s dd da => unaryWord s dd da 3
  | .cos s dd da => unaryWord s dd da 4
  | .rsqrt dd da => unaryWord true dd da 5
  | .not s dd da => unaryWord s dd da 6
  | .and s dd da db => BitVec.ofBool s ++ 0xB#4 ++ dd ++ da ++ db
  | .or s dd da db => BitVec.ofBool s ++ 0xC#4 ++ dd ++ da ++ db
  | .xor s dd da db => BitVec.ofBool s ++ 0xD#4 ++ dd ++ da ++ db
  | .addi s dd da i => BitVec.ofBool s ++ 0xE#4 ++ dd ++ da ++ i

/-- The sub-operations of UNARY. -/
def decodeUnary (s : Bool) (dd da sub : BitVec 5) : Slot AOp :=
  match sub.toNat with
  | 0 => .op (.mov s dd da)
  | 1 => .op (.neg s dd da)
  | 2 => .op (.abs s dd da)
  | 3 => .op (.sin s dd da)
  | 4 => .op (.cos s dd da)
  | 5 => slotIf s (.rsqrt dd da)
  | 6 => .op (.not s dd da)
  | _ => .ill 0x01

def decodeA (w : BitVec 20) : Slot AOp :=
  if w = 0 then .op .nop
  else
    let s := w.getLsbD 19
    let dd := w.extractLsb' 10 5
    let da := w.extractLsb' 5 5
    let db := w.extractLsb' 0 5
    match (w.extractLsb' 15 4).toNat with
    | 0x0 => .ill 0x02
    | 0x1 => .op (.add s dd da db)
    | 0x2 => .op (.sub s dd da db)
    | 0x3 => .op (.min s dd da db)
    | 0x4 => .op (.max s dd da db)
    | 0x5 => .op (.sel s dd da db)
    | 0x6 => slotOf ((condOf dd).map fun c => .cmp s c da db)
    | 0x7 => slotIf s (.div dd da db)
    | 0x8 => .op (.asr s dd da db)
    | 0x9 => .op (.asl s dd da db)
    | 0xA => decodeUnary s dd da db
    | 0xB => .op (.and s dd da db)
    | 0xC => .op (.or s dd da db)
    | 0xD => .op (.xor s dd da db)
    | 0xE => .op (.addi s dd da db)
    | _ => .ill 0x01

/-! ### L slot (R247, R248) -/

/-- LDX, LDY, STX and STY: sub-operation, D register, Pn, modifier. -/
def memWord (sub : BitVec 2) (d : BitVec 5) (p : BitVec 3) (m : PMod) : BitVec 20 := 0b10#2 ++ sub ++ d ++ p ++ m.code ++ 0#5

def encodeL : LOp → BitVec 20
  | .nop => 0
  | .ldxy dx dy px py mx my => 0b11#2 ++ dx ++ dy ++ px ++ py ++ mx.code ++ my.code
  | .ldx d p m => memWord 0 d p m
  | .ldy d p m => memWord 1 d p m
  | .stx d p m => memWord 2 d p m
  | .sty d p m => memWord 3 d p m
  | .ldi dd h imm => 0b01#2 ++ 0#1 ++ dd ++ BitVec.ofBool h ++ imm
  | .ldip p imm => 0b01#2 ++ 0b10#2 ++ p ++ imm
  | .ldim (.pm n imm) => 0b01#2 ++ 0b11#2 ++ n ++ 0#2 ++ imm
  | .ldim (.pl n imm) => 0b01#2 ++ 0b11#2 ++ n ++ 1#2 ++ imm
  | .ldim (.lc k imm) => 0b01#2 ++ 0b11#2 ++ 0#2 ++ BitVec.ofBool k ++ 2#2 ++ imm
  | .ldim (.rrb imm) => 0b01#2 ++ 0b11#2 ++ 0#3 ++ 3#2 ++ 0#7 ++ imm
  | .mvts ds r => 0b00#2 ++ 1#3 ++ ds ++ r.code ++ 0#5
  | .mvfs dd r => 0b00#2 ++ 2#3 ++ dd ++ r.code ++ 0#5

/-- LDIM by its kind bits. -/
def decodeLdim (w : BitVec 20) : Slot LOp :=
  match (w.extractLsb' 11 2).toNat with
  | 0 => .op (.ldim (.pm (w.extractLsb' 13 3) (w.extractLsb' 0 11)))
  | 1 => .op (.ldim (.pl (w.extractLsb' 13 3) (w.extractLsb' 0 11)))
  | 2 => slotIf (w.extractLsb' 14 2 == 0) (.ldim (.lc (w.getLsbD 13) (w.extractLsb' 0 11)))
  | _ => slotIf (w.extractLsb' 13 3 == 0 && w.extractLsb' 4 7 == 0) (.ldim (.rrb (w.extractLsb' 0 4)))

/-- LDX, LDY, STX and STY. -/
def decodeMem (w : BitVec 20) : Slot LOp :=
  let d := w.extractLsb' 11 5
  let p := w.extractLsb' 8 3
  if w.extractLsb' 0 5 = 0 then
    slotOf ((pmodOf (w.extractLsb' 5 3)).map fun m =>
      match (w.extractLsb' 16 2).toNat with
      | 0 => .ldx d p m
      | 1 => .ldy d p m
      | 2 => .stx d p m
      | _ => .sty d p m)
  else .ill 0x02

/-- NOP, MVTS and MVFS. -/
def decodeMove (w : BitVec 20) : Slot LOp :=
  match (w.extractLsb' 15 3).toNat with
  | 0 => .ill 0x02
  | 1 => if w.extractLsb' 0 5 = 0 then slotOf ((sregOf (w.extractLsb' 5 5)).map fun r => .mvts (w.extractLsb' 10 5) r) else .ill 0x02
  | 2 => if w.extractLsb' 0 5 = 0 then slotOf ((sregOf (w.extractLsb' 5 5)).map fun r => .mvfs (w.extractLsb' 10 5) r) else .ill 0x02
  | _ => .ill 0x01

def decodeL (w : BitVec 20) : Slot LOp :=
  if w = 0 then .op .nop
  else
    match (w.extractLsb' 18 2).toNat with
    | 3 => .op (.ldxy (w.extractLsb' 13 5) (w.extractLsb' 8 5) (w.extractLsb' 6 2) (w.extractLsb' 4 2)
        (pmod2Of (w.extractLsb' 2 2)) (pmod2Of (w.extractLsb' 0 2)))
    | 2 => decodeMem w
    | 1 =>
      if w.getLsbD 17 then (if w.getLsbD 16 then decodeLdim w else .op (.ldip (w.extractLsb' 13 3) (w.extractLsb' 0 13)))
      else .op (.ldi (w.extractLsb' 12 5) (w.getLsbD 11) (w.extractLsb' 0 11))
    | _ => decodeMove w

/-! ### Control field and bundle (R230, R232) -/

def Ctl.code : Ctl → BitVec 4
  | .nop => 0x0
  | .ls k => 1#3 ++ BitVec.ofBool k
  | .le k => 2#3 ++ BitVec.ofBool k
  | .ler k => 3#3 ++ BitVec.ofBool k
  | .rot => 0x8
  | .pp => 0x9

def ctlOf (v : BitVec 4) : CtlCode :=
  match v.toNat with
  | 0x0 => .free .nop
  | 0x1 => .rep
  | 0x2 => .free (.ls false)
  | 0x3 => .free (.ls true)
  | 0x4 => .free (.le false)
  | 0x5 => .free (.le true)
  | 0x6 => .free (.ler false)
  | 0x7 => .free (.ler true)
  | 0x8 => .free .rot
  | 0x9 => .free .pp
  | 0xA => .ctxrun
  | 0xB => .compete
  | 0xF => .halt
  | _ => .reserved

/-- The word of a legal bundle. -/
def encodeBundle : LegalBundle → Bundle
  | .ops c m a l => c.code ++ encodeM m ++ encodeA a ++ encodeL l
  | .rep n => 0x1#4 ++ 0#54 ++ n
  | .ctxrun n => 0xA#4 ++ 0#53 ++ n
  | .compete m => 0xB#4 ++ 0#58 ++ BitVec.ofNat 2 m.val
  | .halt => 0xF#4 ++ 0#60

/-- The lower of two codes of R249, 0 standing for none. -/
def lowerCode (a b : Nat) : Nat := if a = 0 then b else if b = 0 then a else min a b

def Slot.code {α : Type} : Slot α → Nat
  | .ill c => c
  | .op _ => 0

/-- A bundle of a control code that takes the whole L slot (R232): the code of what stands in the M and A slots, or SLOTFORM. -/
def formCode (m a : BitVec 20) (legalL : Bool) : Nat :=
  lowerCode (lowerCode (decodeM m).code (decodeA a).code) (if m = 0 ∧ a = 0 ∧ legalL then 0 else 0x06)

/-- The bundle a word holds; the lowest code of R249 that its encoding alone earns otherwise. -/
def decodeBundle (w : Bundle) : Slot LegalBundle :=
  let m := w.extractLsb' 40 20
  let a := w.extractLsb' 20 20
  let l := w.extractLsb' 0 20
  match ctlOf (w.extractLsb' 60 4) with
  | .free c =>
    match decodeM m, decodeA a, decodeL l with
    | .op m, .op a, .op l => .op (.ops c m a l)
    | m, a, l => .ill (lowerCode m.code (lowerCode a.code l.code))
  | .rep =>
    match formCode m a (l.extractLsb' 6 14 == 0) with
    | 0 => .op (.rep (l.extractLsb' 0 6))
    | c => .ill c
  | .ctxrun =>
    match formCode m a (l.extractLsb' 7 13 == 0) with
    | 0 => .op (.ctxrun (l.extractLsb' 0 7))
    | c => .ill c
  | .compete =>
    match formCode m a (l.extractLsb' 2 18 == 0), (l.extractLsb' 0 2).toNat with
    | 0, 0 => .op (.compete 0)
    | 0, 1 => .op (.compete 1)
    | 0, 2 => .op (.compete 2)
    | c, _ => .ill (lowerCode c (if l.extractLsb' 0 2 = 3#2 then 0x02 else 0))
  | .halt =>
    match lowerCode (formCode m a (l == 0)) (decodeL l).code with
    | 0 => .op .halt
    | c => .ill c
  | .reserved => .ill 0x01

/-! ### Table words -/

/-- No row of the table gives bits, so no word spells a command. -/
def decodeTableWord (_nbits _w : Nat) : Option Instr := none

end Sys2Proof
end

