-- ==== Sys2Proof/Config.lean ====
section
/-! DEFINITION. What the spec leaves open, as constants without a body: nothing can be proved of their values.  Log entries
name each one. -/

namespace Sys2Proof.Config

/-- Fresh free values: the n-th value drawn (State.drawn counts them). -/
opaque freeValue : Nat → Nat

/-- Signature verification of a firmware slot (R103): the slot's bytes. -/
opaque firmwareVerify : List Byte → Bool

/-- Sequence number and version in the header of a firmware slot, whose layout the spec does not give (R103, R486): the slot's
bytes. -/
opaque firmwareSeq : List Byte → Nat
opaque firmwareVersion : List Byte → Nat

/-- Code values of log entries that the spec names without numbering them (R487): entry TYPE and the event's place in the
spec's text. -/
opaque logCode : Nat → Nat → Nat

/-- How far the angle of a vector that the field and PWM unit forms lies from the exact one: R286 gives no precision. -/
opaque vectorAngleError : Int → Int → Nat

/-- The REACT code FC_FIRST shows for FC_SELF, whose LOCKOUT is no reaction of R336 (R344, R348). -/
opaque fxReactCode : Nat

/-- Stepping of the controller die (R98). -/
opaque dieStep : Nat

/-- How far the sine of an angle of 2³² per turn that the field and PWM unit forms lies from the exact one: R294 gives no precision. -/
opaque unitSinError : Int → Nat

/-- The quotient 0 / 0 of the dead-time compensation with DTC_BAND = 0 and no current (R282). -/
opaque dtcZero : Int

/-- The share with no weight on any lane in service, 0 / 0 (R301), 2³¹ = 1.0. -/
opaque zeroShare : Nat

/-- Which of several equal largest peaks the pulse method takes (R292): the values compared. -/
opaque peakTie : List Int → Nat

/-- KIND that CE_TR_INFO shows for the winner code, which R271 gives no KIND (R259). -/
opaque winnerKind : Nat

/-- The known-answer test's ROM, whose content the spec does not give (R264): its 256 bundles, the words of its test ROM of 64 words by port (0 XL, 1 XU, 2 Y)
and address, and the fixed expected signature (R265). -/
opaque katBundle : Nat → Bundle
opaque katWord : Nat → Nat → Word
opaque katSignature : Nat

/-- The own clock in the best master clock algorithm (R428), whose quality and identity the spec does not give: class, accuracy and variance as
one number, and the identity by package serial and ring. -/
opaque clockQuality : Nat
opaque clockIdentity : Nat → Nat → Nat

end Sys2Proof.Config
end

