-- ==== Sys2Proof/Machine/Sparse.lean ====
section
/-! DEFINITION. Sparse tables (a sorted list of key and value, with a value that unlisted keys read as) and byte memories in
their one canonical form. Registers, register shadows, memories and per-unit records of State are all held this way. -/

namespace Sys2Proof.Machine

/-- The value of key `k`; `d` where `k` is not listed. -/
def lookup {α : Type} (m : List (Nat × α)) (d : α) (k : Nat) : α :=
  match m with
  | [] => d
  | (a, v) :: r => if a = k then v else lookup r d k

/-- Enter `v` at key `k`, keeping the keys in rising order. -/
def place {α : Type} (m : List (Nat × α)) (k : Nat) (v : α) : List (Nat × α) :=
  match m with
  | [] => [(k, v)]
  | (a, w) :: r => if k < a then (k, v) :: (a, w) :: r else if a = k then (k, v) :: r else (a, w) :: place r k v

/-- Remove key `k`. -/
def erase {α : Type} (m : List (Nat × α)) (k : Nat) : List (Nat × α) :=
  match m with
  | [] => []
  | (a, w) :: r => if a = k then erase r k else (a, w) :: erase r k

/-- Store `v` at key `k` where unlisted keys read as `d`: storing `d` removes the entry. -/
def store {α : Type} [DecidableEq α] (m : List (Nat × α)) (d : α) (k : Nat) (v : α) : List (Nat × α) :=
  if v = d then erase m k else place m k v

/-- Keys strictly rising and no entry equal to what an unlisted key reads as. -/
def canonical {α : Type} [DecidableEq α] (d : α) : List (Nat × α) → Bool
  | [] => true
  | (_, v) :: [] => !decide (v = d)
  | (a, v) :: (b, w) :: r => !decide (v = d) && decide (a < b) && canonical d ((b, w) :: r)

/-- A byte memory: strictly rising addresses, no entry equal to the byte an unlisted address reads as. -/
abbrev Mem := List Host.Cell

/-- Read one byte; `d` is what an unlisted address reads as. -/
def Mem.byte (m : Mem) (d : Byte) (a : Nat) : Byte := lookup m d a

/-- Write one byte. -/
def Mem.setByte (m : Mem) (d : Byte) (a : Nat) (v : Byte) : Mem := store m d a v

/-- The canonical form of a memory whose unlisted bytes read as `d`. -/
def Mem.wf (m : Mem) (d : Byte) : Bool := canonical d m

/-- `n` bytes from address `a`, in rising address order. -/
def Mem.bytes (m : Mem) (d : Byte) (a : Nat) : Nat → List Byte
  | 0 => []
  | n + 1 => m.byte d a :: Mem.bytes m d (a + 1) n

/-- Write bytes from address `a` on. -/
def Mem.setBytes (m : Mem) (d : Byte) (a : Nat) : List Byte → Mem
  | [] => m
  | b :: r => Mem.setBytes (m.setByte d a b) d (a + 1) r

/-- A 32-bit word from four bytes, least significant byte first. -/
def wordOfBytes (b0 b1 b2 b3 : Byte) : Word :=
  BitVec.ofNat 32 (b0.toNat + 2 ^ 8 * b1.toNat + 2 ^ 16 * b2.toNat + 2 ^ 24 * b3.toNat)

/-- The `n` low bytes of a number, least significant first. -/
def leBytes : Nat → Nat → List Byte
  | 0, _ => []
  | n + 1, v => BitVec.ofNat 8 v :: leBytes n (v / 256)

/-- The number that bytes spell, least significant first. -/
def leNat : List Byte → Nat
  | [] => 0
  | b :: r => b.toNat + 256 * leNat r

/-- The number that bytes spell, most significant first. -/
def beNat (bs : List Byte) : Nat := leNat bs.reverse

/-- The little-endian word at address `a`. -/
def Mem.word (m : Mem) (d : Byte) (a : Nat) : Word :=
  wordOfBytes (m.byte d a) (m.byte d (a + 1)) (m.byte d (a + 2)) (m.byte d (a + 3))

/-- Write the little-endian word at address `a`. -/
def Mem.setWord (m : Mem) (d : Byte) (a : Nat) (v : Word) : Mem := m.setBytes d a (leBytes 4 v.toNat)

/-- The 64-bit bundle held in the eight bytes from address `a`. -/
def Mem.bundle (m : Mem) (d : Byte) (a : Nat) : Bundle := BitVec.ofNat 64 (leNat (m.bytes d a 8))

/-- Write a 64-bit bundle. -/
def Mem.setBundle (m : Mem) (d : Byte) (a : Nat) (v : Bundle) : Mem := m.setBytes d a (leBytes 8 v.toNat)

/-- Every byte of `n` from `a` written as `d` again. -/
def Mem.clear (m : Mem) (a n : Nat) : Mem := m.filter fun c => c.1 < a || a + n ≤ c.1

/-- The canonical form a list of key and value pairs given in any order has. -/
def Mem.ofBytes (d : Byte) (a : Nat) (bs : List Byte) : Mem := Mem.setBytes [] d a bs

end Sys2Proof.Machine
end

