-- ==== Sys2Proof/Machine/Crc.lean ====
section
/-! DEFINITION. The checksums of the spec: CRC-8 of the host SPI port (R77), CRC-32C (R109), CRC-6 of BiSS C (R145), and
SHA-256 (R110, R383). -/

namespace Sys2Proof.Machine

/-- One bit of a CRC-8 with polynomial 0x2F, most significant bit first. -/
def crc8Bit (c : Nat) : Nat := if 128 ≤ c then ((2 * c) % 256) ^^^ 0x2F else 2 * c

/-- CRC-8 over bytes from a register value. -/
def crc8Run (c : Nat) : List Byte → Nat
  | [] => c
  | b :: r => crc8Run ((List.range 8).foldl (fun c _ => crc8Bit c) (c ^^^ b.toNat)) r

/-- CRC-8 of the host SPI port: initial value 0xFF, final XOR 0xFF (R77). -/
def crc8 (bs : List Byte) : Byte := BitVec.ofNat 8 (crc8Run 0xFF bs ^^^ 0xFF)

/-- One bit of the reflected CRC-32C. -/
def crc32cBit (c : Nat) : Nat := if c % 2 = 1 then (c / 2) ^^^ 0x82F63B78 else c / 2

/-- CRC-32C over bytes from a register value. -/
def crc32cRun (c : Nat) : List Byte → Nat
  | [] => c
  | b :: r => crc32cRun ((List.range 8).foldl (fun c _ => crc32cBit c) (c ^^^ b.toNat)) r

/-- CRC-32C: polynomial 0x1EDC_6F41, reflected, initial value and final XOR 0xFFFF_FFFF (R109). -/
def crc32c (bs : List Byte) : Nat := crc32cRun 0xFFFFFFFF bs ^^^ 0xFFFFFFFF

/-- CRC-6 of BiSS C, polynomial x⁶ + x + 1, initial value 0, over `n` bits of `v`, most significant first (R145). -/
def crc6 (v : Nat) : Nat → Nat → Nat
  | 0, c => c
  | n + 1, c =>
    let top := (if 32 ≤ c then 1 else 0) != (if v.testBit n then 1 else 0)
    crc6 v n (if top then ((2 * c) % 64) ^^^ 0x03 else (2 * c) % 64)

/-- The bits from bit `b` down of the largest x with xᵏ ≤ n. -/
def rootFrom (k n : Nat) : Nat → Nat → Nat
  | 0, r => r
  | b + 1, r => rootFrom k n b (if (r + 2 ^ b) ^ k ≤ n then r + 2 ^ b else r)

/-- The prime numbers below a bound. -/
def primesBelow (n : Nat) : List Nat := (List.range n).filter fun p => 2 ≤ p && (List.range p).all fun d => d < 2 || p % d != 0

/-- The first 32 bits of the fraction of the k-th root of a number. -/
def rootFraction (k p : Nat) : Nat := rootFrom k (p * 2 ^ (32 * k)) 37 0 % 2 ^ 32

/-- The round constants of SHA-256: from the cube roots of the first 64 primes. -/
def shaK : List Nat := (primesBelow 312).map (rootFraction 3)

/-- The initial hash value of SHA-256: from the square roots of the first 8 primes. -/
def shaInit : List Word := (primesBelow 20).map fun p => BitVec.ofNat 32 (rootFraction 2 p)

/-- Extend sixteen message words, newest first, by `n` words. -/
def shaSchedule : Nat → List Word → List Word
  | 0, w => w
  | n + 1, w =>
    let a := w.getD 14 0
    let b := w.getD 1 0
    let s0 := a.rotateRight 7 ^^^ a.rotateRight 18 ^^^ (a >>> 3)
    let s1 := b.rotateRight 17 ^^^ b.rotateRight 19 ^^^ (b >>> 10)
    shaSchedule n ((w.getD 15 0 + s0 + w.getD 6 0 + s1) :: w)

/-- One round on the eight working words. -/
def shaRound (v : List Word) (kw : Word) : List Word :=
  match v with
  | [a, b, c, d, e, f, g, h] =>
    let s1 := e.rotateRight 6 ^^^ e.rotateRight 11 ^^^ e.rotateRight 25
    let ch := (e &&& f) ^^^ (~~~e &&& g)
    let t1 := h + s1 + ch + kw
    let s0 := a.rotateRight 2 ^^^ a.rotateRight 13 ^^^ a.rotateRight 22
    let maj := (a &&& b) ^^^ (a &&& c) ^^^ (b &&& c)
    [t1 + s0 + maj, a, b, c, d + t1, e, f, g]
  | v => v

/-- Words of a block, most significant byte first. -/
def beWords : List Byte → List Word
  | b0 :: b1 :: b2 :: b3 :: r => wordOfBytes b3 b2 b1 b0 :: beWords r
  | _ => []

/-- One 64-byte block of SHA-256. -/
def shaBlock (h : List Word) (blk : List Byte) : List Word :=
  let w := (shaSchedule 48 (beWords blk).reverse).reverse
  let kw := List.zipWith (fun k x => BitVec.ofNat 32 k + x) shaK w
  List.zipWith (· + ·) h (kw.foldl shaRound h)

/-- Blocks of a padded message; `n` bounds their number. -/
def shaBlocks : Nat → List Word → List Byte → List Word
  | 0, h, _ => h
  | n + 1, h, bs => if bs.isEmpty then h else shaBlocks n (shaBlock h (bs.take 64)) (bs.drop 64)

/-- The padding of SHA-256: a one bit, zeros, and the bit length in eight bytes, most significant first. -/
def shaPad (bs : List Byte) : List Byte :=
  let z := (119 - bs.length % 64) % 64
  bs ++ [0x80] ++ List.replicate z 0 ++ (leBytes 8 (8 * bs.length)).reverse

/-- SHA-256 of a byte string, as 32 bytes. -/
def sha256 (bs : List Byte) : List Byte :=
  let p := shaPad bs
  (shaBlocks (p.length / 64) shaInit p).flatMap fun w => (leBytes 4 w.toNat).reverse

end Sys2Proof.Machine
end

