-- ==== Sys2Proof/Machine/RegTable.lean ====
section
/-! DEFINITION. The register tables of the spec, one constant per field: word offset, low bit, width, reset value and
class, as the register tables of R70, R98, R99, R127, R141, R166, R174, R193, R229, R251, R271, R303, R334, R362, R392,
R409, R421, R438, R440, R458, R476 and R499 give them.  An indexed register is a function of its index `i`.  Words of the
indirect space (context entries, route table, flow descriptors) stand under their indirect address. -/

namespace Sys2Proof.Machine

/-- Field classes of R84; `lockCtx` is the class LOCK* of a context entry (R174), and `roTmr` a read-only field
held in three copies (R88). -/
inductive Cls where
  | rw | ro | w1c | w1s | go | cnt | shd | live | lock | tmr | roTmr | lockCtx
  deriving DecidableEq, Repr

/-- One field of one register: the word's offset (or indirect address), the field's low bit and width, its reset value
and its class. -/
structure Fld where
  off : Nat
  lo : Nat
  width : Nat
  reset : Nat
  cls : Cls
  deriving DecidableEq, Repr

/-- The key under which the register file stores a field. -/
def Fld.key (f : Fld) : Nat := f.off * 32 + f.lo

/-- A family of equal registers: base offset, stride, count and the fields of register `i`. -/
structure RegFam where
  base : Nat
  stride : Nat
  count : Nat
  flds : Nat → List Fld

/-- Default REACT_L of a source (R340), by source number; 0 where the table has NOTE or the number is reserved. -/
def reactDefault (n : Nat) : Nat :=
  if n ∈ [0x01, 0x00, 0x28, 0x2A, 0x34, 0x38, 0x3A, 0x3C, 0x64] then 4
  else if n ∈ [0x03, 0x07, 0x08, 0x0A, 0x20, 0x23, 0x24, 0x2C, 0x2D, 0x2E, 0x2F, 0x31, 0x32, 0x33, 0x63] then 5
  else if n = 0x02 then 3
  else if n = 0x09 then 6
  else if n = 0x30 then 2
  else if n ∈ [0x04, 0x05, 0x29, 0x2B, 0x37, 0x40, 0x60, 0x62] then 1
  else 0

/-- Default CNT_N of a source (R340): 3 for RAKE_OVR and FIELD_XREC, else 1. -/
def countDefault (n : Nat) : Nat := if n = 0x20 ∨ n = 0x34 then 3 else 1

-- RAKE_TICK (R70)
def RAKE_TICK.PWM_TICKS : Fld := ⟨0x400, 16, 1, 1, .shd⟩
def RAKE_TICK.TICK_PERIOD : Fld := ⟨0x400, 0, 16, 0xfa0, .shd⟩
-- RAKE_SAMPLE (R70)
def RAKE_SAMPLE.SAMPLE_PHASE : Fld := ⟨0x404, 0, 16, 0, .shd⟩
-- RAKE_TSTART (R70)
def RAKE_TSTART.TSTART : Fld := ⟨0x408, 0, 16, 0x1e0, .shd⟩
-- RAKE_OUT (R70)
def RAKE_OUT.OUT_PHASE : Fld := ⟨0x40C, 0, 16, 0xe10, .shd⟩
-- RAKE_ENC (R70)
def RAKE_ENC.ENC_REQ_PHASE : Fld := ⟨0x410, 0, 16, 0x960, .shd⟩
-- RAKE_BRINE (R70)
def RAKE_BRINE.BRINE_PHASE : Fld := ⟨0x414, 0, 16, 0xe20, .shd⟩
-- RAKE_FAB (R70)
def RAKE_FAB.FAB_LOCK_EN : Fld := ⟨0x418, 16, 1, 0, .shd⟩
def RAKE_FAB.FAB_OFFSET : Fld := ⟨0x418, 0, 16, 0, .shd⟩
-- RAKE_DERIVED (R70)
def RAKE_DERIVED.PREEMPT_PHASE : Fld := ⟨0x41C, 16, 16, 0x1a0, .ro⟩
def RAKE_DERIVED.RDY_PHASE : Fld := ⟨0x41C, 0, 16, 0x1a0, .ro⟩
-- RAKE_BUDGET (R70)
def RAKE_BUDGET.T_ISSUE : Fld := ⟨0x420, 16, 16, 0, .ro⟩
def RAKE_BUDGET.T_ISSUE_MAX : Fld := ⟨0x420, 0, 16, 0x518, .ro⟩
-- RAKE_STAT (R70)
def RAKE_STAT.PHASE_ERR : Fld := ⟨0x424, 16, 16, 0, .ro⟩
def RAKE_STAT.LOCK_REF : Fld := ⟨0x424, 8, 2, 0, .ro⟩
def RAKE_STAT.LOCK_STATE : Fld := ⟨0x424, 4, 3, 0, .ro⟩
def RAKE_STAT.MASTER : Fld := ⟨0x424, 3, 1, 1, .ro⟩
def RAKE_STAT.KAT_DUE : Fld := ⟨0x424, 2, 1, 0, .ro⟩
def RAKE_STAT.EXTREME : Fld := ⟨0x424, 1, 1, 0, .ro⟩
def RAKE_STAT.RUN : Fld := ⟨0x424, 0, 1, 0, .ro⟩
-- RAKE_TICK_COUNT (R70)
def RAKE_TICK_COUNT.TICK_COUNT : Fld := ⟨0x428, 0, 32, 0, .cnt⟩
-- RAKE_EVT (R70)
def RAKE_EVT.PERIOD_MM : Fld := ⟨0x42C, 4, 1, 0, .w1c⟩
def RAKE_EVT.JUMP : Fld := ⟨0x42C, 3, 1, 0, .w1c⟩
def RAKE_EVT.BRINE_LATE : Fld := ⟨0x42C, 2, 1, 0, .w1c⟩
def RAKE_EVT.LOCK_LOST : Fld := ⟨0x42C, 1, 1, 0, .w1c⟩
def RAKE_EVT.OVR : Fld := ⟨0x42C, 0, 1, 0, .w1c⟩
-- RAKE_CNT (R70)
def RAKE_CNT.LOCK_LOSS_CNT : Fld := ⟨0x430, 16, 16, 0, .cnt⟩
def RAKE_CNT.OVR_CNT : Fld := ⟨0x430, 0, 16, 0, .cnt⟩
-- RAKE_OVR_INFO (R70)
def RAKE_OVR_INFO.OVR_PASSB : Fld := ⟨0x434, 16, 16, 0, .ro⟩
def RAKE_OVR_INFO.OVR_PASSA : Fld := ⟨0x434, 0, 16, 0, .ro⟩
-- SYS_ID (R98)
def SYS_ID.PART : Fld := ⟨0x0, 16, 16, 0x962, .ro⟩
def SYS_ID.HALF : Fld := ⟨0x0, 8, 1, 0, .ro⟩
def SYS_ID.DIE_STEP : Fld := ⟨0x0, 0, 8, 0, .ro⟩
-- SYS_CTRL (R98)
def SYS_CTRL.BENCH_MODE : Fld := ⟨0x4, 1, 1, 0, .rw⟩
def SYS_CTRL.TEST_MODE : Fld := ⟨0x4, 0, 1, 0, .rw⟩
-- SYS_COMMIT (R98)
def SYS_COMMIT.GROUPS : Fld := ⟨0x8, 0, 8, 0, .go⟩
-- SYS_DISCARD (R98)
def SYS_DISCARD.GROUPS : Fld := ⟨0xC, 0, 8, 0, .go⟩
-- SYS_COMMIT_STAT (R98)
def SYS_COMMIT_STAT.PENDING : Fld := ⟨0x10, 24, 8, 0, .ro⟩
def SYS_COMMIT_STAT.LAST_OK : Fld := ⟨0x10, 16, 8, 0, .ro⟩
def SYS_COMMIT_STAT.MIXED : Fld := ⟨0x10, 8, 8, 0, .ro⟩
def SYS_COMMIT_STAT.DIRTY : Fld := ⟨0x10, 0, 8, 0, .ro⟩
-- SYS_COMMIT_REJ (R98)
def SYS_COMMIT_REJ.COMMIT_REJ : Fld := ⟨0x14, 31, 1, 0, .w1c⟩
def SYS_COMMIT_REJ.REJ_MORE : Fld := ⟨0x14, 30, 1, 0, .w1c⟩
def SYS_COMMIT_REJ.REJ_WRITER : Fld := ⟨0x14, 16, 8, 0, .ro⟩
def SYS_COMMIT_REJ.REJ_GROUP : Fld := ⟨0x14, 8, 8, 0, .ro⟩
def SYS_COMMIT_REJ.REJ_CODE : Fld := ⟨0x14, 0, 8, 0, .ro⟩
-- SYS_ACC_STAT (R98)
def SYS_ACC_STAT.CRC_ERR : Fld := ⟨0x18, 3, 1, 0, .w1c⟩
def SYS_ACC_STAT.ADDR_ERR : Fld := ⟨0x18, 2, 1, 0, .w1c⟩
def SYS_ACC_STAT.SW_LOST : Fld := ⟨0x18, 1, 1, 0, .w1c⟩
def SYS_ACC_STAT.WR_IGN : Fld := ⟨0x18, 0, 1, 0, .w1c⟩
-- SYS_ACC_INFO (R98)
def SYS_ACC_INFO.LOST_OFFSET : Fld := ⟨0x1C, 16, 16, 0, .ro⟩
def SYS_ACC_INFO.IGN_OFFSET : Fld := ⟨0x1C, 0, 16, 0, .ro⟩
-- SYS_VOTE (R98)
def SYS_VOTE.VOTE_ERR : Fld := ⟨0x20, 16, 16, 0, .cnt⟩
def SYS_VOTE.VOTE_LAST : Fld := ⟨0x20, 0, 16, 0, .ro⟩
-- SYS_SPI_CNT (R98)
def SYS_SPI_CNT.FRAME_ERR_CNT : Fld := ⟨0x24, 16, 16, 0, .cnt⟩
def SYS_SPI_CNT.CRC_ERR_CNT : Fld := ⟨0x24, 0, 16, 0, .cnt⟩
-- SYS_SCRATCH (R98)
def SYS_SCRATCH.SCRATCH : Fld := ⟨0x28, 0, 32, 0, .rw⟩
-- IDX_ADDR (R99)
def IDX_ADDR.ADDR : Fld := ⟨0x3C00, 2, 30, 0, .rw⟩
-- IDX_DATA (R99)
def IDX_DATA.DATA : Fld := ⟨0x3C04, 0, 32, 0, .rw⟩
-- IDX_STAT (R99)
def IDX_STAT.QOVF : Fld := ⟨0x3C08, 3, 1, 0, .w1c⟩
def IDX_STAT.AERR : Fld := ⟨0x3C08, 2, 1, 0, .w1c⟩
def IDX_STAT.QBUSY : Fld := ⟨0x3C08, 1, 1, 0, .ro⟩
def IDX_STAT.HALF : Fld := ⟨0x3C08, 0, 1, 0, .ro⟩
-- MGMT_BOOT_STAT (R127)
def MGMT_BOOT_STAT.BOOT_CASE : Fld := ⟨0x3800, 24, 4, 0, .ro⟩
def MGMT_BOOT_STAT.C1_ERR : Fld := ⟨0x3800, 16, 8, 0, .ro⟩
def MGMT_BOOT_STAT.C0_ERR : Fld := ⟨0x3800, 8, 8, 0, .ro⟩
def MGMT_BOOT_STAT.FW_SLOT : Fld := ⟨0x3800, 7, 1, 0, .ro⟩
def MGMT_BOOT_STAT.COMPAT : Fld := ⟨0x3800, 6, 1, 0, .ro⟩
def MGMT_BOOT_STAT.APPLY_ERR : Fld := ⟨0x3800, 5, 1, 0, .ro⟩
def MGMT_BOOT_STAT.ST_FAIL : Fld := ⟨0x3800, 4, 1, 0, .ro⟩
def MGMT_BOOT_STAT.BOOT_PHASE : Fld := ⟨0x3800, 0, 4, 0, .ro⟩
-- MGMT_BOOT_DIFF (R127)
def MGMT_BOOT_DIFF.DIFF_VALID : Fld := ⟨0x3804, 31, 1, 0, .ro⟩
def MGMT_BOOT_DIFF.DIFF_OFFSET : Fld := ⟨0x3804, 0, 21, 0, .ro⟩
-- MGMT_BOOT_ST (R127)
def MGMT_BOOT_ST.SSUP : Fld := ⟨0x3808, 9, 4, 0, .ro⟩
def MGMT_BOOT_ST.SLUICE_LS : Fld := ⟨0x3808, 8, 1, 0, .ro⟩
def MGMT_BOOT_ST.SLUICE_HS : Fld := ⟨0x3808, 7, 1, 0, .ro⟩
def MGMT_BOOT_ST.GD : Fld := ⟨0x3808, 4, 3, 0, .ro⟩
def MGMT_BOOT_ST.INJ : Fld := ⟨0x3808, 3, 1, 0, .ro⟩
def MGMT_BOOT_ST.CMP : Fld := ⟨0x3808, 2, 1, 0, .ro⟩
def MGMT_BOOT_ST.MBIST : Fld := ⟨0x3808, 1, 1, 0, .ro⟩
def MGMT_BOOT_ST.CE_LBIST : Fld := ⟨0x3808, 0, 1, 0, .ro⟩
-- MGMT_ARM_BLOCK (R127)
def MGMT_ARM_BLOCK.SLUICE_TEST : Fld := ⟨0x380C, 6, 1, 0, .ro⟩
def MGMT_ARM_BLOCK.UNLOCKED : Fld := ⟨0x380C, 5, 1, 0, .ro⟩
def MGMT_ARM_BLOCK.NO_LOCK : Fld := ⟨0x380C, 4, 1, 0, .ro⟩
def MGMT_ARM_BLOCK.NO_PROG : Fld := ⟨0x380C, 3, 1, 0, .ro⟩
def MGMT_ARM_BLOCK.TEST_MODE : Fld := ⟨0x380C, 2, 1, 0, .ro⟩
def MGMT_ARM_BLOCK.SELFTEST : Fld := ⟨0x380C, 1, 1, 0, .ro⟩
def MGMT_ARM_BLOCK.IMG_DIFF : Fld := ⟨0x380C, 0, 1, 0, .ro⟩
-- MGMT_IMG_INFO (R127)
def MGMT_IMG_INFO.IMG_VER : Fld := ⟨0x3810, 0, 32, 0, .ro⟩
-- AFE_CTRL (R141)
def AFE_CTRL.PKHOLD : Fld := ⟨0x800, 2, 1, 1, .lock⟩
def AFE_CTRL.CAL_EN : Fld := ⟨0x800, 1, 1, 1, .rw⟩
def AFE_CTRL.STOP : Fld := ⟨0x800, 0, 1, 0, .rw⟩
-- AFE_STAT (R141)
def AFE_STAT.NCONV : Fld := ⟨0x804, 8, 4, 0xa, .ro⟩
def AFE_STAT.CAL_SKIP : Fld := ⟨0x804, 5, 1, 0, .w1c⟩
def AFE_STAT.HOSTCAL_STALE : Fld := ⟨0x804, 4, 1, 0, .w1c⟩
def AFE_STAT.CAL_REJ : Fld := ⟨0x804, 3, 1, 0, .w1c⟩
def AFE_STAT.CLIP : Fld := ⟨0x804, 2, 1, 0, .w1c⟩
def AFE_STAT.SEQ_ERR : Fld := ⟨0x804, 1, 1, 0, .w1c⟩
def AFE_STAT.RUNNING : Fld := ⟨0x804, 0, 1, 0, .ro⟩
-- AFE_XBASE (R141)
def AFE_XBASE.XBASE : Fld := ⟨0x808, 2, 14, 0, .lock⟩
-- AFE_UNI0 (R141)
def AFE_UNI0.UNI : Fld := ⟨0x80C, 0, 32, 0xfffffe00, .lock⟩
-- AFE_UNI1 (R141)
def AFE_UNI1.UNI : Fld := ⟨0x810, 0, 8, 0xff, .lock⟩
-- AFE_CLIP (R141)
def AFE_CLIP.CLIP (i : Nat) : Fld := ⟨0x814 + 0x4 * i, 0, 32, 0, .w1c⟩
-- AFE_NSLOT (R141)
def AFE_NSLOT.NSLOT3 : Fld := ⟨0x81C, 12, 4, 0xa, .lock⟩
def AFE_NSLOT.NSLOT2 : Fld := ⟨0x81C, 8, 4, 0xa, .lock⟩
def AFE_NSLOT.NSLOT1 : Fld := ⟨0x81C, 4, 4, 0xa, .lock⟩
def AFE_NSLOT.NSLOT0 : Fld := ⟨0x81C, 0, 4, 0xa, .lock⟩
-- AFE_SEQ_A (R141)
def AFE_SEQ_A.SLOT4 (i : Nat) : Fld := ⟨0x820 + 0x8 * i, 24, 6, 16 + 6 * i + 0, .lock⟩
def AFE_SEQ_A.SLOT3 (i : Nat) : Fld := ⟨0x820 + 0x8 * i, 18, 6, 4 * i + 3, .lock⟩
def AFE_SEQ_A.SLOT2 (i : Nat) : Fld := ⟨0x820 + 0x8 * i, 12, 6, 4 * i + 2, .lock⟩
def AFE_SEQ_A.SLOT1 (i : Nat) : Fld := ⟨0x820 + 0x8 * i, 6, 6, 4 * i + 1, .lock⟩
def AFE_SEQ_A.SLOT0 (i : Nat) : Fld := ⟨0x820 + 0x8 * i, 0, 6, 4 * i + 0, .lock⟩
-- AFE_SEQ_B (R141)
def AFE_SEQ_B.SLOT9 (i : Nat) : Fld := ⟨0x824 + 0x8 * i, 24, 6, 16 + 6 * i + 5, .lock⟩
def AFE_SEQ_B.SLOT8 (i : Nat) : Fld := ⟨0x824 + 0x8 * i, 18, 6, 16 + 6 * i + 4, .lock⟩
def AFE_SEQ_B.SLOT7 (i : Nat) : Fld := ⟨0x824 + 0x8 * i, 12, 6, 16 + 6 * i + 3, .lock⟩
def AFE_SEQ_B.SLOT6 (i : Nat) : Fld := ⟨0x824 + 0x8 * i, 6, 6, 16 + 6 * i + 2, .lock⟩
def AFE_SEQ_B.SLOT5 (i : Nat) : Fld := ⟨0x824 + 0x8 * i, 0, 6, 16 + 6 * i + 1, .lock⟩
-- AFE_AMP_CFG (R141)
def AFE_AMP_CFG.OC_HI (i : Nat) : Fld := ⟨0x840 + 0x4 * i, 24, 8, 0x7f, .rw⟩
def AFE_AMP_CFG.OC_LO (i : Nat) : Fld := ⟨0x840 + 0x4 * i, 16, 8, 0x81, .rw⟩
def AFE_AMP_CFG.OC_EN (i : Nat) : Fld := ⟨0x840 + 0x4 * i, 10, 1, 1, .rw⟩
def AFE_AMP_CFG.CAL_EN (i : Nat) : Fld := ⟨0x840 + 0x4 * i, 9, 1, 1, .rw⟩
def AFE_AMP_CFG.OC_FILT (i : Nat) : Fld := ⟨0x840 + 0x4 * i, 6, 3, 0, .rw⟩
def AFE_AMP_CFG.GAIN (i : Nat) : Fld := ⟨0x840 + 0x4 * i, 0, 3, 2, .lock⟩
-- AFE_AMP_CAL (R141)
def AFE_AMP_CAL.GAIN_CAL (i : Nat) : Fld := ⟨0x880 + 0x4 * i, 16, 16, 0x4000, .ro⟩
def AFE_AMP_CAL.OFS_CAL (i : Nat) : Fld := ⟨0x880 + 0x4 * i, 0, 16, 0, .ro⟩
-- AFE_CORE_CAL (R141)
def AFE_CORE_CAL.GAIN_CAL (i : Nat) : Fld := ⟨0x8B0 + 0x4 * i, 16, 16, 0x4000, .ro⟩
def AFE_CORE_CAL.OFS_CAL (i : Nat) : Fld := ⟨0x8B0 + 0x4 * i, 0, 16, 0, .ro⟩
-- AFE_HOSTCAL (R141)
def AFE_HOSTCAL.OFFSET (i : Nat) : Fld := ⟨0x8C0 + 0x4 * i, 0, 16, 0, .live⟩
-- AFE_CAL_CFG (R141)
def AFE_CAL_CFG.CAL_PHASE : Fld := ⟨0x8F0, 16, 16, 0xbb8, .rw⟩
def AFE_CAL_CFG.CAL_EVERY : Fld := ⟨0x8F0, 8, 8, 0xa, .rw⟩
def AFE_CAL_CFG.CAL_SHIFT : Fld := ⟨0x8F0, 4, 4, 3, .rw⟩
-- AFE_HOSTCAL_CFG (R141)
def AFE_HOSTCAL_CFG.HOSTCAL_TMO : Fld := ⟨0x8F4, 0, 16, 0x2710, .rw⟩
-- AFE_OC_STAT (R141)
def AFE_OC_STAT.OC_LIVE : Fld := ⟨0x8F8, 16, 9, 0, .ro⟩
def AFE_OC_STAT.OC : Fld := ⟨0x8F8, 0, 9, 0, .w1c⟩
-- AFE_CAL_CNT (R141)
def AFE_CAL_CNT.CAL_REJ_CNT : Fld := ⟨0x8FC, 16, 16, 0, .cnt⟩
def AFE_CAL_CNT.CAL_OK_CNT : Fld := ⟨0x8FC, 0, 16, 0, .cnt⟩
-- POS_CTRL (R166)
def POS_CTRL.XBASE : Fld := ⟨0xC00, 6, 10, 0, .lock⟩
def POS_CTRL.PORT_EN : Fld := ⟨0xC00, 0, 3, 0, .rw⟩
-- POS_STAT (R166)
def POS_STAT.SL_ERR : Fld := ⟨0xC04, 4, 1, 0, .w1c⟩
def POS_STAT.PART_LATE : Fld := ⟨0xC04, 3, 1, 0, .w1c⟩
def POS_STAT.BUSY : Fld := ⟨0xC04, 0, 3, 0, .ro⟩
-- POS_PORT_CFG (R166)
def POS_PORT_CFG.CLK_DIV (i : Nat) : Fld := ⟨0xC10 + 0x10 * i, 21, 11, 0x28, .live⟩
def POS_PORT_CFG.MODE (i : Nat) : Fld := ⟨0xC10 + 0x10 * i, 20, 1, 0, .lock⟩
def POS_PORT_CFG.GRAY (i : Nat) : Fld := ⟨0xC10 + 0x10 * i, 19, 1, 0, .lock⟩
def POS_PORT_CFG.ZCHK (i : Nat) : Fld := ⟨0xC10 + 0x10 * i, 18, 1, 1, .lock⟩
def POS_PORT_CFG.ERRBIT (i : Nat) : Fld := ⟨0xC10 + 0x10 * i, 17, 1, 0, .lock⟩
def POS_PORT_CFG.ERRPOL (i : Nat) : Fld := ⟨0xC10 + 0x10 * i, 16, 1, 0, .lock⟩
def POS_PORT_CFG.NXTRA (i : Nat) : Fld := ⟨0xC10 + 0x10 * i, 13, 3, 0, .lock⟩
def POS_PORT_CFG.MTBITS (i : Nat) : Fld := ⟨0xC10 + 0x10 * i, 8, 5, 0, .lock⟩
def POS_PORT_CFG.WLEN_M1 (i : Nat) : Fld := ⟨0xC10 + 0x10 * i, 0, 5, 0xb, .lock⟩
-- POS_PORT_TIM (R166)
def POS_PORT_TIM.RECOVERY (i : Nat) : Fld := ⟨0xC14 + 0x10 * i, 18, 14, 0x190, .lock⟩
def POS_PORT_TIM.ACK_MAX (i : Nat) : Fld := ⟨0xC14 + 0x10 * i, 12, 6, 8, .lock⟩
def POS_PORT_TIM.SETTLE (i : Nat) : Fld := ⟨0xC14 + 0x10 * i, 8, 4, 5, .lock⟩
def POS_PORT_TIM.LINE_DLY (i : Nat) : Fld := ⟨0xC14 + 0x10 * i, 0, 8, 0, .lock⟩
-- POS_PORT_STAT (R166)
def POS_PORT_STAT.SPAN (i : Nat) : Fld := ⟨0xC18 + 0x10 * i, 16, 16, 0x3d4, .ro⟩
def POS_PORT_STAT.AGE (i : Nat) : Fld := ⟨0xC18 + 0x10 * i, 0, 16, 0, .ro⟩
-- POS_PORT_CNT (R166)
def POS_PORT_CNT.TMO_CNT (i : Nat) : Fld := ⟨0xC1C + 0x10 * i, 24, 8, 0, .cnt⟩
def POS_PORT_CNT.CRC_CNT (i : Nat) : Fld := ⟨0xC1C + 0x10 * i, 16, 8, 0, .cnt⟩
def POS_PORT_CNT.ERR_CNT (i : Nat) : Fld := ⟨0xC1C + 0x10 * i, 8, 8, 0, .cnt⟩
def POS_PORT_CNT.JUMP_CNT (i : Nat) : Fld := ⟨0xC1C + 0x10 * i, 0, 8, 0, .cnt⟩
-- POS_PORT_LAST (R166)
def POS_PORT_LAST.WARN (i : Nat) : Fld := ⟨0xC40 + 0x4 * i, 3, 1, 0, .ro⟩
def POS_PORT_LAST.RESULT (i : Nat) : Fld := ⟨0xC40 + 0x4 * i, 0, 3, 7, .ro⟩
-- POS_HALL_CFG (R166)
def POS_HALL_CFG.HFILT (i : Nat) : Fld := ⟨0xC50 + 0x4 * i, 24, 8, 4, .lock⟩
def POS_HALL_CFG.MAP (i : Nat) : Fld := ⟨0xC50 + 0x4 * i, 3, 18, 0x1d850, .lock⟩
def POS_HALL_CFG.HEN (i : Nat) : Fld := ⟨0xC50 + 0x4 * i, 0, 1, 0, .rw⟩
-- POS_HALL_STAT (R166)
def POS_HALL_STAT.ILL_CNT (i : Nat) : Fld := ⟨0xC60 + 0x4 * i, 24, 8, 0, .cnt⟩
def POS_HALL_STAT.SEQ_CNT (i : Nat) : Fld := ⟨0xC60 + 0x4 * i, 16, 8, 0, .cnt⟩
def POS_HALL_STAT.ILL (i : Nat) : Fld := ⟨0xC60 + 0x4 * i, 7, 1, 0, .w1c⟩
def POS_HALL_STAT.SEQ (i : Nat) : Fld := ⟨0xC60 + 0x4 * i, 6, 1, 0, .w1c⟩
def POS_HALL_STAT.SECTOR (i : Nat) : Fld := ⟨0xC60 + 0x4 * i, 3, 3, 0, .ro⟩
def POS_HALL_STAT.CODE (i : Nat) : Fld := ⟨0xC60 + 0x4 * i, 0, 3, 0, .ro⟩
-- POS_SRC (R166)
def POS_SRC.SENS (i : Nat) : Fld := ⟨0xC80 + 0x40 * i, 30, 2, 0, .lock⟩
def POS_SRC.SENS_IDX (i : Nat) : Fld := ⟨0xC80 + 0x40 * i, 28, 2, 0, .lock⟩
def POS_SRC.OBS_EN (i : Nat) : Fld := ⟨0xC80 + 0x40 * i, 27, 1, 0, .lock⟩
def POS_SRC.PART_EN (i : Nat) : Fld := ⟨0xC80 + 0x40 * i, 26, 1, 0, .lock⟩
def POS_SRC.VOTE_PRIO (i : Nat) : Fld := ⟨0xC80 + 0x40 * i, 24, 2, 0, .lock⟩
def POS_SRC.PP (i : Nat) : Fld := ⟨0xC80 + 0x40 * i, 16, 6, 4, .lock⟩
def POS_SRC.PART_FLOW (i : Nat) : Fld := ⟨0xC80 + 0x40 * i, 8, 8, 0, .lock⟩
def POS_SRC.PART_AGE_MAX (i : Nat) : Fld := ⟨0xC80 + 0x40 * i, 0, 8, 0xc, .lock⟩
-- POS_VOTE (R166)
def POS_VOTE.VOTE_TOL (i : Nat) : Fld := ⟨0xC84 + 0x40 * i, 16, 16, 0x5b0, .lock⟩
def POS_VOTE.DIS_N (i : Nat) : Fld := ⟨0xC84 + 0x40 * i, 12, 4, 2, .lock⟩
def POS_VOTE.VOTE_M (i : Nat) : Fld := ⟨0xC84 + 0x40 * i, 4, 8, 8, .lock⟩
-- POS_OFS (R166)
def POS_OFS.SENS_OFS (i : Nat) : Fld := ⟨0xC88 + 0x40 * i, 16, 16, 0, .lock⟩
def POS_OFS.PART_OFS (i : Nat) : Fld := ⟨0xC88 + 0x40 * i, 0, 16, 0, .lock⟩
-- POS_SPD (R166)
def POS_SPD.JUMP_TOL (i : Nat) : Fld := ⟨0xC8C + 0x40 * i, 16, 16, 0, .lock⟩
def POS_SPD.SL_EXP (i : Nat) : Fld := ⟨0xC8C + 0x40 * i, 12, 4, 0, .lock⟩
def POS_SPD.SPD_SCALE (i : Nat) : Fld := ⟨0xC8C + 0x40 * i, 8, 4, 0, .lock⟩
def POS_SPD.FILT (i : Nat) : Fld := ⟨0xC8C + 0x40 * i, 4, 2, 1, .lock⟩
def POS_SPD.SHIFT (i : Nat) : Fld := ⟨0xC8C + 0x40 * i, 0, 4, 2, .lock⟩
-- POS_SOFT_MIN (R166)
def POS_SOFT_MIN.SOFT_MIN (i : Nat) : Fld := ⟨0xC90 + 0x40 * i, 0, 32, 0x80000001, .rw⟩
-- POS_SOFT_MAX (R166)
def POS_SOFT_MAX.SOFT_MAX (i : Nat) : Fld := ⟨0xC94 + 0x40 * i, 0, 32, 0x7fffffff, .rw⟩
-- POS_PMT (R166)
def POS_PMT.PMT (i : Nat) : Fld := ⟨0xC98 + 0x40 * i, 0, 32, 0, .ro⟩
-- POS_LOAD (R166)
def POS_LOAD.LOAD (i : Nat) : Fld := ⟨0xC9C + 0x40 * i, 0, 32, 0, .rw⟩
-- POS_OVT (R166)
def POS_OVT.OVT (i : Nat) : Fld := ⟨0xCA0 + 0x40 * i, 0, 32, 0, .ro⟩
-- POS_ANG (R166)
def POS_ANG.ANG (i : Nat) : Fld := ⟨0xCA4 + 0x40 * i, 0, 32, 0, .ro⟩
-- POS_SPEED (R166)
def POS_SPEED.SPEED (i : Nat) : Fld := ⟨0xCA8 + 0x40 * i, 0, 32, 0, .ro⟩
-- POS_VSTAT (R166)
def POS_VSTAT.VALID (i : Nat) : Fld := ⟨0xCAC + 0x40 * i, 24, 3, 0, .ro⟩
def POS_VSTAT.OUTL (i : Nat) : Fld := ⟨0xCAC + 0x40 * i, 20, 3, 0, .ro⟩
def POS_VSTAT.DROP (i : Nat) : Fld := ⟨0xCAC + 0x40 * i, 16, 3, 0, .ro⟩
def POS_VSTAT.PEND (i : Nat) : Fld := ⟨0xCAC + 0x40 * i, 12, 3, 0, .ro⟩
def POS_VSTAT.VSTATE (i : Nat) : Fld := ⟨0xCAC + 0x40 * i, 8, 3, 6, .ro⟩
def POS_VSTAT.REF (i : Nat) : Fld := ⟨0xCAC + 0x40 * i, 7, 1, 0, .ro⟩
def POS_VSTAT.SAT_HI (i : Nat) : Fld := ⟨0xCAC + 0x40 * i, 6, 1, 0, .ro⟩
def POS_VSTAT.SAT_LO (i : Nat) : Fld := ⟨0xCAC + 0x40 * i, 5, 1, 0, .ro⟩
def POS_VSTAT.SPREAD (i : Nat) : Fld := ⟨0xCAC + 0x40 * i, 4, 1, 0, .w1c⟩
def POS_VSTAT.NOMAJ (i : Nat) : Fld := ⟨0xCAC + 0x40 * i, 3, 1, 0, .w1c⟩
def POS_VSTAT.DIS (i : Nat) : Fld := ⟨0xCAC + 0x40 * i, 2, 1, 0, .w1c⟩
def POS_VSTAT.CHECKED (i : Nat) : Fld := ⟨0xCAC + 0x40 * i, 1, 1, 0, .ro⟩
-- POS_VCNT (R166)
def POS_VCNT.OUTL_S (i : Nat) : Fld := ⟨0xCB0 + 0x40 * i, 24, 8, 0, .cnt⟩
def POS_VCNT.OUTL_P (i : Nat) : Fld := ⟨0xCB0 + 0x40 * i, 16, 8, 0, .cnt⟩
def POS_VCNT.OUTL_O (i : Nat) : Fld := ⟨0xCB0 + 0x40 * i, 8, 8, 0, .cnt⟩
def POS_VCNT.NOMAJ_CNT (i : Nat) : Fld := ⟨0xCB0 + 0x40 * i, 0, 8, 0, .cnt⟩
-- POS_CTL (R166)
def POS_CTL.LOAD (i : Nat) : Fld := ⟨0xCB4 + 0x40 * i, 3, 1, 0, .go⟩
def POS_CTL.READMIT (i : Nat) : Fld := ⟨0xCB4 + 0x40 * i, 0, 3, 0, .go⟩
-- POS_COMM (R166)
def POS_COMM.COMM_CNT (i : Nat) : Fld := ⟨0xCB8 + 0x40 * i, 0, 32, 0, .cnt⟩
-- CTX_W0 (R174)
def CTX_W0.STATE (i : Nat) : Fld := ⟨0x1300000 + 0x40 * i, 30, 2, 1, .shd⟩
def CTX_W0.BANK (i : Nat) : Fld := ⟨0x1300000 + 0x40 * i, 29, 1, 0, .shd⟩
def CTX_W0.CMOT (i : Nat) : Fld := ⟨0x1300000 + 0x40 * i, 27, 2, 0, .lockCtx⟩
def CTX_W0.CROLE (i : Nat) : Fld := ⟨0x1300000 + 0x40 * i, 24, 3, 0, .lockCtx⟩
def CTX_W0.RDIV (i : Nat) : Fld := ⟨0x1300000 + 0x40 * i, 16, 8, 0, .lockCtx⟩
def CTX_W0.RPHASE (i : Nat) : Fld := ⟨0x1300000 + 0x40 * i, 8, 8, 0, .lockCtx⟩
def CTX_W0.LAW (i : Nat) : Fld := ⟨0x1300000 + 0x40 * i, 0, 4, 0, .lockCtx⟩
-- CTX_W1 (R174)
def CTX_W1.IN_A (i : Nat) : Fld := ⟨0x1300004 + 0x40 * i, 16, 13, 0, .lockCtx⟩
def CTX_W1.IN_B (i : Nat) : Fld := ⟨0x1300004 + 0x40 * i, 0, 13, 0, .lockCtx⟩
-- CTX_W2 (R174)
def CTX_W2.DCNT (i : Nat) : Fld := ⟨0x1300008 + 0x40 * i, 24, 8, 0, .ro⟩
def CTX_W2.RAN (i : Nat) : Fld := ⟨0x1300008 + 0x40 * i, 7, 1, 0, .ro⟩
def CTX_W2.PRE (i : Nat) : Fld := ⟨0x1300008 + 0x40 * i, 6, 1, 1, .ro⟩
def CTX_W2.WON (i : Nat) : Fld := ⟨0x1300008 + 0x40 * i, 3, 1, 0, .ro⟩
def CTX_W2.HMISS (i : Nat) : Fld := ⟨0x1300008 + 0x40 * i, 2, 1, 0, .ro⟩
def CTX_W2.SAT_HI (i : Nat) : Fld := ⟨0x1300008 + 0x40 * i, 1, 1, 0, .ro⟩
def CTX_W2.SAT_LO (i : Nat) : Fld := ⟨0x1300008 + 0x40 * i, 0, 1, 0, .ro⟩
-- CTX_W3 (R174)
def CTX_W3.U_LAST (i : Nat) : Fld := ⟨0x130000C + 0x40 * i, 0, 32, 0, .ro⟩
-- CE_PROG (R193)
def CE_PROG.BEN : Fld := ⟨0x1000, 1, 1, 0, .shd⟩
def CE_PROG.PBANK : Fld := ⟨0x1000, 0, 1, 0, .shd⟩
-- CE_STAT (R193)
def CE_STAT.B_PC : Fld := ⟨0x1004, 16, 14, 0, .ro⟩
def CE_STAT.BWR : Fld := ⟨0x1004, 4, 1, 0, .w1c⟩
def CE_STAT.BILL : Fld := ⟨0x1004, 3, 1, 0, .w1c⟩
def CE_STAT.B_HALT : Fld := ⟨0x1004, 2, 1, 0, .ro⟩
def CE_STAT.B_RUN : Fld := ⟨0x1004, 1, 1, 0, .ro⟩
def CE_STAT.T_RUN : Fld := ⟨0x1004, 0, 1, 0, .ro⟩
-- CE_XMAP (R193)
def CE_XMAP.HEN : Fld := ⟨0x1008, 16, 1, 0, .lock⟩
def CE_XMAP.BBASE : Fld := ⟨0x1008, 8, 3, 5, .lock⟩
def CE_XMAP.HBASE : Fld := ⟨0x1008, 4, 3, 6, .lock⟩
def CE_XMAP.CXBASE : Fld := ⟨0x1008, 0, 3, 7, .lock⟩
-- CE_MODE (R193)
def CE_MODE.GRACE : Fld := ⟨0x100C, 20, 10, 0, .shd⟩
def CE_MODE.HOST_AGE : Fld := ⟨0x100C, 16, 4, 0, .shd⟩
def CE_MODE.AFECAL_H : Fld := ⟨0x100C, 15, 1, 0, .shd⟩
def CE_MODE.ROUTE_H : Fld := ⟨0x100C, 14, 1, 0, .shd⟩
def CE_MODE.FR_F2_H : Fld := ⟨0x100C, 13, 1, 0, .shd⟩
def CE_MODE.FR_F1_H : Fld := ⟨0x100C, 12, 1, 0, .shd⟩
def CE_MODE.START_H : Fld := ⟨0x100C, 8, 3, 0, .shd⟩
def CE_MODE.ANG_H : Fld := ⟨0x100C, 0, 3, 0, .shd⟩
-- CE_MODE_SPH (R193)
def CE_MODE_SPH.SPH (i : Nat) : Fld := ⟨0x1010 + 0x4 * i, 0, 32, 0, .shd⟩
-- CE_CTX_MASK (R193)
def CE_CTX_MASK.MASK (i : Nat) : Fld := ⟨0x1020 + 0x4 * i, 0, 32, 0, .shd⟩
-- CE_COMP (R193)
def CE_COMP.CEN (i : Nat) : Fld := ⟨0x1030 + 0x4 * i, 31, 1, 0, .lock⟩
def CE_COMP.PRI_X (i : Nat) : Fld := ⟨0x1030 + 0x4 * i, 30, 1, 0, .lock⟩
def CE_COMP.PRI_IDX (i : Nat) : Fld := ⟨0x1030 + 0x4 * i, 16, 13, 0, .lock⟩
def CE_COMP.OUT_IDX (i : Nat) : Fld := ⟨0x1030 + 0x4 * i, 0, 13, 0, .lock⟩
-- CE_WIN (R193)
def CE_WIN.WIN (i : Nat) : Fld := ⟨0x1040 + 0x4 * i, 24, 8, 0xff, .ro⟩
def CE_WIN.WIN_CHG (i : Nat) : Fld := ⟨0x1040 + 0x4 * i, 0, 16, 0, .cnt⟩
-- CE_HOST_STAT (R193)
def CE_HOST_STAT.MISS_CTX : Fld := ⟨0x1050, 24, 7, 0, .ro⟩
def CE_HOST_STAT.CTX_MISS : Fld := ⟨0x1050, 3, 1, 0, .w1c⟩
def CE_HOST_STAT.ANG_MISS : Fld := ⟨0x1050, 0, 3, 0, .w1c⟩
-- CE_HOST_CNT (R193)
def CE_HOST_CNT.ANG_MISS_CNT : Fld := ⟨0x1054, 16, 16, 0, .cnt⟩
def CE_HOST_CNT.CTX_MISS_CNT : Fld := ⟨0x1054, 0, 16, 0, .cnt⟩
-- CE_CTX_STAT (R193)
def CE_CTX_STAT.STRUCT_CTX : Fld := ⟨0x1058, 8, 7, 0, .ro⟩
def CE_CTX_STAT.STRUCT_IGN : Fld := ⟨0x1058, 0, 1, 0, .w1c⟩
-- CE_BCTL (R229)
def CE_BCTL.PP_WIN : Fld := ⟨0x1060, 0, 8, 0, .rw⟩
-- CE_PSTAT (R229)
def CE_PSTAT.PPSTOP : Fld := ⟨0x1064, 4, 1, 0, .ro⟩
def CE_PSTAT.LATEWB : Fld := ⟨0x1064, 3, 1, 0, .w1c⟩
def CE_PSTAT.YCTX : Fld := ⟨0x1064, 2, 1, 0, .w1c⟩
def CE_PSTAT.BTAGC : Fld := ⟨0x1064, 1, 1, 0, .w1c⟩
def CE_PSTAT.BHOLD : Fld := ⟨0x1064, 0, 1, 0, .ro⟩
-- CE_ISSUE (R229)
def CE_ISSUE.ISSUE_A : Fld := ⟨0x1068, 16, 16, 0, .ro⟩
def CE_ISSUE.ISSUE_ERR_CNT : Fld := ⟨0x1068, 0, 16, 0, .cnt⟩
-- CE_MEMERR (R229)
def CE_MEMERR.PM_CORR : Fld := ⟨0x106C, 24, 8, 0, .cnt⟩
def CE_MEMERR.X_CORR : Fld := ⟨0x106C, 16, 8, 0, .cnt⟩
def CE_MEMERR.Y_CORR : Fld := ⟨0x106C, 8, 8, 0, .cnt⟩
def CE_MEMERR.PM_DED : Fld := ⟨0x106C, 2, 1, 0, .w1c⟩
def CE_MEMERR.X_DED : Fld := ⟨0x106C, 1, 1, 0, .w1c⟩
def CE_MEMERR.Y_DED : Fld := ⟨0x106C, 0, 1, 0, .w1c⟩
-- CE_ILL_INFO (R251)
def CE_ILL_INFO.STREAM : Fld := ⟨0x1070, 30, 2, 0, .ro⟩
def CE_ILL_INFO.PC : Fld := ⟨0x1070, 16, 14, 0, .ro⟩
def CE_ILL_INFO.ILL_CODE : Fld := ⟨0x1070, 8, 8, 0, .ro⟩
def CE_ILL_INFO.ILL_B : Fld := ⟨0x1070, 1, 1, 0, .w1c⟩
def CE_ILL_INFO.ILL_T : Fld := ⟨0x1070, 0, 1, 0, .w1c⟩
-- CE_ILL_CNT (R251)
def CE_ILL_CNT.ILL_T_CNT : Fld := ⟨0x1074, 16, 16, 0, .cnt⟩
def CE_ILL_CNT.ILL_B_CNT : Fld := ⟨0x1074, 0, 16, 0, .cnt⟩
-- CE_TR_CFG (R271)
def CE_TR_CFG.TR_N : Fld := ⟨0x1100, 16, 4, 3, .tmr⟩
def CE_TR_CFG.TR_W : Fld := ⟨0x1100, 0, 16, 0x2710, .tmr⟩
-- CE_TR_STAT (R271)
def CE_TR_STAT.WIN_CNT : Fld := ⟨0x1104, 24, 4, 0, .ro⟩
def CE_TR_STAT.BROKEN : Fld := ⟨0x1104, 8, 1, 0, .ro⟩
def CE_TR_STAT.CMPDIS : Fld := ⟨0x1104, 7, 1, 0, .w1c⟩
def CE_TR_STAT.KAT_FAIL : Fld := ⟨0x1104, 6, 1, 0, .w1c⟩
def CE_TR_STAT.LASTING : Fld := ⟨0x1104, 5, 1, 0, .w1c⟩
def CE_TR_STAT.TAGC : Fld := ⟨0x1104, 4, 1, 0, .w1c⟩
def CE_TR_STAT.XMIN : Fld := ⟨0x1104, 3, 1, 0, .w1c⟩
def CE_TR_STAT.MM : Fld := ⟨0x1104, 2, 1, 0, .w1c⟩
def CE_TR_STAT.KAT_LAST : Fld := ⟨0x1104, 0, 2, 0, .ro⟩
-- CE_TR_CNT (R271)
def CE_TR_CNT.MM_CNT : Fld := ⟨0x1108, 16, 16, 0, .cnt⟩
def CE_TR_CNT.KAT_PASS_CNT : Fld := ⟨0x1108, 0, 16, 0, .cnt⟩
-- CE_TR_INFO (R271)
def CE_TR_INFO.CMP : Fld := ⟨0x110C, 30, 2, 0, .ro⟩
def CE_TR_INFO.BIDX : Fld := ⟨0x110C, 16, 14, 0, .ro⟩
def CE_TR_INFO.KATF : Fld := ⟨0x110C, 15, 1, 0, .ro⟩
def CE_TR_INFO.SLOT : Fld := ⟨0x110C, 12, 3, 0, .ro⟩
def CE_TR_INFO.KIND : Fld := ⟨0x110C, 8, 4, 0, .ro⟩
def CE_TR_INFO.DEST : Fld := ⟨0x110C, 0, 5, 0, .ro⟩
-- CE_TR_DA (R271)
def CE_TR_DA.DA : Fld := ⟨0x1110, 0, 32, 0, .ro⟩
-- CE_TR_DB (R271)
def CE_TR_DB.DB : Fld := ⟨0x1114, 0, 32, 0, .ro⟩
-- CE_TR_TICK (R271)
def CE_TR_TICK.MM_TICK : Fld := ⟨0x1118, 0, 32, 0, .ro⟩
-- CE_TR_KAT (R271)
def CE_TR_KAT.KAT_BIDX : Fld := ⟨0x111C, 16, 8, 0, .ro⟩
def CE_TR_KAT.KAT_REASON : Fld := ⟨0x111C, 0, 3, 0, .ro⟩
-- FIELD_CTRL (R303)
def FIELD_CTRL.EN (i : Nat) : Fld := ⟨0x1800 + 0x100 * i, 31, 1, 0, .rw⟩
def FIELD_CTRL.DIR (i : Nat) : Fld := ⟨0x1800 + 0x100 * i, 30, 1, 0, .rw⟩
def FIELD_CTRL.SMETH (i : Nat) : Fld := ⟨0x1800 + 0x100 * i, 28, 2, 1, .lock⟩
def FIELD_CTRL.DTC_EN (i : Nat) : Fld := ⟨0x1800 + 0x100 * i, 27, 1, 1, .rw⟩
def FIELD_CTRL.LOCK_EN (i : Nat) : Fld := ⟨0x1800 + 0x100 * i, 26, 1, 1, .rw⟩
def FIELD_CTRL.CUT_IDLE (i : Nat) : Fld := ⟨0x1800 + 0x100 * i, 25, 1, 0, .rw⟩
def FIELD_CTRL.XBASE (i : Nat) : Fld := ⟨0x1800 + 0x100 * i, 6, 10, 0, .lock⟩
-- FIELD_STAT (R303)
def FIELD_STAT.STATE (i : Nat) : Fld := ⟨0x1804 + 0x100 * i, 28, 4, 0, .ro⟩
def FIELD_STAT.RETRY (i : Nat) : Fld := ⟨0x1804 + 0x100 * i, 24, 4, 0, .ro⟩
def FIELD_STAT.CATCH_RES (i : Nat) : Fld := ⟨0x1804 + 0x100 * i, 22, 2, 0, .ro⟩
def FIELD_STAT.START_FAIL (i : Nat) : Fld := ⟨0x1804 + 0x100 * i, 7, 1, 0, .w1c⟩
def FIELD_STAT.REFUSED (i : Nat) : Fld := ⟨0x1804 + 0x100 * i, 6, 1, 0, .w1c⟩
def FIELD_STAT.HSTEP_MISS (i : Nat) : Fld := ⟨0x1804 + 0x100 * i, 5, 1, 0, .w1c⟩
def FIELD_STAT.CFG_ERR (i : Nat) : Fld := ⟨0x1804 + 0x100 * i, 4, 1, 0, .ro⟩
def FIELD_STAT.LOCK (i : Nat) : Fld := ⟨0x1804 + 0x100 * i, 3, 1, 0, .w1c⟩
def FIELD_STAT.XREC (i : Nat) : Fld := ⟨0x1804 + 0x100 * i, 2, 1, 0, .w1c⟩
def FIELD_STAT.VSAT (i : Nat) : Fld := ⟨0x1804 + 0x100 * i, 1, 1, 0, .w1c⟩
def FIELD_STAT.OVM (i : Nat) : Fld := ⟨0x1804 + 0x100 * i, 0, 1, 0, .w1c⟩
-- FIELD_LIM0 (R303)
def FIELD_LIM0.IQ_MAX (i : Nat) : Fld := ⟨0x1808 + 0x100 * i, 16, 16, 0x4000, .shd⟩
def FIELD_LIM0.ID_MIN (i : Nat) : Fld := ⟨0x1808 + 0x100 * i, 0, 16, 0xc000, .shd⟩
-- FIELD_LIM1 (R303)
def FIELD_LIM1.VLIM (i : Nat) : Fld := ⟨0x180C + 0x100 * i, 16, 16, 0x6ed9, .shd⟩
def FIELD_LIM1.SPD_MAX (i : Nat) : Fld := ⟨0x180C + 0x100 * i, 0, 16, 0x7fff, .shd⟩
-- FIELD_SHARE (R303)
def FIELD_SHARE.SRC (i : Nat) : Fld := ⟨0x1810 + 0x100 * i, 30, 2, 0, .lock⟩
def FIELD_SHARE.REQ_EN (i : Nat) : Fld := ⟨0x1810 + 0x100 * i, 29, 1, 0, .lock⟩
def FIELD_SHARE.SHARE_FLOW (i : Nat) : Fld := ⟨0x1810 + 0x100 * i, 16, 8, 0, .lock⟩
def FIELD_SHARE.SPLIT_NOM (i : Nat) : Fld := ⟨0x1810 + 0x100 * i, 0, 16, 0x8000, .lock⟩
-- FIELD_SHARE2 (R303)
def FIELD_SHARE2.SPLIT_RATE (i : Nat) : Fld := ⟨0x1814 + 0x100 * i, 16, 16, 0x100, .lock⟩
def FIELD_SHARE2.SHARE_AGE_MAX (i : Nat) : Fld := ⟨0x1814 + 0x100 * i, 8, 8, 4, .lock⟩
-- FIELD_DTC (R303)
def FIELD_DTC.DTC_EXTRA (i : Nat) : Fld := ⟨0x1818 + 0x100 * i, 24, 8, 0, .rw⟩
def FIELD_DTC.DTC_BAND (i : Nat) : Fld := ⟨0x1818 + 0x100 * i, 8, 16, 0x200, .rw⟩
def FIELD_DTC.MINP (i : Nat) : Fld := ⟨0x1818 + 0x100 * i, 0, 8, 0x28, .rw⟩
-- FIELD_CATCH (R303)
def FIELD_CATCH.CATCH_T (i : Nat) : Fld := ⟨0x181C + 0x100 * i, 24, 8, 0x14, .lock⟩
def FIELD_CATCH.BUS_RISE (i : Nat) : Fld := ⟨0x181C + 0x100 * i, 16, 8, 8, .lock⟩
def FIELD_CATCH.CATCH_LOW (i : Nat) : Fld := ⟨0x181C + 0x100 * i, 0, 16, 0x40, .lock⟩
-- FIELD_BRK (R303)
def FIELD_BRK.BRK_ILIM (i : Nat) : Fld := ⟨0x1820 + 0x100 * i, 16, 16, 0x6000, .lock⟩
def FIELD_BRK.BRK_OFF (i : Nat) : Fld := ⟨0x1820 + 0x100 * i, 8, 8, 0x14, .lock⟩
def FIELD_BRK.BRK_SEG (i : Nat) : Fld := ⟨0x1820 + 0x100 * i, 0, 8, 0xa, .lock⟩
-- FIELD_LOCK (R303)
def FIELD_LOCK.LOCK_T (i : Nat) : Fld := ⟨0x1824 + 0x100 * i, 21, 11, 0xc8, .lock⟩
def FIELD_LOCK.LOCK_IQ (i : Nat) : Fld := ⟨0x1824 + 0x100 * i, 0, 16, 0x1000, .lock⟩
-- FIELD_PULSE (R303)
def FIELD_PULSE.PULSE_T (i : Nat) : Fld := ⟨0x1828 + 0x100 * i, 24, 8, 0x32, .lock⟩
def FIELD_PULSE.START_BACK (i : Nat) : Fld := ⟨0x1828 + 0x100 * i, 16, 8, 0x20, .lock⟩
def FIELD_PULSE.PULSE_MIN (i : Nat) : Fld := ⟨0x1828 + 0x100 * i, 8, 8, 8, .lock⟩
def FIELD_PULSE.START_RETRY (i : Nat) : Fld := ⟨0x1828 + 0x100 * i, 4, 4, 3, .lock⟩
-- FIELD_ALIGN (R303)
def FIELD_ALIGN.ALIGN_ANG (i : Nat) : Fld := ⟨0x182C + 0x100 * i, 16, 16, 0, .lock⟩
def FIELD_ALIGN.ALIGN_T (i : Nat) : Fld := ⟨0x182C + 0x100 * i, 8, 8, 0x14, .lock⟩
-- FIELD_IREF (R303)
def FIELD_IREF.ALIGN_I (i : Nat) : Fld := ⟨0x1830 + 0x100 * i, 16, 16, 0x2000, .lock⟩
def FIELD_IREF.RAMP_I (i : Nat) : Fld := ⟨0x1830 + 0x100 * i, 0, 16, 0x2000, .lock⟩
-- FIELD_RAMP (R303)
def FIELD_RAMP.RAMP_ACC (i : Nat) : Fld := ⟨0x1834 + 0x100 * i, 16, 16, 0x219, .lock⟩
def FIELD_RAMP.RAMP_SPD (i : Nat) : Fld := ⟨0x1834 + 0x100 * i, 0, 16, 0x83, .lock⟩
-- FIELD_HAND (R303)
def FIELD_HAND.HANDOVER_SPD (i : Nat) : Fld := ⟨0x1838 + 0x100 * i, 16, 16, 0x57, .lock⟩
def FIELD_HAND.HANDOVER_TOL (i : Nat) : Fld := ⟨0x1838 + 0x100 * i, 8, 8, 0x40, .lock⟩
def FIELD_HAND.START_TMO (i : Nat) : Fld := ⟨0x1838 + 0x100 * i, 0, 8, 0x32, .lock⟩
-- FIELD_CTX (R303)
def FIELD_CTX.CTXP_EN (i : Nat) : Fld := ⟨0x183C + 0x100 * i, 31, 1, 0, .lock⟩
def FIELD_CTX.DCTX (i : Nat) : Fld := ⟨0x183C + 0x100 * i, 24, 7, 0, .lock⟩
def FIELD_CTX.QCTX (i : Nat) : Fld := ⟨0x183C + 0x100 * i, 16, 7, 0, .lock⟩
def FIELD_CTX.SCTX (i : Nat) : Fld := ⟨0x183C + 0x100 * i, 8, 7, 0, .lock⟩
-- FIELD_HSTEP (R303)
def FIELD_HSTEP.KIND (i : Nat) : Fld := ⟨0x1840 + 0x100 * i, 28, 4, 0, .rw⟩
def FIELD_HSTEP.DUR (i : Nat) : Fld := ⟨0x1840 + 0x100 * i, 16, 12, 0, .rw⟩
def FIELD_HSTEP.PARAM (i : Nat) : Fld := ⟨0x1840 + 0x100 * i, 0, 16, 0, .rw⟩
-- FIELD_DUTY (R303)
def FIELD_DUTY.DU (i : Nat) : Fld := ⟨0x1844 + 0x100 * i, 20, 10, 0, .ro⟩
def FIELD_DUTY.DV (i : Nat) : Fld := ⟨0x1844 + 0x100 * i, 10, 10, 0, .ro⟩
def FIELD_DUTY.DW (i : Nat) : Fld := ⟨0x1844 + 0x100 * i, 0, 10, 0, .ro⟩
-- FIELD_CNT (R303)
def FIELD_CNT.START_FAIL_CNT (i : Nat) : Fld := ⟨0x1848 + 0x100 * i, 24, 8, 0, .cnt⟩
def FIELD_CNT.REFUSE_CNT (i : Nat) : Fld := ⟨0x1848 + 0x100 * i, 16, 8, 0, .cnt⟩
def FIELD_CNT.LOCK_CNT (i : Nat) : Fld := ⟨0x1848 + 0x100 * i, 8, 8, 0, .cnt⟩
def FIELD_CNT.SPLIT_HOLD_CNT (i : Nat) : Fld := ⟨0x1848 + 0x100 * i, 0, 8, 0, .cnt⟩
-- GD_CHOP (R334)
def GD_CHOP.CHOP_IMIN : Fld := ⟨0x1C00, 24, 8, 0x14, .rw⟩
def GD_CHOP.CHOP_TMAX : Fld := ⟨0x1C00, 16, 8, 0x32, .rw⟩
def GD_CHOP.CHOP_HYST : Fld := ⟨0x1C00, 8, 8, 0x14, .rw⟩
def GD_CHOP.CHOP_EN : Fld := ⟨0x1C00, 0, 1, 1, .rw⟩
-- GD_OV0 (R334)
def GD_OV0.OV_LIM : Fld := ⟨0x1C04, 16, 12, 0x8c0, .tmr⟩
def GD_OV0.OV_CHOP : Fld := ⟨0x1C04, 0, 12, 0x870, .tmr⟩
-- GD_OV1 (R334)
def GD_OV1.OV_ABS : Fld := ⟨0x1C08, 16, 12, 0xa00, .tmr⟩
def GD_OV1.OV_SHORT : Fld := ⟨0x1C08, 0, 12, 0x960, .tmr⟩
-- GD_OV2 (R334)
def GD_OV2.BUS_XIDX : Fld := ⟨0x1C0C, 16, 13, 0, .lock⟩
def GD_OV2.OV_SHORT_N : Fld := ⟨0x1C0C, 8, 4, 2, .tmr⟩
def GD_OV2.OV_REL : Fld := ⟨0x1C0C, 0, 8, 8, .tmr⟩
-- GD_STAT (R334)
def GD_STAT.OVABS_ACT : Fld := ⟨0x1C10, 11, 1, 0, .ro⟩
def GD_STAT.OVS_ACT : Fld := ⟨0x1C10, 10, 1, 0, .ro⟩
def GD_STAT.OV_LIM_ACT : Fld := ⟨0x1C10, 9, 1, 0, .ro⟩
def GD_STAT.CHOP_ON : Fld := ⟨0x1C10, 8, 1, 0, .ro⟩
def GD_STAT.CHOP_I : Fld := ⟨0x1C10, 7, 1, 0, .ro⟩
def GD_STAT.CP_OK : Fld := ⟨0x1C10, 3, 1, 0, .ro⟩
-- GD_EVT (R334)
def GD_EVT.SLVDS : Fld := ⟨0x1C14, 6, 1, 0, .w1c⟩
def GD_EVT.OVABS : Fld := ⟨0x1C14, 5, 1, 0, .w1c⟩
def GD_EVT.OVS : Fld := ⟨0x1C14, 4, 1, 0, .w1c⟩
def GD_EVT.CHOT : Fld := ⟨0x1C14, 3, 1, 0, .w1c⟩
def GD_EVT.CHS : Fld := ⟨0x1C14, 2, 1, 0, .w1c⟩
def GD_EVT.CHO : Fld := ⟨0x1C14, 1, 1, 0, .w1c⟩
def GD_EVT.CP : Fld := ⟨0x1C14, 0, 1, 0, .w1c⟩
-- GD_SLUICE (R334)
def GD_SLUICE.HS_CMD : Fld := ⟨0x1C18, 3, 1, 0, .roTmr⟩
def GD_SLUICE.HS_ON : Fld := ⟨0x1C18, 2, 1, 0, .ro⟩
def GD_SLUICE.LS_CMD : Fld := ⟨0x1C18, 1, 1, 0, .roTmr⟩
def GD_SLUICE.LS_ON : Fld := ⟨0x1C18, 0, 1, 0, .ro⟩
-- GD_SLCFG (R334)
def GD_SLCFG.SL_VDS_ON : Fld := ⟨0x1C1C, 24, 8, 0x32, .tmr⟩
def GD_SLCFG.SL_DV : Fld := ⟨0x1C1C, 16, 8, 0x14, .tmr⟩
def GD_SLCFG.SL_DIS_T : Fld := ⟨0x1C1C, 8, 8, 0x64, .tmr⟩
def GD_SLCFG.SL_IG : Fld := ⟨0x1C1C, 4, 4, 3, .tmr⟩
-- GD_SLTEST (R334)
def GD_SLTEST.TEST_CNT : Fld := ⟨0x1C20, 16, 16, 0, .cnt⟩
def GD_SLTEST.STEP : Fld := ⟨0x1C20, 12, 4, 0, .ro⟩
def GD_SLTEST.RESULT : Fld := ⟨0x1C20, 0, 3, 7, .ro⟩
-- GD_CNT (R334)
def GD_CNT.CHO_CNT : Fld := ⟨0x1C24, 24, 8, 0, .cnt⟩
def GD_CNT.CHOT_CNT : Fld := ⟨0x1C24, 16, 8, 0, .cnt⟩
def GD_CNT.OVS_CNT : Fld := ⟨0x1C24, 8, 8, 0, .cnt⟩
def GD_CNT.OVABS_CNT : Fld := ⟨0x1C24, 0, 8, 0, .cnt⟩
-- GD_TEST (R334)
def GD_TEST.FORCE : Fld := ⟨0x1C28, 0, 18, 0, .live⟩
-- GD_BENCH (R334)
def GD_BENCH.HS_DIS : Fld := ⟨0x1C2C, 0, 3, 0, .live⟩
-- GDM_DEAD (R334)
def GDM_DEAD.HS_TMO (i : Nat) : Fld := ⟨0x1D00 + 0x100 * i, 24, 8, 0xa, .shd⟩
def GDM_DEAD.HS_VTH (i : Nat) : Fld := ⟨0x1D00 + 0x100 * i, 16, 4, 4, .shd⟩
def GDM_DEAD.DT (i : Nat) : Fld := ⟨0x1D00 + 0x100 * i, 0, 10, 0x28, .shd⟩
-- GDM_SLEW (R334)
def GDM_SLEW.FOFF (i : Nat) : Fld := ⟨0x1D04 + 0x100 * i, 31, 1, 0, .rw⟩
def GDM_SLEW.SLEW_GLW (i : Nat) : Fld := ⟨0x1D04 + 0x100 * i, 15, 3, 3, .live⟩
def GDM_SLEW.SLEW_GHW (i : Nat) : Fld := ⟨0x1D04 + 0x100 * i, 12, 3, 3, .live⟩
def GDM_SLEW.SLEW_GLV (i : Nat) : Fld := ⟨0x1D04 + 0x100 * i, 9, 3, 3, .live⟩
def GDM_SLEW.SLEW_GHV (i : Nat) : Fld := ⟨0x1D04 + 0x100 * i, 6, 3, 3, .live⟩
def GDM_SLEW.SLEW_GLU (i : Nat) : Fld := ⟨0x1D04 + 0x100 * i, 3, 3, 3, .live⟩
def GDM_SLEW.SLEW_GHU (i : Nat) : Fld := ⟨0x1D04 + 0x100 * i, 0, 3, 3, .live⟩
-- GDM_MON (R334)
def GDM_MON.VDS_TH (i : Nat) : Fld := ⟨0x1D08 + 0x100 * i, 28, 4, 7, .rw⟩
def GDM_MON.VDS_BLANK (i : Nat) : Fld := ⟨0x1D08 + 0x100 * i, 24, 4, 5, .rw⟩
def GDM_MON.VDS_FILT (i : Nat) : Fld := ⟨0x1D08 + 0x100 * i, 21, 3, 1, .rw⟩
def GDM_MON.BS_UV (i : Nat) : Fld := ⟨0x1D08 + 0x100 * i, 16, 3, 3, .rw⟩
def GDM_MON.DUTY_REFRESH_MAX (i : Nat) : Fld := ⟨0x1D08 + 0x100 * i, 6, 10, 0x3ca, .rw⟩
-- GDM_CUT (R334)
def GDM_CUT.CUT_ILIM (i : Nat) : Fld := ⟨0x1D0C + 0x100 * i, 16, 16, 0x400, .rw⟩
def GDM_CUT.CUT_DLY (i : Nat) : Fld := ⟨0x1D0C + 0x100 * i, 8, 8, 0x14, .rw⟩
-- GDM_STAT (R334)
def GDM_STAT.GON (i : Nat) : Fld := ⟨0x1D10 + 0x100 * i, 24, 6, 0, .ro⟩
def GDM_STAT.VDS_LIVE (i : Nat) : Fld := ⟨0x1D10 + 0x100 * i, 16, 6, 0, .ro⟩
def GDM_STAT.BSUV_LIVE (i : Nat) : Fld := ⟨0x1D10 + 0x100 * i, 12, 3, 0, .ro⟩
def GDM_STAT.CUT_ON (i : Nat) : Fld := ⟨0x1D10 + 0x100 * i, 8, 3, 0, .ro⟩
-- GDM_EVT (R334)
def GDM_EVT.VDS (i : Nat) : Fld := ⟨0x1D14 + 0x100 * i, 24, 6, 0, .w1c⟩
def GDM_EVT.HS (i : Nat) : Fld := ⟨0x1D14 + 0x100 * i, 16, 6, 0, .w1c⟩
def GDM_EVT.BSUV (i : Nat) : Fld := ⟨0x1D14 + 0x100 * i, 12, 3, 0, .w1c⟩
def GDM_EVT.CUT (i : Nat) : Fld := ⟨0x1D14 + 0x100 * i, 8, 3, 0, .w1c⟩
def GDM_EVT.CUT_FORCED (i : Nat) : Fld := ⟨0x1D14 + 0x100 * i, 4, 3, 0, .w1c⟩
def GDM_EVT.XCMD (i : Nat) : Fld := ⟨0x1D14 + 0x100 * i, 0, 3, 0, .w1c⟩
-- GDM_CNT (R334)
def GDM_CNT.HS_LATE_CNT (i : Nat) : Fld := ⟨0x1D18 + 0x100 * i, 16, 16, 0, .cnt⟩
def GDM_CNT.VDS_CNT (i : Nat) : Fld := ⟨0x1D18 + 0x100 * i, 8, 8, 0, .cnt⟩
def GDM_CNT.XCMD_CNT (i : Nat) : Fld := ⟨0x1D18 + 0x100 * i, 0, 8, 0, .cnt⟩
-- FC_STAT (R362)
def FC_STAT.FX : Fld := ⟨0x2000, 15, 1, 0, .ro⟩
def FC_STAT.LOCKOUT : Fld := ⟨0x2000, 14, 1, 0, .ro⟩
def FC_STAT.SAFE : Fld := ⟨0x2000, 13, 1, 0, .ro⟩
def FC_STAT.HPEND : Fld := ⟨0x2000, 12, 1, 0, .ro⟩
def FC_STAT.QUIET : Fld := ⟨0x2000, 11, 1, 0, .ro⟩
def FC_STAT.TOP : Fld := ⟨0x2000, 8, 3, 0, .ro⟩
def FC_STAT.ALIVE_RUN : Fld := ⟨0x2000, 1, 1, 0, .ro⟩
def FC_STAT.FAULT : Fld := ⟨0x2000, 0, 1, 1, .ro⟩
-- FC_FIRST (R362)
def FC_FIRST.VALID : Fld := ⟨0x2004, 31, 1, 0, .ro⟩
def FC_FIRST.OVF : Fld := ⟨0x2004, 30, 1, 0, .ro⟩
def FC_FIRST.CLASS : Fld := ⟨0x2004, 28, 2, 0, .ro⟩
def FC_FIRST.INST : Fld := ⟨0x2004, 16, 5, 0, .ro⟩
def FC_FIRST.SRC : Fld := ⟨0x2004, 8, 7, 0, .ro⟩
def FC_FIRST.REACT : Fld := ⟨0x2004, 0, 3, 0, .ro⟩
-- FC_FIRST_T (R362)
def FC_FIRST_T.TICK : Fld := ⟨0x2008, 0, 32, 0, .ro⟩
-- FC_FIRST_C (R362)
def FC_FIRST_C.OVF_CNT : Fld := ⟨0x200C, 16, 16, 0, .cnt⟩
def FC_FIRST_C.CEC : Fld := ⟨0x200C, 0, 16, 0, .ro⟩
-- FC_CTRL (R362)
def FC_CTRL.HFLOW : Fld := ⟨0x2010, 24, 8, 0, .rw⟩
def FC_CTRL.FN_LEVEL : Fld := ⟨0x2010, 8, 3, 4, .rw⟩
def FC_CTRL.FIRST_CLR : Fld := ⟨0x2010, 0, 1, 0, .go⟩
-- FC_REC0 (R362)
def FC_REC0.FC_QUIET : Fld := ⟨0x2014, 0, 14, 0x32, .tmr⟩
-- FC_REC1 (R362)
def FC_REC1.REC_MAX : Fld := ⟨0x2018, 16, 4, 3, .tmr⟩
def FC_REC1.REC_WIN : Fld := ⟨0x2018, 0, 10, 0xa, .tmr⟩
-- FC_REC_STAT (R362)
def FC_REC_STAT.REC_CNT : Fld := ⟨0x201C, 16, 16, 0, .cnt⟩
def FC_REC_STAT.WIN_REC : Fld := ⟨0x201C, 0, 4, 0, .ro⟩
-- FC_MSAFE (R362)
def FC_MSAFE.SS_M2 : Fld := ⟨0x2020, 4, 2, 0, .tmr⟩
def FC_MSAFE.SS_M1 : Fld := ⟨0x2020, 2, 2, 0, .tmr⟩
def FC_MSAFE.SS_M0 : Fld := ⟨0x2020, 0, 2, 0, .tmr⟩
-- FC_ACT (R362)
def FC_ACT.ACT (i : Nat) : Fld := ⟨0x2030 + 0x4 * i, 0, 32, 0, .ro⟩
-- FC_EVT (R362)
def FC_EVT.EVT (i : Nat) : Fld := ⟨0x2040 + 0x4 * i, 0, 32, 0, .w1c⟩
-- FC_MOT (R362)
def FC_MOT.MOT2 : Fld := ⟨0x2050, 20, 10, 0x200, .ro⟩
def FC_MOT.MOT1 : Fld := ⟨0x2050, 10, 10, 0x200, .ro⟩
def FC_MOT.MOT0 : Fld := ⟨0x2050, 0, 10, 0x200, .ro⟩
-- FC_HREQ (R362)
def FC_HREQ.PEND : Fld := ⟨0x2060, 31, 1, 0, .ro⟩
def FC_HREQ.SRC : Fld := ⟨0x2060, 24, 7, 0, .ro⟩
def FC_HREQ.INST : Fld := ⟨0x2060, 19, 5, 0, .ro⟩
def FC_HREQ.REACT : Fld := ⟨0x2060, 16, 3, 0, .ro⟩
def FC_HREQ.SEQ : Fld := ⟨0x2060, 0, 8, 0, .ro⟩
-- FC_HANS (R362)
def FC_HANS.REACT : Fld := ⟨0x2064, 8, 3, 0, .rw⟩
def FC_HANS.SEQ : Fld := ⟨0x2064, 0, 8, 0, .rw⟩
-- FC_HCNT (R362)
def FC_HCNT.ANS : Fld := ⟨0x2068, 24, 8, 0, .cnt⟩
def FC_HCNT.TMO : Fld := ⟨0x2068, 16, 8, 0, .cnt⟩
def FC_HCNT.BAD : Fld := ⟨0x2068, 8, 8, 0, .cnt⟩
def FC_HCNT.BUSY : Fld := ⟨0x2068, 0, 8, 0, .cnt⟩
-- FC_RESTART (R362)
def FC_RESTART.REJ_CNT : Fld := ⟨0x206C, 16, 16, 0, .cnt⟩
def FC_RESTART.HIGH_MS : Fld := ⟨0x206C, 0, 12, 0, .ro⟩
-- FC_REACT (R362)
def FC_REACT.REACT_L (i : Nat) : Fld := ⟨0x2100 + 0x4 * i, 24, 3, reactDefault i, .tmr⟩
def FC_REACT.REACT_T (i : Nat) : Fld := ⟨0x2100 + 0x4 * i, 20, 3, 0, .tmr⟩
def FC_REACT.CNT_N (i : Nat) : Fld := ⟨0x2100 + 0x4 * i, 16, 4, countDefault i, .tmr⟩
def FC_REACT.CNT_W (i : Nat) : Fld := ⟨0x2100 + 0x4 * i, 4, 12, 0x64, .tmr⟩
def FC_REACT.DFACT (i : Nat) : Fld := ⟨0x2100 + 0x4 * i, 0, 4, 8, .tmr⟩
-- SAFE_RSTAT (R392)
def SAFE_RSTAT.PRSTATE : Fld := ⟨0x2400, 16, 3, 4, .ro⟩
def SAFE_RSTAT.LIMP_RUN : Fld := ⟨0x2400, 8, 1, 0, .ro⟩
def SAFE_RSTAT.BLIND : Fld := ⟨0x2400, 7, 1, 0, .ro⟩
def SAFE_RSTAT.PART_IN : Fld := ⟨0x2400, 6, 1, 0, .ro⟩
def SAFE_RSTAT.PA_ALIVE : Fld := ⟨0x2400, 5, 1, 0, .ro⟩
def SAFE_RSTAT.FAB_ALIVE : Fld := ⟨0x2400, 4, 1, 0, .ro⟩
def SAFE_RSTAT.LINK_UP : Fld := ⟨0x2400, 3, 1, 0, .ro⟩
def SAFE_RSTAT.RSTATE : Fld := ⟨0x2400, 0, 3, 4, .ro⟩
-- SAFE_REVT (R392)
def SAFE_REVT.LIMP_END : Fld := ⟨0x2404, 4, 1, 0, .w1c⟩
def SAFE_REVT.BLIND : Fld := ⟨0x2404, 3, 1, 0, .w1c⟩
def SAFE_REVT.COPY_MM : Fld := ⟨0x2404, 2, 1, 0, .w1c⟩
def SAFE_REVT.DISAGREE : Fld := ⟨0x2404, 1, 1, 0, .w1c⟩
def SAFE_REVT.CHG : Fld := ⟨0x2404, 0, 1, 0, .w1c⟩
-- SAFE_RCFG (R392)
def SAFE_RCFG.PSTAT_FLOW : Fld := ⟨0x2408, 24, 8, 0, .tmr⟩
def SAFE_RCFG.FAB_N : Fld := ⟨0x2408, 20, 4, 4, .tmr⟩
def SAFE_RCFG.PA_EN : Fld := ⟨0x2408, 16, 1, 0, .tmr⟩
def SAFE_RCFG.PA_TMO : Fld := ⟨0x2408, 0, 8, 0x28, .tmr⟩
-- SAFE_LIMP (R392)
def SAFE_LIMP.LIMP_TMAX : Fld := ⟨0x240C, 21, 11, 0x78, .tmr⟩
def SAFE_LIMP.LIMP_END : Fld := ⟨0x240C, 20, 1, 0, .tmr⟩
def SAFE_LIMP.LIMP_DF : Fld := ⟨0x240C, 16, 4, 8, .tmr⟩
def SAFE_LIMP.LIMP_RAMP : Fld := ⟨0x240C, 8, 8, 0x32, .tmr⟩
-- SAFE_LIMP_CTL (R392)
def SAFE_LIMP_CTL.LEFT : Fld := ⟨0x2410, 21, 11, 0, .ro⟩
def SAFE_LIMP_CTL.RST_USED : Fld := ⟨0x2410, 1, 1, 0, .ro⟩
def SAFE_LIMP_CTL.RESTART : Fld := ⟨0x2410, 0, 1, 0, .go⟩
-- Triplicated state that no register shows (R88): the limp timer in CEC with its state (R369, R371): it runs, its RESTART is used, it has
-- expired, and the ramp of STOP with the CEC left of it; and the bits in which a copy of the FC state
-- has left the state that the FC holds (R353).
def LIMP_TIMER.LEFT : Fld := ⟨0x2410, 32, 48, 0, .tmr⟩
def LIMP_TIMER.RUN : Fld := ⟨0x2410, 80, 1, 0, .tmr⟩
def LIMP_TIMER.USED : Fld := ⟨0x2410, 81, 1, 0, .tmr⟩
def LIMP_TIMER.EXPIRED : Fld := ⟨0x2410, 82, 1, 0, .tmr⟩
def LIMP_TIMER.RAMP_ON : Fld := ⟨0x2410, 83, 1, 0, .tmr⟩
def LIMP_TIMER.RAMP : Fld := ⟨0x2410, 84, 48, 0, .tmr⟩
def FC_STATE.ERR : Fld := ⟨0x2000, 32, 64, 0, .tmr⟩
-- SAFE_SSUP (R392)
def SAFE_SSUP.V5 : Fld := ⟨0x2414, 4, 4, 0xf, .tmr⟩
def SAFE_SSUP.EN : Fld := ⟨0x2414, 0, 4, 0, .tmr⟩
-- SAFE_TP (R392)
def SAFE_TP.TP_EN : Fld := ⟨0x2418, 28, 4, 0xf, .tmr⟩
def SAFE_TP.TP_WIDTH : Fld := ⟨0x2418, 16, 8, 0x32, .tmr⟩
def SAFE_TP.TP_PERIOD : Fld := ⟨0x2418, 0, 7, 0xa, .tmr⟩
-- SAFE_TPA0 (R392)
def SAFE_TPA0.ASSIGN : Fld := ⟨0x241C, 0, 32, 0, .tmr⟩
-- SAFE_TPA1 (R392)
def SAFE_TPA1.USE : Fld := ⟨0x2420, 4, 18, 0, .tmr⟩
def SAFE_TPA1.ASSIGN : Fld := ⟨0x2420, 0, 4, 0, .tmr⟩
-- SAFE_TP_STAT (R392)
def SAFE_TP_STAT.SHORT_CNT : Fld := ⟨0x2424, 16, 16, 0, .cnt⟩
def SAFE_TP_STAT.INPUT : Fld := ⟨0x2424, 8, 5, 0, .ro⟩
def SAFE_TP_STAT.RANGE : Fld := ⟨0x2424, 4, 4, 0, .w1c⟩
def SAFE_TP_STAT.SHORT : Fld := ⟨0x2424, 0, 4, 0, .w1c⟩
-- SAFE_KEY (R392)
def SAFE_KEY.KEY : Fld := ⟨0x2428, 0, 32, 0, .rw⟩
-- SAFE_UNL (R392)
def SAFE_UNL.WRITER : Fld := ⟨0x242C, 24, 8, 0, .ro⟩
def SAFE_UNL.PW_GEN : Fld := ⟨0x242C, 16, 8, 0, .ro⟩
def SAFE_UNL.WRONG_CNT : Fld := ⟨0x242C, 8, 3, 0, .ro⟩
def SAFE_UNL.PW_SET : Fld := ⟨0x242C, 3, 1, 0, .go⟩
def SAFE_UNL.LOCK : Fld := ⟨0x242C, 2, 1, 0, .go⟩
def SAFE_UNL.STATE : Fld := ⟨0x242C, 0, 2, 0, .ro⟩
-- SAFE_SET_CRC (R392)
def SAFE_SET_CRC.SET_CRC : Fld := ⟨0x2430, 0, 32, 0, .ro⟩
-- SAFE_SLT (R392)
def SAFE_SLT.CAUSE : Fld := ⟨0x2434, 4, 2, 0, .ro⟩
def SAFE_SLT.RESULT : Fld := ⟨0x2434, 1, 3, 7, .ro⟩
def SAFE_SLT.RUN : Fld := ⟨0x2434, 0, 1, 0, .go⟩
-- SAFE_PWH (R392)
def SAFE_PWH.PWH (i : Nat) : Fld := ⟨0x2440 + 0x4 * i, 0, 32, 0, .rw⟩
-- BRINE_CTRL (R409)
def BRINE_CTRL.RETRAIN : Fld := ⟨0x2800, 5, 1, 0, .go⟩
def BRINE_CTRL.BULK1_EN : Fld := ⟨0x2800, 4, 1, 1, .rw⟩
def BRINE_CTRL.BULK0_EN : Fld := ⟨0x2800, 3, 1, 1, .rw⟩
def BRINE_CTRL.AUTO_WAKE : Fld := ⟨0x2800, 2, 1, 0, .rw⟩
def BRINE_CTRL.WAKE_TX : Fld := ⟨0x2800, 1, 1, 0, .go⟩
def BRINE_CTRL.EN : Fld := ⟨0x2800, 0, 1, 1, .rw⟩
-- BRINE_XMAP (R409)
def BRINE_XMAP.RXBASE : Fld := ⟨0x2804, 16, 7, 5, .lock⟩
def BRINE_XMAP.TXBASE : Fld := ⟨0x2804, 0, 7, 4, .lock⟩
-- BRINE_STAT (R409)
def BRINE_STAT.TX_ALIVE : Fld := ⟨0x2808, 24, 8, 0, .ro⟩
def BRINE_STAT.RX_ALIVE : Fld := ⟨0x2808, 16, 8, 0, .ro⟩
def BRINE_STAT.LOST_RUN : Fld := ⟨0x2808, 8, 4, 0, .ro⟩
def BRINE_STAT.SIG1 : Fld := ⟨0x2808, 5, 1, 0, .ro⟩
def BRINE_STAT.SIG0 : Fld := ⟨0x2808, 4, 1, 0, .ro⟩
def BRINE_STAT.LINK : Fld := ⟨0x2808, 0, 3, 0, .ro⟩
-- BRINE_EVT (R409)
def BRINE_EVT.BULK_DISC : Fld := ⟨0x280C, 9, 1, 0, .w1c⟩
def BRINE_EVT.CMD_FAIL : Fld := ⟨0x280C, 8, 1, 0, .w1c⟩
def BRINE_EVT.SELF : Fld := ⟨0x280C, 7, 1, 0, .w1c⟩
def BRINE_EVT.XREC : Fld := ⟨0x280C, 6, 1, 0, .w1c⟩
def BRINE_EVT.STALE : Fld := ⟨0x280C, 5, 1, 0, .w1c⟩
def BRINE_EVT.SKIP : Fld := ⟨0x280C, 4, 1, 0, .w1c⟩
def BRINE_EVT.CODE : Fld := ⟨0x280C, 3, 1, 0, .w1c⟩
def BRINE_EVT.CRC : Fld := ⟨0x280C, 2, 1, 0, .w1c⟩
def BRINE_EVT.UP : Fld := ⟨0x280C, 1, 1, 0, .w1c⟩
def BRINE_EVT.LOSS : Fld := ⟨0x280C, 0, 1, 0, .w1c⟩
-- BRINE_DLY (R409)
def BRINE_DLY.TRAIN_CNT : Fld := ⟨0x2810, 16, 16, 0, .cnt⟩
def BRINE_DLY.LINK_DLY : Fld := ⟨0x2810, 0, 16, 0, .ro⟩
-- BRINE_CNT0 (R409)
def BRINE_CNT0.LOST_CNT : Fld := ⟨0x2814, 16, 16, 0, .cnt⟩
def BRINE_CNT0.CRC_CNT : Fld := ⟨0x2814, 0, 16, 0, .cnt⟩
-- BRINE_CNT1 (R409)
def BRINE_CNT1.CODE_CNT : Fld := ⟨0x2818, 16, 16, 0, .cnt⟩
def BRINE_CNT1.CMD_RETRY_CNT : Fld := ⟨0x2818, 8, 8, 0, .cnt⟩
def BRINE_CNT1.BULK_DISC_CNT : Fld := ⟨0x2818, 0, 8, 0, .cnt⟩
-- BRINE_BULK (R409)
def BRINE_BULK.TX_CRED1 : Fld := ⟨0x281C, 24, 5, 0, .ro⟩
def BRINE_BULK.TX_CRED0 : Fld := ⟨0x281C, 16, 5, 0, .ro⟩
def BRINE_BULK.RX_USED1 : Fld := ⟨0x281C, 8, 5, 0, .ro⟩
def BRINE_BULK.RX_USED0 : Fld := ⟨0x281C, 0, 5, 0, .ro⟩
-- ROUTE (R421)
def ROUTE.VALID (i : Nat) : Fld := ⟨0x2000000 + 0x4 * i, 31, 1, 0, .ro⟩
def ROUTE.SEEN1 (i : Nat) : Fld := ⟨0x2000000 + 0x4 * i, 30, 1, 0, .ro⟩
def ROUTE.SEEN0 (i : Nat) : Fld := ⟨0x2000000 + 0x4 * i, 29, 1, 0, .ro⟩
def ROUTE.HOPS1 (i : Nat) : Fld := ⟨0x2000000 + 0x4 * i, 16, 6, 0, .ro⟩
def ROUTE.HOPS0 (i : Nat) : Fld := ⟨0x2000000 + 0x4 * i, 8, 6, 0, .ro⟩
def ROUTE.PREF (i : Nat) : Fld := ⟨0x2000000 + 0x4 * i, 0, 2, 0, .rw⟩
-- NET_CTRL (R438)
def NET_CTRL.HFLOW : Fld := ⟨0x2C00, 24, 8, 0, .rw⟩
def NET_CTRL.XR_MODE : Fld := ⟨0x2C00, 22, 2, 0, .rw⟩
def NET_CTRL.GW_NODE : Fld := ⟨0x2C00, 16, 6, 0, .rw⟩
def NET_CTRL.FWD_OTHER : Fld := ⟨0x2C00, 4, 1, 1, .rw⟩
def NET_CTRL.P1_EN : Fld := ⟨0x2C00, 1, 1, 1, .rw⟩
def NET_CTRL.P0_EN : Fld := ⟨0x2C00, 0, 1, 1, .rw⟩
-- NET_ADDR (R438)
def NET_ADDR.STRAP : Fld := ⟨0x2C04, 24, 4, 0, .ro⟩
def NET_ADDR.ADDR : Fld := ⟨0x2C04, 16, 6, 0, .ro⟩
def NET_ADDR.RING : Fld := ⟨0x2C04, 8, 1, 0, .ro⟩
def NET_ADDR.CLAIM : Fld := ⟨0x2C04, 0, 2, 0, .ro⟩
-- NET_STAT (R438)
def NET_STAT.GPTP : Fld := ⟨0x2C08, 24, 3, 0, .ro⟩
def NET_STAT.NODES : Fld := ⟨0x2C08, 16, 8, 0, .ro⟩
def NET_STAT.SPEED1 : Fld := ⟨0x2C08, 12, 2, 0, .ro⟩
def NET_STAT.SPEED0 : Fld := ⟨0x2C08, 10, 2, 0, .ro⟩
def NET_STAT.RING : Fld := ⟨0x2C08, 8, 2, 3, .ro⟩
def NET_STAT.NB1 : Fld := ⟨0x2C08, 5, 1, 0, .ro⟩
def NET_STAT.NB0 : Fld := ⟨0x2C08, 4, 1, 0, .ro⟩
def NET_STAT.LINK1 : Fld := ⟨0x2C08, 1, 1, 0, .ro⟩
def NET_STAT.LINK0 : Fld := ⟨0x2C08, 0, 1, 0, .ro⟩
-- NET_EVT (R438)
def NET_EVT.SCHED_ERR : Fld := ⟨0x2C0C, 7, 1, 0, .w1c⟩
def NET_EVT.ROUTE_MISS : Fld := ⟨0x2C0C, 6, 1, 0, .w1c⟩
def NET_EVT.NEW_PEER : Fld := ⟨0x2C0C, 5, 1, 0, .w1c⟩
def NET_EVT.ADDR_CONFLICT : Fld := ⟨0x2C0C, 4, 1, 0, .w1c⟩
def NET_EVT.E2E : Fld := ⟨0x2C0C, 3, 1, 0, .w1c⟩
def NET_EVT.RING_EVT : Fld := ⟨0x2C0C, 2, 1, 0, .w1c⟩
def NET_EVT.NB1_LOST : Fld := ⟨0x2C0C, 1, 1, 0, .w1c⟩
def NET_EVT.NB0_LOST : Fld := ⟨0x2C0C, 0, 1, 0, .w1c⟩
-- NET_CYC (R438)
def NET_CYC.FAB_CYCLE : Fld := ⟨0x2C10, 0, 20, 0x2710, .lock⟩
-- NET_SCHED (R438)
def NET_SCHED.ANN_PERIOD : Fld := ⟨0x2C14, 20, 8, 0x64, .lock⟩
def NET_SCHED.SCHED_LEN : Fld := ⟨0x2C14, 0, 20, 0, .lock⟩
-- NET_TIM (R438)
def NET_TIM.NB_N : Fld := ⟨0x2C18, 28, 4, 3, .rw⟩
def NET_TIM.E2E_N : Fld := ⟨0x2C18, 24, 4, 3, .rw⟩
def NET_TIM.CLAIM_N : Fld := ⟨0x2C18, 16, 8, 8, .rw⟩
def NET_TIM.AGE : Fld := ⟨0x2C18, 8, 8, 4, .rw⟩
def NET_TIM.BC_HOPS : Fld := ⟨0x2C18, 0, 6, 0x3d, .rw⟩
-- NET_PTP (R438)
def NET_PTP.PRIO1 : Fld := ⟨0x2C1C, 24, 8, 0xff, .rw⟩
def NET_PTP.PRIO2 : Fld := ⟨0x2C1C, 16, 8, 0xff, .rw⟩
def NET_PTP.GM_CAP : Fld := ⟨0x2C1C, 15, 1, 0, .rw⟩
def NET_PTP.LOG_SYNC : Fld := ⟨0x2C1C, 8, 4, 0xd, .rw⟩
def NET_PTP.LOG_PDELAY : Fld := ⟨0x2C1C, 4, 4, 0, .rw⟩
-- NET_PTP_OFS (R438)
def NET_PTP_OFS.OFFSET : Fld := ⟨0x2C20, 0, 32, 0, .ro⟩
-- NET_PTPLAT (R438)
def NET_PTPLAT.TX_LAT (i : Nat) : Fld := ⟨0x2C24 + 0x4 * i, 16, 16, 0, .rw⟩
def NET_PTPLAT.RX_LAT (i : Nat) : Fld := ⟨0x2C24 + 0x4 * i, 0, 16, 0, .rw⟩
-- NET_CNT0 (R438)
def NET_CNT0.HOP_DROP : Fld := ⟨0x2C30, 16, 16, 0, .cnt⟩
def NET_CNT0.DUP_DROP : Fld := ⟨0x2C30, 0, 16, 0, .cnt⟩
-- NET_CNT1 (R438)
def NET_CNT1.E2E_CRC_CNT : Fld := ⟨0x2C34, 16, 16, 0, .cnt⟩
def NET_CNT1.E2E_GAP_CNT : Fld := ⟨0x2C34, 0, 16, 0, .cnt⟩
-- NET_CNT2 (R438)
def NET_CNT2.ROUTE_MISS_CNT : Fld := ⟨0x2C38, 16, 16, 0, .cnt⟩
def NET_CNT2.OTHER_DROP_CNT : Fld := ⟨0x2C38, 0, 16, 0, .cnt⟩
-- NET_E2E_INFO (R438)
def NET_E2E_INFO.FLOW : Fld := ⟨0x2C3C, 24, 8, 0, .ro⟩
def NET_E2E_INFO.SRC : Fld := ⟨0x2C3C, 16, 8, 0, .ro⟩
-- NET_WIN_A (R438)
def NET_WIN_A.EN (i : Nat) : Fld := ⟨0x2C40 + 0x8 * i, 31, 1, 0, .lock⟩
def NET_WIN_A.PORTS (i : Nat) : Fld := ⟨0x2C40 + 0x8 * i, 29, 2, 0, .lock⟩
def NET_WIN_A.FLOW (i : Nat) : Fld := ⟨0x2C40 + 0x8 * i, 21, 8, 0, .lock⟩
def NET_WIN_A.OFFSET (i : Nat) : Fld := ⟨0x2C40 + 0x8 * i, 0, 20, 0, .lock⟩
-- NET_WIN_B (R438)
def NET_WIN_B.LEN (i : Nat) : Fld := ⟨0x2C44 + 0x8 * i, 0, 11, 0, .lock⟩
-- NET_CAN_CFG (R438)
def NET_CAN_CFG.EN (i : Nat) : Fld := ⟨0x2D00 + 0x40 * i, 31, 1, 0, .rw⟩
def NET_CAN_CFG.FD (i : Nat) : Fld := ⟨0x2D00 + 0x40 * i, 30, 1, 1, .rw⟩
def NET_CAN_CFG.NODE (i : Nat) : Fld := ⟨0x2D00 + 0x40 * i, 24, 6, 0, .rw⟩
def NET_CAN_CFG.NBR (i : Nat) : Fld := ⟨0x2D00 + 0x40 * i, 12, 4, 2, .rw⟩
def NET_CAN_CFG.DBR (i : Nat) : Fld := ⟨0x2D00 + 0x40 * i, 8, 4, 2, .rw⟩
-- NET_CAN0_ID (R438)
def NET_CAN0_ID.EN (i : Nat) : Fld := ⟨0x2D04 + 0x4 * i, 31, 1, 0, .rw⟩
def NET_CAN0_ID.DIR (i : Nat) : Fld := ⟨0x2D04 + 0x4 * i, 30, 1, 0, .rw⟩
def NET_CAN0_ID.IDE (i : Nat) : Fld := ⟨0x2D04 + 0x4 * i, 29, 1, 0, .rw⟩
def NET_CAN0_ID.ID (i : Nat) : Fld := ⟨0x2D04 + 0x4 * i, 0, 29, 0, .rw⟩
-- NET_CAN1_ID (R438)
def NET_CAN1_ID.EN (i : Nat) : Fld := ⟨0x2D44 + 0x4 * i, 31, 1, 0, .rw⟩
def NET_CAN1_ID.DIR (i : Nat) : Fld := ⟨0x2D44 + 0x4 * i, 30, 1, 0, .rw⟩
def NET_CAN1_ID.IDE (i : Nat) : Fld := ⟨0x2D44 + 0x4 * i, 29, 1, 0, .rw⟩
def NET_CAN1_ID.ID (i : Nat) : Fld := ⟨0x2D44 + 0x4 * i, 0, 29, 0, .rw⟩
-- NET_CAN0_FL (R438)
def NET_CAN0_FL.FLOW (i : Nat) : Fld := ⟨0x2D24 + 0x4 * i, 0, 32, 0, .rw⟩
-- NET_CAN1_FL (R438)
def NET_CAN1_FL.FLOW (i : Nat) : Fld := ⟨0x2D64 + 0x4 * i, 0, 32, 0, .rw⟩
-- NET_CAN_STAT (R438)
def NET_CAN_STAT.TEC (i : Nat) : Fld := ⟨0x2D2C + 0x40 * i, 24, 8, 0, .ro⟩
def NET_CAN_STAT.REC (i : Nat) : Fld := ⟨0x2D2C + 0x40 * i, 16, 8, 0, .ro⟩
def NET_CAN_STAT.DISC_CNT (i : Nat) : Fld := ⟨0x2D2C + 0x40 * i, 8, 8, 0, .cnt⟩
def NET_CAN_STAT.BUS (i : Nat) : Fld := ⟨0x2D2C + 0x40 * i, 0, 2, 0, .ro⟩
-- FLOW_W0 (R440)
def FLOW_W0.EN (i : Nat) : Fld := ⟨0x3000000 + 0x20 * i, 31, 1, 0, .rw⟩
def FLOW_W0.KIND (i : Nat) : Fld := ⟨0x3000000 + 0x20 * i, 28, 3, 0, .lock⟩
def FLOW_W0.OVW (i : Nat) : Fld := ⟨0x3000000 + 0x20 * i, 27, 1, 0, .lock⟩
def FLOW_W0.SCHED (i : Nat) : Fld := ⟨0x3000000 + 0x20 * i, 26, 1, 0, .lock⟩
def FLOW_W0.XDLV (i : Nat) : Fld := ⟨0x3000000 + 0x20 * i, 25, 1, 0, .lock⟩
def FLOW_W0.ESIZE (i : Nat) : Fld := ⟨0x3000000 + 0x20 * i, 20, 5, 1, .lock⟩
def FLOW_W0.PBASE (i : Nat) : Fld := ⟨0x3000000 + 0x20 * i, 0, 13, 0, .lock⟩
-- FLOW_W1 (R440)
def FLOW_W1.PEND (i : Nat) : Fld := ⟨0x3000004 + 0x20 * i, 31, 1, 0, .ro⟩
def FLOW_W1.PLEN_LIVE (i : Nat) : Fld := ⟨0x3000004 + 0x20 * i, 16, 13, 0, .ro⟩
def FLOW_W1.PLEN (i : Nat) : Fld := ⟨0x3000004 + 0x20 * i, 0, 13, 0, .rw⟩
-- FLOW_W2 (R440)
def FLOW_W2.RING (i : Nat) : Fld := ⟨0x3000008 + 0x20 * i, 30, 1, 0, .lock⟩
def FLOW_W2.NODE (i : Nat) : Fld := ⟨0x3000008 + 0x20 * i, 24, 6, 0, .lock⟩
def FLOW_W2.PEER_FLOW (i : Nat) : Fld := ⟨0x3000008 + 0x20 * i, 16, 8, 0, .lock⟩
def FLOW_W2.SRCSEL (i : Nat) : Fld := ⟨0x3000008 + 0x20 * i, 8, 8, 0, .lock⟩
-- FLOW_W3 (R440)
def FLOW_W3.XIDX (i : Nat) : Fld := ⟨0x300000C + 0x20 * i, 16, 13, 0, .lock⟩
def FLOW_W3.XLEN (i : Nat) : Fld := ⟨0x300000C + 0x20 * i, 0, 6, 0, .lock⟩
-- FLOW_W4 (R440)
def FLOW_W4.CRED (i : Nat) : Fld := ⟨0x3000010 + 0x20 * i, 16, 16, 0, .rw⟩
def FLOW_W4.CRED_NOW (i : Nat) : Fld := ⟨0x3000010 + 0x20 * i, 0, 16, 0, .ro⟩
-- FLOW_W5 (R440)
def FLOW_W5.WPTR (i : Nat) : Fld := ⟨0x3000014 + 0x20 * i, 16, 13, 0, .ro⟩
def FLOW_W5.RPTR (i : Nat) : Fld := ⟨0x3000014 + 0x20 * i, 0, 13, 0, .ro⟩
-- FLOW_W6 (R440)
def FLOW_W6.FILL (i : Nat) : Fld := ⟨0x3000018 + 0x20 * i, 16, 13, 0, .ro⟩
def FLOW_W6.SEQ (i : Nat) : Fld := ⟨0x3000018 + 0x20 * i, 0, 16, 0, .ro⟩
-- FLOW_W7 (R440)
def FLOW_W7.DROP (i : Nat) : Fld := ⟨0x300001C + 0x20 * i, 16, 16, 0, .cnt⟩
def FLOW_W7.DISC (i : Nat) : Fld := ⟨0x300001C + 0x20 * i, 0, 16, 0, .cnt⟩
-- PAN_CTRL (R458)
def PAN_CTRL.TRACE_FLOW : Fld := ⟨0x3000, 24, 8, 0, .rw⟩
def PAN_CTRL.XBUF : Fld := ⟨0x3000, 0, 11, 0x180, .lock⟩
-- PAN_OP (R458)
def PAN_OP.OP : Fld := ⟨0x3004, 24, 3, 0, .go⟩
def PAN_OP.SLOT : Fld := ⟨0x3004, 16, 3, 0, .rw⟩
def PAN_OP.FLOW : Fld := ⟨0x3004, 0, 8, 0, .rw⟩
-- PAN_STAT (R458)
def PAN_STAT.REJ_FLOW : Fld := ⟨0x3008, 24, 8, 0, .ro⟩
def PAN_STAT.REJ_CODE : Fld := ⟨0x3008, 20, 4, 0, .ro⟩
def PAN_STAT.OPERR : Fld := ⟨0x3008, 4, 1, 0, .w1c⟩
def PAN_STAT.XREC : Fld := ⟨0x3008, 3, 1, 0, .w1c⟩
def PAN_STAT.ENREJ : Fld := ⟨0x3008, 2, 1, 0, .w1c⟩
def PAN_STAT.XBUF_FULL : Fld := ⟨0x3008, 1, 1, 0, .w1c⟩
def PAN_STAT.DROP : Fld := ⟨0x3008, 0, 1, 0, .w1c⟩
-- PAN_CNT0 (R458)
def PAN_CNT0.NOFLOW_CNT : Fld := ⟨0x300C, 16, 16, 0, .cnt⟩
def PAN_CNT0.XBUF_DROP_CNT : Fld := ⟨0x300C, 0, 16, 0, .cnt⟩
-- PAN_CNT1 (R458)
def PAN_CNT1.DUP_HIT_CNT : Fld := ⟨0x3010, 16, 16, 0, .cnt⟩
def PAN_CNT1.DUP_PEND_CNT : Fld := ⟨0x3010, 0, 16, 0, .cnt⟩
-- PAN_CNT2 (R458)
def PAN_CNT2.DUP_EVICT_CNT : Fld := ⟨0x3014, 16, 16, 0, .cnt⟩
def PAN_CNT2.PAN_DISCARD : Fld := ⟨0x3014, 0, 16, 0, .cnt⟩
-- PAN_XBUF_STAT (R458)
def PAN_XBUF_STAT.XBUF_HIGH : Fld := ⟨0x3018, 16, 11, 0, .ro⟩
def PAN_XBUF_STAT.XBUF_USED : Fld := ⟨0x3018, 0, 11, 0, .ro⟩
-- PAN_NE (R458)
def PAN_NE.NE (i : Nat) : Fld := ⟨0x3020 + 0x4 * i, 0, 32, 0, .ro⟩
-- PAN_FULL (R458)
def PAN_FULL.FULL (i : Nat) : Fld := ⟨0x3040 + 0x4 * i, 0, 32, 0, .ro⟩
-- PWR_STATE (R476)
def PWR_STATE.STATE : Fld := ⟨0x3400, 28, 4, 2, .ro⟩
def PWR_STATE.PREV : Fld := ⟨0x3400, 24, 4, 0, .ro⟩
def PWR_STATE.BUSY : Fld := ⟨0x3400, 23, 1, 1, .ro⟩
def PWR_STATE.PEND : Fld := ⟨0x3400, 22, 1, 0, .ro⟩
def PWR_STATE.PEND_TGT : Fld := ⟨0x3400, 18, 4, 0, .ro⟩
def PWR_STATE.DOM_ON : Fld := ⟨0x3400, 0, 12, 7, .ro⟩
-- PWR_REQ (R476)
def PWR_REQ.REQ : Fld := ⟨0x3404, 4, 1, 0, .go⟩
def PWR_REQ.TARGET : Fld := ⟨0x3404, 0, 4, 0, .rw⟩
-- PWR_REQ_STAT (R476)
def PWR_REQ_STAT.PEND_OVR : Fld := ⟨0x3408, 31, 1, 0, .w1c⟩
def PWR_REQ_STAT.REFUSED : Fld := ⟨0x3408, 30, 1, 0, .w1c⟩
def PWR_REQ_STAT.ABORTED : Fld := ⟨0x3408, 29, 1, 0, .w1c⟩
def PWR_REQ_STAT.DROPPED : Fld := ⟨0x3408, 28, 1, 0, .w1c⟩
def PWR_REQ_STAT.WRITER : Fld := ⟨0x3408, 16, 8, 0, .ro⟩
def PWR_REQ_STAT.REF_BLOCK : Fld := ⟨0x3408, 8, 8, 0, .ro⟩
def PWR_REQ_STAT.REF_CODE : Fld := ⟨0x3408, 0, 4, 0, .ro⟩
-- PWR_CFG (R476)
def PWR_CFG.D11_OFF : Fld := ⟨0x340C, 2, 1, 0, .rw⟩
def PWR_CFG.D9_OFF : Fld := ⟨0x340C, 1, 1, 0, .rw⟩
def PWR_CFG.D8_OFF : Fld := ⟨0x340C, 0, 1, 0, .rw⟩
-- PWR_WATCH (R476)
def PWR_WATCH.PERIOD : Fld := ⟨0x3410, 18, 14, 0x64, .rw⟩
def PWR_WATCH.SRC : Fld := ⟨0x3410, 16, 2, 0, .rw⟩
def PWR_WATCH.IDX : Fld := ⟨0x3410, 10, 6, 0, .rw⟩
def PWR_WATCH.SSUP : Fld := ⟨0x3410, 8, 2, 0, .rw⟩
def PWR_WATCH.SETTLE : Fld := ⟨0x3410, 0, 8, 7, .rw⟩
-- PWR_WIN (R476)
def PWR_WIN.WIN_HI : Fld := ⟨0x3414, 16, 16, 0x100, .rw⟩
def PWR_WIN.WIN_LO : Fld := ⟨0x3414, 0, 16, 0, .rw⟩
-- PWR_WAKE_EN (R476)
def PWR_WAKE_EN.CAN_TMO : Fld := ⟨0x3418, 24, 8, 0xa, .rw⟩
def PWR_WAKE_EN.WAKE_POL : Fld := ⟨0x3418, 8, 1, 1, .rw⟩
def PWR_WAKE_EN.EN : Fld := ⟨0x3418, 0, 8, 3, .rw⟩
-- PWR_WAKE_STAT (R476)
def PWR_WAKE_STAT.LAST : Fld := ⟨0x341C, 16, 16, 0, .ro⟩
def PWR_WAKE_STAT.ERR : Fld := ⟨0x341C, 8, 1, 0, .w1c⟩
def PWR_WAKE_STAT.CAUSE : Fld := ⟨0x341C, 0, 8, 0, .w1c⟩
-- PWR_WATCH_CNT (R476)
def PWR_WATCH_CNT.CYC_CNT : Fld := ⟨0x3420, 8, 24, 0, .cnt⟩
def PWR_WATCH_CNT.WAKE_CNT : Fld := ⟨0x3420, 0, 8, 0, .cnt⟩
-- PWR_RTC_LO (R476)
def PWR_RTC_LO.RTC : Fld := ⟨0x3424, 0, 32, 0, .ro⟩
-- PWR_RTC_HI (R476)
def PWR_RTC_HI.RTC : Fld := ⟨0x3428, 0, 32, 0, .ro⟩
-- MGMT_ID_SER_LO (R499)
def MGMT_ID_SER_LO.SERIAL : Fld := ⟨0x3820, 0, 32, 0, .ro⟩
-- MGMT_ID_SER_HI (R499)
def MGMT_ID_SER_HI.SERIAL : Fld := ⟨0x3824, 0, 32, 0, .ro⟩
-- MGMT_ID_DIE (R499)
def MGMT_ID_DIE.FAB : Fld := ⟨0x3828, 24, 8, 0, .ro⟩
def MGMT_ID_DIE.WAFER : Fld := ⟨0x3828, 16, 8, 0, .ro⟩
def MGMT_ID_DIE.DIE_X : Fld := ⟨0x3828, 8, 8, 0, .ro⟩
def MGMT_ID_DIE.DIE_Y : Fld := ⟨0x3828, 0, 8, 0, .ro⟩
-- MGMT_ID_LOT0 (R499)
def MGMT_ID_LOT0.LOT3 : Fld := ⟨0x382C, 24, 8, 0, .ro⟩
def MGMT_ID_LOT0.LOT2 : Fld := ⟨0x382C, 16, 8, 0, .ro⟩
def MGMT_ID_LOT0.LOT1 : Fld := ⟨0x382C, 8, 8, 0, .ro⟩
def MGMT_ID_LOT0.LOT0 : Fld := ⟨0x382C, 0, 8, 0, .ro⟩
-- MGMT_ID_LOT1 (R499)
def MGMT_ID_LOT1.TEST_DATE : Fld := ⟨0x3830, 16, 16, 0, .ro⟩
def MGMT_ID_LOT1.LOT5 : Fld := ⟨0x3830, 8, 8, 0, .ro⟩
def MGMT_ID_LOT1.LOT4 : Fld := ⟨0x3830, 0, 8, 0, .ro⟩
-- MGMT_MBX_CTRL (R499)
def MGMT_MBX_CTRL.GO : Fld := ⟨0x3840, 0, 1, 0, .go⟩
-- MGMT_MBX_STAT (R499)
def MGMT_MBX_STAT.RSP_LEN : Fld := ⟨0x3844, 16, 16, 0, .ro⟩
def MGMT_MBX_STAT.STATUS : Fld := ⟨0x3844, 8, 8, 0, .ro⟩
def MGMT_MBX_STAT.DONE : Fld := ⟨0x3844, 0, 1, 0, .w1c⟩
-- MGMT_LOG_SEQ (R499)
def MGMT_LOG_SEQ.NEWEST : Fld := ⟨0x3848, 0, 32, 0, .ro⟩
-- MGMT_LOG_STAT (R499)
def MGMT_LOG_STAT.BAD_LINES : Fld := ⟨0x384C, 24, 8, 0, .ro⟩
def MGMT_LOG_STAT.LOST_CNT : Fld := ⟨0x384C, 16, 8, 0, .cnt⟩
def MGMT_LOG_STAT.HEAD : Fld := ⟨0x384C, 0, 13, 0, .ro⟩
-- MGMT_UPD (R499)
def MGMT_UPD.SVC : Fld := ⟨0x3850, 24, 8, 0, .ro⟩
def MGMT_UPD.STATUS : Fld := ⟨0x3850, 16, 8, 0, .ro⟩
def MGMT_UPD.CHECK : Fld := ⟨0x3850, 8, 8, 0, .ro⟩
def MGMT_UPD.BUSY : Fld := ⟨0x3850, 0, 1, 0, .ro⟩
-- MGMT_UPD_PROG (R499)
def MGMT_UPD_PROG.BYTES : Fld := ⟨0x3854, 0, 32, 0, .ro⟩
-- MGMT_HO (R499)
def MGMT_HO.HO_TMO : Fld := ⟨0x3858, 24, 8, 0x14, .rw⟩
def MGMT_HO.REASON : Fld := ⟨0x3858, 20, 4, 0, .ro⟩
def MGMT_HO.NEXT : Fld := ⟨0x3858, 19, 1, 0, .w1c⟩
def MGMT_HO.HSTATE : Fld := ⟨0x3858, 16, 3, 0, .ro⟩
def MGMT_HO.HO_ID : Fld := ⟨0x3858, 0, 16, 0, .ro⟩
-- MGMT_TEMP (R499)
def MGMT_TEMP.T_ODD (i : Nat) : Fld := ⟨0x3860 + 0x4 * i, 16, 16, 0, .ro⟩
def MGMT_TEMP.T_EVEN (i : Nat) : Fld := ⟨0x3860 + 0x4 * i, 0, 16, 0, .ro⟩
-- MGMT_TLIM (R499)
def MGMT_TLIM.CRIT : Fld := ⟨0x386C, 8, 8, 0x96, .rw⟩
def MGMT_TLIM.WARN : Fld := ⟨0x386C, 0, 8, 0x8c, .rw⟩
-- MGMT_SUP (R499)
def MGMT_SUP.OUT (i : Nat) : Fld := ⟨0x3870 + 0x4 * i, 31, 1, 0, .ro⟩
def MGMT_SUP.VALUE (i : Nat) : Fld := ⟨0x3870 + 0x4 * i, 0, 16, 0, .ro⟩
-- MGMT_MBX_BUF (R499)
def MGMT_MBX_BUF.DATA (i : Nat) : Fld := ⟨0x3A00 + 0x4 * i, 0, 32, 0, .rw⟩

/-- Registers of block SYS (offsets 0x0 to 0x3FF). -/
def sysFams : List RegFam :=
  [⟨0x0, 0x4, 1, fun _ => [SYS_ID.PART, SYS_ID.HALF, SYS_ID.DIE_STEP]⟩,
   ⟨0x4, 0x4, 1, fun _ => [SYS_CTRL.BENCH_MODE, SYS_CTRL.TEST_MODE]⟩,
   ⟨0x8, 0x4, 1, fun _ => [SYS_COMMIT.GROUPS]⟩,
   ⟨0xC, 0x4, 1, fun _ => [SYS_DISCARD.GROUPS]⟩,
   ⟨0x10, 0x4, 1, fun _ => [SYS_COMMIT_STAT.PENDING, SYS_COMMIT_STAT.LAST_OK, SYS_COMMIT_STAT.MIXED, SYS_COMMIT_STAT.DIRTY]⟩,
   ⟨0x14, 0x4, 1, fun _ => [SYS_COMMIT_REJ.COMMIT_REJ, SYS_COMMIT_REJ.REJ_MORE, SYS_COMMIT_REJ.REJ_WRITER, SYS_COMMIT_REJ.REJ_GROUP, SYS_COMMIT_REJ.REJ_CODE]⟩,
   ⟨0x18, 0x4, 1, fun _ => [SYS_ACC_STAT.CRC_ERR, SYS_ACC_STAT.ADDR_ERR, SYS_ACC_STAT.SW_LOST, SYS_ACC_STAT.WR_IGN]⟩,
   ⟨0x1C, 0x4, 1, fun _ => [SYS_ACC_INFO.LOST_OFFSET, SYS_ACC_INFO.IGN_OFFSET]⟩,
   ⟨0x20, 0x4, 1, fun _ => [SYS_VOTE.VOTE_ERR, SYS_VOTE.VOTE_LAST]⟩,
   ⟨0x24, 0x4, 1, fun _ => [SYS_SPI_CNT.FRAME_ERR_CNT, SYS_SPI_CNT.CRC_ERR_CNT]⟩,
   ⟨0x28, 0x4, 1, fun _ => [SYS_SCRATCH.SCRATCH]⟩]

/-- Registers of block RAKE (offsets 0x400 to 0x7FF). -/
def rakeFams : List RegFam :=
  [⟨0x400, 0x4, 1, fun _ => [RAKE_TICK.PWM_TICKS, RAKE_TICK.TICK_PERIOD]⟩,
   ⟨0x404, 0x4, 1, fun _ => [RAKE_SAMPLE.SAMPLE_PHASE]⟩,
   ⟨0x408, 0x4, 1, fun _ => [RAKE_TSTART.TSTART]⟩,
   ⟨0x40C, 0x4, 1, fun _ => [RAKE_OUT.OUT_PHASE]⟩,
   ⟨0x410, 0x4, 1, fun _ => [RAKE_ENC.ENC_REQ_PHASE]⟩,
   ⟨0x414, 0x4, 1, fun _ => [RAKE_BRINE.BRINE_PHASE]⟩,
   ⟨0x418, 0x4, 1, fun _ => [RAKE_FAB.FAB_LOCK_EN, RAKE_FAB.FAB_OFFSET]⟩,
   ⟨0x41C, 0x4, 1, fun _ => [RAKE_DERIVED.PREEMPT_PHASE, RAKE_DERIVED.RDY_PHASE]⟩,
   ⟨0x420, 0x4, 1, fun _ => [RAKE_BUDGET.T_ISSUE, RAKE_BUDGET.T_ISSUE_MAX]⟩,
   ⟨0x424, 0x4, 1, fun _ => [RAKE_STAT.PHASE_ERR, RAKE_STAT.LOCK_REF, RAKE_STAT.LOCK_STATE, RAKE_STAT.MASTER, RAKE_STAT.KAT_DUE, RAKE_STAT.EXTREME, RAKE_STAT.RUN]⟩,
   ⟨0x428, 0x4, 1, fun _ => [RAKE_TICK_COUNT.TICK_COUNT]⟩,
   ⟨0x42C, 0x4, 1, fun _ => [RAKE_EVT.PERIOD_MM, RAKE_EVT.JUMP, RAKE_EVT.BRINE_LATE, RAKE_EVT.LOCK_LOST, RAKE_EVT.OVR]⟩,
   ⟨0x430, 0x4, 1, fun _ => [RAKE_CNT.LOCK_LOSS_CNT, RAKE_CNT.OVR_CNT]⟩,
   ⟨0x434, 0x4, 1, fun _ => [RAKE_OVR_INFO.OVR_PASSB, RAKE_OVR_INFO.OVR_PASSA]⟩]

/-- Registers of block AFE (offsets 0x800 to 0xBFF). -/
def afeFams : List RegFam :=
  [⟨0x800, 0x4, 1, fun _ => [AFE_CTRL.PKHOLD, AFE_CTRL.CAL_EN, AFE_CTRL.STOP]⟩,
   ⟨0x804, 0x4, 1, fun _ => [AFE_STAT.NCONV, AFE_STAT.CAL_SKIP, AFE_STAT.HOSTCAL_STALE, AFE_STAT.CAL_REJ, AFE_STAT.CLIP, AFE_STAT.SEQ_ERR, AFE_STAT.RUNNING]⟩,
   ⟨0x808, 0x4, 1, fun _ => [AFE_XBASE.XBASE]⟩,
   ⟨0x80C, 0x4, 1, fun _ => [AFE_UNI0.UNI]⟩,
   ⟨0x810, 0x4, 1, fun _ => [AFE_UNI1.UNI]⟩,
   ⟨0x814, 0x4, 2, fun i => [AFE_CLIP.CLIP i]⟩,
   ⟨0x81C, 0x4, 1, fun _ => [AFE_NSLOT.NSLOT3, AFE_NSLOT.NSLOT2, AFE_NSLOT.NSLOT1, AFE_NSLOT.NSLOT0]⟩,
   ⟨0x820, 0x8, 4, fun i => [AFE_SEQ_A.SLOT4 i, AFE_SEQ_A.SLOT3 i, AFE_SEQ_A.SLOT2 i, AFE_SEQ_A.SLOT1 i, AFE_SEQ_A.SLOT0 i]⟩,
   ⟨0x824, 0x8, 4, fun i => [AFE_SEQ_B.SLOT9 i, AFE_SEQ_B.SLOT8 i, AFE_SEQ_B.SLOT7 i, AFE_SEQ_B.SLOT6 i, AFE_SEQ_B.SLOT5 i]⟩,
   ⟨0x840, 0x4, 9, fun i => [AFE_AMP_CFG.OC_HI i, AFE_AMP_CFG.OC_LO i, AFE_AMP_CFG.OC_EN i, AFE_AMP_CFG.CAL_EN i, AFE_AMP_CFG.OC_FILT i, AFE_AMP_CFG.GAIN i]⟩,
   ⟨0x880, 0x4, 9, fun i => [AFE_AMP_CAL.GAIN_CAL i, AFE_AMP_CAL.OFS_CAL i]⟩,
   ⟨0x8B0, 0x4, 4, fun i => [AFE_CORE_CAL.GAIN_CAL i, AFE_CORE_CAL.OFS_CAL i]⟩,
   ⟨0x8C0, 0x4, 9, fun i => [AFE_HOSTCAL.OFFSET i]⟩,
   ⟨0x8F0, 0x4, 1, fun _ => [AFE_CAL_CFG.CAL_PHASE, AFE_CAL_CFG.CAL_EVERY, AFE_CAL_CFG.CAL_SHIFT]⟩,
   ⟨0x8F4, 0x4, 1, fun _ => [AFE_HOSTCAL_CFG.HOSTCAL_TMO]⟩,
   ⟨0x8F8, 0x4, 1, fun _ => [AFE_OC_STAT.OC_LIVE, AFE_OC_STAT.OC]⟩,
   ⟨0x8FC, 0x4, 1, fun _ => [AFE_CAL_CNT.CAL_REJ_CNT, AFE_CAL_CNT.CAL_OK_CNT]⟩]

/-- Registers of block POS (offsets 0xC00 to 0xFFF). -/
def posFams : List RegFam :=
  [⟨0xC00, 0x4, 1, fun _ => [POS_CTRL.XBASE, POS_CTRL.PORT_EN]⟩,
   ⟨0xC04, 0x4, 1, fun _ => [POS_STAT.SL_ERR, POS_STAT.PART_LATE, POS_STAT.BUSY]⟩,
   ⟨0xC10, 0x10, 3, fun i => [POS_PORT_CFG.CLK_DIV i, POS_PORT_CFG.MODE i, POS_PORT_CFG.GRAY i, POS_PORT_CFG.ZCHK i, POS_PORT_CFG.ERRBIT i, POS_PORT_CFG.ERRPOL i, POS_PORT_CFG.NXTRA i, POS_PORT_CFG.MTBITS i, POS_PORT_CFG.WLEN_M1 i]⟩,
   ⟨0xC14, 0x10, 3, fun i => [POS_PORT_TIM.RECOVERY i, POS_PORT_TIM.ACK_MAX i, POS_PORT_TIM.SETTLE i, POS_PORT_TIM.LINE_DLY i]⟩,
   ⟨0xC18, 0x10, 3, fun i => [POS_PORT_STAT.SPAN i, POS_PORT_STAT.AGE i]⟩,
   ⟨0xC1C, 0x10, 3, fun i => [POS_PORT_CNT.TMO_CNT i, POS_PORT_CNT.CRC_CNT i, POS_PORT_CNT.ERR_CNT i, POS_PORT_CNT.JUMP_CNT i]⟩,
   ⟨0xC40, 0x4, 3, fun i => [POS_PORT_LAST.WARN i, POS_PORT_LAST.RESULT i]⟩,
   ⟨0xC50, 0x4, 3, fun i => [POS_HALL_CFG.HFILT i, POS_HALL_CFG.MAP i, POS_HALL_CFG.HEN i]⟩,
   ⟨0xC60, 0x4, 3, fun i => [POS_HALL_STAT.ILL_CNT i, POS_HALL_STAT.SEQ_CNT i, POS_HALL_STAT.ILL i, POS_HALL_STAT.SEQ i, POS_HALL_STAT.SECTOR i, POS_HALL_STAT.CODE i]⟩,
   ⟨0xC80, 0x40, 3, fun i => [POS_SRC.SENS i, POS_SRC.SENS_IDX i, POS_SRC.OBS_EN i, POS_SRC.PART_EN i, POS_SRC.VOTE_PRIO i, POS_SRC.PP i, POS_SRC.PART_FLOW i, POS_SRC.PART_AGE_MAX i]⟩,
   ⟨0xC84, 0x40, 3, fun i => [POS_VOTE.VOTE_TOL i, POS_VOTE.DIS_N i, POS_VOTE.VOTE_M i]⟩,
   ⟨0xC88, 0x40, 3, fun i => [POS_OFS.SENS_OFS i, POS_OFS.PART_OFS i]⟩,
   ⟨0xC8C, 0x40, 3, fun i => [POS_SPD.JUMP_TOL i, POS_SPD.SL_EXP i, POS_SPD.SPD_SCALE i, POS_SPD.FILT i, POS_SPD.SHIFT i]⟩,
   ⟨0xC90, 0x40, 3, fun i => [POS_SOFT_MIN.SOFT_MIN i]⟩,
   ⟨0xC94, 0x40, 3, fun i => [POS_SOFT_MAX.SOFT_MAX i]⟩,
   ⟨0xC98, 0x40, 3, fun i => [POS_PMT.PMT i]⟩,
   ⟨0xC9C, 0x40, 3, fun i => [POS_LOAD.LOAD i]⟩,
   ⟨0xCA0, 0x40, 3, fun i => [POS_OVT.OVT i]⟩,
   ⟨0xCA4, 0x40, 3, fun i => [POS_ANG.ANG i]⟩,
   ⟨0xCA8, 0x40, 3, fun i => [POS_SPEED.SPEED i]⟩,
   ⟨0xCAC, 0x40, 3, fun i => [POS_VSTAT.VALID i, POS_VSTAT.OUTL i, POS_VSTAT.DROP i, POS_VSTAT.PEND i, POS_VSTAT.VSTATE i, POS_VSTAT.REF i, POS_VSTAT.SAT_HI i, POS_VSTAT.SAT_LO i, POS_VSTAT.SPREAD i, POS_VSTAT.NOMAJ i, POS_VSTAT.DIS i, POS_VSTAT.CHECKED i]⟩,
   ⟨0xCB0, 0x40, 3, fun i => [POS_VCNT.OUTL_S i, POS_VCNT.OUTL_P i, POS_VCNT.OUTL_O i, POS_VCNT.NOMAJ_CNT i]⟩,
   ⟨0xCB4, 0x40, 3, fun i => [POS_CTL.LOAD i, POS_CTL.READMIT i]⟩,
   ⟨0xCB8, 0x40, 3, fun i => [POS_COMM.COMM_CNT i]⟩]

/-- Registers of block CE (offsets 0x1000 to 0x17FF). -/
def ceFams : List RegFam :=
  [⟨0x1000, 0x4, 1, fun _ => [CE_PROG.BEN, CE_PROG.PBANK]⟩,
   ⟨0x1004, 0x4, 1, fun _ => [CE_STAT.B_PC, CE_STAT.BWR, CE_STAT.BILL, CE_STAT.B_HALT, CE_STAT.B_RUN, CE_STAT.T_RUN]⟩,
   ⟨0x1008, 0x4, 1, fun _ => [CE_XMAP.HEN, CE_XMAP.BBASE, CE_XMAP.HBASE, CE_XMAP.CXBASE]⟩,
   ⟨0x100C, 0x4, 1, fun _ => [CE_MODE.GRACE, CE_MODE.HOST_AGE, CE_MODE.AFECAL_H, CE_MODE.ROUTE_H, CE_MODE.FR_F2_H, CE_MODE.FR_F1_H, CE_MODE.START_H, CE_MODE.ANG_H]⟩,
   ⟨0x1010, 0x4, 4, fun i => [CE_MODE_SPH.SPH i]⟩,
   ⟨0x1020, 0x4, 4, fun i => [CE_CTX_MASK.MASK i]⟩,
   ⟨0x1030, 0x4, 3, fun i => [CE_COMP.CEN i, CE_COMP.PRI_X i, CE_COMP.PRI_IDX i, CE_COMP.OUT_IDX i]⟩,
   ⟨0x1040, 0x4, 3, fun i => [CE_WIN.WIN i, CE_WIN.WIN_CHG i]⟩,
   ⟨0x1050, 0x4, 1, fun _ => [CE_HOST_STAT.MISS_CTX, CE_HOST_STAT.CTX_MISS, CE_HOST_STAT.ANG_MISS]⟩,
   ⟨0x1054, 0x4, 1, fun _ => [CE_HOST_CNT.ANG_MISS_CNT, CE_HOST_CNT.CTX_MISS_CNT]⟩,
   ⟨0x1058, 0x4, 1, fun _ => [CE_CTX_STAT.STRUCT_CTX, CE_CTX_STAT.STRUCT_IGN]⟩,
   ⟨0x1060, 0x4, 1, fun _ => [CE_BCTL.PP_WIN]⟩,
   ⟨0x1064, 0x4, 1, fun _ => [CE_PSTAT.PPSTOP, CE_PSTAT.LATEWB, CE_PSTAT.YCTX, CE_PSTAT.BTAGC, CE_PSTAT.BHOLD]⟩,
   ⟨0x1068, 0x4, 1, fun _ => [CE_ISSUE.ISSUE_A, CE_ISSUE.ISSUE_ERR_CNT]⟩,
   ⟨0x106C, 0x4, 1, fun _ => [CE_MEMERR.PM_CORR, CE_MEMERR.X_CORR, CE_MEMERR.Y_CORR, CE_MEMERR.PM_DED, CE_MEMERR.X_DED, CE_MEMERR.Y_DED]⟩,
   ⟨0x1070, 0x4, 1, fun _ => [CE_ILL_INFO.STREAM, CE_ILL_INFO.PC, CE_ILL_INFO.ILL_CODE, CE_ILL_INFO.ILL_B, CE_ILL_INFO.ILL_T]⟩,
   ⟨0x1074, 0x4, 1, fun _ => [CE_ILL_CNT.ILL_T_CNT, CE_ILL_CNT.ILL_B_CNT]⟩,
   ⟨0x1100, 0x4, 1, fun _ => [CE_TR_CFG.TR_N, CE_TR_CFG.TR_W]⟩,
   ⟨0x1104, 0x4, 1, fun _ => [CE_TR_STAT.WIN_CNT, CE_TR_STAT.BROKEN, CE_TR_STAT.CMPDIS, CE_TR_STAT.KAT_FAIL, CE_TR_STAT.LASTING, CE_TR_STAT.TAGC, CE_TR_STAT.XMIN, CE_TR_STAT.MM, CE_TR_STAT.KAT_LAST]⟩,
   ⟨0x1108, 0x4, 1, fun _ => [CE_TR_CNT.MM_CNT, CE_TR_CNT.KAT_PASS_CNT]⟩,
   ⟨0x110C, 0x4, 1, fun _ => [CE_TR_INFO.CMP, CE_TR_INFO.BIDX, CE_TR_INFO.KATF, CE_TR_INFO.SLOT, CE_TR_INFO.KIND, CE_TR_INFO.DEST]⟩,
   ⟨0x1110, 0x4, 1, fun _ => [CE_TR_DA.DA]⟩,
   ⟨0x1114, 0x4, 1, fun _ => [CE_TR_DB.DB]⟩,
   ⟨0x1118, 0x4, 1, fun _ => [CE_TR_TICK.MM_TICK]⟩,
   ⟨0x111C, 0x4, 1, fun _ => [CE_TR_KAT.KAT_BIDX, CE_TR_KAT.KAT_REASON]⟩]

/-- Registers of block FIELD (offsets 0x1800 to 0x1BFF). -/
def fieldFams : List RegFam :=
  [⟨0x1800, 0x100, 3, fun i => [FIELD_CTRL.EN i, FIELD_CTRL.DIR i, FIELD_CTRL.SMETH i, FIELD_CTRL.DTC_EN i, FIELD_CTRL.LOCK_EN i, FIELD_CTRL.CUT_IDLE i, FIELD_CTRL.XBASE i]⟩,
   ⟨0x1804, 0x100, 3, fun i => [FIELD_STAT.STATE i, FIELD_STAT.RETRY i, FIELD_STAT.CATCH_RES i, FIELD_STAT.START_FAIL i, FIELD_STAT.REFUSED i, FIELD_STAT.HSTEP_MISS i, FIELD_STAT.CFG_ERR i, FIELD_STAT.LOCK i, FIELD_STAT.XREC i, FIELD_STAT.VSAT i, FIELD_STAT.OVM i]⟩,
   ⟨0x1808, 0x100, 3, fun i => [FIELD_LIM0.IQ_MAX i, FIELD_LIM0.ID_MIN i]⟩,
   ⟨0x180C, 0x100, 3, fun i => [FIELD_LIM1.VLIM i, FIELD_LIM1.SPD_MAX i]⟩,
   ⟨0x1810, 0x100, 3, fun i => [FIELD_SHARE.SRC i, FIELD_SHARE.REQ_EN i, FIELD_SHARE.SHARE_FLOW i, FIELD_SHARE.SPLIT_NOM i]⟩,
   ⟨0x1814, 0x100, 3, fun i => [FIELD_SHARE2.SPLIT_RATE i, FIELD_SHARE2.SHARE_AGE_MAX i]⟩,
   ⟨0x1818, 0x100, 3, fun i => [FIELD_DTC.DTC_EXTRA i, FIELD_DTC.DTC_BAND i, FIELD_DTC.MINP i]⟩,
   ⟨0x181C, 0x100, 3, fun i => [FIELD_CATCH.CATCH_T i, FIELD_CATCH.BUS_RISE i, FIELD_CATCH.CATCH_LOW i]⟩,
   ⟨0x1820, 0x100, 3, fun i => [FIELD_BRK.BRK_ILIM i, FIELD_BRK.BRK_OFF i, FIELD_BRK.BRK_SEG i]⟩,
   ⟨0x1824, 0x100, 3, fun i => [FIELD_LOCK.LOCK_T i, FIELD_LOCK.LOCK_IQ i]⟩,
   ⟨0x1828, 0x100, 3, fun i => [FIELD_PULSE.PULSE_T i, FIELD_PULSE.START_BACK i, FIELD_PULSE.PULSE_MIN i, FIELD_PULSE.START_RETRY i]⟩,
   ⟨0x182C, 0x100, 3, fun i => [FIELD_ALIGN.ALIGN_ANG i, FIELD_ALIGN.ALIGN_T i]⟩,
   ⟨0x1830, 0x100, 3, fun i => [FIELD_IREF.ALIGN_I i, FIELD_IREF.RAMP_I i]⟩,
   ⟨0x1834, 0x100, 3, fun i => [FIELD_RAMP.RAMP_ACC i, FIELD_RAMP.RAMP_SPD i]⟩,
   ⟨0x1838, 0x100, 3, fun i => [FIELD_HAND.HANDOVER_SPD i, FIELD_HAND.HANDOVER_TOL i, FIELD_HAND.START_TMO i]⟩,
   ⟨0x183C, 0x100, 3, fun i => [FIELD_CTX.CTXP_EN i, FIELD_CTX.DCTX i, FIELD_CTX.QCTX i, FIELD_CTX.SCTX i]⟩,
   ⟨0x1840, 0x100, 3, fun i => [FIELD_HSTEP.KIND i, FIELD_HSTEP.DUR i, FIELD_HSTEP.PARAM i]⟩,
   ⟨0x1844, 0x100, 3, fun i => [FIELD_DUTY.DU i, FIELD_DUTY.DV i, FIELD_DUTY.DW i]⟩,
   ⟨0x1848, 0x100, 3, fun i => [FIELD_CNT.START_FAIL_CNT i, FIELD_CNT.REFUSE_CNT i, FIELD_CNT.LOCK_CNT i, FIELD_CNT.SPLIT_HOLD_CNT i]⟩]

/-- Registers of block GD (offsets 0x1C00 to 0x1FFF). -/
def gdFams : List RegFam :=
  [⟨0x1C00, 0x4, 1, fun _ => [GD_CHOP.CHOP_IMIN, GD_CHOP.CHOP_TMAX, GD_CHOP.CHOP_HYST, GD_CHOP.CHOP_EN]⟩,
   ⟨0x1C04, 0x4, 1, fun _ => [GD_OV0.OV_LIM, GD_OV0.OV_CHOP]⟩,
   ⟨0x1C08, 0x4, 1, fun _ => [GD_OV1.OV_ABS, GD_OV1.OV_SHORT]⟩,
   ⟨0x1C0C, 0x4, 1, fun _ => [GD_OV2.BUS_XIDX, GD_OV2.OV_SHORT_N, GD_OV2.OV_REL]⟩,
   ⟨0x1C10, 0x4, 1, fun _ => [GD_STAT.OVABS_ACT, GD_STAT.OVS_ACT, GD_STAT.OV_LIM_ACT, GD_STAT.CHOP_ON, GD_STAT.CHOP_I, GD_STAT.CP_OK]⟩,
   ⟨0x1C14, 0x4, 1, fun _ => [GD_EVT.SLVDS, GD_EVT.OVABS, GD_EVT.OVS, GD_EVT.CHOT, GD_EVT.CHS, GD_EVT.CHO, GD_EVT.CP]⟩,
   ⟨0x1C18, 0x4, 1, fun _ => [GD_SLUICE.HS_CMD, GD_SLUICE.HS_ON, GD_SLUICE.LS_CMD, GD_SLUICE.LS_ON]⟩,
   ⟨0x1C1C, 0x4, 1, fun _ => [GD_SLCFG.SL_VDS_ON, GD_SLCFG.SL_DV, GD_SLCFG.SL_DIS_T, GD_SLCFG.SL_IG]⟩,
   ⟨0x1C20, 0x4, 1, fun _ => [GD_SLTEST.TEST_CNT, GD_SLTEST.STEP, GD_SLTEST.RESULT]⟩,
   ⟨0x1C24, 0x4, 1, fun _ => [GD_CNT.CHO_CNT, GD_CNT.CHOT_CNT, GD_CNT.OVS_CNT, GD_CNT.OVABS_CNT]⟩,
   ⟨0x1C28, 0x4, 1, fun _ => [GD_TEST.FORCE]⟩,
   ⟨0x1C2C, 0x4, 1, fun _ => [GD_BENCH.HS_DIS]⟩,
   ⟨0x1D00, 0x100, 3, fun i => [GDM_DEAD.HS_TMO i, GDM_DEAD.HS_VTH i, GDM_DEAD.DT i]⟩,
   ⟨0x1D04, 0x100, 3, fun i => [GDM_SLEW.FOFF i, GDM_SLEW.SLEW_GLW i, GDM_SLEW.SLEW_GHW i, GDM_SLEW.SLEW_GLV i, GDM_SLEW.SLEW_GHV i, GDM_SLEW.SLEW_GLU i, GDM_SLEW.SLEW_GHU i]⟩,
   ⟨0x1D08, 0x100, 3, fun i => [GDM_MON.VDS_TH i, GDM_MON.VDS_BLANK i, GDM_MON.VDS_FILT i, GDM_MON.BS_UV i, GDM_MON.DUTY_REFRESH_MAX i]⟩,
   ⟨0x1D0C, 0x100, 3, fun i => [GDM_CUT.CUT_ILIM i, GDM_CUT.CUT_DLY i]⟩,
   ⟨0x1D10, 0x100, 3, fun i => [GDM_STAT.GON i, GDM_STAT.VDS_LIVE i, GDM_STAT.BSUV_LIVE i, GDM_STAT.CUT_ON i]⟩,
   ⟨0x1D14, 0x100, 3, fun i => [GDM_EVT.VDS i, GDM_EVT.HS i, GDM_EVT.BSUV i, GDM_EVT.CUT i, GDM_EVT.CUT_FORCED i, GDM_EVT.XCMD i]⟩,
   ⟨0x1D18, 0x100, 3, fun i => [GDM_CNT.HS_LATE_CNT i, GDM_CNT.VDS_CNT i, GDM_CNT.XCMD_CNT i]⟩]

/-- Registers of block FC (offsets 0x2000 to 0x23FF). -/
def fcFams : List RegFam :=
  [⟨0x2000, 0x4, 1, fun _ => [FC_STAT.FX, FC_STAT.LOCKOUT, FC_STAT.SAFE, FC_STAT.HPEND, FC_STAT.QUIET, FC_STAT.TOP, FC_STAT.ALIVE_RUN, FC_STAT.FAULT]⟩,
   ⟨0x2004, 0x4, 1, fun _ => [FC_FIRST.VALID, FC_FIRST.OVF, FC_FIRST.CLASS, FC_FIRST.INST, FC_FIRST.SRC, FC_FIRST.REACT]⟩,
   ⟨0x2008, 0x4, 1, fun _ => [FC_FIRST_T.TICK]⟩,
   ⟨0x200C, 0x4, 1, fun _ => [FC_FIRST_C.OVF_CNT, FC_FIRST_C.CEC]⟩,
   ⟨0x2010, 0x4, 1, fun _ => [FC_CTRL.HFLOW, FC_CTRL.FN_LEVEL, FC_CTRL.FIRST_CLR]⟩,
   ⟨0x2014, 0x4, 1, fun _ => [FC_REC0.FC_QUIET]⟩,
   ⟨0x2018, 0x4, 1, fun _ => [FC_REC1.REC_MAX, FC_REC1.REC_WIN]⟩,
   ⟨0x201C, 0x4, 1, fun _ => [FC_REC_STAT.REC_CNT, FC_REC_STAT.WIN_REC]⟩,
   ⟨0x2020, 0x4, 1, fun _ => [FC_MSAFE.SS_M2, FC_MSAFE.SS_M1, FC_MSAFE.SS_M0]⟩,
   ⟨0x2030, 0x4, 4, fun i => [FC_ACT.ACT i]⟩,
   ⟨0x2040, 0x4, 4, fun i => [FC_EVT.EVT i]⟩,
   ⟨0x2050, 0x4, 1, fun _ => [FC_MOT.MOT2, FC_MOT.MOT1, FC_MOT.MOT0]⟩,
   ⟨0x2060, 0x4, 1, fun _ => [FC_HREQ.PEND, FC_HREQ.SRC, FC_HREQ.INST, FC_HREQ.REACT, FC_HREQ.SEQ]⟩,
   ⟨0x2064, 0x4, 1, fun _ => [FC_HANS.REACT, FC_HANS.SEQ]⟩,
   ⟨0x2068, 0x4, 1, fun _ => [FC_HCNT.ANS, FC_HCNT.TMO, FC_HCNT.BAD, FC_HCNT.BUSY]⟩,
   ⟨0x206C, 0x4, 1, fun _ => [FC_RESTART.REJ_CNT, FC_RESTART.HIGH_MS]⟩,
   ⟨0x2100, 0x4, 128, fun i => [FC_REACT.REACT_L i, FC_REACT.REACT_T i, FC_REACT.CNT_N i, FC_REACT.CNT_W i, FC_REACT.DFACT i]⟩]

/-- Registers of block SAFE (offsets 0x2400 to 0x27FF). -/
def safeFams : List RegFam :=
  [⟨0x2400, 0x4, 1, fun _ => [SAFE_RSTAT.PRSTATE, SAFE_RSTAT.LIMP_RUN, SAFE_RSTAT.BLIND, SAFE_RSTAT.PART_IN, SAFE_RSTAT.PA_ALIVE, SAFE_RSTAT.FAB_ALIVE, SAFE_RSTAT.LINK_UP, SAFE_RSTAT.RSTATE]⟩,
   ⟨0x2404, 0x4, 1, fun _ => [SAFE_REVT.LIMP_END, SAFE_REVT.BLIND, SAFE_REVT.COPY_MM, SAFE_REVT.DISAGREE, SAFE_REVT.CHG]⟩,
   ⟨0x2408, 0x4, 1, fun _ => [SAFE_RCFG.PSTAT_FLOW, SAFE_RCFG.FAB_N, SAFE_RCFG.PA_EN, SAFE_RCFG.PA_TMO]⟩,
   ⟨0x240C, 0x4, 1, fun _ => [SAFE_LIMP.LIMP_TMAX, SAFE_LIMP.LIMP_END, SAFE_LIMP.LIMP_DF, SAFE_LIMP.LIMP_RAMP]⟩,
   ⟨0x2410, 0x4, 1, fun _ => [SAFE_LIMP_CTL.LEFT, SAFE_LIMP_CTL.RST_USED, SAFE_LIMP_CTL.RESTART]⟩,
   ⟨0x2414, 0x4, 1, fun _ => [SAFE_SSUP.V5, SAFE_SSUP.EN]⟩,
   ⟨0x2418, 0x4, 1, fun _ => [SAFE_TP.TP_EN, SAFE_TP.TP_WIDTH, SAFE_TP.TP_PERIOD]⟩,
   ⟨0x241C, 0x4, 1, fun _ => [SAFE_TPA0.ASSIGN]⟩,
   ⟨0x2420, 0x4, 1, fun _ => [SAFE_TPA1.USE, SAFE_TPA1.ASSIGN]⟩,
   ⟨0x2424, 0x4, 1, fun _ => [SAFE_TP_STAT.SHORT_CNT, SAFE_TP_STAT.INPUT, SAFE_TP_STAT.RANGE, SAFE_TP_STAT.SHORT]⟩,
   ⟨0x2428, 0x4, 1, fun _ => [SAFE_KEY.KEY]⟩,
   ⟨0x242C, 0x4, 1, fun _ => [SAFE_UNL.WRITER, SAFE_UNL.PW_GEN, SAFE_UNL.WRONG_CNT, SAFE_UNL.PW_SET, SAFE_UNL.LOCK, SAFE_UNL.STATE]⟩,
   ⟨0x2430, 0x4, 1, fun _ => [SAFE_SET_CRC.SET_CRC]⟩,
   ⟨0x2434, 0x4, 1, fun _ => [SAFE_SLT.CAUSE, SAFE_SLT.RESULT, SAFE_SLT.RUN]⟩,
   ⟨0x2440, 0x4, 8, fun i => [SAFE_PWH.PWH i]⟩]

/-- Registers of block BRINE (offsets 0x2800 to 0x2BFF). -/
def brineFams : List RegFam :=
  [⟨0x2800, 0x4, 1, fun _ => [BRINE_CTRL.RETRAIN, BRINE_CTRL.BULK1_EN, BRINE_CTRL.BULK0_EN, BRINE_CTRL.AUTO_WAKE, BRINE_CTRL.WAKE_TX, BRINE_CTRL.EN]⟩,
   ⟨0x2804, 0x4, 1, fun _ => [BRINE_XMAP.RXBASE, BRINE_XMAP.TXBASE]⟩,
   ⟨0x2808, 0x4, 1, fun _ => [BRINE_STAT.TX_ALIVE, BRINE_STAT.RX_ALIVE, BRINE_STAT.LOST_RUN, BRINE_STAT.SIG1, BRINE_STAT.SIG0, BRINE_STAT.LINK]⟩,
   ⟨0x280C, 0x4, 1, fun _ => [BRINE_EVT.BULK_DISC, BRINE_EVT.CMD_FAIL, BRINE_EVT.SELF, BRINE_EVT.XREC, BRINE_EVT.STALE, BRINE_EVT.SKIP, BRINE_EVT.CODE, BRINE_EVT.CRC, BRINE_EVT.UP, BRINE_EVT.LOSS]⟩,
   ⟨0x2810, 0x4, 1, fun _ => [BRINE_DLY.TRAIN_CNT, BRINE_DLY.LINK_DLY]⟩,
   ⟨0x2814, 0x4, 1, fun _ => [BRINE_CNT0.LOST_CNT, BRINE_CNT0.CRC_CNT]⟩,
   ⟨0x2818, 0x4, 1, fun _ => [BRINE_CNT1.CODE_CNT, BRINE_CNT1.CMD_RETRY_CNT, BRINE_CNT1.BULK_DISC_CNT]⟩,
   ⟨0x281C, 0x4, 1, fun _ => [BRINE_BULK.TX_CRED1, BRINE_BULK.TX_CRED0, BRINE_BULK.RX_USED1, BRINE_BULK.RX_USED0]⟩]

/-- Registers of block NET (offsets 0x2C00 to 0x2FFF). -/
def netFams : List RegFam :=
  [⟨0x2C00, 0x4, 1, fun _ => [NET_CTRL.HFLOW, NET_CTRL.XR_MODE, NET_CTRL.GW_NODE, NET_CTRL.FWD_OTHER, NET_CTRL.P1_EN, NET_CTRL.P0_EN]⟩,
   ⟨0x2C04, 0x4, 1, fun _ => [NET_ADDR.STRAP, NET_ADDR.ADDR, NET_ADDR.RING, NET_ADDR.CLAIM]⟩,
   ⟨0x2C08, 0x4, 1, fun _ => [NET_STAT.GPTP, NET_STAT.NODES, NET_STAT.SPEED1, NET_STAT.SPEED0, NET_STAT.RING, NET_STAT.NB1, NET_STAT.NB0, NET_STAT.LINK1, NET_STAT.LINK0]⟩,
   ⟨0x2C0C, 0x4, 1, fun _ => [NET_EVT.SCHED_ERR, NET_EVT.ROUTE_MISS, NET_EVT.NEW_PEER, NET_EVT.ADDR_CONFLICT, NET_EVT.E2E, NET_EVT.RING_EVT, NET_EVT.NB1_LOST, NET_EVT.NB0_LOST]⟩,
   ⟨0x2C10, 0x4, 1, fun _ => [NET_CYC.FAB_CYCLE]⟩,
   ⟨0x2C14, 0x4, 1, fun _ => [NET_SCHED.ANN_PERIOD, NET_SCHED.SCHED_LEN]⟩,
   ⟨0x2C18, 0x4, 1, fun _ => [NET_TIM.NB_N, NET_TIM.E2E_N, NET_TIM.CLAIM_N, NET_TIM.AGE, NET_TIM.BC_HOPS]⟩,
   ⟨0x2C1C, 0x4, 1, fun _ => [NET_PTP.PRIO1, NET_PTP.PRIO2, NET_PTP.GM_CAP, NET_PTP.LOG_SYNC, NET_PTP.LOG_PDELAY]⟩,
   ⟨0x2C20, 0x4, 1, fun _ => [NET_PTP_OFS.OFFSET]⟩,
   ⟨0x2C24, 0x4, 2, fun i => [NET_PTPLAT.TX_LAT i, NET_PTPLAT.RX_LAT i]⟩,
   ⟨0x2C30, 0x4, 1, fun _ => [NET_CNT0.HOP_DROP, NET_CNT0.DUP_DROP]⟩,
   ⟨0x2C34, 0x4, 1, fun _ => [NET_CNT1.E2E_CRC_CNT, NET_CNT1.E2E_GAP_CNT]⟩,
   ⟨0x2C38, 0x4, 1, fun _ => [NET_CNT2.ROUTE_MISS_CNT, NET_CNT2.OTHER_DROP_CNT]⟩,
   ⟨0x2C3C, 0x4, 1, fun _ => [NET_E2E_INFO.FLOW, NET_E2E_INFO.SRC]⟩,
   ⟨0x2C40, 0x8, 16, fun i => [NET_WIN_A.EN i, NET_WIN_A.PORTS i, NET_WIN_A.FLOW i, NET_WIN_A.OFFSET i]⟩,
   ⟨0x2C44, 0x8, 16, fun i => [NET_WIN_B.LEN i]⟩,
   ⟨0x2D00, 0x40, 2, fun i => [NET_CAN_CFG.EN i, NET_CAN_CFG.FD i, NET_CAN_CFG.NODE i, NET_CAN_CFG.NBR i, NET_CAN_CFG.DBR i]⟩,
   ⟨0x2D04, 0x4, 8, fun i => [NET_CAN0_ID.EN i, NET_CAN0_ID.DIR i, NET_CAN0_ID.IDE i, NET_CAN0_ID.ID i]⟩,
   ⟨0x2D44, 0x4, 8, fun i => [NET_CAN1_ID.EN i, NET_CAN1_ID.DIR i, NET_CAN1_ID.IDE i, NET_CAN1_ID.ID i]⟩,
   ⟨0x2D24, 0x4, 2, fun i => [NET_CAN0_FL.FLOW i]⟩,
   ⟨0x2D64, 0x4, 2, fun i => [NET_CAN1_FL.FLOW i]⟩,
   ⟨0x2D2C, 0x40, 2, fun i => [NET_CAN_STAT.TEC i, NET_CAN_STAT.REC i, NET_CAN_STAT.DISC_CNT i, NET_CAN_STAT.BUS i]⟩]

/-- Registers of block PAN (offsets 0x3000 to 0x33FF). -/
def panFams : List RegFam :=
  [⟨0x3000, 0x4, 1, fun _ => [PAN_CTRL.TRACE_FLOW, PAN_CTRL.XBUF]⟩,
   ⟨0x3004, 0x4, 1, fun _ => [PAN_OP.OP, PAN_OP.SLOT, PAN_OP.FLOW]⟩,
   ⟨0x3008, 0x4, 1, fun _ => [PAN_STAT.REJ_FLOW, PAN_STAT.REJ_CODE, PAN_STAT.OPERR, PAN_STAT.XREC, PAN_STAT.ENREJ, PAN_STAT.XBUF_FULL, PAN_STAT.DROP]⟩,
   ⟨0x300C, 0x4, 1, fun _ => [PAN_CNT0.NOFLOW_CNT, PAN_CNT0.XBUF_DROP_CNT]⟩,
   ⟨0x3010, 0x4, 1, fun _ => [PAN_CNT1.DUP_HIT_CNT, PAN_CNT1.DUP_PEND_CNT]⟩,
   ⟨0x3014, 0x4, 1, fun _ => [PAN_CNT2.DUP_EVICT_CNT, PAN_CNT2.PAN_DISCARD]⟩,
   ⟨0x3018, 0x4, 1, fun _ => [PAN_XBUF_STAT.XBUF_HIGH, PAN_XBUF_STAT.XBUF_USED]⟩,
   ⟨0x3020, 0x4, 8, fun i => [PAN_NE.NE i]⟩,
   ⟨0x3040, 0x4, 8, fun i => [PAN_FULL.FULL i]⟩]

/-- Registers of block PWR (offsets 0x3400 to 0x37FF). -/
def pwrFams : List RegFam :=
  [⟨0x3400, 0x4, 1, fun _ => [PWR_STATE.STATE, PWR_STATE.PREV, PWR_STATE.BUSY, PWR_STATE.PEND, PWR_STATE.PEND_TGT, PWR_STATE.DOM_ON]⟩,
   ⟨0x3404, 0x4, 1, fun _ => [PWR_REQ.REQ, PWR_REQ.TARGET]⟩,
   ⟨0x3408, 0x4, 1, fun _ => [PWR_REQ_STAT.PEND_OVR, PWR_REQ_STAT.REFUSED, PWR_REQ_STAT.ABORTED, PWR_REQ_STAT.DROPPED, PWR_REQ_STAT.WRITER, PWR_REQ_STAT.REF_BLOCK, PWR_REQ_STAT.REF_CODE]⟩,
   ⟨0x340C, 0x4, 1, fun _ => [PWR_CFG.D11_OFF, PWR_CFG.D9_OFF, PWR_CFG.D8_OFF]⟩,
   ⟨0x3410, 0x4, 1, fun _ => [PWR_WATCH.PERIOD, PWR_WATCH.SRC, PWR_WATCH.IDX, PWR_WATCH.SSUP, PWR_WATCH.SETTLE]⟩,
   ⟨0x3414, 0x4, 1, fun _ => [PWR_WIN.WIN_HI, PWR_WIN.WIN_LO]⟩,
   ⟨0x3418, 0x4, 1, fun _ => [PWR_WAKE_EN.CAN_TMO, PWR_WAKE_EN.WAKE_POL, PWR_WAKE_EN.EN]⟩,
   ⟨0x341C, 0x4, 1, fun _ => [PWR_WAKE_STAT.LAST, PWR_WAKE_STAT.ERR, PWR_WAKE_STAT.CAUSE]⟩,
   ⟨0x3420, 0x4, 1, fun _ => [PWR_WATCH_CNT.CYC_CNT, PWR_WATCH_CNT.WAKE_CNT]⟩,
   ⟨0x3424, 0x4, 1, fun _ => [PWR_RTC_LO.RTC]⟩,
   ⟨0x3428, 0x4, 1, fun _ => [PWR_RTC_HI.RTC]⟩]

/-- Registers of block MGMT (offsets 0x3800 to 0x3BFF). -/
def mgmtFams : List RegFam :=
  [⟨0x3800, 0x4, 1, fun _ => [MGMT_BOOT_STAT.BOOT_CASE, MGMT_BOOT_STAT.C1_ERR, MGMT_BOOT_STAT.C0_ERR, MGMT_BOOT_STAT.FW_SLOT, MGMT_BOOT_STAT.COMPAT, MGMT_BOOT_STAT.APPLY_ERR, MGMT_BOOT_STAT.ST_FAIL, MGMT_BOOT_STAT.BOOT_PHASE]⟩,
   ⟨0x3804, 0x4, 1, fun _ => [MGMT_BOOT_DIFF.DIFF_VALID, MGMT_BOOT_DIFF.DIFF_OFFSET]⟩,
   ⟨0x3808, 0x4, 1, fun _ => [MGMT_BOOT_ST.SSUP, MGMT_BOOT_ST.SLUICE_LS, MGMT_BOOT_ST.SLUICE_HS, MGMT_BOOT_ST.GD, MGMT_BOOT_ST.INJ, MGMT_BOOT_ST.CMP, MGMT_BOOT_ST.MBIST, MGMT_BOOT_ST.CE_LBIST]⟩,
   ⟨0x380C, 0x4, 1, fun _ => [MGMT_ARM_BLOCK.SLUICE_TEST, MGMT_ARM_BLOCK.UNLOCKED, MGMT_ARM_BLOCK.NO_LOCK, MGMT_ARM_BLOCK.NO_PROG, MGMT_ARM_BLOCK.TEST_MODE, MGMT_ARM_BLOCK.SELFTEST, MGMT_ARM_BLOCK.IMG_DIFF]⟩,
   ⟨0x3810, 0x4, 1, fun _ => [MGMT_IMG_INFO.IMG_VER]⟩,
   ⟨0x3820, 0x4, 1, fun _ => [MGMT_ID_SER_LO.SERIAL]⟩,
   ⟨0x3824, 0x4, 1, fun _ => [MGMT_ID_SER_HI.SERIAL]⟩,
   ⟨0x3828, 0x4, 1, fun _ => [MGMT_ID_DIE.FAB, MGMT_ID_DIE.WAFER, MGMT_ID_DIE.DIE_X, MGMT_ID_DIE.DIE_Y]⟩,
   ⟨0x382C, 0x4, 1, fun _ => [MGMT_ID_LOT0.LOT3, MGMT_ID_LOT0.LOT2, MGMT_ID_LOT0.LOT1, MGMT_ID_LOT0.LOT0]⟩,
   ⟨0x3830, 0x4, 1, fun _ => [MGMT_ID_LOT1.TEST_DATE, MGMT_ID_LOT1.LOT5, MGMT_ID_LOT1.LOT4]⟩,
   ⟨0x3840, 0x4, 1, fun _ => [MGMT_MBX_CTRL.GO]⟩,
   ⟨0x3844, 0x4, 1, fun _ => [MGMT_MBX_STAT.RSP_LEN, MGMT_MBX_STAT.STATUS, MGMT_MBX_STAT.DONE]⟩,
   ⟨0x3848, 0x4, 1, fun _ => [MGMT_LOG_SEQ.NEWEST]⟩,
   ⟨0x384C, 0x4, 1, fun _ => [MGMT_LOG_STAT.BAD_LINES, MGMT_LOG_STAT.LOST_CNT, MGMT_LOG_STAT.HEAD]⟩,
   ⟨0x3850, 0x4, 1, fun _ => [MGMT_UPD.SVC, MGMT_UPD.STATUS, MGMT_UPD.CHECK, MGMT_UPD.BUSY]⟩,
   ⟨0x3854, 0x4, 1, fun _ => [MGMT_UPD_PROG.BYTES]⟩,
   ⟨0x3858, 0x4, 1, fun _ => [MGMT_HO.HO_TMO, MGMT_HO.REASON, MGMT_HO.NEXT, MGMT_HO.HSTATE, MGMT_HO.HO_ID]⟩,
   ⟨0x3860, 0x4, 3, fun i => [MGMT_TEMP.T_ODD i, MGMT_TEMP.T_EVEN i]⟩,
   ⟨0x386C, 0x4, 1, fun _ => [MGMT_TLIM.CRIT, MGMT_TLIM.WARN]⟩,
   ⟨0x3870, 0x4, 12, fun i => [MGMT_SUP.OUT i, MGMT_SUP.VALUE i]⟩,
   ⟨0x3A00, 0x4, 128, fun i => [MGMT_MBX_BUF.DATA i]⟩]

/-- Registers of block IDX (offsets 0x3C00 to 0x3FFF). -/
def idxFams : List RegFam :=
  [⟨0x3C00, 0x4, 1, fun _ => [IDX_ADDR.ADDR]⟩,
   ⟨0x3C04, 0x4, 1, fun _ => [IDX_DATA.DATA]⟩,
   ⟨0x3C08, 0x4, 1, fun _ => [IDX_STAT.QOVF, IDX_STAT.AERR, IDX_STAT.QBUSY, IDX_STAT.HALF]⟩]

/-- Registers of block CTX (offsets 0x1300000 to 0x130FFFF). -/
def ctxFams : List RegFam :=
  [⟨0x1300000, 0x40, 128, fun i => [CTX_W0.STATE i, CTX_W0.BANK i, CTX_W0.CMOT i, CTX_W0.CROLE i, CTX_W0.RDIV i, CTX_W0.RPHASE i, CTX_W0.LAW i]⟩,
   ⟨0x1300004, 0x40, 128, fun i => [CTX_W1.IN_A i, CTX_W1.IN_B i]⟩,
   ⟨0x1300008, 0x40, 128, fun i => [CTX_W2.DCNT i, CTX_W2.RAN i, CTX_W2.PRE i, CTX_W2.WON i, CTX_W2.HMISS i, CTX_W2.SAT_HI i, CTX_W2.SAT_LO i]⟩,
   ⟨0x130000C, 0x40, 128, fun i => [CTX_W3.U_LAST i]⟩]

/-- Registers of block ROUTE (offsets 0x2000000 to 0x2000FFF). -/
def routeFams : List RegFam :=
  [⟨0x2000000, 0x4, 64, fun i => [ROUTE.VALID i, ROUTE.SEEN1 i, ROUTE.SEEN0 i, ROUTE.HOPS1 i, ROUTE.HOPS0 i, ROUTE.PREF i]⟩]

/-- Registers of block FLOW (offsets 0x3000000 to 0x307FFFF). -/
def flowFams : List RegFam :=
  [⟨0x3000000, 0x20, 256, fun i => [FLOW_W0.EN i, FLOW_W0.KIND i, FLOW_W0.OVW i, FLOW_W0.SCHED i, FLOW_W0.XDLV i, FLOW_W0.ESIZE i, FLOW_W0.PBASE i]⟩,
   ⟨0x3000004, 0x20, 256, fun i => [FLOW_W1.PEND i, FLOW_W1.PLEN_LIVE i, FLOW_W1.PLEN i]⟩,
   ⟨0x3000008, 0x20, 256, fun i => [FLOW_W2.RING i, FLOW_W2.NODE i, FLOW_W2.PEER_FLOW i, FLOW_W2.SRCSEL i]⟩,
   ⟨0x300000C, 0x20, 256, fun i => [FLOW_W3.XIDX i, FLOW_W3.XLEN i]⟩,
   ⟨0x3000010, 0x20, 256, fun i => [FLOW_W4.CRED i, FLOW_W4.CRED_NOW i]⟩,
   ⟨0x3000014, 0x20, 256, fun i => [FLOW_W5.WPTR i, FLOW_W5.RPTR i]⟩,
   ⟨0x3000018, 0x20, 256, fun i => [FLOW_W6.FILL i, FLOW_W6.SEQ i]⟩,
   ⟨0x300001C, 0x20, 256, fun i => [FLOW_W7.DROP i, FLOW_W7.DISC i]⟩]

/-- The register families of the block a direct offset lies in (R71). -/
def blockFams (off : Nat) : List RegFam :=
  match off / 0x400 with
  | 0 => sysFams
  | 1 => rakeFams
  | 2 => afeFams
  | 3 => posFams
  | 4 => ceFams
  | 5 => ceFams
  | 6 => fieldFams
  | 7 => gdFams
  | 8 => fcFams
  | 9 => safeFams
  | 10 => brineFams
  | 11 => netFams
  | 12 => panFams
  | 13 => pwrFams
  | 14 => mgmtFams
  | 15 => idxFams
  | _ => []

/-- The fields a family has at an offset, if one of its registers lies there. -/
def RegFam.at (r : RegFam) (off : Nat) : Option (List Fld) :=
  if r.base ≤ off ∧ (off - r.base) % r.stride = 0 ∧ (off - r.base) / r.stride < r.count
  then some (r.flds ((off - r.base) / r.stride)) else none

/-- The fields of the register at a word offset of the direct space; none where no register lies (R72). -/
def fieldsAt (off : Nat) : Option (List Fld) := (blockFams off).findSome? (RegFam.at · off)

/-- The fields of a word of the indirect space that is made of fields: a context entry (R174), a route entry (R421) or a
flow descriptor word (R440). -/
def indirectFieldsAt (a : Nat) : Option (List Fld) :=
  (ctxFams ++ routeFams ++ flowFams).findSome? (RegFam.at · a)

/-- Every register family of the direct space. -/
def directFams : List RegFam :=
  sysFams ++ rakeFams ++ afeFams ++ posFams ++ ceFams ++ fieldFams ++ gdFams ++ fcFams ++ safeFams ++ brineFams
    ++ netFams ++ panFams ++ pwrFams ++ mgmtFams ++ idxFams

/-- All fields of a family. -/
def RegFam.all (r : RegFam) : List Fld := (List.range r.count).flatMap r.flds

end Sys2Proof.Machine
end

