-- ==== Sys2Proof/Machine/State.lean ====
section
/-! DEFINITION. The state of one half as plain data: registers, memories, and what the blocks hold between events. -/

namespace Sys2Proof.Machine

/-- Why a command stops the machine. No meaning raises it: every command the table lists has an effect in the spec. -/
inductive Fault where
  /-- Kept so that the type is inhabited; no meaning answers it (safe). -/
  | none_
  deriving DecidableEq, Repr

/-- Why a command has no meaning. -/
inductive Refusal where
  /-- The command is not modelled yet; only the dispatcher's own arms answer it (safe). -/
  | notModelled (mnemonic : String)
  deriving DecidableEq, Repr

/-- The half states of R461. -/
inductive HalfState where
  | off | watch | boot | selftest | standby | armed | limp | safe | lockout | update | bootFail
  deriving DecidableEq, Repr

/-- Software writers and the write groups' bookkeeping (R90 to R94), and what the access ports hold. -/
structure Sys where
  /-- Recorded writer of each group (R93), by group bit; 0xFF where none is recorded. -/
  groupWriter : List (Nat × Nat)
  /-- Writers of the commit writes since each group's last snapshot, as (group, writer), oldest first (R93). -/
  commitWriters : List (Nat × Nat)
  /-- The snapshot of R90 of the groups that were pending, until it is applied: field key and candidate value. -/
  snapshot : List (Nat × Nat)
  /-- Groups accepted at the last snapshot and not yet applied, as a bit mask. -/
  accepted : Nat
  /-- Indirect X writes waiting in the queue of R75, as (X byte address, word, CEC of entry), oldest first. -/
  xQueue : List (Nat × Word × Nat)
  /-- Bytes the host SPI slave sent in its last frame (R76). -/
  miso : List Byte
  /-- The word the last register or indirect read returned. -/
  rdata : Word
  /-- TMR fields whose three copies were found to differ since their last write or rewrite, by key (R88). -/
  voteSeen : List Nat
  /-- Accesses of other paths that wait for the round-robin while a burst or a frame is served, oldest first (R83). -/
  waiting : List Access
  deriving DecidableEq, Repr

/-- What the Rake holds beside its registers. -/
structure Rake where
  /-- Length of the present tick in CEC: TICK_PERIOD, or the length R66 gives it. -/
  tickLen : Nat
  /-- The tick that begins next restarts the centre-aligned counter (R523). -/
  restartPwm : Bool
  /-- Consecutive measurements within the lock limit (R68). -/
  inLimit : Nat
  /-- Consecutive measurements beyond the loss limit (R68). -/
  beyond : Nat
  /-- Ticks since the last measurement (R68). -/
  noMeas : Nat
  /-- The last two phase errors in steps of 312.5 ps, each with its time, newest first (R64). -/
  lastErr : List (Int × Nat)
  /-- Net steps applied in each of the last 64 ticks, newest first (R68). -/
  stepHist : List Int
  /-- Net steps applied in the present tick. -/
  stepNow : Int
  /-- Phase error that a jump still has to remove, in CEC (R66). -/
  jumpLeft : Int
  /-- Time at which HOLDOVER was entered. -/
  holdSince : Nat
  /-- CEC of the last tick boundary. -/
  lastBoundary : Nat
  /-- CEC of the one before it. -/
  boundaryBefore : Nat
  /-- The phase error of this tick has been measured (R63). -/
  measured : Bool
  /-- This is the first tick after a start of the Rake (R146, R269). -/
  firstTick : Bool
  deriving DecidableEq, Repr

/-- One active or waiting reaction (R336, R337). -/
structure Reaction where
  src : Nat
  inst : Nat
  level : Nat
  /-- DFACT of the source's entry when the reaction was taken (R344, R346). -/
  dfact : Nat
  deriving DecidableEq, Repr

/-- One occurrence of a source with its time. -/
structure Occur where
  src : Nat
  inst : Nat
  time : Nat
  deriving DecidableEq, Repr

/-- The last occurrence of a source and INST that took a reaction above NOTE, with that reaction. -/
structure Taken where
  src : Nat
  inst : Nat
  time : Nat
  level : Nat
  deriving DecidableEq, Repr

/-- A side of a motor that carries an occurrence on a switch or phase: 0 low, 1 high (R339). -/
structure Side where
  src : Nat
  inst : Nat
  motor : Nat
  side : Nat
  deriving DecidableEq, Repr

/-- Fault collector state beside its registers. -/
structure Fc where
  /-- Reactions in effect (R337). -/
  active : List Reaction
  /-- F1 and F2 reactions that take effect at the next tick boundary (R335). -/
  waiting : List Reaction
  /-- Sources whose condition holds (R342), as (source, INST). -/
  sources : List (Nat × Nat)
  /-- The last 15 occurrences of each source and INST, newest first (R345). -/
  occurs : List Occur
  /-- Last occurrence that took a reaction above NOTE, for each source and INST (R354). -/
  lastReact : List Taken
  /-- Times of the recoveries (R356), newest first. -/
  recoveries : List Nat
  /-- Time of the pending host request, and DFACT of the source's entry at its occurrence (R344, R350). -/
  requestAt : Nat
  requestFact : Nat
  /-- A HOLD reaction waits for the next OUT_PHASE (R335). -/
  hold : Bool
  /-- Time of the last log entry and suppressed occurrences of each source and INST (R347). -/
  logged : List (Nat × Nat × Nat × Nat)
  /-- Half state that the half is taken to at the next tick boundary (R462): 7 SAFE, 8 LOCKOUT, 4 where an accepted RESTART edge leaves
  LOCKOUT (R358), or 2 where a half reset or the end of UPDATE leads to BOOT (R124, R497). -/
  halfReq : Option Nat
  /-- Sides that the SHORT safe state of a motor may not use, by the occurrences on its switches and phases (R339). -/
  sides : List Side
  /-- Motors whose safe state FX could not establish, so that they are in FREE in its place (R353). -/
  lost : List Nat
  /-- ALIVE output level and the time of its last toggle (R359). -/
  alive : Bool
  aliveAt : Nat
  /-- FAULT_N output asserted low (R360). -/
  faultN : Bool
  /-- The half has reached STANDBY since the last POR release, wake or half reset (R360, R463). -/
  reachedStandby : Bool
  deriving DecidableEq, Repr

/-- One phase cut-off driver (R317, R318). -/
structure CutOff where
  /-- Commanded closed. -/
  closed : Bool
  /-- Ticks an opening has waited for the current to fall; none when no opening waits. -/
  waiting : Option Nat
  deriving DecidableEq, Repr

/-- A series-switch test in progress (R330). -/
structure SluiceTest where
  /-- The test serves a transition to ARMED. -/
  arming : Bool
  /-- An abort is due: a crossing or a request toward SAFE. -/
  aborted : Bool
  /-- The step that runs. -/
  step : Nat
  deriving DecidableEq, Repr

/-- Gate driver state beside its registers. -/
structure Gd where
  /-- Cut-off drivers by phase 3 × m + phase. -/
  cuts : List (Nat × CutOff)
  /-- Gates whose command is refused until it falls (R312). -/
  refused : List Nat
  /-- High-side gates whose turn-on is blocked (R315). -/
  blocked : List Nat
  /-- Gates waiting for the handshake of R308. -/
  waitingOn : List Nat
  /-- Gates whose turn-on is withheld until the next ideal edge (R310). -/
  withheld : List Nat
  /-- Tick boundaries seen since a GD_BSUV report, by gate (R315). -/
  bsuvStage : List (Nat × Nat)
  /-- Time of the last chopper turn-on. -/
  chopOnAt : Nat
  /-- End of the forced off time of R319. -/
  chopRestUntil : Option Nat
  /-- Consecutive CH18 results at OV_SHORT, and below OV_LIM (R324). -/
  ovsRun : Nat
  ovRelRun : Nat
  /-- Bus at OV_CHOP or above, as the fast comparator sees it. -/
  busHigh : Bool
  /-- GD_CHO has been reported for the present turn-on of the chopper (R320). -/
  choSeen : Bool
  /-- GD_OVS has been raised, and its short begins at the next tick boundary (R324). -/
  ovsDue : Bool
  /-- The short of GD_OVS, and that of GD_OVABS: while its source is active or its reaction is held (R324, R325). -/
  ovsHeld : Bool
  ovabsHeld : Bool
  /-- Series-switch test in progress. -/
  test : Option SluiceTest
  /-- Drive code each gate used at its last edge (R96, R305), by gate. -/
  edgeCode : List (Nat × Nat)
  deriving DecidableEq, Repr

/-- A transition of the power-state machine in progress (R464, R468). -/
inductive Transition where
  | idle
  /-- BOOT and SELFTEST together (R465). -/
  | booting
  /-- Arming requested: the other conditions are judged and the test begins at the next tick boundary (R381). -/
  | arming
  /-- The series-switch test of an arming runs (R381). -/
  | armTesting
  /-- The test has ended; the arming is judged again at the next tick boundary (R381). -/
  | armJudge (passed : Bool)
  /-- Disarmed; the series switches open at the given time (R464). -/
  | disarming (until_ : Nat)
  /-- A request to STANDBY from ARMED or LIMP waits for the tick boundary. -/
  | toStandby
  /-- A request to SAFE waits for the tick boundary. -/
  | toSafe
  /-- A request to STANDBY from SAFE waits for the tick boundary. -/
  | leaveSafe
  /-- Phase 1 of sleep entry, the step that votes at the next boundary (R468). -/
  | sleeping (step : Nat)
  /-- A block refused: the stopped blocks restart at the next boundary (R469). -/
  | sleepRollback
  /-- A wake or a request to SAFE ends phase 1: the stopped blocks restart at the next boundary, the abort point (R466); with `safe`
  the half then enters SAFE. `failed` says that the request had been refused before. -/
  | sleepAborting (safe failed : Bool)
  /-- Step 6 voted yes: phase 2 begins at the next boundary (R469). -/
  | sleepDown
  deriving DecidableEq, Repr

/-- Target state code of the request that a transition carries out; none where no request does, or it has failed already (R464). -/
def Transition.target : Transition → Option Nat
  | .idle => none
  | .booting => none
  | .arming => some 5
  | .armTesting => some 5
  | .armJudge _ => some 5
  | .disarming _ => some 4
  | .toStandby => some 4
  | .toSafe => some 7
  | .leaveSafe => some 4
  | .sleeping _ => some 1
  | .sleepRollback => none
  | .sleepAborting _ failed => if failed then none else some 1
  | .sleepDown => some 1

/-- Sleep entry is in phase 1 (R468). -/
def Transition.inSleep : Transition → Bool
  | .sleeping _ => true
  | .sleepRollback => true
  | .sleepAborting _ _ => true
  | .sleepDown => true
  | _ => false

/-- What WATCH keeps in D0 (R471, R472). -/
structure WatchKeep where
  portCfg : Word
  portTim : Word
  hallCfg : Word
  uni : Bool
  trimGain : Nat
  trimOfs : Nat
  v5 : Bool
  deriving DecidableEq, Repr

/-- Power-state machine beside its registers. -/
structure Pwr where
  trans : Transition
  /-- Writer of the request that runs. -/
  reqWriter : Nat
  /-- Writer of the pending request. -/
  pendWriter : Nat
  /-- Configuration that WATCH needs. -/
  keep : WatchKeep
  /-- Reference sample of the first WATCH cycle. -/
  reference : Option Nat
  /-- PWR_RTC_HI as latched by the last read of LO (R476). -/
  rtcHi : Nat
  /-- ETHSLPp outputs asserted (R469). -/
  ethSleep : Nat
  /-- Blocks stopped in phase 1, by REF_BLOCK (R468). -/
  stopped : List Nat
  /-- Changes of D8_OFF, D9_OFF or D11_OFF that take effect at the next boundary (R460). -/
  domChange : Bool
  /-- Start of the running boot (R116, R463). -/
  bootAt : Nat
  /-- Start of the next WATCH cycle (R471). -/
  watchAt : Nat
  /-- The flash answered the running boot with a JEDEC ID (R102). -/
  flashOk : Bool
  deriving DecidableEq, Repr

/-- Host start step (R296). -/
structure HStep where
  kind : Nat
  dur : Nat
  param : Nat
  deriving DecidableEq, Repr

/-- Sequencer state of one motor channel (chapter Field control and commutation). -/
structure Chan where
  /-- EN and DIR as taken at the last tick boundary (R283). -/
  en : Bool
  dir : Bool
  /-- EN must be written 0 before the channel leaves IDLE again (R295). -/
  blockedEn : Bool
  /-- Time in the present state or segment, in CEC of ticks that were not held. -/
  timer : Nat
  /-- Catch window: last back-EMF angle, sum of wrapped changes and number of changes (R286). -/
  catchAng : Option Nat
  catchSum : Int
  catchN : Nat
  /-- REFUSE: CH18 codes of the last 8 ticks, newest first, and the short in progress (R288). -/
  busHist : List Int
  refuseShort : Bool
  /-- The present period of the winding short has its off intervals, and the period that follows it is to have them (R290). -/
  shortOff : Bool
  shortNext : Bool
  /-- The duty cap was in effect at the last PWM reload (R316). -/
  capLive : Bool
  /-- Ramp: speed ω_r in 2⁻²⁸ turn per tick, angle and reference (R293), angles in 2⁻³² turn. -/
  rampSpd : Nat
  angCmd : Nat
  irefCmd : Int
  /-- Consecutive ticks in which the handover conditions held (R294). -/
  goodTicks : Nat
  /-- Start timer from the start of RAMP or the end of the pulses (R295), and whether it runs. -/
  startTimer : Nat
  startOn : Bool
  /-- Travel in the direction of DIR during acceleration, and the last voted angle (R292). -/
  travel : Int
  angSeen : Nat
  /-- Pulse method: pulses done, ticks of the present pulse, the peaks sampled, oldest first, and the angle found in steps of
  30 degrees (R292). -/
  pulseIdx : Nat
  pulseTicks : Nat
  peaks : List Int
  pole : Nat
  /-- Host steps: the present one and the queued one (R296). -/
  step : Option HStep
  queued : Option HStep
  stepTicks : Nat
  /-- A pulse of a PULSE step, as its direction in steps of 30 degrees, ended at the valley at which the present tick began (R296). -/
  pulseDue : Option Nat
  /-- Locked-rotor timer in CEC (R297), COMM count seen last, and thresholds already reported. -/
  lockTimer : Nat
  lockComm : Nat
  lockSeen : Nat
  /-- The half was in service at the last boundary (R283). -/
  inSvc : Bool
  /-- This tick is the SYNC tick of R289. -/
  sync : Bool
  /-- Last committed voltage vector and phase currents (R24, R278). -/
  vAlpha : Int
  vBeta : Int
  /-- Compare values committed at OUT_PHASE (R280) and those the PWM runs with, phases U, V, W. -/
  cmpNext : List Nat
  cmpLive : List Nat
  /-- q-current command of the last committed tick (R297). -/
  iqCmd : Int
  /-- OVM and VSAT in the last committed tick, and the span (R273). -/
  ovm : Bool
  vsat : Bool
  span : Nat
  /-- Own share in effect, S of the last commit and whether a frame's split was taken (R298, R299), 0x8000 = 1.0 in
  Q1.31 scale. -/
  share : Nat
  fabShare : Nat
  splitLast : Nat
  splitKnown : Bool
  /-- The split before the last one taken from a frame (R299), and the lanes that counted at the last fabric cycle start, as slot and
  weight (R301). -/
  splitPrev : Nat
  lanes : List (Nat × Nat)
  /-- The first split commit after a return to DUAL starts from this share (R300). -/
  splitStart : Option Nat
  deriving DecidableEq, Repr

/-- An event the Bittern log is to hold (R487): TYPE, writer code, AUX and the 12 DATA bytes. -/
structure LogEvent where
  typ : Nat
  writer : Nat
  aux : Nat
  data : List Byte
  deriving DecidableEq, Repr

/-- What the image marks and the boot resolved (R37, R38, R108). -/
structure Img where
  /-- Motors the CHAN section marks used. -/
  used : List Nat
  /-- Motors marked shared (R37). -/
  shared : List Nat
  /-- Write masks of ring A and ring B (R81). -/
  maskA : Nat
  maskB : Nat
  /-- Address of the partner half in the other ring, by the ROLE section and the strap (R416, R449); 0 for none. -/
  partner : Nat
  deriving DecidableEq, Repr

/-- The keep area of the MRAM (R485, R388). -/
structure KeepArea where
  /-- Active password hash, salt and generation; no hash while the area is blank. -/
  pwHash : Option (List Byte)
  pwSalt : List Byte
  pwGen : Nat
  /-- Lines of the log ring mapped bad (R488). -/
  badLines : List Nat
  bootCount : Nat
  deriving DecidableEq, Repr

/-- SAFE beside its registers. -/
structure Safe where
  /-- In-service bit of the last Brine frame accepted and of the one before it, and the time the last came (R363, R365). -/
  frameIn : Bool
  frameBefore : Bool
  frameAt : Nat
  /-- In-service bit and redundancy copy of the last status record (R363). -/
  recIn : Bool
  recCopy : Nat
  /-- Fabric cycles since the last status record (R363). -/
  recAge : Nat
  /-- Time of the last PEER_ALIVE edge (R363). -/
  edgeAt : Nat
  /-- Consecutive frames whose copy differed from the own copy (R366). -/
  copyDiff : Nat
  /-- Time of the last DISAGREE log entry (R366). -/
  disagreeAt : Option Nat
  /-- First password word with its writer and time, and the second word while the hash is compared (R383). -/
  keyHi : Option (Word × Nat × Nat)
  keyLo : Option Word
  /-- Writer whose attempt is being checked, and time of the last member write under the open unlock (R386). -/
  keyWriter : Nat
  memberAt : Nat
  /-- CEC and writer of the last unlock that UNLOCK_TIMEOUT closed (R386). -/
  timedOut : Option (Nat × Nat)
  /-- New hash written to SAFE_PWH0 to SAFE_PWH7 (R388). -/
  newHash : List Word
  /-- Start of the last test pulse of each supply, by supply (R377), and the supplies inside a pulse. -/
  pulseAt : List (Nat × Nat)
  pulsing : List Nat
  deriving DecidableEq, Repr

/-- What POS holds of one motor beside its registers (chapter Position and speed feedback). -/
structure PosM where
  /-- Filtered speed ω_f, unscaled, in 2⁻³² turn per tick, and the changes it is the mean of, newest first (R158). -/
  omega : Int
  changes : List Int
  /-- A vote has been made since the Rake started (R154, R158). -/
  voted : Bool
  /-- Electrical position E in 2⁻³² turn (R159), and the initialisation an encoder still owes (R160). -/
  pos : Int
  initDue : Bool
  /-- Writer of a LOAD that the next vote takes (R160). -/
  loadBy : Option Nat
  /-- ENC_RAW of the motor, or its extrapolation (R146, R147). -/
  encRaw : Nat
  /-- Drop counters and readmission counts by source: 0 sensor, 1 partner, 2 observer (R155, R156). -/
  drops : List (Nat × Nat)
  goods : List (Nat × Nat)
  /-- Consecutive ticks with V3N or V2D, with V1, and with V0 (R157). -/
  disRun : Nat
  oneRun : Nat
  noneRun : Nat
  /-- Sector of the voted angle that was last counted, and the boundaries, as number and direction, that the voted angle or the Hall
  triple has counted and the other has yet to cross (R163). -/
  sector : Option Nat
  byAngle : List (Nat × Bool)
  byHall : List (Nat × Bool)
  /-- Commutation events since the start of the Rake (R163), which no write of COMM_CNT changes. -/
  events : Nat
  /-- SOFT_MIN and SOFT_MAX as last taken, in Q16.16 turns (R161). -/
  softMin : Int
  softMax : Int
  deriving DecidableEq, Repr

/-- What the word of a request comes to (R145, R147): a word that passed, one that failed or was late, a discarded one. -/
inductive WordFate where
  | good
  | failed
  | discarded
  deriving DecidableEq, Repr

/-- A released encoder word: the ENC_REQ_PHASE and clock divider of its request (R56), its single-turn angle of 2³² per turn and its
turns. -/
structure PosWord where
  phase : Nat
  div : Nat
  angle : Nat
  turns : Nat
  fate : WordFate
  deriving DecidableEq, Repr

/-- One encoder port (R143 to R147). -/
structure PosPort where
  /-- Time of the running request, with the ENC_REQ_PHASE, clock divider and span it was made with. -/
  reqAt : Option Nat
  reqPhase : Nat
  reqDiv : Nat
  reqSpan : Nat
  /-- The running request was made in this tick, so that its word serves the next tick (R54). -/
  reqNew : Bool
  /-- The word of the running request is late for the tick it serves, and is treated as a timeout (R54). -/
  late : Bool
  /-- The word that serves this tick, and the one released for the next tick. -/
  cur : Option PosWord
  next : Option PosWord
  /-- ENC_AGE as delivered with the last word (R55, R56). -/
  age : Int
  deriving DecidableEq, Repr

/-- One Hall triple (R148, R149). -/
structure PosHall where
  /-- Sector boundary last crossed, as an angle, and its time; none before the first crossing and after ILL or SEQ. -/
  crossed : Option (Nat × Nat)
  /-- A code from 1 to 6 has been taken. -/
  known : Bool
  /-- A judged change was impossible or skipped since the last vote, which counts against the source (R155). -/
  bad : Bool
  deriving DecidableEq, Repr

/-- Partner angle as received for the next vote (R152): its angle at the time it stands for, its speed, and its validity. -/
structure PosPartner where
  angle : Nat
  speed : Int
  valid : Bool
  deriving DecidableEq, Repr

/-- What the AFE holds beside its registers (chapter Analog front end). -/
structure Afe where
  /-- Raw codes held by the sample-and-holds since SAMPLE_PHASE, by channel (R129). -/
  held : List (Nat × Nat)
  /-- Words CH0 to CH8 wrote in the last tick that began at a valley (R134). -/
  valley : List (Nat × Word)
  /-- The words last written to X, by channel (R132, R290, R318). -/
  wrote : List (Nat × Word)
  /-- Calibration in effect since SAMPLE_PHASE: (OFS, GAIN) fields by source, 0 to 8 amplifiers, 9 to 12 cores (R139). -/
  effect : List (Nat × (Nat × Nat))
  /-- Ticks since the last calibration window, and the amplifier that is next (R138). -/
  sinceWindow : Nat
  nextAmp : Nat
  /-- The calibration window in progress: amplifier and its start (R137). -/
  window : Option (Nat × Nat)
  /-- Ticks since the last write of each host offset (R140), by amplifier; 0 where unlisted. -/
  hostAge : List (Nat × Nat)
  hostStale : List Nat
  /-- OC_EN of the amplifiers as it took effect at the last boundary, as a bit mask, and OC_LO and OC_HI by amplifier, the reset values
  where unlisted (R136). -/
  ocEn : Nat
  ocLim : List (Nat × (Int × Int))
  deriving DecidableEq, Repr

/-- What OUT_PHASE has committed (R24, R43, R524). -/
structure Outputs where
  /-- The outputs of the present tick were held, or nothing was active (R51, R262, R524). -/
  held : Bool
  /-- OUT_PHASE of the present tick has passed. -/
  done : Bool
  /-- HELD goes with the per-tick frame of the tick (R402). -/
  txHeld : Bool
  deriving DecidableEq, Repr

/-- What the half has put on its wires. -/
inductive Sent where
  /-- A fabric frame through port 0 or 1 (R411). -/
  | fabric (port : Nat) (f : FabFrame)
  /-- A frame of another EtherType through a port, as it came (R412). -/
  | other (port : Nat) (frame : List Byte)
  /-- A gPTP frame through a port (R428). -/
  | gptp (port : Nat) (m : PtpMsg)
  /-- A CAN FD frame through a controller (R436). -/
  | can (c : Nat) (f : CanFrame)
  /-- A per-tick frame (R401), a command frame or its answer (R404), a bulk unit and a credit set (R405), as the symbol slots of the two
  lanes of the Brine link (R393, R394). -/
  | perTick (slots : List LaneSlot)
  | command (slots : List LaneSlot)
  | bulk (slots : List LaneSlot)
  | credit (slots : List LaneSlot)
  /-- The frame that is being sent stops after the given number of symbols on each lane, and K28.6, after which it goes on
  (R406); with 0 symbols it has not begun, and leaves whole after the per-tick frame. -/
  | cut (symbols : Nat)
  | resume
  /-- Training sets, for 2 µs as a beacon or continuously (R396), and the wake pattern (R407). -/
  | beacon (set : TrainSet)
  /-- Training sets from here on, the first `after` symbols after what called for it (R397). -/
  | training (set : TrainSet) (after : Nat)
  | wake
  deriving DecidableEq, Repr

/-- A frame in the transit pool (R452): waiting for ports, or to cross to the Brine link. -/
structure Transit where
  toBrine : Bool
  ports : List Nat
  frame : FabFrame
  deriving DecidableEq, Repr

/-- One entry of the response cache (R455). -/
structure CacheEntry where
  flow : Nat
  reqId : Nat
  /-- The stored response once DONE. -/
  done : Option FabFrame
  deriving DecidableEq, Repr

/-- One source slot of the response cache, oldest entry first; the slots stand in order of use, least recent first. -/
structure CacheSlot where
  /-- Path: 0 ring A, 1 ring B, 2 CAN0, 3 CAN1. -/
  path : Nat
  node : Nat
  entries : List CacheEntry
  deriving DecidableEq, Repr

/-- Where a fabric, CAN FD or host request came from, and where its response goes (R455, R478). -/
structure Reply where
  /-- 0 ring A, 1 ring B, 2 CAN0, 3 CAN1 as in R455; 4 host SPI. -/
  path : Nat
  /-- Port of arrival, and whether the request was link-local (R419). -/
  port : Nat
  linkLocal : Bool
  node : Nat
  flow : Nat
  reqId : Nat
  /-- Writer code of R93. -/
  writer : Nat
  deriving DecidableEq, Repr

/-- Flows and pans beside their registers and the SRAM (chapter Flows and pans). -/
structure Pan where
  transit : List Transit
  /-- Source held by each slot of an RX_LATEST flow, by flow × 8,192 + slot. -/
  slots : List (Nat × Nat)
  /-- What has been done with the head entry of a TX_PAN flow (R451): 0 and 1, sent through a port; 2 and 3, done by a CAN controller; 4, done
  with the fabric as a whole; 5, counted in DROP; 6, it has taken its SEQ. -/
  headSent : List (Nat × List Nat)
  /-- Ports the head entry uses, chosen when its first copy is sent. -/
  headPorts : List (Nat × List Nat)
  cache : List CacheSlot
  /-- Last flow served in the bulk phase of each port (R450). -/
  served : List (Nat × Nat)
  /-- TX_TICK flows sent in this fabric cycle (R450), and the gPTP time of SAMPLE_PHASE of the tick of their record (R431). -/
  tickSent : List Nat
  sampled : List (Nat × Nat)
  /-- Frames of the half itself that wait for the bulk phase of a port (R432), and frames of other EtherTypes from the Ethernet header to the
  FCS, by port (R412, R426). -/
  waiting : List (Nat × FabFrame)
  others : List (Nat × List Byte)
  /-- What meets in one CEC (R457): flows whose full queue POP took an entry from, with the time; the last PLEN write of a flow, with the
  length that was pending before it; the last record appended by a producer, with its flow, unit and the bytes it replaced; and the copies
  discarded for a PENDING original, with path, node, flow and request. -/
  popped : List (Nat × Nat)
  lenAt : List (Nat × (Nat × Option Nat))
  lastAppend : Option (Nat × Nat × Nat × List Byte)
  copies : List (Nat × Reply)
  deriving DecidableEq, Repr

/-- One schedule window as taken at a cycle start (R429, R431). -/
structure Window where
  en : Bool
  ports : Nat
  flow : Nat
  offset : Nat
  len : Nat
  deriving DecidableEq, Repr

/-- What the end-to-end check of one receive flow has seen in this cycle (R433). -/
structure E2e where
  got : Bool
  bad : Bool
  run : Nat
  /-- SRC byte of the last frame. -/
  src : Option Nat
  /-- SEQ of the last frame delivered, by source. -/
  last : List (Nat × Nat)
  deriving DecidableEq, Repr

/-- What a cycle start takes from NET_CYC, NET_SCHED and the windows (R429). -/
structure Sched where
  fab : Nat
  len : Nat
  ann : Nat
  windows : List Window
  deriving DecidableEq, Repr

/-- One port of the time-aware system (R428): the measured delay of its link; the Pdelay_Req that waits, with its time of sending, and the
response to it, with the peer's time of receipt and the own one of the response; requests to answer, with their time of receipt; the
best Announce and its path; the Sync that waits for its Follow_Up, with its time of receipt; what the other port has to pass on: time of the
grandmaster, correction and time of receipt; sequence numbers, and the CEC of the last request, Announce and Sync; TX_LAT in
effect. -/
structure PtpPort where
  delay : Option Int
  req : Option (Nat × Int)
  resp : Option (Int × Int)
  owed : List (Nat × Int)
  best : Option (PtpVector × List Nat)
  sync : Option (Nat × Int)
  relay : Option (Int × Int × Int)
  reqSeq : Nat
  syncSeq : Nat
  reqAt : Option Nat
  annAt : Option Nat
  syncAt : Option Nat
  txLat : Nat
  deriving DecidableEq, Repr

/-- NET beside its registers (chapter Horbiud fabric). -/
structure Net where
  /-- gPTP time less own time, in ns. -/
  timeOfs : Int
  /-- Fabric cycles begun, and the time of the last start. -/
  cycles : Nat
  cycleAt : Nat
  /-- The bulk phase has begun. -/
  bulk : Bool
  /-- FAB_CYCLE, SCHED_LEN, ANN_PERIOD and windows in effect in this cycle (R429), and whether the windows may be sent (R430). -/
  fabCycle : Nat
  schedLen : Nat
  annPeriod : Nat
  windows : List Window
  windowsOk : Bool
  /-- PREF in effect since the cycle start, by node (R421). -/
  pref : List (Nat × Nat)
  /-- Last delivered SEQ by source × 256 + flow (R425). -/
  lastSeq : List (Nat × Nat)
  /-- Fabric cycles since the last frame with a valid FCS, by port (R423). -/
  silent : List (Nat × Nat)
  /-- Cycle of the last ANNOUNCE of node n through port q, by 2 × n + q, plus 1 (R422). -/
  seenAt : List (Nat × Nat)
  /-- Identity kept for each address (R420). -/
  idents : List (Nat × List Byte)
  /-- Cycles left of the own claim (R418), the cycle at which the address was held, and of the last own ANNOUNCE. -/
  claimLeft : Nat
  heldAt : Nat
  annLast : Nat
  /-- RING_EVT frames owed, by port of the lost neighbour (R423). -/
  ringOwed : List Nat
  e2e : List (Nat × E2e)
  /-- Sequence number of flow 0. -/
  seq0 : Nat
  /-- Times a controller that is off the bus has seen 11 recessive bits in a row, by controller (R435). -/
  canIdle : List (Nat × Nat)
  /-- What the registers of the schedule held before the writes of a CEC (R437). -/
  winOld : Option (Nat × Sched)
  /-- The time-aware system of the two ports, and the port synchronised to (R428). -/
  ptp0 : PtpPort
  ptp1 : PtpPort
  slave : Option Nat
  deriving DecidableEq, Repr

/-- The outstanding command frame of the own MP (R404). -/
structure CmdOut where
  bytes : List Byte
  tries : Nat
  sentTick : Nat
  deriving DecidableEq, Repr

/-- What the transmitter of the Brine link is sending (R393, R400, R406): the time of its first symbol, its symbols on each lane, and
the time at which its last symbol ends; times in steps of 312.5 ps. -/
structure TxSpan where
  begin_ : Nat
  symbols : Nat
  until_ : Nat
  deriving DecidableEq, Repr

/-- BRINE beside its registers (chapter Brine link). -/
structure Brine where
  /-- Bytes 0x10 to 0x7B of the last frame sent, and those formed at OUT_PHASE with the STATE byte of the tick (R401, R402). -/
  txData : List Byte
  txState : Nat
  /-- An accepted frame that waits for its write (R403), with the tick whose TSTART it serves. -/
  rx : Option (List Byte × Nat)
  /-- Ticks whose TSTART the last accepted frame and the last written frame serve (R399, R403). -/
  got : Option Nat
  written : Option Nat
  /-- ALIVE of an accepted frame is known (R398). -/
  heard : Bool
  /-- Consecutive accepted frames in CONFIRM (R396). -/
  goodRun : Nat
  /-- The third consecutive loss has been found (R399). -/
  lossDue : Bool
  trainAt : Nat
  /-- Where the symbol boundaries of the lanes lie, in steps of 312.5 ps within the 40 of a symbol (R400). -/
  grid : Nat
  /-- Own echo token, and what TRAIN has reached: lanes aligned, delay measured, the partner's step shows the same (R397). -/
  token : Nat
  aligned : Bool
  measured : Bool
  peerDone : Bool
  cmdOut : Option CmdOut
  /-- SEQ of the last command frame posted, and of the last delivered. -/
  cmdSeq : Nat
  cmdSeen : Option Nat
  /-- The MP's receive queue of four command frames. -/
  cmdQueue : List (List Byte)
  /-- The last posted command frame failed, as reported to the MP (R404). -/
  cmdFailed : Bool
  /-- Units of the crossing frame that is being sent, and bytes gathered of one being received, as FLAGS and payload. -/
  txUnits : List (Nat × List Byte)
  rxBytes : List Byte
  /-- Class 0 units received and not yet moved into the transit pool (R453). -/
  rxWait : List (Nat × List Byte)
  /-- The frame on the lanes, and what waits for its end with its length in symbols, command frames first (R404, R406). -/
  span : Option TxSpan
  txWait : List (Sent × Nat)
  /-- BRINE_PHASE and LOFS that the last valid partner frame states, until its phase is measured (R58, R63, R69). -/
  peer : Option (Nat × Nat)
  /-- Tick whose TSTART a complete, CRC-valid frame came for (R58). -/
  valid : Option Nat
  /-- CEC in which the last wake pattern began (R408). -/
  wakeAt : Option Nat
  deriving DecidableEq, Repr

/-- What one-time memory holds beside the bytes the spec gives no layout for (R484 to R486). -/
structure Fuse where
  serial : Nat
  fab : Nat
  /-- Lot letters, oldest first, wafer, die place and test date as the identity registers show them. -/
  lot : List Nat
  wafer : Nat
  dieX : Nat
  dieY : Nat
  testDate : Nat
  /-- Calibration trims (OFS, GAIN) by source, 0 to 8 amplifiers, 9 to 12 cores (R139). -/
  trims : List (Nat × (Nat × Nat))
  /-- Hash of the image key once provisioned (R110, R484). -/
  keyHash : Option (List Byte)
  deriving DecidableEq, Repr

/-- A mailbox request waiting for the MP (R477, R478). -/
structure MboxReq where
  reply : Reply
  bytes : List Byte
  deriving DecidableEq, Repr

/-- A long service in progress (R480): its number, its region, and the blocks of an erase; the writer for its log entry. -/
structure LongSvc where
  svc : Nat
  region : Nat
  block : Nat
  count : Nat
  writer : Nat
  deriving DecidableEq, Repr

/-- MGMT and the MP beside their registers (chapter Management, identity and in-service change). -/
structure Mgmt where
  queue : List MboxReq
  long : Option LongSvc
  /-- Times of the log entries written in the last second, newest first (R488). -/
  logTimes : List Nat
  /-- Since when each temperature sensor has been at or above WARN and CRIT (R481), and since when each has been 5 degrees
  below; by sensor, sensor + 8 for CRIT. -/
  hotSince : List (Nat × Nat)
  coolSince : List (Nat × Nat)
  /-- Since when each supply monitor has been outside its window, by monitor, and inside, by monitor + 16 (R482). -/
  supSince : List (Nat × Nat)
  /-- Version of the running firmware slot, and the ROM form of BOOT_FAIL (R103). -/
  fwVersion : Nat
  romForm : Bool
  deriving DecidableEq, Repr

/-- Handover (R493 to R497). -/
structure Handover where
  mask : Nat
  /-- The split ramps toward its target, since the given time. -/
  ramp : Bool
  since : Nat
  /-- The request to STANDBY of R495 leads to UPDATE when its transition ends. -/
  toUpdate : Bool
  /-- UPDATE was entered under R495, and the flag in D0 that UPDATE_END sets (R497). -/
  inUpdate : Bool
  flag : Bool
  /-- HO_OUT has been sent or received (R495, R496). -/
  out : Bool
  /-- A HOLD reaction has been taken since the last tick boundary (R496). -/
  held : Bool
  /-- Command frames the MP has yet to post, as CODE and payload, while one is outstanding (R404). -/
  toSend : List (Nat × List Byte)
  deriving DecidableEq, Repr

/-- A D register: word and domain tag, set for S (R209). -/
structure TWord where
  v : Word
  s : Bool
  deriving DecidableEq, Repr

/-- An accumulator with its domain tag. -/
structure TAcc where
  v : Acc
  s : Bool
  deriving DecidableEq, Repr

/-- Where a held result lands (R200, R214). An accumulator has two views: what a later accumulate reads from stream cycle
t + 1, and what every other read finds from t + 3. Numbers are physical. -/
inductive Dest where
  | d (n : Nat)
  | accNear (n : Nat)
  | accFar (n : Nat)
  | p (n : Nat)
  | pm (n : Nat)
  | pl (n : Nat)
  | lsa (k : Nat)
  | lc (k : Nat)
  | rrb
  /-- The flags of a mask. -/
  | flags (mask : Nat)
  /-- A B-program store to an X word and its mirror (R172). -/
  | x (a : Nat)
  deriving DecidableEq, Repr

/-- What ties the writebacks of the two passes together (R259): bundle index, SLOT, KIND, the pass-A destination number, and
whether the operation that made it met a tag conflict (R258). -/
structure Twin where
  idx : Nat
  slot : Nat
  kind : Nat
  dest : Nat
  conf : Bool
  deriving DecidableEq, Repr

/-- A result held until its stream issues stream cycle `due` (R214, R215). -/
structure Held where
  due : Nat
  dst : Dest
  val : Nat
  tag : Bool
  twin : Option Twin
  deriving DecidableEq, Repr

/-- What an accepted CTXRUN or COMPETE leaves beside its words (R177, R187, R188). -/
inductive CtxEffect where
  | run (n sat u : Nat) (pre miss : Bool)
  | compete (m code winner : Nat) (track : List (Nat × Int))
  deriving DecidableEq, Repr

/-- A writeback presented to the comparators (R259, R260). -/
structure Landed where
  /-- Stream cycle at whose issue it landed, or of the store's bundle. -/
  cyc : Nat
  twin : Twin
  /-- Value as written; to memory for a store. -/
  val : Nat
  /-- Tag, where the destination carries one. -/
  tag : Option Bool
  /-- Logical address of a store. -/
  addr : Nat
  eff : Option CtxEffect
  deriving DecidableEq, Repr

/-- One instruction stream (R200). -/
structure Stream where
  /-- Issuing; for a B-program, started and not idle at its halt. -/
  run : Bool
  pc : Nat
  /-- Next stream cycle, and bundles issued. -/
  t : Nat
  issued : Nat
  /-- Issues of the repeated bundle that are left (R221), and whether it has yet to issue for the first time. -/
  rep : Nat
  repNew : Bool
  /-- Loop bodies, as first and last bundle, that the loop cache holds and serves (R220, R222). -/
  cache : List (Nat × Nat)
  d : List (Nat × TWord)
  accNear : List (Nat × TAcc)
  accFar : List (Nat × TAcc)
  p : List (Nat × Nat)
  pm : List (Nat × Nat)
  pl : List (Nat × Nat)
  lsa : List (Nat × Nat)
  /-- Results that have not landed, by rising due cycle. -/
  held : List Held
  deriving DecidableEq, Repr

/-- A stored word that a pass still reads with its old value (R214): bank 0 or 1 for Y, 2 for X; byte address; stream cycle
from which the new value is visible; old value. -/
structure OldWord where
  bank : Nat
  addr : Nat
  due : Nat
  old : Word
  new : Word
  deriving DecidableEq, Repr

/-- A word of X or Y that was written in a CEC (R196, R197): its place, the CEC, the writer's rank in the order of R196, and the word before any
write of that CEC. -/
structure Touch where
  key : Nat
  time : Nat
  rank : Nat
  old : Word
  deriving DecidableEq, Repr

/-- The control engine beside its registers. -/
structure Ce where
  a : Stream
  b : Stream
  p : Stream
  /-- FLAGS shared by T-A and the B-program, FLAGS of T-B, and the B-program's while it is stopped (R202, R227). -/
  flags : Nat
  flagsB : Nat
  flagsKept : Nat
  /-- Copies 1 and 2 of LC0, LC1 and RRB. -/
  lc1 : List (Nat × Nat)
  lc2 : List (Nat × Nat)
  rrb1 : Nat
  rrb2 : Nat
  /-- Pass-A and pass-B writebacks that wait for the comparators. -/
  bufA : List Landed
  bufB : List Landed
  old : List OldWord
  /-- A writeback mismatch or comparator fault in this tick (R262), and one whose known-answer test is due in the next. -/
  mism : Bool
  katNext : Bool
  /-- The known-answer test of this tick has begun and has no verdict yet. -/
  katOpen : Bool
  /-- The known-answer test issues (R264). -/
  katRun : Bool
  /-- Its first mismatching writeback, as comparators and bundle, and the signatures of its passes (R264, R265). -/
  katBad : Option (Nat × Nat)
  katSigA : Nat
  katSigB : Nat
  /-- While it runs: what disturbs it, the writebacks of its passes so far, and copy 1 of the loop state at its start (R202, R264). -/
  katHits : List KatHit
  katLogA : List Landed
  katLogB : List Landed
  katLc : List (Nat × Nat)
  katRrb : Nat
  /-- CEC in which the first bundle of the T-program issues in this tick, or of a known-answer test that runs (R50, R252). -/
  tStart : Nat
  /-- PP_WIN as it took effect at the last boundary (R229). -/
  ppWin : Nat
  /-- CE_ILL, CE_ISSUE, CE_TAG, TR_KAT or TR_MM reported in this tick, by bits 0 to 4: each is one occurrence a tick. -/
  seen : Nat
  /-- What CE_ILL_INFO records of this tick: 0 nothing, 1 a tag conflict, 2 an illegal bundle (R250, R258). -/
  recorded : Nat
  /-- Ticks of the last 15 transients, newest first (R266). -/
  transients : List Nat
  /-- The B-program is to stop at the next bundle boundary outside a REP: for a preemption (R45), or for good with a restart at
  its entry when the flag is set (R169, R170). -/
  bStop : Bool
  bEnd : Option Bool
  /-- The B-program is stopped and waits for the end of pass B. -/
  bStopped : Bool
  /-- The T-program of the tick is over: pass B has halted, or no program runs (R46). -/
  tOver : Bool
  /-- Contexts whose law ran in this tick and those with missing host data (R174, R187); competition results of this tick by
  motor, as code and winning context (R188). -/
  ran : List Nat
  hmiss : List Nat
  wins : List (Nat × (Nat × Nat))
  /-- T of TRACKING members as recorded, and as recorded in this tick (R180). -/
  track : List (Nat × Int)
  trackNew : List (Nat × Int)
  /-- Contexts that left OPEN at the boundary being applied: their DCNT is loaded, not advanced (R178). -/
  loaded : List Nat
  deriving DecidableEq, Repr

structure State where
  /-- Commands waiting, first in first out. -/
  pending : List Instr
  part : Part
  halfId : HalfId
  /-- ROLE strap pins (R416). -/
  strap : Nat
  /-- CEC since POR release, and CEC within the present tick. -/
  now : Nat
  cec : Nat
  /-- Free values drawn so far (the model's own counter). -/
  drawn : Nat
  /-- Register fields by key; unlisted fields hold their reset value. -/
  regs : List (Nat × Nat)
  /-- Shadows of SHD fields by key; an unlisted shadow equals the live value (R84). -/
  shadows : List (Nat × Nat)
  /-- Second and third copies of TMR fields by key; an unlisted copy equals the first (R87). -/
  tmr1 : List (Nat × Nat)
  tmr2 : List (Nat × Nat)
  xmem : Mem
  ymem0 : Mem
  ymem1 : Mem
  pm0 : Mem
  pm1 : Mem
  /-- Errors in stored words of the control engine's memories, by place, and the words written in the present CEC (R196, R199). -/
  eccs : List (Nat × Ecc)
  touched : List Touch
  /-- MP SRAM of D2 (R16): the firmware that runs; bytes that nothing has written read as 0xFF. -/
  mpSram : Mem
  sram : Mem
  mram : Mem
  keepArea : KeepArea
  otp : Mem
  flash : Mem
  /-- The image marks AUTO_ARM (R105, R126). -/
  autoArm : Bool
  sys : Sys
  rake : Rake
  fc : Fc
  gd : Gd
  pwr : Pwr
  chans : List (Nat × Chan)
  posM : List (Nat × PosM)
  posPort : List (Nat × PosPort)
  posHall : List (Nat × PosHall)
  /-- Partner angles of the Brine frame accepted for the present tick, by motor. -/
  posPartner : List (Nat × PosPartner)
  /-- Tick whose vote that frame serves; none where its frame came after the vote or none came (R152). -/
  partnerAt : Option Nat
  afe : Afe
  out : Outputs
  ce : Ce
  net : Net
  pan : Pan
  brine : Brine
  /-- What has left the half, in order. -/
  wire : List Sent
  safe : Safe
  logQueue : List LogEvent
  img : Img
  fuse : Fuse
  mgmt : Mgmt
  ho : Handover
  deriving DecidableEq, Repr

/-! ### The machine right after reset -/

def Sys.init : Sys := ⟨[], [], [], 0, [], [], 0, [], []⟩

def Rake.init : Rake := ⟨4000, true, 0, 0, 0, [], [], 0, 0, 0, 0, 0, false, true⟩

def Fc.init : Fc := ⟨[], [], [], [], [], [], 0, 0, false, [], none, [], [], false, 0, true, false⟩

def Gd.init : Gd := ⟨[], [], [], [], [], [], 0, none, 0, 0, false, false, false, false, false, none, []⟩

def WatchKeep.init : WatchKeep := ⟨0, 0, 0, false, 0, 0, false⟩

def Pwr.init : Pwr := ⟨.booting, 0, 0, WatchKeep.init, none, 0, 0, [], false, 0, 0, false⟩

def Chan.init : Chan :=
  { en := false, dir := false, blockedEn := false, timer := 0, catchAng := none, catchSum := 0, catchN := 0, busHist := [],
    refuseShort := false, shortOff := false, shortNext := false, capLive := false, rampSpd := 0, angCmd := 0, irefCmd := 0, goodTicks := 0, startTimer := 0,
    startOn := false, travel := 0, angSeen := 0, pulseIdx := 0, pulseTicks := 0, peaks := [], pole := 0, step := none,
    queued := none, stepTicks := 0, pulseDue := none, lockTimer := 0, lockComm := 0, lockSeen := 0, inSvc := false, sync := false,
    vAlpha := 0, vBeta := 0, cmpNext := [], cmpLive := [], iqCmd := 0, ovm := false, vsat := false, span := 0,
    share := 0, fabShare := 0, splitLast := 0, splitKnown := false, splitPrev := 0, lanes := [], splitStart := none }

def Safe.init : Safe := ⟨false, false, 0, false, 4, 0, 0, 0, none, none, none, 0, 0, none, List.replicate 8 0, [], []⟩

def KeepArea.init : KeepArea := ⟨none, [], 0, [], 0⟩

def PosM.init : PosM :=
  { omega := 0, changes := [], voted := false, pos := 0, initDue := true, loadBy := none, encRaw := 0, drops := [],
    goods := [], disRun := 0, oneRun := 0, noneRun := 0, sector := none, byAngle := [], byHall := [], events := 0, softMin := -2147483647, softMax := 2147483647 }

def PosPort.init : PosPort := ⟨none, 0, 0, 0, false, false, none, none, 0⟩

def PosHall.init : PosHall := ⟨none, false, false⟩

def PosPartner.init : PosPartner := ⟨0, 0, false⟩

def Afe.init : Afe := ⟨[], [], [], [], 0, 0, none, [], [], 0x1FF, []⟩

def Outputs.init : Outputs := ⟨false, false, false⟩

def Pan.init : Pan := ⟨[], [], [], [], [], [], [], [], [], [], [], [], none, []⟩

def PtpPort.init : PtpPort :=
  { delay := none, req := none, resp := none, owed := [], best := none, sync := none, relay := none, reqSeq := 0, syncSeq := 0,
    reqAt := none, annAt := none, syncAt := none, txLat := 0 }

def Net.init : Net :=
  { timeOfs := 0, cycles := 0, cycleAt := 0, bulk := false, fabCycle := 0x2710, schedLen := 0, annPeriod := 100, windows := [], windowsOk := false,
    pref := [], lastSeq := [], silent := [], seenAt := [], idents := [], claimLeft := 0,
    heldAt := 0, annLast := 0, ringOwed := [], e2e := [], seq0 := 0, canIdle := [], winOld := none,
    ptp0 := .init, ptp1 := .init, slave := none }

def Brine.init : Brine :=
  { txData := List.replicate 108 0, txState := 0, rx := none, got := none, written := none, heard := false, goodRun := 0, lossDue := false,
    trainAt := 0, grid := 0, token := 0, aligned := false, measured := false, peerDone := false, cmdOut := none, cmdSeq := 0, cmdSeen := none, cmdQueue := [], cmdFailed := false, txUnits := [], rxBytes := [], rxWait := [],
    span := none, txWait := [], peer := none, valid := none, wakeAt := none }

def Stream.init : Stream := ⟨false, 0, 0, 0, 0, false, [], [], [], [], [], [], [], [], []⟩

def Ce.init : Ce :=
  { a := Stream.init, b := Stream.init, p := Stream.init, flags := 0, flagsB := 0, flagsKept := 0, lc1 := [], lc2 := [],
    rrb1 := 0, rrb2 := 0, bufA := [], bufB := [], old := [], mism := false, katNext := false, katOpen := false, katRun := false, katBad := none,
    katSigA := 0, katSigB := 0, katHits := [], katLogA := [], katLogB := [], katLc := [], katRrb := 0, tStart := 0, ppWin := 0, seen := 0, recorded := 0, transients := [], bStop := false, bEnd := none, bStopped := false, tOver := true, ran := [], hmiss := [],
    wins := [], track := [], trackNew := [], loaded := [] }

def Img.init : Img := ⟨[], [], 0, 0, 0⟩

def Mgmt.init : Mgmt := ⟨[], none, [], [], [], [], 0, false⟩

def Handover.init : Handover := ⟨0, false, 0, false, false, false, false, false, []⟩

def Fuse.init : Fuse := ⟨0, 0, [], 0, 0, 0, 0, [], none⟩

/-- The machine right after POR release, before the boot sequence has run: half A of an HX962-D. -/
def State.reset : State :=
  { pending := [], part := .hx962d, halfId := .a, strap := 0, now := 0, cec := 0, drawn := 0, regs := [], shadows := [],
    tmr1 := [], tmr2 := [], xmem := [], ymem0 := [], ymem1 := [], pm0 := [], pm1 := [], eccs := [], touched := [], mpSram := [], sram := [], mram := [],
    keepArea := KeepArea.init, otp := [], flash := [], autoArm := false, sys := Sys.init, rake := Rake.init, fc := Fc.init,
    gd := Gd.init, pwr := Pwr.init, chans := [], posM := [], posPort := [],
    posHall := [], posPartner := [], partnerAt := none, afe := Afe.init, out := Outputs.init, ce := Ce.init, net := Net.init, pan := Pan.init,
    brine := Brine.init, wire := [], safe := Safe.init, logQueue := [], img := Img.init, fuse := Fuse.init,
    mgmt := Mgmt.init, ho := Handover.init }

end Sys2Proof.Machine
end

