-- ==== Sys2Proof/Machine/Ops.lean ====
section
/-! DEFINITION. The named operations over registers, shadows, memories and time that every meaning uses. -/

namespace Sys2Proof.Machine

/-- Majority of three copies; the reset value where all differ (R87, R88). -/
def voteOf (reset a b c : Nat) : Nat := if a = b ∨ a = c then a else if b = c then b else reset

/-- Held in three copies (R87, R88). -/
def Fld.triple (f : Fld) : Bool := f.cls == .tmr || f.cls == .roTmr

/-- The value of a field: the voted value of a TMR field, else the stored value (R84, R87). -/
def State.rd (s : State) (f : Fld) : Nat :=
  match f.cls with
  | .tmr | .roTmr =>
    let a := lookup s.regs f.reset f.key
    voteOf f.reset a (lookup s.tmr1 a f.key) (lookup s.tmr2 a f.key)
  | _ => lookup s.regs f.reset f.key

/-- Store a field's value, cut to its width; a TMR field takes it in all three copies (R84). -/
def State.wr (s : State) (f : Fld) (v : Nat) : State :=
  match f.cls with
  | .tmr | .roTmr =>
    { s with regs := store s.regs f.reset f.key (v % 2 ^ f.width),
             tmr1 := erase s.tmr1 f.key, tmr2 := erase s.tmr2 f.key }
  | _ => { s with regs := store s.regs f.reset f.key (v % 2 ^ f.width) }

/-- A one-bit field, or any field, as a condition. -/
def State.flag (s : State) (f : Fld) : Bool := s.rd f != 0

/-- Set a one-bit field. -/
def State.setFlag (s : State) (f : Fld) (b : Bool) : State := s.wr f (if b then 1 else 0)

/-- A signed field. -/
def State.rdInt (s : State) (f : Fld) : Int := signedOf f.width (s.rd f)

/-- Store a signed number, wrapped to the field. -/
def State.wrInt (s : State) (f : Fld) (x : Int) : State := s.wr f (fieldOf f.width x)

/-- Bit `i` of a field. -/
def State.bit (s : State) (f : Fld) (i : Nat) : Bool := (s.rd f).testBit i

/-- Set or clear bit `i` of a field. -/
def State.setBit (s : State) (f : Fld) (i : Nat) (b : Bool) : State :=
  s.wr f (if b then s.rd f ||| 2 ^ i else if (s.rd f).testBit i then s.rd f - 2 ^ i else s.rd f)

/-- Count one event in a counter that stays at its maximum (R84). -/
def State.count (s : State) (f : Fld) : State := if s.rd f + 1 < 2 ^ f.width then s.wr f (s.rd f + 1) else s

/-- Count `n` events in a saturating counter. -/
def State.countN (s : State) (f : Fld) (n : Nat) : State := s.wr f (min (s.rd f + n) (2 ^ f.width - 1))

/-- Count one event in a counter that wraps. -/
def State.countWrap (s : State) (f : Fld) : State := s.wr f (s.rd f + 1)

/-- The shadow of an SHD field (R84). -/
def State.shadow (s : State) (f : Fld) : Nat := lookup s.shadows (s.rd f) f.key

/-- Replace a shadow. -/
def State.setShadow (s : State) (f : Fld) (v : Nat) : State :=
  { s with shadows := store s.shadows (s.rd f) f.key (v % 2 ^ f.width) }

/-- Reload a shadow from the live value. -/
def State.dropShadow (s : State) (f : Fld) : State := { s with shadows := erase s.shadows f.key }

/-- The 32-bit word that fields make, reserved bits reading as zero (R13). -/
def wordOfFields (val : Fld → Nat) (fs : List Fld) : Word :=
  BitVec.ofNat 32 ((fs.map fun f => val f <<< f.lo).foldl (· + ·) 0)

/-- The bits of a word that belong to a field. -/
def fieldBits (w : Word) (f : Fld) : Nat := (w.toNat >>> f.lo) % 2 ^ f.width

/-- CEC in one millisecond and one microsecond (400 MHz, R20). -/
def cecPerMs : Nat := 400000
def cecPerUs : Nat := 400

/-- Advance the clock to CEC `phase` of the present tick; an event is never before the present CEC. -/
def State.advanceTo (s : State) (phase : Nat) : State :=
  { s with now := s.now + (phase - s.cec), cec := max s.cec phase }

/-- One CEC passes. -/
def State.passCec (s : State) : State := { s with now := s.now + 1, cec := s.cec + 1 }

/-- The present tick number (RAKE_TICK_COUNT). -/
def State.tick (s : State) : Nat := s.rd RAKE_TICK_COUNT.TICK_COUNT

/-- The Rake counts ticks. -/
def State.running (s : State) : Bool := s.flag RAKE_STAT.RUN

/-- Half state codes of R461. -/
def HalfState.code : HalfState → Nat
  | .off => 0 | .watch => 1 | .boot => 2 | .selftest => 3 | .standby => 4 | .armed => 5 | .limp => 6 | .safe => 7
  | .lockout => 8 | .update => 9 | .bootFail => 10

/-- The half state that a code stands for; BOOT_FAIL for a code that R461 does not list. -/
def HalfState.ofCode (n : Nat) : HalfState :=
  match n with
  | 0 => .off | 1 => .watch | 2 => .boot | 3 => .selftest | 4 => .standby | 5 => .armed | 6 => .limp | 7 => .safe
  | 8 => .lockout | 9 => .update | _ => .bootFail

/-- The half state (PWR_STATE.STATE). -/
def State.half (s : State) : HalfState := .ofCode (s.rd PWR_STATE.STATE)

/-- Enter a half state, keeping the previous one in PREV (R476). -/
def State.setHalf (s : State) (h : HalfState) : State :=
  (s.wr PWR_STATE.PREV (s.rd PWR_STATE.STATE)).wr PWR_STATE.STATE h.code

/-- Domain Dn is on. -/
def State.domOn (s : State) (n : Nat) : Bool := s.bit PWR_STATE.DOM_ON n

/-- The Sluice is closed: both series switches are commanded closed. -/
def State.sluiceClosed (s : State) : Bool := s.flag GD_SLUICE.HS_CMD && s.flag GD_SLUICE.LS_CMD

/-- In service: ARMED or LIMP with the Sluice closed (R31). -/
def State.inService (s : State) : Bool := (s.half == .armed || s.half == .limp) && s.sluiceClosed

/-- Motor `m` is marked used by the CHAN section. -/
def State.motorUsed (s : State) (m : Nat) : Bool := s.img.used.contains m

/-- Motors of the half. -/
def motors : List Nat := [0, 1, 2]

/-- The used motors. -/
def State.usedMotors (s : State) : List Nat := motors.filter s.motorUsed

/-- A byte list of `n` bytes for a number, least significant first, and the log data built from such parts. -/
def dataOf (parts : List (Nat × Nat)) : List Byte := parts.flatMap fun p => leBytes p.1 p.2

/-- Enter an event for the Bittern log (R487). -/
def State.logEvent (s : State) (typ writer aux : Nat) (data : List Byte) : State :=
  { s with logQueue := s.logQueue ++ [⟨typ, writer, aux, data⟩] }

/-- The device as the writer of a log entry (R487). -/
def deviceWriter : Nat := 0xFF

/-- Word `i` of X memory at byte address `a` (R194). -/
def State.xWord (s : State) (a : Nat) : Word := s.xmem.word 0 a

/-- The place of a word or bundle in the control engine's memories. -/
def placeOf (m : CeMem) (a : Nat) : Nat :=
  match m with
  | .pm0 => a | .pm1 => 0x100000 + a | .x => 0x200000 + a | .y0 => 0x300000 + a | .y1 => 0x400000 + a

/-- Write one X word; an error stored in it ends (R199). -/
def State.setXWord (s : State) (a : Nat) (w : Word) : State :=
  { s with xmem := s.xmem.setWord 0 a w, eccs := erase s.eccs (placeOf .x a) }

/-- The mirror of an X byte address: address XOR 0x7FFC (R132, R273). -/
def mirrorOf (a : Nat) : Nat := a ^^^ 0x7FFC

/-- Write an X word and its mirror with the same value. -/
def State.setXPair (s : State) (a : Nat) (w : Word) : State := (s.setXWord a w).setXWord (mirrorOf a) w

/-! ### Several writes of one word in one CEC (R196) -/

/-- Ranks of the writers of X. -/
def rankQueue := 0
def rankAfe := 1
def rankPos := 2
def rankCe := 3

/-- Note a write in the present CEC by a writer of a rank, `old` being the word it replaces. -/
def State.touch (s : State) (key rank : Nat) (old : Word) : State :=
  let here (t : Touch) : Bool := t.key == key && t.time == s.now
  let live := s.touched.filter fun t => s.now ≤ t.time + 16
  if live.any here then { s with touched := live.map fun t => if here t then { t with rank := rank } else t }
  else { s with touched := live ++ [⟨key, s.now, rank, old⟩] }

/-- A writer of a higher rank has written the word in the present CEC. -/
def State.outranked (s : State) (key rank : Nat) : Bool :=
  s.touched.any fun t => t.key == key && t.time == s.now && decide (rank < t.rank)

/-- The word a place held before the writes of the present CEC, and of the CECs to come in which results of an idle B-program land (R171). -/
def State.beforeCec (s : State) (key : Nat) : Option Word :=
  (s.touched.find? fun t => t.key == key && s.now ≤ t.time).map (·.old)

/-- What happens at CEC time `t`, while the clock of the state stands elsewhere. -/
def State.atTime (s : State) (t : Nat) (f : State → State) : State :=
  { f { s with now := t, cec := s.cec + t - s.now } with now := s.now, cec := s.cec }

/-- Write one X word as a writer of a rank: of several writes in one CEC the one of the highest rank stands. -/
def State.writeX (s : State) (rank a : Nat) (w : Word) : State :=
  if s.outranked (placeOf .x a) rank then s else (s.touch (placeOf .x a) rank (s.xWord a)).setXWord a w

/-- Write an X word and its mirror as a writer of a rank. -/
def State.writeXPair (s : State) (rank a : Nat) (w : Word) : State := (s.writeX rank a w).writeX rank (mirrorOf a) w

/-- Trim values of a calibration source, (OFS, GAIN), from one-time memory: 0 to 8 amplifiers, 9 to 12 cores (R139). -/
def State.trim (s : State) (i : Nat) : Nat × Nat := lookup s.fuse.trims (0, 0x4000) i

/-- The calibration registers take their trim values, at reset and at every start of the Rake (R139, R141). -/
def State.loadTrims (s : State) : State :=
  let s := (List.range 9).foldl (fun (s : State) k =>
    (s.wr (AFE_AMP_CAL.OFS_CAL k) (s.trim k).1).wr (AFE_AMP_CAL.GAIN_CAL k) (s.trim k).2) s
  (List.range 4).foldl (fun (s : State) c =>
    (s.wr (AFE_CORE_CAL.OFS_CAL c) (s.trim (9 + c)).1).wr (AFE_CORE_CAL.GAIN_CAL c) (s.trim (9 + c)).2) s

/-- Set WR_IGN and record the offset (R86). -/
def State.ignored (s : State) (off : Nat) : State :=
  (s.setFlag SYS_ACC_STAT.WR_IGN true).wr SYS_ACC_INFO.IGN_OFFSET off

/-- Round a quotient to the nearest integer, ties to even. -/
def roundDiv (n : Int) (d : Nat) : Int :=
  let q := n / (d : Int)
  let r := n % (d : Int)
  if 2 * r < d then q else if (d : Int) < 2 * r then q + 1 else if q % 2 = 0 then q else q + 1

/-- The bits of an integer square root from bit `b` down. -/
def isqrtFrom : Nat → Nat → Nat → Nat
  | 0, r, _ => r
  | b + 1, r, n => if (r + 2 ^ b) * (r + 2 ^ b) ≤ n then isqrtFrom b (r + 2 ^ b) n else isqrtFrom b r n

/-- Integer square root, rounded down, of a number below 2¹⁶⁰. -/
def isqrt (n : Nat) : Nat := isqrtFrom 80 0 n

/-- Integer square root rounded to the nearest integer. -/
def isqrtNear (n : Nat) : Nat := if n - isqrt n * isqrt n ≤ isqrt n then isqrt n else isqrt n + 1

/-- The Q1.31 word of an integer, saturated to the format. -/
def satQ31 (x : Int) : Word := BitVec.ofInt 32 (clampInt (-2147483648) 2147483647 x)

/-- Saturation symmetric to ±(2³¹ − 1). -/
def satSym (x : Int) : Int := clampInt (-2147483647) 2147483647 x

/-- The wrapped difference of two angles of 2³² per turn, as a signed number (R142). -/
def wrapDiff (a b : Int) : Int := signedOf 32 (fieldOf 32 (a - b))

/-- A command completes: `t` is what it leaves of state `s`, with the queue of waiting commands as it stood. -/
def completes (s t : State) : Host.Outcome State Fault Refusal := .next { t with pending := s.pending }

end Sys2Proof.Machine
end

