-- ==== Sys2Proof/Machine/Gates.lean ====
section
/-! DEFINITION. Gate outputs, cut-off drivers and series switches as the FC and the field and PWM unit command them. -/

namespace Sys2Proof.Machine

/-- A gate is on: its bit of GD_STATm.GON. -/
def State.gateOn (s : State) (g : Nat) : Bool := s.bit (GDM_STAT.GON (g / 6)) (g % 6)

/-- Turn one gate on or off. -/
def State.setGate (s : State) (g : Nat) (b : Bool) : State := s.setBit (GDM_STAT.GON (g / 6)) (g % 6) b

/-- The other switch of a leg. -/
def twinGate (g : Nat) : Nat := g ^^^ 1

/-- High-side gates have the even numbers (R334). -/
def isHigh (g : Nat) : Bool := g % 2 == 0

/-- Motor, and phase or leg, of a gate. -/
def gateMotor (g : Nat) : Nat := g / 6
def gatePhase (g : Nat) : Nat := 3 * (g / 6) + g % 6 / 2

/-- The two gates of a phase 3 × m + x, and the six of a motor. -/
def phaseGates (p : Nat) : List Nat := [6 * (p / 3) + 2 * (p % 3), 6 * (p / 3) + 2 * (p % 3) + 1]
def motorGates (m : Nat) : List Nat := (List.range 6).map (6 * m + ·)
def motorPhases (m : Nat) : List Nat := [3 * m, 3 * m + 1, 3 * m + 2]

/-- The drive code of a gate (R305). -/
def State.slewOf (s : State) (g : Nat) : Nat :=
  let m := g / 6
  match g % 6 with
  | 0 => s.rd (GDM_SLEW.SLEW_GHU m) | 1 => s.rd (GDM_SLEW.SLEW_GLU m) | 2 => s.rd (GDM_SLEW.SLEW_GHV m)
  | 3 => s.rd (GDM_SLEW.SLEW_GLV m) | 4 => s.rd (GDM_SLEW.SLEW_GHW m) | _ => s.rd (GDM_SLEW.SLEW_GLW m)

/-- GD_TEST.FORCE commands gate `g` on, effective only in TEST_MODE (R96). -/
def State.forced (s : State) (g : Nat) : Bool := s.flag SYS_CTRL.TEST_MODE && s.bit GD_TEST.FORCE g

/-- Note the drive codes with which gates that are on turn off: a gate's own code, or code 0 for a gate-off under a fault reaction
with FOFF = 1 (R305). -/
def State.noteOff (s : State) (fault : Bool) (gs : List Nat) : State :=
  let code (g : Nat) : Nat := if fault && s.flag (GDM_SLEW.FOFF (g / 6)) then 0 else s.slewOf g
  { s with gd := { s.gd with edgeCode := (gs.filter s.gateOn).foldl (fun l g => place l g (code g)) s.gd.edgeCode } }

/-- Turn gates off at once: a pending turn-on is cancelled (R333), and a refusal ends with the command that falls (R312). A gate that is off
stops its VDS monitor (R313). -/
def State.turnOff (s : State) (fault : Bool) (gs : List Nat) : State :=
  let s := gs.foldl (fun s g => (s.setGate g false).setBit (GDM_STAT.VDS_LIVE (g / 6)) (g % 6) false) (s.noteOff fault gs)
  { s with gd := { s.gd with waitingOn := s.gd.waitingOn.filter (!gs.contains ·),
                             refused := s.gd.refused.filter fun g => !gs.contains g || s.forced g },
           fc := { s.fc with sources := s.fc.sources.filter fun p => !(p.1 == 0x01 && gs.contains p.2) } }

/-- A turn-off with each gate's own code, and one that the FC commands under a fault reaction (R305). -/
def State.gatesOff (s : State) (gs : List Nat) : State := s.turnOff false gs
def State.faultOff (s : State) (gs : List Nat) : State := s.turnOff true gs

/-- The cut-off driver of a phase; at reset it is commanded open. -/
def State.cut (s : State) (p : Nat) : CutOff := lookup s.gd.cuts ⟨false, none⟩ p

/-- Replace a cut-off driver. -/
def State.setCut (s : State) (p : Nat) (c : CutOff) : State :=
  { s with gd := { s.gd with cuts := store s.gd.cuts ⟨false, none⟩ p c } }

/-- The value that the AFE last wrote to X for channel `n`, as a signed number (R132, R134); what another writer puts into the word does
not change it. -/
def State.chanWord (s : State) (n : Nat) : Int := (lookup s.afe.wrote 0#32 n).toInt

/-- The phase current of a tick as the AFE wrote it to X (R134), Q1.31 of current full scale. -/
def State.phaseCurrent (s : State) (p : Nat) : Int := s.chanWord p

/-- The current of a phase lies below CUT_ILIM (R318). -/
def State.cutBelow (s : State) (p : Nat) : Bool :=
  (s.phaseCurrent p).natAbs < s.rd (GDM_CUT.CUT_ILIM (p / 3)) * 2 ^ 16

/-- The sensed state of a cut-off pair follows its driver (GD_STATm.CUT_ON). -/
def State.senseCut (s : State) (p : Nat) (closed : Bool) : State := s.setBit (GDM_STAT.CUT_ON (p / 3)) (p % 3) closed

/-- Command a cut-off open: it opens at once below CUT_ILIM, and otherwise waits (R318). -/
def State.openCut (s : State) (p : Nat) : State :=
  if !(s.cut p).closed then s
  else if (s.cut p).waiting.isSome then s
  else if s.cutBelow p then (s.setCut p ⟨false, none⟩).senseCut p false
  else s.setCut p ⟨true, some 0⟩

/-- Command a cut-off closed; it closes at the tick boundary this is called at (R318). -/
def State.closeCut (s : State) (p : Nat) : State := (s.setCut p ⟨true, none⟩).senseCut p true

/-- A series switch is watched only while it is commanded closed: with no closed switch above SL_VDS_ON, GD_SLVDS is no
longer active (R329, R342). -/
def State.slvdsWatch (s : State) : State :=
  if (s.flag GD_SLUICE.HS_CMD && !s.flag GD_SLUICE.HS_ON) || (s.flag GD_SLUICE.LS_CMD && !s.flag GD_SLUICE.LS_ON) then s
  else { s with fc := { s.fc with sources := s.fc.sources.filter (· != (0x09, 0)) } }

/-- Open the high-side or the low-side series switch (R328). What the VDS sense of a switch shows follows its drain, not its
command (R334). -/
def State.openHs (s : State) : State := (s.setFlag GD_SLUICE.HS_CMD false).slvdsWatch
def State.openLs (s : State) : State := (s.setFlag GD_SLUICE.LS_CMD false).slvdsWatch
def State.openSluice (s : State) : State := s.openHs.openLs

/-- Close both series switches, at a transition to ARMED after a passed test (R328). -/
def State.closeSluice (s : State) : State := (s.setFlag GD_SLUICE.HS_CMD true).setFlag GD_SLUICE.LS_CMD true

/-- Turn the chopper on; the check of R320 runs from here. -/
def State.chopOn (s : State) : State :=
  { s.setFlag GD_STAT.CHOP_ON true with gd := { s.gd with chopOnAt := s.now, choSeen := false } }

/-- Turn the chopper off; CHOP_I shows its current, which ends by itself (R334). -/
def State.chopOff (s : State) : State := s.setFlag GD_STAT.CHOP_ON false

/-- The chopper as R319 switches it. -/
def State.chopFollow (s : State) : State :=
  if s.flag GD_CHOP.CHOP_EN && s.gd.busHigh && s.gd.chopRestUntil.isNone then (if s.flag GD_STAT.CHOP_ON then s else s.chopOn)
  else if s.flag GD_STAT.CHOP_ON then s.chopOff else s

/-- A running series-switch test is aborted: the chopper follows R319 at once, and the test ends with result 6 (R330). -/
def State.abortTest (s : State) : State :=
  match s.gd.test with
  | none => s
  | some t => State.chopFollow { s with gd := { s.gd with test := some { t with aborted := true } } }

/-- The safe state of a motor, FC_MSAFE.SS_Mm: 0 FREE, 1 SHORT, 2 FREE_SL, 3 SHORT_SL (R338). -/
def State.safeKind (s : State) (m : Nat) : Nat :=
  s.rd (match m with | 0 => FC_MSAFE.SS_M0 | 1 => FC_MSAFE.SS_M1 | _ => FC_MSAFE.SS_M2)

/-- A side of a motor, 0 low and 1 high, carries an occurrence (R339). -/
def State.sideBarred (s : State) (m side : Nat) : Bool := s.fc.sides.any fun x => x.motor == m && x.side == side

/-- Both sides of a motor carry an occurrence, so that a SHORT acts as FREE (R339). -/
def State.bothSides (s : State) (m : Nat) : Bool := s.sideBarred m 0 && s.sideBarred m 1

/-- The safe state of a motor opens its cut-off pairs: FREE or FREE_SL, a SHORT that acts as FREE, or FREE in place of a safe state
that FX could not establish (R338, R339, R353). -/
def State.safeIsFree (s : State) (m : Nat) : Bool := s.safeKind m % 2 == 0 || s.bothSides m || s.fc.lost.contains m

/-- A cut-off pair is commanded closed; one that waits to open is not (R318). -/
def State.cutClosed (s : State) (p : Nat) : Bool := (s.cut p).closed && (s.cut p).waiting.isNone

/-- The overvoltage short governs motor `m`: the short of GD_OVS or GD_OVABS is held, the motor is used, and at least one of its
cut-off pairs is commanded closed (R324 to R326). -/
def State.ovShort (s : State) (m : Nat) : Bool :=
  (s.gd.ovsHeld || s.gd.ovabsHeld) && s.motorUsed m && (motorPhases m).any s.cutClosed

/-- Open the cut-off pairs of a motor whose safe state is to be free, but for an overvoltage short (R338). -/
def State.freeCuts (s : State) (m : Nat) : State :=
  if s.safeIsFree m && !s.ovShort m then (motorPhases m).foldl State.openCut s else s

/-- Put a motor into its safe state: all six gates sink current, and FREE opens the cut-off pairs under R318; a SHORT
follows through the modulation of the next edges (R308, R338). An overvoltage short replaces the safe state while it is held
and keeps the pairs closed. `fault` says that a fault reaction commands it (R305). -/
def State.motorToSafe (fault : Bool) (s : State) (m : Nat) : State := (s.turnOff fault (motorGates m)).freeCuts m

end Sys2Proof.Machine
end

