-- ==== Sys2Proof/Machine/Pan.lean ====
section
/-! DEFINITION. Flows and pans (chapter Flows and pans): descriptors, entries, queue operations, slots, records produced inside
the half, the transit pool, and the frame layouts of the fabric. -/

namespace Sys2Proof.Machine

/-! ### Frames -/

/-- The fabric header of a frame (R413). -/
def headerBytes (f : FabFrame) : List Byte :=
  dataOf [(1, f.ver * 16 + f.typ % 16), (1, f.src), (1, f.dst), (1, f.flow), (2, f.seq), (2, f.reqId), (1, f.hops), (1, f.flags),
    (2, f.payload.length), (4, f.time)]

/-- E2E_CRC over the header with HOPS and FLAGS.XRING taken as 0, the payload and the first 4 trailer bytes (R414). -/
def e2eCrc (f : FabFrame) : Nat :=
  let flags := if f.flags.testBit 1 then f.flags - 2 else f.flags
  crc32c (headerBytes { f with hops := 0, flags := flags } ++ f.payload ++ dataOf [(2, f.alive), (2, 0)])

/-- A frame from its fabric header to its trailer (R413, R414). -/
def frameBytes (f : FabFrame) : List Byte :=
  headerBytes f ++ f.payload ++ dataOf [(2, f.alive), (2, 0), (4, f.crc)]

/-- A frame from its destination MAC address to its trailer (R411): the addresses, the priority tag with VID 0, the EtherType, and the rest. -/
def etherBytes (f : FabFrame) : List Byte :=
  dataOf [(1, 0x03), (1, 0x48), (1, 0x42), (1, 0x46), (1, 0x00), (1, f.da), (1, 0x02), (1, 0x48), (1, 0x42), (1, 0x46), (1, f.sa / 256), (1, f.sa),
    (1, 0x81), (1, 0x00), (1, 32 * f.pcp), (1, 0x00), (1, 0x88), (1, 0xB5)] ++ frameBytes f

/-- The PCP of a frame that is no scheduled DATA frame (R411). -/
def pcpOf (typ : Nat) : Nat := if typ = 0 then 3 else if typ ≤ 4 then 5 else 6

/-- The frame that bytes from fabric header to trailer spell. -/
def frameOfBytes (b : List Byte) : FabFrame :=
  let n (o k : Nat) : Nat := leNat ((b.drop o).take k)
  let len := n 10 2
  { pcp := pcpOf (n 0 1 % 16), ver := n 0 1 / 16, typ := n 0 1 % 16, src := n 1 1, dst := n 2 1, flow := n 3 1, seq := n 4 2, reqId := n 6 2, hops := n 8 1,
    flags := n 9 1, time := n 12 4, payload := (b.drop 16).take len, alive := n (16 + len) 2, crc := n (20 + len) 4, da := n 2 1,
    sa := 256 * (n 1 1 / 64 % 2) + n 1 1 % 64, fcs := true }

/-- Units of 64 bytes a frame takes in the transit pool, from its Ethernet header to its FCS (R452). -/
def frameUnits (f : FabFrame) : Nat := (f.payload.length + 46 + 63) / 64

/-- gPTP time in ns mod 2³² (R413), at 2.5 ns per CEC. -/
def State.gptpNow (s : State) : Nat := fieldOf 32 ((s.now * 5 / 2 : Nat) + s.net.timeOfs)

/-! ### Flow descriptors -/

def State.flowOn (s : State) (f : Nat) : Bool := f != 0 && s.flag (FLOW_W0.EN f)
def State.kindOf (s : State) (f : Nat) : Nat := s.rd (FLOW_W0.KIND f)

/-- RX_QUEUE and TX_PAN are queues (R442). -/
def State.isQueue (s : State) (f : Nat) : Bool := s.kindOf f == 0 || s.kindOf f == 2

def State.esize (s : State) (f : Nat) : Nat := max 1 (s.rd (FLOW_W0.ESIZE f))
def State.plenLive (s : State) (f : Nat) : Nat := s.rd (FLOW_W1.PLEN_LIVE f)
def State.fill (s : State) (f : Nat) : Nat := s.rd (FLOW_W6.FILL f)

/-- Entries or slots a pan has room for. -/
def State.capacity (s : State) (f : Nat) : Nat := s.plenLive f / s.esize f

/-- Set FILL with the bits of PAN_NEk and PAN_FULLk (R458). -/
def State.setFill (s : State) (f n : Nat) : State :=
  let s := s.wr (FLOW_W6.FILL f) n
  (s.setBit (PAN_NE.NE (f / 32)) (f % 32) (n != 0)).setBit (PAN_FULL.FULL (f / 32)) (f % 32) (n != 0 && s.capacity f ≤ n)

/-- Count a dropped or overwritten entry (R444). -/
def State.dropEntry (s : State) (f : Nat) : State := (s.count (FLOW_W7.DROP f)).setFlag PAN_STAT.DROP true

/-- Count `n` discarded entries (R454). -/
def State.discard (s : State) (f n : Nat) : State := s.countN (FLOW_W7.DISC f) n

/-! ### Entries -/

/-- What an entry header says beside its length and times (R444). -/
structure EntryInfo where
  src : Nat
  stat : Nat
  seq : Nat
  time : Nat

/-- SRAM byte address of a unit of a pan. -/
def State.panAddr (s : State) (f unit : Nat) : Nat := 64 * (s.rd (FLOW_W0.PBASE f) + unit)

/-- Write an entry with its header at a unit of the pan (R444); a longer record is cut and marked TRUNC. -/
def State.putEntry (s : State) (f unit : Nat) (e : EntryInfo) (record : List Byte) : State :=
  let room := 64 * s.esize f - 16
  let cut := record.take room
  let stat := if room < record.length then e.stat ||| 4 else e.stat
  let hdr := dataOf [(2, cut.length), (1, e.src), (1, stat), (2, e.seq), (2, s.tick), (4, e.time), (2, s.net.cycles), (2, 0)]
  { s with sram := s.sram.setBytes 0 (s.panAddr f unit) (hdr ++ cut) }

/-- A little-endian number in an entry. -/
def State.entryNat (s : State) (f unit off n : Nat) : Nat := leNat (s.sram.bytes 0 (s.panAddr f unit + off) n)

/-- The record of an entry. -/
def State.entryRecord (s : State) (f unit : Nat) : List Byte :=
  s.sram.bytes 0 (s.panAddr f unit + 16) (min (s.entryNat f unit 0 2) (64 * s.esize f - 16))

/-- Another entry is at the head of a TX_PAN flow: nothing has been done with it (R451). -/
def State.newHead (s : State) (f : Nat) : State :=
  { s with pan := { s.pan with headSent := erase s.pan.headSent f, headPorts := erase s.pan.headPorts f } }

/-- Remove the entry at RPTR (R444). -/
def State.removeHead (s : State) (f : Nat) : State :=
  if s.fill f = 0 then s
  else
    let r := s.rd (FLOW_W5.RPTR f) + s.esize f
    ((s.wr (FLOW_W5.RPTR f) (if s.plenLive f ≤ r then 0 else r)).setFill f (s.fill f - 1)).newHead f

/-- Unread entries of a queue that begin at or beyond a length. -/
def State.entriesBeyond (s : State) (f len : Nat) : Nat :=
  ((List.range (s.fill f)).filter fun i =>
    len ≤ (s.rd (FLOW_W5.RPTR f) + i * s.esize f) % (max 1 (s.plenLive f))).length

/-- A new length of a queue takes effect (R454). -/
def State.takeLength (s : State) (f len : Nat) : State :=
  let n := s.entriesBeyond f len
  let s := s.wr (FLOW_W1.PLEN_LIVE f) len
  let s := (s.discard f n).countN PAN_CNT2.PAN_DISCARD n
  let s := if len ≤ s.rd (FLOW_W5.RPTR f) then (s.wr (FLOW_W5.RPTR f) 0).newHead f else s
  s.setFill f (s.fill f - n)

/-- The pending length of a queue takes effect as WPTR wraps (R454); one written in the CEC of the wrap waits for the following wrap, and what
was pending before it takes effect (R457). -/
def State.applyLength (s : State) (f : Nat) : State :=
  if s.flag (FLOW_W1.PEND f) then
    match lookup s.pan.lenAt (0, none) f with
    | (t, old) =>
      if s.pan.lenAt.any (·.1 == f) && t == s.now then (match old with | some len => s.takeLength f len | none => s)
      else (s.setFlag (FLOW_W1.PEND f) false).takeLength f (s.rd (FLOW_W1.PLEN f))
  else s

/-- WPTR moves past the entry just stored. -/
def State.advanceWrite (s : State) (f : Nat) : State :=
  let w := s.rd (FLOW_W5.WPTR f) + s.esize f
  let s := s.setFill f (s.fill f + 1)
  if s.plenLive f ≤ w then (s.wr (FLOW_W5.WPTR f) 0).applyLength f else s.wr (FLOW_W5.WPTR f) w

/-- In this CEC a POP took an entry from the queue while it was full. -/
def State.poppedFull (s : State) (f : Nat) : Bool := s.pan.popped.any fun p => p.1 == f && p.2 == s.now

/-- Room for one more entry: a full queue drops the new entry or its oldest one (R444). An overwrite and a POP of one CEC both take an entry
away (R457). -/
def State.makeRoom (s : State) (f : Nat) : Bool × State :=
  if s.flag (FLOW_W0.OVW f) ∧ s.poppedFull f then
    (true, (State.removeHead { s with pan := { s.pan with popped := [] } } f).dropEntry f)
  else if s.fill f < s.capacity f then (true, s)
  else if s.flag (FLOW_W0.OVW f) then (true, (s.removeHead f).dropEntry f)
  else (false, s.dropEntry f)

/-- The overwrite that a POP of this CEC met took the only entry of its queue: the POP removes the entry that is being stored (R457). -/
def State.popOwed (s : State) (f : Nat) : Bool := s.flag (FLOW_W0.OVW f) && s.poppedFull f && s.fill f == 0
def State.settlePop (s : State) (owed : Bool) (f : Nat) : State := if owed then s.removeHead f else s

/-- Append a record to a queue (R444). -/
def State.append (s : State) (f : Nat) (e : EntryInfo) (record : List Byte) : State :=
  let owed := s.popOwed f
  let (room, s) := s.makeRoom f
  if room then ((s.putEntry f (s.rd (FLOW_W5.WPTR f)) e record).advanceWrite f).settlePop owed f else s

/-! ### Latest-value flows -/

/-- The source a slot holds. -/
def State.slotSrc (s : State) (f i : Nat) : Option Nat := (s.pan.slots.find? fun p => p.1 == f * 8192 + i).map (·.2)

/-- Ring number of the half (R411). -/
def State.ring (s : State) : Nat := s.rd NET_ADDR.RING

/-- SRC byte of the partner half's frames (R416, R449), where the image gives it an address. -/
def State.partnerSrc (s : State) : Option Nat :=
  if s.part = .hx962d ∧ s.img.partner ≠ 0 then some (s.img.partner + 64 * (1 - s.ring)) else none

/-- A slot's lane is the partner half. -/
def State.lanePartner (s : State) (f i : Nat) : Bool := s.partnerSrc.isSome && s.slotSrc f i == s.partnerSrc

/-- Slots in use. -/
def State.usedSlots (s : State) (f : Nat) : List Nat := (List.range (s.capacity f)).filter fun i => (s.slotSrc f i).isSome

/-- Release a slot: its source is forgotten and its STAT byte cleared. -/
def State.clearSlot (s : State) (f i : Nat) : State :=
  let s := { s with pan := { s.pan with slots := erase s.pan.slots (f * 8192 + i) } }
  let s := { s with sram := s.sram.setByte 0 (s.panAddr f (i * s.esize f) + 3) 0 }
  s.setFill f (s.usedSlots f).length

/-- Store a record in the slot of its source (R447). -/
def State.storeLatest (s : State) (f : Nat) (e : EntryInfo) (record : List Byte) : State :=
  let all := List.range (s.capacity f)
  match all.find? (fun i => s.slotSrc f i == some e.src), all.find? (fun i => s.slotSrc f i == none) with
  | some i, _ => s.putEntry f (i * s.esize f) e record
  | none, some i =>
    let s := s.putEntry f (i * s.esize f) e record
    let s := { s with pan := { s.pan with slots := place s.pan.slots (f * 8192 + i) e.src } }
    s.setFill f (s.usedSlots f).length
  | none, none => s.dropEntry f

/-- NET and PAN have stopped in phase 1 of sleep entry and accept no new record (R468). -/
def State.panStopped (s : State) : Bool := s.pwr.stopped.contains 2

/-- A record received for an enabled RX flow (R442). -/
def State.receiveRecord (s : State) (f : Nat) (e : EntryInfo) (record : List Byte) : State :=
  if s.panStopped then s
  else if s.kindOf f = 1 then s.storeLatest f e record else s.append f e record

/-- A record a block of the half produces for a flow (R446); flow 0 means none. -/
def State.produce (s : State) (f stat : Nat) (record : List Byte) : State :=
  if f = 0 ∨ s.panStopped then s
  else if s.flowOn f && s.isQueue f then
    let w := s.rd (FLOW_W5.WPTR f)
    let before := s.sram.bytes 0 (s.panAddr f w) (64 * s.esize f)
    let owed := s.popOwed f
    let (room, s) := s.makeRoom f
    if room then
      (State.advanceWrite (State.putEntry { s with pan := { s.pan with lastAppend := some (f, s.now, w, before) } } f w
        ⟨0, 1 + stat, 0, s.gptpNow⟩ record) f).settlePop owed f
    else s
  else s.dropEntry f

/-! ### Enabling, disabling, lengths -/

/-- Units a pan of length `len` at its PBASE would share with another enabled pan. -/
def State.panOverlaps (s : State) (f len : Nat) : Bool :=
  let base := s.rd (FLOW_W0.PBASE f)
  (List.range 256).any fun g =>
    g != f && s.flowOn g
      && decide (base < s.rd (FLOW_W0.PBASE g) + max (s.plenLive g) (s.rd (FLOW_W1.PLEN g)))
      && decide (s.rd (FLOW_W0.PBASE g) < base + len)

/-- The pan fits into the pan area (R441). -/
def State.panInRange (s : State) (f len : Nat) : Bool :=
  decide (896 + s.rd PAN_CTRL.XBUF ≤ s.rd (FLOW_W0.PBASE f)) && decide (s.rd (FLOW_W0.PBASE f) + len ≤ 8192)

/-- Why an enable is refused: 0 accepted, else REJ_CODE (R441, R458). -/
def State.enableCheck (s : State) (f : Nat) : Nat :=
  let k := s.kindOf f
  let e := s.rd (FLOW_W0.ESIZE f)
  let len := s.rd (FLOW_W1.PLEN f)
  let x := s.rd (FLOW_W3.XIDX f)
  let n := s.rd (FLOW_W3.XLEN f)
  if 4 ≤ k then 1
  else if e = 0 ∨ 24 < e then 2
  else if len % e ≠ 0 ∨ len < e ∨ (k = 1 ∧ 8 < len / e) ∨ (k = 3 ∧ len ≠ e) then 2
  else if !s.panInRange f len then 3
  else if s.panOverlaps f len then 4
  else if (s.flag (FLOW_W0.XDLV f) ∨ (k = 3 ∧ s.rd (FLOW_W2.SRCSEL f) = 0))
      ∧ (n = 0 ∨ 32 < n ∨ 0x4000 < 4 * (x + n) ∨ 64 * e - 16 < 4 * n) then 5
  else 0

/-- Byte offset of IDX_DATA (R98), recorded for ignored writes of indirect fields. -/
def idxDataOff : Nat := 0x3C04

/-- FLOW_ENABLE: a write of EN = 1 (R441); a refused one is a refused field (R522). -/
def flowEnable (f : Nat) (s : State) : State :=
  if f = 0 ∨ s.flag (FLOW_W0.EN f) then s
  else
    let code := s.enableCheck f
    if code ≠ 0 then
      (((s.setFlag PAN_STAT.ENREJ true).wr PAN_STAT.REJ_FLOW f).wr PAN_STAT.REJ_CODE code).ignored idxDataOff
    else
      let s := (s.setFlag (FLOW_W0.EN f) true).wr (FLOW_W1.PLEN_LIVE f) (s.rd (FLOW_W1.PLEN f))
      let s := ((s.wr (FLOW_W5.WPTR f) 0).wr (FLOW_W5.RPTR f) 0).wr (FLOW_W4.CRED_NOW f) (s.rd (FLOW_W4.CRED f))
      s.setFill f 0

/-- Forget what a pan holds. -/
def State.emptyPan (s : State) (f : Nat) : State :=
  let s := State.newHead { s with pan := { s.pan with slots := s.pan.slots.filter fun p => p.1 / 8192 != f } } f
  (s.wr (FLOW_W5.RPTR f) (s.rd (FLOW_W5.WPTR f))).setFill f 0

/-- FLOW_DISABLE: a write of EN = 0 (R441); the new length applies at once (R454). -/
def flowDisable (f : Nat) (s : State) : State :=
  if s.flowOn f then
    let n := s.fill f
    let s := ((s.discard f n).countN PAN_CNT2.PAN_DISCARD n).emptyPan f
    let s := (s.setFlag (FLOW_W1.PEND f) false).wr (FLOW_W1.PLEN_LIVE f) (s.rd (FLOW_W1.PLEN f))
    s.setFlag (FLOW_W0.EN f) false
  else s

/-- PLEN_WRITE (R454). -/
def plenWrite (f len : Nat) (s : State) : State :=
  if f = 0 then s
  else if !s.flowOn f then (s.wr (FLOW_W1.PLEN f) len).wr (FLOW_W1.PLEN_LIVE f) len
  else
    let e := s.esize f
    let len := len % 2 ^ 13
    if len % e ≠ 0 ∨ len < e ∨ !s.panInRange f len ∨ s.panOverlaps f len then s.ignored idxDataOff
    else
      let before := if s.flag (FLOW_W1.PEND f) then some (s.rd (FLOW_W1.PLEN f)) else none
      let s := s.wr (FLOW_W1.PLEN f) len
      if s.isQueue f then
        State.setFlag { s with pan := { s.pan with lenAt := place s.pan.lenAt f (s.now, before) } } (FLOW_W1.PEND f) true
      else
        let gone := (s.usedSlots f).filter fun i => len ≤ i * e
        let s := gone.foldl (fun s i => s.clearSlot f i) s
        let s := (s.discard f gone.length).wr (FLOW_W1.PLEN_LIVE f) len
        s.setFill f (s.fill f)

/-! ### Queue operations of PAN_OP -/

/-- An operation that its flow does not take. -/
def State.opErr (s : State) : State := s.setFlag PAN_STAT.OPERR true

/-- Enter a written entry at a unit, its bytes being `b`: only LEN is taken from its header (R445). -/
def State.putWritten (s : State) (f w : Nat) (b : List Byte) : State :=
  let room := 64 * s.esize f - 16
  let len := leNat (b.take 2)
  s.putEntry f w ⟨0, if room < len then 5 else 1, 0, s.gptpNow⟩ ((b.drop 16).take (min len room))

/-- The entry written at PBASE + WPTR joins the queue. -/
def State.pushHere (s : State) (f : Nat) : State :=
  let w := s.rd (FLOW_W5.WPTR f)
  let b := s.sram.bytes 0 (s.panAddr f w) (64 * s.esize f)
  let owed := s.popOwed f
  let (room, s) := s.makeRoom f
  if room then ((s.putWritten f w b).advanceWrite f).settlePop owed f else s

/-- PUSH (R445): the entry written at PBASE + WPTR joins the queue. A producer's record of the same CEC comes after it (R457). -/
def panPush (f : Nat) (s : State) : State :=
  if s.panStopped then s
  else if s.flowOn f && s.isQueue f then
    let size := 64 * s.esize f
    match s.pan.lastAppend with
    | some (g, t, w, before) =>
      if g = f ∧ t = s.now then
        let record := s.sram.bytes 0 (s.panAddr f w) size
        let s := State.putWritten { s with pan := { s.pan with lastAppend := none } } f w before
        let (room, s) := s.makeRoom f
        if room then
          let at_ := s.panAddr f (s.rd (FLOW_W5.WPTR f))
          State.advanceWrite { s with sram := s.sram.setBytes 0 at_ record } f
        else s
      else s.pushHere f
    | none => s.pushHere f
  else s.opErr

/-- POP (R445). -/
def panPop (f : Nat) (s : State) : State :=
  if s.flowOn f && s.kindOf f == 0 then
    let full := decide (s.capacity f ≤ s.fill f)
    let s := s.removeHead f
    if full then { s with pan := { s.pan with popped := [(f, s.now)] } } else s
  else s.opErr

/-- FLUSH (R445): every entry or slot goes, and DISC counts them. -/
def panFlush (f : Nat) (s : State) : State :=
  if s.flowOn f then
    if s.kindOf f = 1 then
      let used := s.usedSlots f
      (used.foldl (fun s i => s.clearSlot f i) s).discard f used.length
    else (s.discard f (s.fill f)).emptyPan f
  else s.opErr

/-- CLEAR (R445). -/
def panClear (f slot : Nat) (s : State) : State :=
  if s.flowOn f && s.kindOf f == 1 then
    if (s.slotSrc f slot).isSome then s.clearSlot f slot else s
  else s.opErr

/-! ### Per-tick records -/

/-- Put the newest record of a TX_TICK flow in place (R446). -/
def State.tickRecord (s : State) (f : Nat) (record : List Byte) : State :=
  let at_ := fieldOf 32 (s.gptpNow + roundDiv (((s.rd RAKE_SAMPLE.SAMPLE_PHASE : Int) - s.cec) * 5) 2)
  let s := (s.putEntry f 0 ⟨0, 1, 0, s.gptpNow⟩ record).setFill f 1
  { s with pan := { s.pan with sampled := place s.pan.sampled f at_ } }

/-- Enabled TX_TICK flows with a record source. -/
def State.tickFlows (s : State) (srcsel : Nat) : List Nat :=
  (List.range 256).filter fun f => s.flowOn f && s.kindOf f == 3 && s.rd (FLOW_W2.SRCSEL f) == srcsel

/-- TX_TICK_RECORD (R446): the words of a flow at OUT_PHASE of a committing tick, kept when the two copies differ. -/
def State.txTickFromX (s : State) (f : Nat) : State :=
  let base := 4 * s.rd (FLOW_W3.XIDX f)
  let idx := List.range (s.rd (FLOW_W3.XLEN f))
  if idx.all fun i => s.xWord (base + 4 * i) == s.xWord (mirrorOf (base + 4 * i)) then
    s.tickRecord f (idx.flatMap fun i => leBytes 4 (s.xWord (base + 4 * i)).toNat)
  else s.setFlag PAN_STAT.XREC true

/-! ### Transit pool -/

/-- Units of the frames in the transit pool. -/
def State.transitFrames (s : State) : Nat := (s.pan.transit.map fun t => frameUnits t.frame).foldl (· + ·) 0

/-- Units of the frames of other EtherTypes. -/
def State.otherUnits (s : State) : Nat := (s.pan.others.map fun o => (o.2.length + 63) / 64).foldl (· + ·) 0

/-- Units in use by the transit pool, those of a frame still coming over the Brine link and of frames of other EtherTypes among them (R452,
R453). -/
def State.transitUsed (s : State) : Nat :=
  s.transitFrames + (s.brine.rxBytes.length + 63) / 64 + s.otherUnits

/-- Show the occupancy of the pool (R452). -/
def State.showTransit (s : State) : State :=
  let n := s.transitUsed
  (s.wr PAN_XBUF_STAT.XBUF_USED n).wr PAN_XBUF_STAT.XBUF_HIGH (max n (s.rd PAN_XBUF_STAT.XBUF_HIGH))

/-- The pool has room for `n` more units. -/
def State.poolRoom (s : State) (n : Nat) : Bool := decide (s.transitUsed + n ≤ s.rd PAN_CTRL.XBUF)

/-- A frame for which the pool has no room is dropped (R452). -/
def State.poolFull (s : State) : State := (s.count PAN_CNT0.XBUF_DROP_CNT).setFlag PAN_STAT.XBUF_FULL true

/-- Put a frame into the transit pool, or drop it (R452). -/
def State.toTransit (s : State) (t : Transit) : State :=
  if s.poolRoom (frameUnits t.frame) then State.showTransit { s with pan := { s.pan with transit := s.pan.transit ++ [t] } }
  else s.poolFull

/-- Put a frame of another EtherType into the pool, or drop it (R412, R426). -/
def State.otherToTransit (s : State) (p : Nat) (frame : List Byte) : State :=
  if s.poolRoom ((frame.length + 63) / 64) then State.showTransit { s with pan := { s.pan with others := s.pan.others ++ [(p, frame)] } }
  else s.poolFull

end Sys2Proof.Machine
end

