-- ==== Sys2Proof/Machine/Fc.lean ====
section
/-! DEFINITION. The fault collector (chapter Fault collection and reaction): sources, occurrences, the reaction table, the
first-source latch, host-assisted reactions and what reactions do to the outputs. -/

namespace Sys2Proof.Machine

/-- Source numbers of R340. -/
def srcAfeOc := 0x00
def srcGdVds := 0x01
def srcGdHs := 0x02
def srcGdXcmd := 0x03
def srcGdBsuv := 0x04
def srcGdCp := 0x05
def srcGdCho := 0x06
def srcGdChs := 0x07
def srcGdOvabs := 0x08
def srcGdSlvds := 0x09
def srcClkMon := 0x0A
def srcRakeOvr := 0x20
def srcRakeLock := 0x21
def srcRakeFabLock := 0x22
def srcRegVote := 0x23
def srcAfeStop := 0x24
def srcAfeCal := 0x25
def srcPosHall := 0x26
def srcPosDrop := 0x27
def srcPosDis := 0x28
def srcPosOne := 0x29
def srcPosNone := 0x2A
def srcPosRef := 0x2B
def srcCeEcc := 0x2C
def srcCeIssue := 0x2D
def srcCeIll := 0x2E
def srcCeTag := 0x2F
def srcTrMm := 0x30
def srcTrCmpdis := 0x31
def srcTrKat := 0x32
def srcTrLasting := 0x33
def srcFieldXrec := 0x34
def srcFieldRefuse := 0x35
def srcFieldStart := 0x36
def srcFieldLock := 0x37
def srcFieldLockHold := 0x38
def srcFieldShare := 0x39
def srcGdCut := 0x3A
def srcGdChot := 0x3B
def srcGdOvs := 0x3C
def srcBrineLoss := 0x3D
def srcNetRing := 0x3E
def srcNetE2e := 0x3F
def srcSsupShort := 0x40
def srcSsupRange := 0x41
def srcMpWdog := 0x60
def srcMpLockstep := 0x61
def srcTempWarn := 0x62
def srcTempCrit := 0x63
def srcSupRange := 0x64
def srcLogFail := 0x65
def srcBootTmo := 0x66
def srcFcSelf := 0x7F

/-- Class of a source: 0 F0, 1 F1, 2 F2, 3 FX (R335, R340). -/
def srcClass (n : Nat) : Nat := if n < 0x20 then 0 else if n < 0x60 then 1 else if n < 0x7F then 2 else 3

/-- Sources of scope P: on a switch, and on a phase or leg (R340, R342). -/
def srcOnSwitch (n : Nat) : Bool := n == srcGdVds || n == srcGdHs || n == srcGdBsuv
def srcOnPhase (n : Nat) : Bool := n == srcAfeOc || n == srcGdXcmd || n == srcGdCut

/-- Sources of scope M (R340). -/
def srcOnMotor (n : Nat) : Bool := (0x26 ≤ n && n ≤ 0x2B) || (0x34 ≤ n && n ≤ 0x39) || n == srcSsupShort || n == srcSsupRange

/-- Listed sources (R340). -/
def srcListed (n : Nat) : Bool :=
  n ≤ 0x0A || (0x20 ≤ n && n ≤ 0x41) || (0x60 ≤ n && n ≤ 0x66) || n == 0x7F

/-- Floor of a source (R340). -/
def srcFloor (n : Nat) : Nat :=
  if n == srcAfeOc || n == srcGdVds then 3
  else if n == srcGdXcmd || n == srcAfeStop || n == srcPosNone || n == srcTempCrit then 4
  else if n == srcGdBsuv || n == srcGdCp then 1
  else if n == srcGdChs || n == srcGdOvabs || n == srcClkMon || n == srcTrCmpdis || n == srcTrKat || n == srcTrLasting then 5
  else if n == srcGdSlvds then 6
  else if n == srcCeEcc || n == srcCeIssue || n == srcCeIll || n == srcCeTag || n == srcTrMm then 2
  else 0

/-- Sources whose count is fixed at 1 (R345): the TR sources follow R266. -/
def srcCountsOne (n : Nat) : Bool := srcTrMm ≤ n && n ≤ srcTrLasting

/-- The supply an input is assigned to, numbered as in SAFE_TPA1.USE: ports 0 to 2, Hall 0 to 2, AIN0 to AIN11 (R378). -/
def State.inputSupply (s : State) (i : Nat) : Nat :=
  (if i < 16 then s.rd SAFE_TPA0.ASSIGN >>> (2 * i) else s.rd SAFE_TPA1.ASSIGN >>> (2 * (i - 16))) % 4

/-- Motors with an input in the plan that is assigned to supply `k` (R378): the encoder port or Hall triple that
POS_Mm_SRC names. -/
def State.supplyMotors (s : State) (k : Nat) : List Nat :=
  motors.filter fun m =>
    let i := if s.rd (POS_SRC.SENS m) = 1 then s.rd (POS_SRC.SENS_IDX m) else 3 + s.rd (POS_SRC.SENS_IDX m)
    (s.rd (POS_SRC.SENS m) == 1 || s.rd (POS_SRC.SENS m) == 2) && s.bit SAFE_TPA1.USE i && s.inputSupply i == k

/-- The phase that an occurrence of scope P lies on. -/
def srcPhase (src inst : Nat) : Option Nat :=
  if srcOnSwitch src then some (gatePhase inst) else if srcOnPhase src then some inst else none

/-- The motors in the scope of an occurrence (R336). -/
def State.srcMotors (s : State) (src inst : Nat) : List Nat :=
  match srcPhase src inst with
  | some p => [p / 3]
  | none =>
    if src == srcSsupShort || src == srcSsupRange then s.supplyMotors inst
    else if srcOnMotor src then [inst] else s.usedMotors

/-- The phases a PHASE_OFF of an occurrence takes (R336). -/
def State.srcPhases (s : State) (src inst : Nat) : List Nat :=
  match srcPhase src inst with
  | some p => [p]
  | none => (s.srcMotors src inst).flatMap motorPhases

/-- Reactions of level `n` or stronger on motor `m` (R336, R337): HALF_SAFE and SLUICE_OPEN take every used motor. -/
def State.motorHas (s : State) (m n : Nat) : Bool :=
  s.fc.active.any fun r => n ≤ r.level && ((5 ≤ r.level && s.motorUsed m) || (s.srcMotors r.src r.inst).contains m)

/-- A motor is in its safe state by a reaction. -/
def State.reactSafe (s : State) (m : Nat) : Bool := s.motorHas m 4

/-- A phase is off by PHASE_OFF (R336). -/
def State.phaseOff (s : State) (p : Nat) : Bool :=
  s.fc.active.any fun r => r.level == 3 && (s.srcPhases r.src r.inst).contains p

/-- GD_BSUV and GD_CP: their LIMIT is the duty cap and not a derating (R346). -/
def srcCaps (n : Nat) : Bool := n == srcGdBsuv || n == srcGdCp

/-- The duty cap applies to motor `m` (R315, R346): by a LIMIT of GD_BSUV or GD_CP, and from the boundary after an undervoltage
while it lasts, whatever the reaction table holds (R343). -/
def State.dutyCapped (s : State) (m : Nat) : Bool :=
  (s.fc.active.any fun r => r.level == 1 && srcCaps r.src && (s.srcMotors r.src r.inst).contains m)
    || s.gd.bsuvStage.any fun p => p.1 / 6 == m && 1 ≤ p.2

/-- A reaction of a source, with the DFACT that its entry holds now (R344). -/
def State.reaction (s : State) (src inst level : Nat) : Reaction := ⟨src, inst, level, s.rd (FC_REACT.DFACT src)⟩

/-- DERATE × 16 of motor `m` (R346). -/
def State.derate16 (s : State) (m : Nat) : Nat :=
  (s.fc.active.filter fun r => r.level == 1 && !srcCaps r.src && (s.srcMotors r.src r.inst).contains m).foldl
    (fun d r => min d r.dfact) 16

/-- Strongest active reaction of the half (FC_STAT.TOP). -/
def State.topReaction (s : State) : Nat := s.fc.active.foldl (fun d r => max d r.level) 0

/-- FAULT_N asserted (R360). -/
def State.faultAsserted (s : State) : Bool :=
  !s.fc.reachedStandby || s.half == .safe || s.half == .lockout || s.half == .bootFail
    || (s.rd FC_CTRL.FN_LEVEL ≤ s.topReaction && 0 < s.topReaction)

/-- One motor's part of FC_MOT. -/
def State.motField (s : State) (m : Nat) : Nat :=
  s.derate16 m * 32 + (if s.phaseOff (3 * m + 2) then 16 else 0) + (if s.phaseOff (3 * m + 1) then 8 else 0)
    + (if s.phaseOff (3 * m) then 4 else 0) + (if s.reactSafe m then 2 else 0) + (if s.dutyCapped m then 1 else 0)

/-- Bit mask of the sources 32 × k to 32 × k + 31 with an active reaction (FC_ACTk). -/
def State.actMask (s : State) (k : Nat) : Nat :=
  ((List.range 32).filter fun i => s.fc.active.any fun r => r.src == 32 * k + i).foldl (fun d i => d ||| 2 ^ i) 0

/-- The quiet time is running (FC_STAT.QUIET): a reaction is in effect, and an occurrence above NOTE is younger than FC_QUIET
(R354). -/
def State.quietRefresh (s : State) : State :=
  s.setFlag FC_STAT.QUIET
    (!s.fc.active.isEmpty && s.fc.lastReact.any fun o => s.now - o.time < s.rd FC_REC0.FC_QUIET * cecPerMs)

/-- The status registers of the FC follow its state (R362), and with them the FAULT_N output (R360). -/
def State.fcRefresh (s : State) : State :=
  let s := s.quietRefresh
  let top := s.topReaction
  let s := s.wr FC_STAT.TOP top
  let s := s.setFlag FC_STAT.LOCKOUT (s.half == .lockout)
  let s := ((s.wr FC_MOT.MOT0 (s.motField 0)).wr FC_MOT.MOT1 (s.motField 1)).wr FC_MOT.MOT2 (s.motField 2)
  let s := [0, 1, 2, 3].foldl (fun s k => s.wr (FC_ACT.ACT k) (s.actMask k)) s
  let f := s.faultAsserted
  { s.setFlag FC_STAT.FAULT f with fc := { s.fc with faultN := f } }

/-- Log entry of a request (TYPE 0x08, R467); `ev` is the outcome's place in the model's list: granted, refused, dropped, aborted,
replaced. -/
def State.logRequest (s : State) (tgt ev w : Nat) : State :=
  s.logEvent 0x08 w tgt (dataOf [(1, Config.logCode 0x08 ev), (1, s.rd PWR_REQ_STAT.REF_CODE),
    (1, s.rd PWR_REQ_STAT.REF_BLOCK), (9, 0)])

/-- A request with a target and a writer is dropped (R465, R466, R475). -/
def State.dropRequest (s : State) (tgt w : Nat) : State := (s.setFlag PWR_REQ_STAT.DROPPED true).logRequest tgt 2 w

/-- Drop a pending request (R465, R466). -/
def State.dropPending (s : State) : State :=
  if s.flag PWR_STATE.PEND then
    ((s.setFlag PWR_STATE.PEND false).wr PWR_STATE.PEND_TGT 0).dropRequest (s.rd PWR_STATE.PEND_TGT) s.pwr.pendWriter
  else s

/-- The request that runs is aborted (R466): `tgt` is its target. -/
def State.abortRequest (s : State) (tgt : Nat) : State := (s.setFlag PWR_REQ_STAT.ABORTED true).logRequest tgt 3 s.pwr.reqWriter

/-- A running transition ends. -/
def State.endTransition (s : State) : State :=
  { s.setFlag PWR_STATE.BUSY false with pwr := { s.pwr with trans := .idle } }

/-- ALIVE is held low (R359). -/
def State.aliveLow (s : State) : State := { s.setFlag FC_STAT.ALIVE_RUN false with fc := { s.fc with alive := false } }

/-- Abort a running transition toward SAFE or LOCKOUT (R466): its blocks run again, a series-switch test ends as aborted
(R330), ABORTED is set, and a pending request is dropped. -/
def State.abortTransition (s : State) : State :=
  let s := match s.pwr.trans.target with
    | some tgt => s.abortRequest tgt
    | none => s
  let s := s.dropPending.endTransition
  State.abortTest { s with pwr := { s.pwr with stopped := [] } }

/-- Every used motor to its safe state and both series switches open, as SAFE, LOCKOUT and UPDATE leave them (R461). -/
def State.outputsSafe (s : State) (fault : Bool) : State := (s.usedMotors.foldl (State.motorToSafe fault) s).openSluice

/-- The half is in SAFE, with its outputs safe; `byFc` when a reaction of the FC takes it there (R461, R462). -/
def State.inSafe (s : State) (byFc : Bool) : State :=
  (((s.outputsSafe byFc).setHalf .safe).setFlag FC_STAT.SAFE byFc).aliveLow.fcRefresh

/-- Enter SAFE, aborting a running transition (R461, R462, R466). -/
def State.enterSafe (s : State) (byFc : Bool) : State := s.abortTransition.inSafe byFc

/-- D9 powers on: the CAN FD controllers begin error active. Their settings are the registers in D8, which they hold from then on and a write
replaces at once (R84, R435). -/
def State.startCan (s : State) : State :=
  [0, 1].foldl (fun (s : State) c => ((s.wr (NET_CAN_STAT.TEC c) 0).wr (NET_CAN_STAT.REC c) 0).wr (NET_CAN_STAT.BUS c) 0)
    { s with net := { s.net with canIdle := [] } }

/-- Domains on as a bit mask (R461). -/
def State.setDomains (s : State) (mask : Nat) : State :=
  (if mask.testBit 9 && !s.domOn 9 then s.startCan else s).wr PWR_STATE.DOM_ON mask

/-- The operating set of the half (R459, R460): D0 to D5 and D10 always, the others as CHAN and PWR_CFG say. -/
def State.operatingSet (s : State) : Nat :=
  0x3F + (if s.motorUsed 1 then 0x40 else 0) + (if s.motorUsed 2 then 0x80 else 0)
    + (if s.flag PWR_CFG.D8_OFF then 0 else 0x100) + (if s.flag PWR_CFG.D9_OFF then 0 else 0x200) + 0x400
    + (if s.part == .hx962d && !s.flag PWR_CFG.D11_OFF then 0x800 else 0)

/-- Switch the domains to the operating set. -/
def State.applyDomains (s : State) : State := s.setDomains s.operatingSet

/-- Enter LOCKOUT (R356, R357): logged, with every used motor in its safe state and both series switches open, and the
operating set on (R461). -/
def State.enterLockout (s : State) : State :=
  let s := ((s.applyDomains.abortTransition.outputsSafe true).setHalf .lockout).setFlag FC_STAT.SAFE false
  let s := (s.logEvent 0x03 deviceWriter 0 (dataOf [(2, s.rd FC_RESTART.HIGH_MS), (10, 0)])).aliveLow.fcRefresh
  { s with fc := { s.fc with halfReq := none } }

/-- Take the half to SAFE (7) or LOCKOUT (8): at the next tick boundary while the Rake runs, and at the event otherwise
(R462); a series-switch test that runs is aborted at once (R330). A request for LOCKOUT is never replaced by one for SAFE. -/
def State.askHalf (s : State) (code : Nat) : State :=
  if s.running then
    let s := s.abortTest
    { s with fc := { s.fc with halfReq := if code ≠ 8 ∧ s.fc.halfReq.isSome then s.fc.halfReq else some code } }
  else if code = 8 then s.enterLockout else s.enterSafe true

/-- The level a reaction acts with: MOTOR_SAFE of a motor whose safe state names the series switches acts as SLUICE_OPEN
(R338). -/
def State.actingLevel (s : State) (src inst level : Nat) : Nat :=
  if level = 4 ∧ (s.srcMotors src inst).any (fun m => 2 ≤ s.safeKind m) then 6 else level

/-- What a reaction does to the outputs when it takes effect; SLUICE_OPEN opens both series switches (R336). A PHASE_OFF does nothing
to a motor that a stronger reaction or an overvoltage short governs (R337, R343). -/
def State.reactOutputs (s : State) (src inst level : Nat) : State :=
  if level = 3 then
    let ps := (s.srcPhases src inst).filter fun p => !s.reactSafe (p / 3) && !s.ovShort (p / 3)
    ps.foldl State.openCut (s.faultOff (ps.flatMap phaseGates))
  else if level = 4 then (s.srcMotors src inst).foldl (State.motorToSafe true) s
  else if level = 5 then s.usedMotors.foldl (State.motorToSafe true) s
  else if level = 6 then (s.usedMotors.foldl (State.motorToSafe true) s).openSluice
  else s

/-- The half leaves STANDBY, ARMED or LIMP for SAFE on HALF_SAFE or SLUICE_OPEN (R462). -/
def State.reactHalf (s : State) (level : Nat) : State :=
  if 5 ≤ level ∧ (s.half = .standby ∨ s.half = .armed ∨ s.half = .limp) then s.askHalf 7 else s

/-- Put a reaction into effect (R336, R337). -/
def State.activate (s : State) (r : Reaction) : State :=
  let level := s.actingLevel r.src r.inst r.level
  let r := { r with level := level }
  let s := if s.fc.active.contains r then s else { s with fc := { s.fc with active := s.fc.active ++ [r] } }
  ((s.reactOutputs r.src r.inst level).reactHalf level).fcRefresh

/-- A reaction whose boundary has come: a HOLD waits for the next OUT_PHASE and counts for a handover, any other is put into effect
(R335, R496). -/
def State.effect (s : State) (r : Reaction) : State :=
  if r.level = 0 then s else if r.level = 2 then { s with fc := { s.fc with hold := true }, ho := { s.ho with held := true } } else s.activate r

/-- A reaction that takes effect at the next tick boundary while the Rake runs, and at once otherwise (R351, R352). -/
def State.atBoundary (s : State) (r : Reaction) : State :=
  if s.running then { s with fc := { s.fc with waiting := s.fc.waiting ++ [r] } } else s.effect r

/-- Take the reaction of an occurrence: HOLD waits for the next OUT_PHASE, F0 acts at once, F1 and F2 at the next tick
boundary while the Rake runs and at once otherwise (R335). -/
def State.takeReaction (s : State) (r : Reaction) : State :=
  if r.level = 2 ∨ srcClass r.src = 0 then s.effect r else s.atBoundary r

/-- Note a source as active or no longer active (R342). -/
def State.setSource (s : State) (src inst : Nat) (on : Bool) : State :=
  let rest := s.fc.sources.filter (· != (src, inst))
  { s with fc := { s.fc with sources := if on then rest ++ [(src, inst)] else rest } }

/-- Occurrences of a source and INST within a window of CEC that ends now. -/
def State.occurCount (s : State) (src inst window : Nat) : Nat :=
  (s.fc.occurs.filter fun o => o.src == src && o.inst == inst && s.now - o.time ≤ window).length

/-- Keep the time of an occurrence, the last 15 of its source and INST (R345). -/
def State.keepOccur (s : State) (src inst : Nat) : State :=
  let mine := (s.fc.occurs.filter fun o => o.src == src && o.inst == inst).take 14
  let rest := s.fc.occurs.filter fun o => !(o.src == src && o.inst == inst)
  { s with fc := { s.fc with occurs := ⟨src, inst, s.now⟩ :: mine ++ rest } }

/-- The reaction the table gives an occurrence that `keepOccur` has counted (R344, R345). -/
def State.tableLevel (s : State) (src inst : Nat) : Nat :=
  if srcClass src = 0 ∨ srcCountsOne src then s.rd (FC_REACT.REACT_L src)
  else if max 1 (s.rd (FC_REACT.CNT_N src)) ≤ s.occurCount src inst (max 1 (s.rd (FC_REACT.CNT_W src)) * cecPerMs)
  then s.rd (FC_REACT.REACT_L src)
  else max (s.rd (FC_REACT.REACT_T src)) (srcFloor src)

/-- The log entry of an occurrence, at most one per source and INST in 10 ms (R347). -/
def State.logOccur (s : State) (src inst level : Nat) : State :=
  let old := s.fc.logged.find? fun e => e.1 == src && e.2.1 == inst
  let rest := s.fc.logged.filter fun e => !(e.1 == src && e.2.1 == inst)
  let entry (supp : Nat) := s.logEvent 0x01 deviceWriter (src * 256 + inst)
    (dataOf [(1, srcClass src), (1, level), (2, supp), (4, s.tick), (2, s.cec), (2, 0)])
  match old with
  | some (_, _, t, n) =>
    if s.now - t < 10 * cecPerMs then { s with fc := { s.fc with logged := (src, inst, t, n + 1) :: rest } }
    else { entry n with fc := { s.fc with logged := (src, inst, s.now, 0) :: rest } }
  | none => { entry 0 with fc := { s.fc with logged := (src, inst, s.now, 0) :: rest } }

/-- Order of sources that occur in one CEC: FX, F0, F1, F2, then the lowest ID, then the lowest INST (R349). -/
def latchRank (src inst : Nat) : Nat := ((srcClass src + 1) % 4 * 128 + src) * 32 + inst

/-- Write the first-source latch. -/
def State.writeFirst (s : State) (src inst level : Nat) : State :=
  let s := (s.setFlag FC_FIRST.VALID true).wr FC_FIRST.CLASS (srcClass src)
  let s := ((s.wr FC_FIRST.INST inst).wr FC_FIRST.SRC src).wr FC_FIRST.REACT level
  (s.wr FC_FIRST_T.TICK s.tick).wr FC_FIRST_C.CEC s.cec

/-- The latched source occurred in the present CEC and ranks after the given one (R349). -/
def State.latchYields (s : State) (src inst : Nat) : Bool :=
  s.rd FC_FIRST_T.TICK == s.tick && s.rd FC_FIRST_C.CEC == s.cec
    && latchRank src inst < latchRank (s.rd FC_FIRST.SRC) (s.rd FC_FIRST.INST)

/-- The first-source latch: the first occurrence above NOTE is captured, later ones set OVF (R348, R349). -/
def State.latchFirst (s : State) (src inst level : Nat) : State :=
  if level = 0 then s
  else if s.flag FC_FIRST.VALID then
    let s := (s.setFlag FC_FIRST.OVF true).count FC_FIRST_C.OVF_CNT
    if s.latchYields src inst then s.writeFirst src inst level else s
  else s.writeFirst src inst level

/-- Keep the time of an occurrence that took a reaction above NOTE (R354). -/
def State.keepReact (s : State) (src inst level : Nat) : State :=
  if level = 0 then s
  else
    let rest := s.fc.lastReact.filter fun o => !(o.src == src && o.inst == inst)
    { s with fc := { s.fc with lastReact := ⟨src, inst, s.now, level⟩ :: rest } }

/-- The zero vector a SHORT may still use: note the side that carries an occurrence (R339). AFE_OC counts on the side whose
gate of that phase was on, and on both sides when neither was. -/
def State.noteSide (s : State) (src inst : Nat) : State :=
  let put (s : State) (m side : Nat) : State :=
    let x : Side := ⟨src, inst, m, side⟩
    if s.fc.sides.contains x then s else { s with fc := { s.fc with sides := s.fc.sides ++ [x] } }
  if srcOnSwitch src then put s (gateMotor inst) (if isHigh inst then 1 else 0)
  else if src = srcAfeOc then
    let hi := s.gateOn (6 * (inst / 3) + 2 * (inst % 3))
    let lo := s.gateOn (6 * (inst / 3) + 2 * (inst % 3) + 1)
    if hi then (if lo then put (put s (inst / 3) 1) (inst / 3) 0 else put s (inst / 3) 1)
    else if lo then put s (inst / 3) 0 else put (put s (inst / 3) 1) (inst / 3) 0
  else s

/-- Host assistance is selected for the class of a source (R350, CE_MODE). -/
def State.hostAssisted (s : State) (src level : Nat) : Bool :=
  ((srcClass src == 1 && s.flag CE_MODE.FR_F1_H) || (srcClass src == 2 && s.flag CE_MODE.FR_F2_H))
    && 1 ≤ level && srcFloor src < 5 && src != srcBootTmo

/-- Post a host request, with its record to the flow FC_CTRL.HFLOW (R350, R446). -/
def State.postRequest (s : State) (src inst level : Nat) : State :=
  let s := (s.setFlag FC_HREQ.PEND true).setFlag FC_STAT.HPEND true
  let s := (((s.wr FC_HREQ.SRC src).wr FC_HREQ.INST inst).wr FC_HREQ.REACT level).countWrap FC_HREQ.SEQ
  let s := s.produce (s.rd FC_CTRL.HFLOW) 0 (dataOf [(1, s.rd FC_HREQ.SEQ), (1, src), (1, inst), (1, level), (4, s.tick)])
  { s with fc := { s.fc with requestAt := s.now, requestFact := s.rd (FC_REACT.DFACT src) } }

/-- The reaction of the pending request's occurrence at a level, with the DFACT its entry held at the occurrence (R344). -/
def State.requestReaction (s : State) (level : Nat) : Reaction :=
  ⟨s.rd FC_HREQ.SRC, s.rd FC_HREQ.INST, level, s.fc.requestFact⟩

/-- Clear the pending request. -/
def State.endRequest (s : State) : State := (s.setFlag FC_HREQ.PEND false).setFlag FC_STAT.HPEND false

/-- A pending request is cancelled, and its table reaction applies at once (R352). -/
def State.cancelRequest (s : State) : State :=
  if s.flag FC_HREQ.PEND then
    s.endRequest.effect (s.requestReaction (s.rd FC_HREQ.REACT))
  else s

/-- Set the event bit of a source (FC_EVTk). -/
def State.markEvent (s : State) (src : Nat) : State := s.setBit (FC_EVT.EVT (src / 32)) (src % 32) true

/-- The scope of an occurrence is the half or a used motor channel: an unused channel raises no faults (R38). -/
def State.scopeUsed (s : State) (src inst : Nat) : Bool :=
  match srcPhase src inst with
  | some p => s.motorUsed (p / 3)
  | none => src == srcSsupShort || src == srcSsupRange || !srcOnMotor src || s.motorUsed inst

/-- An occurrence of a source of a used scope (R342 to R352): it is counted, classified and logged, latched if it is the first, deferred to
the host where the mode says so, and otherwise takes its reaction. -/
def State.reportUsed (s : State) (src inst : Nat) : State :=
  let s := (s.keepOccur src inst).markEvent src
  let level := s.tableLevel src inst
  let s := ((s.noteSide src inst).logOccur src inst level).latchFirst src inst level
  let s := s.keepReact src inst level
  if s.hostAssisted src level ∧ !s.flag FC_HREQ.PEND then s.postRequest src inst level
  else
    let s := if s.hostAssisted src level then s.count FC_HCNT.BUSY else s
    let s := if srcClass src = 0 ∨ 5 ≤ s.actingLevel src inst level then s.cancelRequest else s
    s.takeReaction (s.reaction src inst level)

/-- An occurrence of a source; an unused motor channel raises none (R38). -/
def State.report (s : State) (src inst : Nat) : State := if s.scopeUsed src inst then s.reportUsed src inst else s

/-- An occurrence whose condition lasts: the source is active from now on (R342). A source that is already active has no
new rise. -/
def State.raise (s : State) (src inst : Nat) : State :=
  if s.fc.sources.contains (src, inst) || !s.scopeUsed src inst then s
  else (s.reportUsed src inst).setSource src inst true

/-- The condition of a source ends. -/
def State.lower (s : State) (src inst : Nat) : State := s.setSource src inst false

end Sys2Proof.Machine
end

