-- ==== Sys2Proof/Machine/Safe.lean ====
section
/-! DEFINITION. SAFE (chapter Safety functions and two-fault behaviour): evidence about the partner, the redundancy copy, the
limp timer, sensor supplies and test pulses, and the protected safety parameter set. -/

namespace Sys2Proof.Machine

/-- Draw a free value (a value the spec leaves open). -/
def State.draw (s : State) : Nat × State := (Config.freeValue s.drawn, { s with drawn := s.drawn + 1 })

/-- Draw `n` free bytes. -/
def State.drawBytes (s : State) (n : Nat) : List Byte × State :=
  ((List.range n).map fun i => BitVec.ofNat 8 (Config.freeValue (s.drawn + i)), { s with drawn := s.drawn + n })

/-! ### Evidence and redundancy copy -/

/-- Redundancy codes of SAFE_RSTAT: 0 DUAL, 1 DUAL_UNLINKED, 2 SINGLE_A, 3 SINGLE_B, 4 NONE, 7 HX961-S. -/
def State.ownSingle (s : State) : Nat := match s.halfId with | .a => 2 | .b => 3
def State.partnerSingle (s : State) : Nat := match s.halfId with | .a => 3 | .b => 2

/-- The own copy of the redundancy state. -/
def State.copy (s : State) : Nat := s.rd SAFE_RSTAT.RSTATE

/-- The own copy is the own SINGLE. -/
def State.inOwnSingle (s : State) : Bool := s.copy == s.ownSingle

/-- A redundancy or limp event for the Bittern log (TYPE 0x0E of R487); `ev` is the event's place in the model's list. -/
def State.logRedundancy (s : State) (ev writer : Nat) : State :=
  s.logEvent 0x0E writer (Config.logCode 0x0E ev)
    (dataOf [(1, s.copy), (1, s.rd SAFE_RSTAT.PRSTATE), (2, s.rd SAFE_LIMP_CTL.LEFT), (8, 0)])

/-- In-service bit of the last Brine frame received by the TSTART before the present boundary (R365). -/
def State.frameStatus (s : State) : Bool :=
  if s.safe.frameAt ≤ s.rake.lastBoundary + s.rd RAKE_TSTART.TSTART then s.safe.frameIn else s.safe.frameBefore

/-- The status flow is alive: with PSTAT_FLOW = 0 it counts as silent (R363). -/
def State.flowAlive (s : State) : Bool := s.rd SAFE_RCFG.PSTAT_FLOW != 0 && s.flag SAFE_RSTAT.FAB_ALIVE

/-- Peer ALIVE runs: with PA_EN = 0 it counts as stopped (R363). -/
def State.peerAlive (s : State) : Bool := s.flag SAFE_RCFG.PA_EN && s.flag SAFE_RSTAT.PA_ALIVE

/-- The evidence bits follow a write of SAFE_RCFG (R363). -/
def State.evidenceFollows (s : State) : State :=
  (s.setFlag SAFE_RSTAT.FAB_ALIVE s.flowAlive).setFlag SAFE_RSTAT.PA_ALIVE s.peerAlive

/-- Partner's service status from the evidence (R365): in service, and BLIND. -/
def State.partnerStatus (s : State) : Bool × Bool :=
  if s.flag SAFE_RSTAT.LINK_UP then (s.frameStatus, false)
  else if s.flowAlive then (s.safe.recIn, false)
  else if s.peerAlive then (true, true)
  else (false, false)

/-- The own copy that R365 gives. -/
def State.copyFor (s : State) (own partner : Bool) : Nat :=
  match own, partner with
  | true, true => if s.flag SAFE_RSTAT.LINK_UP then 0 else 1
  | true, false => s.ownSingle
  | false, true => s.partnerSingle
  | false, false => 4

/-- Evidence that contradicts the frames while the link is up: DISAGREE, logged once per 10 ms (R366). -/
def State.checkDisagree (s : State) : State :=
  let fab := s.flowAlive && (s.safe.recIn != s.frameStatus || s.safe.recCopy != s.rd SAFE_RSTAT.PRSTATE)
  let pa := s.flag SAFE_RCFG.PA_EN && s.peerAlive != s.frameStatus
  if s.flag SAFE_RSTAT.LINK_UP && (fab || pa) then
    let s := s.setFlag SAFE_REVT.DISAGREE true
    let due := match s.safe.disagreeAt with
      | none => true
      | some t => 10 * cecPerMs ≤ s.now - t
    if due then { s.logRedundancy 0 deviceWriter with safe := { s.safe with disagreeAt := some s.now } } else s
  else s

/-- The half drives at least one motor marked shared (R369). -/
def State.hasShared (s : State) : Bool := s.usedMotors.any s.img.shared.contains

/-- An episode of the limp timer, of a half in service: LIMP, or BLIND in DUAL_UNLINKED (R368, R369). A half that goes from BLIND to
LIMP stays in its episode: none of its ends of R369 has come (DEDUCED). -/
def State.inEpisode (s : State) : Bool :=
  s.hasShared && s.inService && (s.half == .limp || (s.copy == 1 && s.flag SAFE_RSTAT.BLIND))

/-- CEC left on the limp timer, which is held in three copies (R88). -/
def State.limpLeft (s : State) : Nat := s.rd LIMP_TIMER.LEFT

/-- Set the limp timer, and show its whole seconds. -/
def State.setLimp (s : State) (left : Nat) : State :=
  (s.wr LIMP_TIMER.LEFT left).wr SAFE_LIMP_CTL.LEFT (left / (1000 * cecPerMs))

/-- The time that an episode begins with. -/
def State.limpFull (s : State) : Nat := s.rd SAFE_LIMP.LIMP_TMAX * 1000 * cecPerMs

/-- The timer runs, its RESTART is used, and it has expired, as the copies of its state vote (R369 to R371), with what the registers show. -/
def State.limpRuns (s : State) : Bool := s.flag LIMP_TIMER.RUN
def State.restartUsed (s : State) : Bool := s.flag LIMP_TIMER.USED
def State.limpExpired (s : State) : Bool := s.flag LIMP_TIMER.EXPIRED
def State.setLimpRun (s : State) (b : Bool) : State := (s.setFlag LIMP_TIMER.RUN b).setFlag SAFE_RSTAT.LIMP_RUN b
def State.setRestartUsed (s : State) (b : Bool) : State := (s.setFlag LIMP_TIMER.USED b).setFlag SAFE_LIMP_CTL.RST_USED b

/-- CEC left of the ramp of STOP (R371). -/
def State.limpRamp (s : State) : Option Nat := if s.flag LIMP_TIMER.RAMP_ON then some (s.rd LIMP_TIMER.RAMP) else none
def State.setLimpEnd (s : State) (expired : Bool) (ramp : Option Nat) : State :=
  ((s.setFlag LIMP_TIMER.EXPIRED expired).setFlag LIMP_TIMER.RAMP_ON ramp.isSome).wr LIMP_TIMER.RAMP (ramp.getD 0)

/-- An episode with a limp timer is on: the timer runs, or it has expired and its action goes on (R369, R371). -/
def State.limpOn (s : State) : Bool := s.limpRuns || s.limpExpired

/-- Start or end an episode of the limp timer (R369); a limp-end action ends with the episode (R371, R372). -/
def State.limpEpisode (s : State) : State :=
  if s.inEpisode && !s.limpOn then
    let s := (s.setLimpRun true).setRestartUsed false
    (s.setLimpEnd false none).setLimp s.limpFull
  else if !s.inEpisode && s.limpOn then
    let s := (s.setLimpRun false).setRestartUsed false
    (s.setLimpEnd false none).setLimp 0
  else s

/-- The limp timer counts down in whole ticks, and a STOP ramp runs (R369, R371). -/
def State.limpTick (s : State) (len : Nat) : State :=
  if s.limpOn then
    (s.setLimpEnd s.limpExpired (s.limpRamp.map (· - len))).setLimp (s.limpLeft - len)
  else s

/-- The half moves between ARMED and LIMP with its copy (R365). -/
def State.armedOrLimp (s : State) : State :=
  if s.half = .armed ∧ s.inOwnSingle then s.setHalf .limp
  else if s.half = .limp ∧ (s.copy = 0 ∨ s.copy = 1) then s.setHalf .armed
  else s

/-- REDUNDANCY_UPDATE at a tick boundary (R365): the partner's service status, the own copy, and ARMED or LIMP with it.
On an HX961-S nothing applies and RSTATE reads 7. -/
def State.redundancyUpdate (s : State) : State :=
  match s.part with
  | .hx961s => s
  | .hx962d =>
    let (pin, blind) := s.partnerStatus
    let old := s.copy
    let s := s.checkDisagree
    let s := s.setFlag SAFE_RSTAT.PART_IN pin
    let wasBlind := s.flag SAFE_RSTAT.BLIND
    let new := s.copyFor s.inService pin
    let s := (s.wr SAFE_RSTAT.RSTATE new).setFlag SAFE_RSTAT.BLIND blind
    let s := if blind && !wasBlind then s.setFlag SAFE_REVT.BLIND true else s
    let s := if new != old then (s.setFlag SAFE_REVT.CHG true).logRedundancy 1 deviceWriter else s
    s.armedOrLimp

/-- A limp-end derating multiplies SHARE by LIMP_DF / 16, and a STOP ramp brings it to 0 (R371). -/
def State.limpShare (s : State) (m share : Nat) : Nat :=
  if !s.img.shared.contains m || !s.limpExpired then share
  else match s.limpRamp with
    | none => if s.rd SAFE_LIMP.LIMP_END = 0 then share * s.rd SAFE_LIMP.LIMP_DF / 16 else share
    | some left => share * left / (max 1 (s.rd SAFE_LIMP.LIMP_RAMP) * 10 * cecPerMs)

/-- The half is one of an HX962-D: only there is evidence about a partner (R4, R363). -/
def State.dual (s : State) : Bool := s.part == .hx962d

/-- PEER_ALIVE_EDGE (R363): with PA_EN = 0 the pin is ignored. -/
def peerAliveEdge (s : State) : State :=
  if s.dual ∧ s.flag SAFE_RCFG.PA_EN then
    ({ s.setFlag SAFE_RSTAT.PA_ALIVE true with safe := { s.safe with edgeAt := s.now } } : State).checkDisagree
  else s

/-- PEER_ALIVE_TIMEOUT (R363): no edge within PA_TMO × 10 µs. -/
def peerAliveTimeout (s : State) : State :=
  if s.rd SAFE_RCFG.PA_TMO * 10 * cecPerUs ≤ s.now - s.safe.edgeAt then (s.setFlag SAFE_RSTAT.PA_ALIVE false).checkDisagree else s

/-- STATUS_FLOW_SILENT (R363): no record for FAB_N fabric cycles. -/
def statusFlowSilent (s : State) : State :=
  if max 1 (s.rd SAFE_RCFG.FAB_N) ≤ s.safe.recAge then s.setFlag SAFE_RSTAT.FAB_ALIVE false else s

/-- A status record of the partner, which only a half of an HX962-D takes (R363, R449). -/
def State.takeStatus (s : State) (inSvc : Bool) (copy : Nat) : State :=
  let s := s.setFlag SAFE_RSTAT.FAB_ALIVE true
  let s := { s with safe := { s.safe with recIn := inSvc, recCopy := copy, recAge := 0 } }
  (if s.flag SAFE_RSTAT.LINK_UP then s else s.wr SAFE_RSTAT.PRSTATE copy).checkDisagree

/-- What SAFE takes from an accepted Brine frame (R363, R366, R367); the copies are compared while the link is up. -/
def State.takeFrame (s : State) (inSvc : Bool) (copy : Nat) : State :=
  let n := if copy = s.copy ∨ !s.flag SAFE_RSTAT.LINK_UP then 0 else s.safe.copyDiff + 1
  let s := if n = 8 then s.setFlag SAFE_REVT.COPY_MM true else s
  { s.wr SAFE_RSTAT.PRSTATE copy with safe := { s.safe with frameIn := inSvc, frameBefore := s.safe.frameIn,
                                                                  frameAt := s.now, copyDiff := n } }

/-! ### Limp timer -/

/-- LIMP_RESTART (R370): once per episode and while the timer runs; otherwise ignored with WR_IGN, and logged within an
episode. -/
def limpRestart (w : Nat) (s : State) : State :=
  if !s.limpOn then s.ignored 0x2410
  else if s.restartUsed || s.limpExpired then (s.ignored 0x2410).logRedundancy 2 w
  else
    let s := s.setRestartUsed true
    s.setLimp s.limpFull

/-- LIMP_EXPIRY (R370, R371): the timer is at 0 in an episode that has not expired yet. Where a RESTART of the same CEC is still unused
(`restarted`), the restart applies and the timer does not expire. -/
def limpExpiry (restarted : Bool) (s : State) : State :=
  if restarted ∧ !s.restartUsed then s
  else if s.limpRuns ∧ s.limpLeft = 0 ∧ !s.limpExpired then
    let s := ((s.setFlag SAFE_REVT.LIMP_END true).setLimpRun false).logRedundancy 3 deviceWriter
    let ramp := if s.rd SAFE_LIMP.LIMP_END = 1 then some (max 1 (s.rd SAFE_LIMP.LIMP_RAMP) * 10 * cecPerMs) else none
    s.setLimpEnd true ramp
  else s

/-- Take the half to SAFE as HALF_SAFE leaves it, without an FC source (R371, R464): at the next tick boundary while the
Rake runs, and at once otherwise. -/
def State.plainSafe (s : State) : State :=
  if s.running then
    { s.setFlag PWR_STATE.BUSY true with pwr := { s.pwr with trans := .toSafe } }
  else s.enterSafe false

/-- LIMP_RAMP_END (R371): the ramp has reached zero. -/
def limpRampEnd (s : State) : State :=
  if s.limpRamp = some 0 ∧ s.inService ∧ s.pwr.trans ≠ .toSafe then s.abortTransition.plainSafe else s

/-! ### Sensor supplies and test pulses -/

/-- Supply `k` is on (R377): enabled, D10 on, and in no test pulse. -/
def State.supplyOn (s : State) (k : Nat) : Bool := s.bit SAFE_SSUP.EN k && s.domOn 10 && !s.safe.pulsing.contains k

/-- The last instant n × TP_PERIOD + k × TP_PERIOD / 4 of the real-time counter, and none before the first (R377). -/
def State.pulseSlot (s : State) (k : Nat) : Option Nat :=
  let period := s.rd SAFE_TP.TP_PERIOD * cecPerMs
  let first := k * period / 4
  if period = 0 ∨ s.now < first then none else some (first + (s.now - first) / period * period)

/-- The first tick boundary at or after a slot of supply `k`. -/
def State.pulseDue (s : State) (k : Nat) : Bool :=
  s.running && s.cec == 0 && (s.pulseSlot k).any fun t => decide (s.rake.boundaryBefore < t)

/-- TEST_PULSE of supply `k` (R377): at its tick boundary a supply that is on goes off. -/
def testPulse (k : Nat) (s : State) : State :=
  if s.bit SAFE_TP.TP_EN k ∧ s.supplyOn k ∧ s.pulseDue k ∧ s.half ≠ .boot ∧ s.half ≠ .selftest ∧ !s.pwr.stopped.contains 5 then
    { s with safe := { s.safe with pulseAt := place s.safe.pulseAt k s.now, pulsing := s.safe.pulsing ++ [k] } }
  else s

/-- One input's judgement at the sampling instant of supply `k` (R378); `off` tells that the input is at its off level. -/
def State.inputFinding (s : State) (k i : Nat) (off : Bool) : Bool :=
  s.bit SAFE_TPA1.USE i && !(i < 3 && s.bit POS_STAT.BUSY i)
    && (if s.inputSupply i = k then !off else off)

/-- Nominal voltage of supply `k` in mV (R377). -/
def State.supplyNominal (s : State) (k : Nat) : Nat := if s.bit SAFE_SSUP.V5 k then 5000 else 3300

/-- Input `i` is at its off level (R378): low, or below 5 % of full scale for an AIN input, given as 14-bit code. -/
def atOffLevel (low : List Bool) (ain : List Nat) (i : Nat) : Bool :=
  if i < 6 then low.getD i true else decide (20 * ain.getD (i - 6) 0 < 16384)

/-- TEST_PULSE_SAMPLE of supply `k` (R378, R379): the levels of the ports and Hall triples, the codes of AIN0 to AIN11, and the supply's
own readback in mV, TP_WIDTH − 5 µs into its pulse. Of several findings SAFE_TP_STAT.INPUT keeps the highest input (DESIGN CHOICE). The pulse ends 5 µs later. -/
def testPulseSample (k : Nat) (low : List Bool) (ain : List Nat) (mv : Nat) (s : State) : State :=
  if s.safe.pulsing.contains k then
    let t := max s.now (lookup s.safe.pulseAt 0 k + (s.rd SAFE_TP.TP_WIDTH - 5) * cecPerUs)
    let s := { s with now := t, cec := s.cec + (t - s.now) }
    let found := (List.range 18).filter fun i => s.inputFinding k i (atOffLevel low ain i)
    let s := { s with safe := { s.safe with pulsing := s.safe.pulsing.filter (· != k) } }
    let s := match found.getLast? with
      | none => s.lower srcSsupShort k
      | some i =>
        (((s.setBit SAFE_TP_STAT.SHORT k true).count SAFE_TP_STAT.SHORT_CNT).wr SAFE_TP_STAT.INPUT i).report srcSsupShort k
          |>.setSource srcSsupShort k true
    if s.supplyNominal k < 10 * mv then (s.setBit SAFE_TP_STAT.RANGE k true).raise srcSsupRange k else s
  else s

/-- SSUP_RANGE of supply `k` (R379): for 1 ms its readback has been `mv` mV. Outside ±10 % of nominal of a supply that is on it raises the
source, and inside the source is no longer active. -/
def ssupRange (k mv : Nat) (s : State) : State :=
  if !s.supplyOn k then s
  else if 10 * mv < 9 * s.supplyNominal k ∨ 11 * s.supplyNominal k < 10 * mv then (s.setBit SAFE_TP_STAT.RANGE k true).raise srcSsupRange k
  else s.lower srcSsupRange k

/-! ### Safety parameter set -/

/-- Word offsets of the safety parameter set, in ascending order (R382). -/
def setOffsets : List Nat :=
  [0x1100, 0x1C04, 0x1C08, 0x1C0C, 0x1C1C, 0x2014, 0x2018, 0x2020]
    ++ (List.range 128).map (0x2100 + 4 * ·)
    ++ [0x2408, 0x240C, 0x2414, 0x2418, 0x241C, 0x2420]

/-- The offset is that of a member register of the set, in ascending order as R389 takes them. -/
def isSetOffset (off : Nat) : Bool := setOffsets.contains off

/-- Entries of the reaction table that read as 0 and ignore writes: reserved sources, BOOT_TMO and FC_SELF (R344, R362). -/
def deadReact (off : Nat) : Bool :=
  0x2100 ≤ off && off < 0x2300 && (let n := (off - 0x2100) / 4; !srcListed n || n == srcBootTmo || n == srcFcSelf)

/-- The word of a member register with every bit outside a TMR field taken as zero (R389). -/
def State.setWordAt (s : State) (off : Nat) : Word :=
  if deadReact off then 0
  else wordOfFields s.rd (((fieldsAt off).getD []).filter fun f => f.cls == .tmr)

/-- The active password hash; all zeros while none is held (R384). -/
def State.activeHash (s : State) : List Byte := s.keepArea.pwHash.getD (List.replicate 32 0)

/-- SAFE_SET_CRC follows the set and the active hash (R389). -/
def State.renewSetCrc (s : State) : State :=
  s.wr SAFE_SET_CRC.SET_CRC
    (crc32c ((setOffsets.flatMap fun off => leBytes 4 (s.setWordAt off).toNat) ++ s.activeHash))

/-- The unlock is open to a writer, or UNLOCK_TIMEOUT closed it for that writer in the present CEC; the MP writes the set at boot without an
unlock (R382, R386). -/
def State.unlockedFor (s : State) (w : Nat) : Bool :=
  (s.rd SAFE_UNL.STATE == 2 && s.rd SAFE_UNL.WRITER == w) || s.safe.timedOut == some (s.now, w) || (w == 0x80 && (s.half == .boot || s.half == .selftest))

/-- An unlock attempt or password event for the log (TYPE 0x05); `ev` is the result's place in the model's list. -/
def State.logUnlock (s : State) (ev w : Nat) : State :=
  s.logEvent 0x05 w (Config.logCode 0x05 ev) (dataOf [(1, s.rd SAFE_UNL.WRONG_CNT), (1, s.rd SAFE_UNL.PW_GEN), (10, 0)])

/-- Key writes are taken in STANDBY, SAFE and LOCKOUT (R384). -/
def State.keyState (s : State) : Bool := s.half == .standby || s.half == .safe || s.half == .lockout

/-- KEY_WRITE: one word of the password, the upper word first (R383, R384). -/
def keyWrite (w : Nat) (v : Word) (s : State) : State :=
  if !s.keyState ∨ s.rd SAFE_UNL.STATE ≠ 0 then s.ignored 0x2428
  else match s.safe.keyHi with
    | none => { s with safe := { s.safe with keyHi := some (v, w, s.now) } }
    | some (_, w0, t) =>
      if 100 * cecPerMs < s.now - t then { s with safe := { s.safe with keyHi := some (v, w, s.now) } }
      else if w = w0 then
        { s.wr SAFE_UNL.STATE 1 with safe := { s.safe with keyLo := some v, keyWriter := w } }
      else s.ignored 0x2428

/-- KEY_TIMEOUT: 100 ms without the second word discard the first (R383). -/
def keyTimeout (s : State) : State :=
  match s.safe.keyHi, s.safe.keyLo with
  | some (_, _, t), none =>
    if 100 * cecPerMs ≤ s.now - t then { s with safe := { s.safe with keyHi := none } } else s
  | _, _ => s

/-- The attempt is over: no word is held. -/
def State.dropKey (s : State) : State := { s with safe := { s.safe with keyHi := none, keyLo := none } }

/-- KEY_CHECK: the hash of the eight password bytes, big-endian, followed by the salt is compared with the active hash
(R383 to R385). An attempt against a hash of all zeros is refused uncounted; an attempt of a half that has left the states
of R384 is discarded uncounted (R391). -/
def keyCheck (s : State) : State :=
  match s.safe.keyHi, s.safe.keyLo with
  | some (hi, _, _), some lo =>
    let w := s.safe.keyWriter
    let s := s.dropKey.wr SAFE_UNL.STATE 0
    if !s.keyState then s
    else if s.activeHash = List.replicate 32 0 then s.logUnlock 2 w
    else if sha256 ((leBytes 4 hi.toNat).reverse ++ (leBytes 4 lo.toNat).reverse ++ s.keepArea.pwSalt) = s.activeHash then
      let s := ((s.wr SAFE_UNL.STATE 2).wr SAFE_UNL.WRITER w).wr SAFE_UNL.WRONG_CNT 0
      { s.logUnlock 0 w with safe := { s.safe with memberAt := s.now } }
    else
      let s := s.count SAFE_UNL.WRONG_CNT
      (if 5 ≤ s.rd SAFE_UNL.WRONG_CNT then s.wr SAFE_UNL.STATE 3 else s).logUnlock 1 w
  | _, _ => s

/-- Close the unlock (R386). -/
def State.closeUnlock (s : State) : State :=
  if s.rd SAFE_UNL.STATE = 2 then (s.wr SAFE_UNL.STATE 0).wr SAFE_UNL.WRITER 0 else s

/-- The half leaves STANDBY, SAFE and LOCKOUT: the unlock closes (R386), and an attempt that is being checked is discarded uncounted
(R391). -/
def State.leaveKeyStates (s : State) : State :=
  if s.rd SAFE_UNL.STATE = 1 then s.dropKey.wr SAFE_UNL.STATE 0 else s.closeUnlock

/-- The unlock closes when the half leaves STANDBY, SAFE or LOCKOUT (R386). -/
def State.keyStateCheck (s : State) : State := if s.keyState then s else s.leaveKeyStates

/-- UNLOCK_LOCK: a write of 1 to SAFE_UNL.LOCK (R386). -/
def unlockLock (s : State) : State := s.closeUnlock

/-- UNLOCK_TIMEOUT: 60 s with no write to a member (R386). -/
def unlockTimeout (s : State) : State :=
  if 60000 * cecPerMs ≤ s.now - s.safe.memberAt ∧ s.rd SAFE_UNL.STATE = 2 then
    { s.closeUnlock with safe := { s.safe with timedOut := some (s.now, s.rd SAFE_UNL.WRITER) } }
  else s

/-- PW_SET: store SAFE_PWH as the new hash with the next generation, while the unlock is open to the writer (R388). -/
def pwSet (w : Nat) (s : State) : State :=
  if s.rd SAFE_UNL.STATE = 2 ∧ s.rd SAFE_UNL.WRITER = w then
    let hash := s.safe.newHash.flatMap fun x => (leBytes 4 x.toNat).reverse
    let s := s.wr SAFE_UNL.PW_GEN (s.keepArea.pwGen + 1)
    let s := { s with keepArea := { s.keepArea with pwHash := some hash, pwGen := (s.keepArea.pwGen + 1) % 256 },
                      safe := { s.safe with memberAt := s.now } }
    (s.logUnlock 3 w).renewSetCrc
  else s.ignored 0x242C

/-- One log entry per changed field of the set (R387). -/
def State.logMember (s : State) (w : Nat) (f : Fld) (old new : Nat) : State :=
  if old = new then s
  else s.logEvent 0x04 w f.off (dataOf [(1, f.lo), (3, 0), (4, old), (4, new)])

end Sys2Proof.Machine
end

