-- ==== Sys2Proof/Machine/Pwr.lean ====
section
/-! DEFINITION. The power-state machine (chapter Power states and domains): requests, transitions, arming, sleep entry and
domains. -/

namespace Sys2Proof.Machine

/-- A node's bit in the write mask of a ring (R81). -/
def State.nodeMay (s : State) (ringB : Bool) (node : Nat) : Bool :=
  (if ringB then s.img.maskB else s.img.maskA).testBit node

/-- The half is on ring B: half B (R21, R411). -/
def State.onRingB (s : State) : Bool := s.halfId == .b

/-- A writer may write (R81): host SPI and the MP always, a CAN FD controller as the node NET_CANc_CFG.NODE of the own
ring, a fabric node by its bit in the mask of its ring. -/
def State.permitted (s : State) (w : Nat) : Bool :=
  if w = 0x20 ∨ w = 0x21 then s.nodeMay s.onRingB (s.rd (NET_CAN_CFG.NODE (w - 0x20)))
  else if 0x40 ≤ w ∧ w < 0x80 then s.nodeMay s.onRingB (w - 0x40)
  else if 0xC0 ≤ w ∧ w < 0x100 then s.nodeMay (!s.onRingB) (w - 0xC0)
  else true

/-- A refused request changes no state (R467). -/
def State.refuse (s : State) (tgt w code : Nat) : State :=
  (((s.setFlag PWR_REQ_STAT.REFUSED true).wr PWR_REQ_STAT.REF_CODE code).wr PWR_REQ_STAT.WRITER w).logRequest tgt 1 w

/-- A transition starts. -/
def State.begin (s : State) (t : Transition) (w : Nat) : State :=
  { s.setFlag PWR_STATE.BUSY true with pwr := { s.pwr with trans := t, reqWriter := w } }

/-- A request becomes the pending one; an older one is replaced (R465). -/
def State.pend (s : State) (tgt w : Nat) : State :=
  let s := if s.flag PWR_STATE.PEND then
      (s.setFlag PWR_REQ_STAT.PEND_OVR true).logRequest (s.rd PWR_STATE.PEND_TGT) 4 s.pwr.pendWriter
    else s
  let s := (s.setFlag PWR_STATE.PEND true).wr PWR_STATE.PEND_TGT tgt
  { s.wr PWR_REQ_STAT.WRITER w with pwr := { s.pwr with pendWriter := w } }

/-- A request to SAFE (R464, R466): it ends phase 1 of sleep entry at the next boundary, and any other transition at once. -/
def State.requestSafe (s : State) (w : Nat) : State :=
  let t := s.pwr.trans
  let s :=
    if t.inSleep then { s with pwr := { s.pwr with trans := .sleepAborting true (t.target = none) } }
    else if t = .toSafe then s
    else
      let s := s.abortTransition.plainSafe
      { s with pwr := { s.pwr with reqWriter := w } }
  s.logRequest 7 0 w

/-- Judge a request for a target other than a wake from WATCH (R464). -/
def State.judge (s : State) (tgt w : Nat) : State :=
  let h := s.half
  let s := s.wr PWR_REQ_STAT.WRITER w
  if tgt = 5 then
    if h = .standby then s.begin .arming w else s.refuse tgt w 1
  else if tgt = 4 then
    if h = .armed ∨ h = .limp then s.begin .toStandby w
    else if h = .safe then (if s.rd FC_STAT.TOP < 5 then s.begin .leaveSafe w else s.refuse tgt w 4)
    else s.refuse tgt w 1
  else if tgt = 1 then
    if h = .standby then s.begin (.sleeping 1) w else s.refuse tgt w 1
  else if tgt = 7 then
    if h = .standby ∨ h = .armed ∨ h = .limp then s.requestSafe w else s.refuse tgt w 1
  else s.refuse tgt w (if tgt = 9 ∨ 10 < tgt then 5 else 1)

/-- A request (R464 to R466): refused to a writer that may not write, held pending while a transition runs, and judged
otherwise; a request to SAFE is never held. -/
def State.request (s : State) (tgt w : Nat) : State :=
  if !s.permitted w then s.refuse tgt w 6
  else if tgt ≠ 7 ∧ s.flag PWR_STATE.BUSY then s.pend tgt w
  else s.judge tgt w

/-- Enter STANDBY (R462): the running transition ends; with AUTO_ARM the half raises one arming request of its own at each entry
from SELFTEST or by recovery (R126), before a pending request is judged (DESIGN CHOICE). -/
def State.enterStandby (s : State) (mayAutoArm : Bool) : State :=
  let s := ((s.endTransition).setHalf .standby).setFlag FC_STAT.SAFE false
  let s := ({ s with fc := { s.fc with reachedStandby := true, lost := [] } } : State).aliveLow.fcRefresh
  if mayAutoArm && s.autoArm then s.judge 5 0x80 else s

/-- A supply whose self-test failed has an input in use (R120). -/
def State.ssupRefuses (s : State) : Bool :=
  (List.range 4).any fun k => s.bit MGMT_BOOT_ST.SSUP k
    && (List.range 18).any fun i => s.bit SAFE_TPA1.USE i && s.inputSupply i == k

/-- A self-test outcome refuses arming (R120, R125), or the datapath is BROKEN (R267). -/
def State.selftestRefuses (s : State) : Bool :=
  s.rd MGMT_BOOT_ST.GD != 0 || s.flag MGMT_BOOT_ST.SLUICE_HS || s.flag MGMT_BOOT_ST.SLUICE_LS || s.ssupRefuses
    || s.flag CE_TR_STAT.BROKEN

/-- MGMT_ARM_BLOCK bits of the conditions of R125 that fail, but for the series-switch test. -/
def State.armBlocks (s : State) : Nat :=
  (if s.rd MGMT_BOOT_STAT.BOOT_CASE = 4 then 1 else 0) + (if s.selftestRefuses then 2 else 0)
    + (if s.flag SYS_CTRL.TEST_MODE then 4 else 0) + (if s.rd RAKE_BUDGET.T_ISSUE = 0 then 8 else 0)
    + (if s.rd RAKE_STAT.LOCK_REF ≠ 0 ∧ s.rd RAKE_STAT.LOCK_STATE ≠ 2 then 16 else 0)
    + (if s.rd SAFE_UNL.STATE = 2 then 32 else 0)

/-- Write the seven bits of MGMT_ARM_BLOCK. -/
def State.setArmBlock (s : State) (n : Nat) : State :=
  let s := (s.setFlag MGMT_ARM_BLOCK.IMG_DIFF (n.testBit 0)).setFlag MGMT_ARM_BLOCK.SELFTEST (n.testBit 1)
  let s := (s.setFlag MGMT_ARM_BLOCK.TEST_MODE (n.testBit 2)).setFlag MGMT_ARM_BLOCK.NO_PROG (n.testBit 3)
  let s := (s.setFlag MGMT_ARM_BLOCK.NO_LOCK (n.testBit 4)).setFlag MGMT_ARM_BLOCK.UNLOCKED (n.testBit 5)
  s.setFlag MGMT_ARM_BLOCK.SLUICE_TEST (n.testBit 6)

/-- Log entry of an arming (TYPE 0x09): granted or refused, with BENCH_MODE (R97). -/
def State.logArming (s : State) (refused : Bool) (blocks : Nat) : State :=
  s.logEvent 0x09 s.pwr.reqWriter (if refused then 1 else 0)
    (dataOf [(4, blocks), (1, s.rd SYS_CTRL.BENCH_MODE), (7, 0)])

/-- Refuse an arming with the failing conditions (R125). -/
def State.refuseArming (s : State) (blocks : Nat) : State :=
  let s := (s.setArmBlock blocks).endTransition.openSluice
  (s.refuse 5 s.pwr.reqWriter 2).logArming true blocks

/-- Grant an arming: ARMED with both switches closed (R125, R381). -/
def State.grantArming (s : State) : State :=
  let s := ((s.setArmBlock 0).closeSluice.setHalf .armed).endTransition.leaveKeyStates
  let s := { s with safe := { s.safe with keyHi := none } }
  ((s.logArming false 0).logRequest 5 0 s.pwr.reqWriter).fcRefresh

/-- A series-switch test enters a step (R330): the high-side switch is closed in steps 2, 3 and 5, the low-side switch in steps 3,
4 and 5, and the chopper is commanded on in steps 2, 3 and 4 whatever CHOP_EN says (R319). -/
def State.testStep (s : State) (k : Nat) : State :=
  let s := ((s.setFlag GD_SLUICE.HS_CMD (k == 2 || k == 3 || k == 5)).setFlag GD_SLUICE.LS_CMD (3 ≤ k && k ≤ 5)).wr GD_SLTEST.STEP k
  let s := if 2 ≤ k ∧ k ≤ 4 then s.chopOn else s.chopOff
  { s with gd := { s.gd with test := s.gd.test.map fun t => { t with step := k } } }

/-- Start a series-switch test with its cause in SAFE_SLT: 0 boot, 1 arming, 2 request (R381). All bridge gates are off while it
runs (R330). -/
def State.startSluiceTest (s : State) (cause : Nat) : State :=
  let s := ((s.wr SAFE_SLT.CAUSE cause).count GD_SLTEST.TEST_CNT).gatesOff (List.range 18)
  State.testStep { s with gd := { s.gd with test := some ⟨cause == 1, false, 1⟩ } } 1

/-- The arming at a tick boundary (R125, R381): before the test, and again after it. -/
def State.armingBoundary (s : State) : State :=
  match s.pwr.trans with
  | .arming =>
    if s.armBlocks = 0 then { s.startSluiceTest 1 with pwr := { s.pwr with trans := .armTesting } }
    else s.refuseArming s.armBlocks
  | .armJudge passed =>
    let b := s.armBlocks + (if passed then 0 else 64)
    if b = 0 then s.grantArming else s.refuseArming b
  | _ => s

/-- SERIES_SWITCH_OPEN_DELAY (R464): one millisecond after a disarm the series switches open and the transition ends. -/
def seriesSwitchOpenDelay (s : State) : State :=
  match s.pwr.trans with
  | .disarming t => if t ≤ s.now then s.openSluice.endTransition else s
  | _ => s

/-- A disarm reaches STANDBY: each used motor takes its safe state, and ALIVE is low (R464, R359). -/
def State.disarm (s : State) : State :=
  let s := ((s.usedMotors.foldl (State.motorToSafe false) s).setHalf .standby).aliveLow
  let s := { s with pwr := { s.pwr with trans := .disarming (s.now + cecPerMs) } }
  (s.logRequest 4 0 s.pwr.reqWriter).fcRefresh

/-- The blocks that stopped in phase 1 of sleep entry restart from their saved state, and the transition ends (R469). -/
def State.restartBlocks (s : State) : State := { s.endTransition with pwr := { s.endTransition.pwr with stopped := [] } }

/-- A wake in phase 1 aborts the sleep request at the next boundary (R466, DEDUCED). -/
def State.sleepAborted (s : State) : State := { s with pwr := { s.pwr with trans := .sleepAborting false false } }

/-- Keep in D0 what WATCH needs (R471). -/
def State.watchKeep (s : State) : WatchKeep :=
  let i := s.rd PWR_WATCH.IDX
  { portCfg := wordOfFields s.rd ((fieldsAt (0xC10 + 0x10 * i)).getD []),
    portTim := wordOfFields s.rd ((fieldsAt (0xC14 + 0x10 * i)).getD []),
    hallCfg := wordOfFields s.rd ((fieldsAt (0xC50 + 4 * i)).getD []),
    uni := if i < 32 then s.bit AFE_UNI0.UNI i else s.bit AFE_UNI1.UNI (i - 32),
    trimGain := (lookup s.fuse.trims (0, 0x4000) 9).2, trimOfs := (lookup s.fuse.trims (0, 0x4000) 9).1,
    v5 := s.bit SAFE_SSUP.V5 (s.rd PWR_WATCH.SSUP) }

/-- Registers that a half reset, a wake and the loss of the switched domains leave: the PWR block of D0, and WRONG_CNT and
BLOCKED of SAFE_UNL (R385, R463, R476). -/
def keptInD0 (p : Nat × Nat) : Bool :=
  (0x3400 ≤ p.1 / 32 && p.1 / 32 < 0x3800) || p.1 == SAFE_UNL.WRONG_CNT.key || (p.1 == SAFE_UNL.STATE.key && p.2 == 3)

/-- Every domain but D0 back at reset: registers, shadows, memories and block state; the MRAM, OTP and flash, D0 and the
events already entered for the log stay, and so does the flag of R497. -/
def State.onlyD0 (s : State) : State :=
  { State.reset with
    pending := s.pending, part := s.part, halfId := s.halfId, strap := s.strap, now := s.now, drawn := s.drawn,
    regs := s.regs.filter keptInD0, mram := s.mram, keepArea := s.keepArea, otp := s.otp, flash := s.flash, pwr := s.pwr,
    logQueue := s.logQueue, fuse := s.fuse, wire := s.wire, ce := { Ce.init with katNext := s.ce.katNext },
    ho := { State.reset.ho with flag := s.ho.flag } }

/-- Reset values that the part and the half give (R98, R303, R392, R409, R438, R476). -/
def State.applyPart (s : State) : State :=
  let s := match s.part with
    | .hx962d => s
    | .hx961s =>
      let s := (s.wr SYS_ID.PART 0x961).wr BRINE_CTRL.EN 0
      let s := (s.wr SAFE_RSTAT.RSTATE 7).wr PWR_CFG.D11_OFF 1
      motors.foldl (fun s m => s.wr (FIELD_CTRL.SMETH m) 0) s
  let s := match s.halfId with
    | .a => s
    | .b => (s.wr SYS_ID.HALF 1).wr NET_ADDR.RING 1
  s.wr NET_ADDR.STRAP s.strap

/-- Phase 2 of sleep entry (R469): WATCH is reached 110 µs after it begins, with only D0 on. -/
def State.sleepDown (s : State) : State :=
  let keep := s.watchKeep
  let s := s.logRequest 1 0 s.pwr.reqWriter
  let eth := (s.rd PWR_WAKE_EN.EN / 16) % 4
  let s := (s.onlyD0.setHalf .watch).endTransition.setDomains 1
  let s := { s with now := s.now + 110 * cecPerUs,
                    pwr := { s.pwr with keep := keep, reference := none, ethSleep := eth, stopped := [],
                                        watchAt := s.now + 110 * cecPerUs } }
  { s.aliveLow with fc := { s.aliveLow.fc with faultN := false, reachedStandby := true } }

/-- The identity registers show the OTP (R484). -/
def State.showIdentity (s : State) : State :=
  let f := s.fuse
  let s := (s.wr MGMT_ID_SER_LO.SERIAL f.serial).wr MGMT_ID_SER_HI.SERIAL (f.serial / 2 ^ 32)
  let s := (((s.wr MGMT_ID_DIE.FAB f.fab).wr MGMT_ID_DIE.WAFER f.wafer).wr MGMT_ID_DIE.DIE_X f.dieX).wr MGMT_ID_DIE.DIE_Y f.dieY
  let ch (i : Nat) : Nat := f.lot.getD i 0
  let s := (((s.wr MGMT_ID_LOT0.LOT3 (ch 3)).wr MGMT_ID_LOT0.LOT2 (ch 2)).wr MGMT_ID_LOT0.LOT1 (ch 1)).wr MGMT_ID_LOT0.LOT0 (ch 0)
  ((s.wr MGMT_ID_LOT1.TEST_DATE f.testDate).wr MGMT_ID_LOT1.LOT5 (ch 5)).wr MGMT_ID_LOT1.LOT4 (ch 4)

/-- A boot begins with only D0, D1 and D2 on (R116, R459, R463): D0 keeps its contents, and the flag of R497. -/
def State.beginBoot (s : State) : State :=
  let s := ((s.onlyD0.applyPart.showIdentity.loadTrims.setHalf .boot).setDomains 7).setFlag PWR_STATE.BUSY true
  let s := s.wr SYS_ID.DIE_STEP Config.dieStep
  { s with pwr := { s.pwr with trans := .booting, stopped := [], bootAt := s.now, domChange := false, reference := none, ethSleep := 0 } }

end Sys2Proof.Machine
end

