-- ==== Sys2Proof/Machine/FcCmd.lean ====
section
/-! DEFINITION. Commands of the fault collector: release and recovery, self-fault, host answers, ALIVE and the monitors. -/

namespace Sys2Proof.Machine

/-! ### Release and recovery -/

/-- An occurrence lies within the reach of a reaction (R354). -/
def State.inReach (s : State) (r : Reaction) (o : Taken) : Bool :=
  let half := srcPhase o.src o.inst == none && !srcOnMotor o.src
  if 5 ≤ r.level then true
  else match srcPhase r.src r.inst with
    | some p =>
      if r.level = 4 then half || (s.srcMotors o.src o.inst).contains (p / 3)
      else half || srcPhase o.src o.inst == some p
        || (srcOnMotor o.src && (s.srcMotors o.src o.inst).contains (p / 3))
    | none =>
      if srcOnMotor r.src then half || (s.srcMotors r.src r.inst).any (s.srcMotors o.src o.inst).contains
      else true

/-- A reaction is due for release: FC_QUIET ms since the last occurrence in its reach, and its source not active (R354). -/
def State.releaseDue (s : State) (r : Reaction) : Bool :=
  !s.fc.sources.contains (r.src, r.inst)
    && s.fc.lastReact.all fun o => !s.inReach r o || s.rd FC_REC0.FC_QUIET * cecPerMs ≤ s.now - o.time

/-- Recoveries within the last REC_WIN seconds. -/
def State.recentRecoveries (s : State) : Nat :=
  (s.fc.recoveries.filter fun t => s.now - t ≤ s.rd FC_REC1.REC_WIN * 1000 * cecPerMs).length

/-- WIN_REC shows the recoveries within REC_WIN (R362). -/
def State.showRecoveries (s : State) : State := s.wr FC_REC_STAT.WIN_REC (min 15 s.recentRecoveries)

/-- A further recovery would exceed REC_MAX (R356). -/
def State.recoveryBlocked (s : State) : Bool := s.rd FC_REC1.REC_MAX < s.recentRecoveries + 1

/-- Count a recovery and log it (R356, R487). -/
def State.recover (s : State) : State :=
  let s := { s.count FC_REC_STAT.REC_CNT with fc := { s.fc with recoveries := s.now :: s.fc.recoveries } }
  let s := s.showRecoveries
  s.logEvent 0x02 deviceWriter 0xFFFF
    (dataOf [(1, 0), (1, s.rd FC_REC_STAT.WIN_REC), (2, s.rd FC_REC_STAT.REC_CNT), (8, 0)])

/-- Log the release of a reaction. -/
def State.logRelease (s : State) (r : Reaction) : State :=
  s.logEvent 0x02 deviceWriter r.src
    (dataOf [(1, r.level), (1, s.rd FC_REC_STAT.WIN_REC), (2, s.rd FC_REC_STAT.REC_CNT), (8, 0)])

/-- A side stays barred after the reactions `rs` have been released: while a reaction of its occurrence is active, or, of an occurrence
that took none that lasts, while the motor is held in its safe state (R339). -/
def State.sideStays (s : State) (rs : List Reaction) (x : Side) : Bool :=
  let own (l : List Reaction) : Bool := l.any fun r => r.src == x.src && r.inst == x.inst
  own s.fc.active || (!own rs && s.reactSafe x.motor)

/-- What ends with the release of reactions: the side choice of R339, and the overvoltage shorts of R324 and R325. -/
def State.afterRelease (s : State) (rs : List Reaction) : State :=
  { s with
    fc := { s.fc with sides := s.fc.sides.filter (s.sideStays rs) },
    gd := { s.gd with ovsHeld := s.gd.ovsHeld && (s.flag GD_STAT.OVS_ACT || s.fc.active.any (·.src == srcGdOvs)),
                      ovabsHeld := s.gd.ovabsHeld && (s.flag GD_STAT.OVABS_ACT || s.fc.active.any (·.src == srcGdOvabs)) } }

/-- Channels in SAFE go to IDLE once neither a reaction nor the half state holds them there (R283, R354). -/
def State.freeChannels (s : State) (ms : List Nat) : State :=
  if s.half = .safe ∨ s.half = .lockout ∨ s.half = .update then s
  else ms.foldl (fun s m =>
    if s.rd (FIELD_STAT.STATE m) = 10 ∧ !s.reactSafe m then s.wr (FIELD_STAT.STATE m) 0 else s) s

/-- Motors that a reaction of MOTOR_SAFE or stronger has put into their safe state (R336). -/
def State.reactMotors (s : State) (r : Reaction) : List Nat :=
  if 5 ≤ r.level then s.usedMotors else if r.level = 4 then s.srcMotors r.src r.inst else []

/-- Remove released reactions. -/
def State.dropReactions (s : State) (rs : List Reaction) : State :=
  let s := rs.foldl State.logRelease s
  let s := (State.afterRelease { s with fc := { s.fc with active := s.fc.active.filter (!rs.contains ·) } } rs).fcRefresh
  s.freeChannels (rs.flatMap s.reactMotors)

/-- States that a recovery beyond REC_MAX takes to LOCKOUT (R462); in any other the release does not take place (DEDUCED). -/
def State.mayLockOut (s : State) : Bool := s.half == .standby || s.half == .armed || s.half == .limp || s.half == .safe

/-- Release the MOTOR_SAFE reactions of one motor after another; each release is a recovery, and one beyond REC_MAX leads
to LOCKOUT and does not take place (R356). -/
def State.releaseMotors (s : State) : List Reaction → State
  | [] => s
  | r :: rs =>
    if s.half = .lockout ∨ s.fc.halfReq = some 8 then s
    else if s.recoveryBlocked then (if s.mayLockOut then s.askHalf 8 else s)
    else ((s.dropReactions [r]).recover).releaseMotors rs

/-- A release to STANDBY at the boundary of a request to STANDBY: the release applies, and the request is dropped as equal (R475). -/
def State.dropEqual (s : State) : State := if s.pwr.trans = .leaveSafe then s.dropRequest 4 s.pwr.reqWriter else s

/-- REACTION_RELEASE (R354 to R356): every due reaction is released; a half in SAFE by a reaction returns to STANDBY when
none is left, as a recovery. -/
def reactionRelease (s : State) : State :=
  let due := s.fc.active.filter s.releaseDue
  let s := s.quietRefresh
  let s := s.dropReactions (due.filter fun r => r.level != 4 && r.level < 5)
  let s := s.releaseMotors (due.filter (·.level == 4))
  let strong := due.filter fun r => 5 ≤ r.level
  if s.half = .safe then
    if s.fc.active.all strong.contains ∧ s.flag FC_STAT.SAFE then
      if s.recoveryBlocked then s.enterLockout
      else (((s.dropReactions strong).dropEqual.recover).enterStandby true).freeChannels s.usedMotors
    else s.dropReactions strong
  else s.dropReactions strong

/-- Leave LOCKOUT on an accepted RESTART edge (R358): the recovery times are cleared, and the half enters STANDBY when no source
is active, or SAFE with its reactions held. -/
def State.leaveLockout (s : State) : State :=
  if s.half = .lockout then
    let s := { s.wr FC_REC_STAT.WIN_REC 0 with fc := { s.fc with recoveries := [] } }
    if s.fc.sources.isEmpty then ((s.dropReactions s.fc.active).enterStandby false).freeChannels s.usedMotors
    else ((s.setHalf .safe).setFlag FC_STAT.SAFE true).fcRefresh
  else s

/-! ### Host answers -/

/-- HOST_ANSWER: a write of FC_HANS by a writer (R351). A rejected answer counts in BAD and changes nothing, FC_HANS included. -/
def hostAnswer (w seq react : Nat) (s : State) : State :=
  if s.flag FC_HREQ.PEND ∧ s.now - s.fc.requestAt ≤ s.rd CE_MODE.GRACE * cecPerUs ∧ s.rd FC_HREQ.SEQ = seq % 256
      ∧ srcFloor (s.rd FC_HREQ.SRC) ≤ react % 8 ∧ react % 8 ≤ 6 ∧ s.permitted w then
    let s := (s.wr FC_HANS.SEQ seq).wr FC_HANS.REACT react
    (s.endRequest.count FC_HCNT.ANS).atBoundary (s.requestReaction (react % 8))
  else s.count FC_HCNT.BAD

/-- GRACE_EXPIRY (R352): the table reaction takes effect at the next tick boundary. An answer of the same CEC, which the next
command brings, is accepted in its place (R361). -/
def graceExpiry (answered : Bool) (s : State) : State :=
  if s.flag FC_HREQ.PEND ∧ !answered ∧ s.rd CE_MODE.GRACE * cecPerUs ≤ s.now - s.fc.requestAt then
    (s.endRequest.count FC_HCNT.TMO).atBoundary (s.requestReaction (s.rd FC_HREQ.REACT))
  else s

/-! ### First-source latch, self-fault, ALIVE, monitors -/

/-- FC_FIRST empty. -/
def State.clearFirst (s : State) : State :=
  let s := (s.setFlag FC_FIRST.VALID false).setFlag FC_FIRST.OVF false
  ((s.wr FC_FIRST.CLASS 0).wr FC_FIRST.INST 0).wr FC_FIRST.SRC 0 |>.wr FC_FIRST.REACT 0

/-- FIRST_CLR: a write of 1 clears FC_FIRST (R348). A capture in the CEC of the write wins: of the occurrences of that CEC the first in
the order of R349 is latched, and others leave OVF set (R361). -/
def firstClr (s : State) : State :=
  let fresh := s.fc.lastReact.filter fun o => o.time == s.now
  match fresh.find? fun o => fresh.all fun p => latchRank o.src o.inst ≤ latchRank p.src p.inst with
  | none => s.clearFirst
  | some o => (s.clearFirst.writeFirst o.src o.inst o.level).setFlag FC_FIRST.OVF (1 < fresh.length)

/-- FC_SELF (R353): every gate off, both series switches open, LOCKOUT; a pending host request is cancelled (R352), and a series-switch
test ends (R361). `lost` has a bit for each motor whose safe state the surviving logic cannot establish, which is FREE then. An FC of a
half in OFF has no state to disagree; from any other state the half enters LOCKOUT, BOOT_FAIL too: R462 names FX for it, although R124
has BOOT_FAIL left by a half reset only (DESIGN CHOICE). -/
def fcSelf (lost : Nat) (s : State) : State :=
  if s.half = .off then s
  else
    let s := (((s.keepOccur srcFcSelf 0).markEvent srcFcSelf).logOccur srcFcSelf 0 Config.fxReactCode).setFlag FC_STAT.FX true
    let s := s.cancelRequest
    let s := (s.latchFirst srcFcSelf 0 (1 + Config.fxReactCode % 7)).keepReact srcFcSelf 0 (1 + Config.fxReactCode % 7)
    let s := s.setSource srcFcSelf 0 true
    let s : State := { s with fc := { s.fc with lost := motors.filter fun m => lost.testBit m || s.fc.lost.contains m } }
    let s := ((s.faultOff (List.range 18)).openSluice).abortTest
    (s.askHalf 8).fcRefresh

/-- ALIVE may toggle (R359): in service, ticking, and a boundary within the last two tick periods. -/
def State.mayToggle (s : State) : Bool :=
  s.inService && s.running && decide (s.now - s.rake.lastBoundary ≤ 2 * s.rd RAKE_TICK.TICK_PERIOD)

/-- ALIVE_TOGGLE (R359). -/
def aliveToggle (s : State) : State :=
  let run := s.mayToggle
  if run then
    { s.setFlag FC_STAT.ALIVE_RUN true with fc := { s.fc with alive := !s.fc.alive, aliveAt := s.now } }
  else s.aliveLow

/-- CLK_MON (R341): monitor `k` sees its clock outside ±5 % for 500 ns, or back within it. -/
def clkMon (k : Nat) (bad : Bool) (s : State) : State := if bad then s.raise srcClkMon k else s.lower srcClkMon k

/-- MP_WDOG (R26, R340): no heartbeat for 5 ms, or the heartbeat is back. -/
def mpWdog (silent : Bool) (s : State) : State := if silent then s.raise srcMpWdog 0 else s.lower srcMpWdog 0

end Sys2Proof.Machine
end

