-- ==== Sys2Proof/Machine/GdCmd.lean ====
section
/-! DEFINITION. Commands of the gate drive (chapter Gate drive and power-stage protection): edges, monitors, cut-offs, chopper,
overvoltage stages and series-switch tests. -/

namespace Sys2Proof.Machine

/-! ### What a motor's gates follow -/

/-- What the gates of a motor follow: nothing, the compare values, or a winding short. -/
inductive Drive where
  | off
  | modulate
  /-- Winding short: both zero vectors, only all low sides, or only all high sides (R290, R339). -/
  | short (low high : Bool)
  /-- One vector of the direction 30° × k, for PULSE_T up to the valley (R292, R296). -/
  | pulse (k : Nat)
  deriving DecidableEq, Repr

/-- The winding short that R339 leaves a motor: the zero vector of a side that carries an occurrence is not used, and with
both sides carrying one the short acts as FREE. -/
def State.shortDrive (s : State) (m : Nat) : Drive :=
  if s.bothSides m then .off else .short (!s.sideBarred m 0) (!s.sideBarred m 1)

/-- A series-switch test runs and holds every bridge gate off; an aborted one does not (R330). -/
def State.testHolds (s : State) : Bool := s.gd.test.any fun t => !t.aborted

/-- A motor is in its safe state: by a reaction, by the half state, or by its channel state (R283, R461). -/
def State.motorSafe (s : State) (m : Nat) : Bool :=
  s.reactSafe m || s.half == .safe || s.half == .lockout || s.half == .update || s.rd (FIELD_STAT.STATE m) == 10

/-- FX has turned every gate off, and LOCKOUT takes effect at the next tick boundary (R353). -/
def State.fxOff (s : State) : Bool := s.flag FC_STAT.FX && s.fc.halfReq == some 8

/-- PWM period in CEC (R40). -/
def State.pwmPeriod (s : State) : Nat := s.rd RAKE_TICK.TICK_PERIOD * (1 + s.rd RAKE_TICK.PWM_TICKS)

/-- Direction of pulse `i` in steps of 30 degrees: the six vectors, then the pole plus and minus 30 degrees (R292). -/
def pulseDir (c : Chan) (i : Nat) : Nat :=
  if i < 6 then 2 * i else if i = 6 then c.pole + 1 else c.pole + 11

/-- Direction of a PULSE step: its angle rounded to 60° (R296). -/
def stepDir (x : HStep) : Nat := 2 * ((roundDiv (6 * x.param : Nat) 65536).toNat % 6)

/-- A leg in the vector of direction 30° × k: high side on, low side on, or neither where the leg stands across the direction. The
spec does not say how the legs form a vector between two active ones (DESIGN CHOICE). -/
def pulseLeg (k x : Nat) : Option Bool :=
  match (k + 12 - 4 * x) % 12 with
  | 3 => none
  | 9 => none
  | d => some (d ≤ 2 || 10 ≤ d)

/-- What the gates of motor `m` follow in the present tick (R284, R292, R296, R324, R336 to R339): BRAKE and REFUSE apply the winding short
of R290, and the SHORT safe state and the overvoltage short, which is held as one, the side that R339 leaves (DEDUCED). -/
def State.drive (s : State) (c : Chan) (m : Nat) : Drive :=
  if !s.motorUsed m then .off
  else if s.half = .boot ∨ s.half = .selftest ∨ s.half = .bootFail ∨ s.half = .off ∨ s.half = .watch then .off
  else if s.fxOff ∨ s.testHolds then .off
  else if s.ovShort m then s.shortDrive m
  else if s.motorSafe m then (if s.safeIsFree m then .off else s.shortDrive m)
  else match s.rd (FIELD_STAT.STATE m) with
    | 2 => if c.refuseShort then .short true true else .off
    | 3 => .short true true
    | 4 =>
      if 8 ≤ c.pulseIdx then .modulate
      else if 1 ≤ c.pulseTicks ∧ c.pulseTicks ≤ 1 + s.rd RAKE_TICK.PWM_TICKS then .pulse (pulseDir c c.pulseIdx) else .off
    | 5 => .modulate
    | 6 => .modulate
    | 7 =>
      match c.step with
      | none => .off
      | some x => if x.kind = 3 then .pulse (stepDir x) else .modulate
    | 9 => .modulate
    | _ => .off

/-- The record of a motor channel. -/
def State.chan (s : State) (m : Nat) : Chan := lookup s.chans Chan.init m

/-- Replace the record of a motor channel. -/
def State.setChan (s : State) (m : Nat) (c : Chan) : State := { s with chans := store s.chans Chan.init m c }

/-! ### The centre-aligned counter (R280) -/

/-- The counter `t` steps of 312.5 ps after the tick boundary, and whether it rises: from 0 at the valley to 4 × P at the peak and
back. -/
def State.counterAt (s : State) (t : Nat) : Nat × Bool :=
  let top := 4 * s.pwmPeriod
  if s.flag RAKE_TICK.PWM_TICKS then (if s.flag RAKE_STAT.EXTREME then (top - t, false) else (t, true))
  else if t ≤ top then (t, true) else (2 * top - t, false)

/-- Steps of 312.5 ps that are left until the next valley. -/
def State.toValley (s : State) (t : Nat) : Nat :=
  let top := 4 * s.pwmPeriod
  if s.flag RAKE_TICK.PWM_TICKS && s.flag RAKE_STAT.EXTREME then top - t else 2 * top - t

/-- Steps since the last change of the zero vector of a duty of 0.5 (R290). -/
def State.sinceChange (s : State) (t : Nat) : Nat :=
  let p := s.pwmPeriod
  match s.counterAt t with
  | (n, true) => if 2 * p ≤ n then n - 2 * p else 2 * p + n
  | (n, false) => if 2 * p ≤ n then 6 * p - n else 2 * p - n

/-- The ideal state of a gate under a compare value: the high side is on while the counter is at least C, the low side otherwise
(R280). A duty of 0 turns the high side on for no time. -/
def idealOn (high : Bool) (c top counter : Nat) : Bool := (decide (c ≤ counter) && decide (c < top)) == high

/-- Smallest compare value under the duty cap (R316). -/
def State.capCompare (s : State) (m : Nat) : Nat :=
  let p := s.pwmPeriod
  let off := 1000 - s.rd (GDM_MON.DUTY_REFRESH_MAX m)
  if off * p < 1000 * s.rd (FIELD_DTC.MINP m) then 4 * s.rd (FIELD_DTC.MINP m)
  else (roundDiv (off * 4 * p : Nat) 1000).toNat

/-- Compare value of a winding short: the duty 0.5, or the zero vector that R339 leaves (R290); the duty cap of the last PWM reload comes
last (R316). -/
def State.shortCompare (s : State) (m : Nat) (low high : Bool) : Nat :=
  let c := if low then (if high then 2 * s.pwmPeriod else 4 * s.pwmPeriod) else 0
  if (s.chan m).capLive then max (s.capCompare m) c else c

/-- What the drive of a motor asks of gate `g`, `t` steps of 312.5 ps after the tick boundary (R280, R290, R292). -/
def State.asked (s : State) (g t : Nat) : Bool :=
  let m := gateMotor g
  let c := s.chan m
  let top := 4 * s.pwmPeriod
  let n := (s.counterAt t).1
  match s.drive c m with
  | .off => false
  | .modulate => idealOn (isHigh g) (c.cmpLive.getD (g % 6 / 2) (2 * s.pwmPeriod)) top n
  | .short low high =>
    idealOn (isHigh g) (s.shortCompare m low high) top n
      && (!c.shortOff || s.ovShort m || decide (32 * s.rd (FIELD_BRK.BRK_OFF m) ≤ s.sinceChange t))
  | .pulse k => pulseLeg k (g % 6 / 2) == some (isHigh g) && decide (s.toValley t ≤ 640 * s.rd (FIELD_PULSE.PULSE_T m))

/-- FORCE asks for gate `g`; the fast-path gate-off of a reaction and a series-switch test hold it off (R96, R330). -/
def State.forceAsks (s : State) (g : Nat) : Bool :=
  s.forced g && !s.motorSafe (gateMotor g) && !s.ovShort (gateMotor g) && !s.fxOff && !s.testHolds

/-- The phase of a gate is off by PHASE_OFF, and no stronger reaction or overvoltage short governs its motor (R336, R337,
R343). -/
def State.heldOff (s : State) (g : Nat) : Bool :=
  s.phaseOff (gatePhase g) && !s.motorSafe (gateMotor g) && !s.ovShort (gateMotor g)

/-- A turn-on of gate `g` may happen at time `t`: the motor's drive or FORCE asks for it, PHASE_OFF does not hold the phase off, its
command is not refused, an undervoltage bootstrap does not block it, and its complement is not on by a command of its own (R27, R284, R308,
R312, R315, R336). -/
def State.mayTurnOn (s : State) (g t : Nat) : Bool :=
  (s.asked g t || s.forceAsks g) && !s.heldOff g && !s.gd.refused.contains g && !s.gd.blocked.contains g
    && !((s.forced (twinGate g) || s.asked (twinGate g) t) && s.gateOn (twinGate g))

/-- A write of FORCE or TEST_MODE acts within 4 CEC (R96): a gate that neither FORCE nor its drive commands any more turns off, and a
refusal of it ends with its command (R312). -/
def State.forceFollows (s : State) : State :=
  let free := (List.range 18).filter fun g => !s.forced g && s.drive (s.chan (gateMotor g)) (gateMotor g) == .off
  let s := s.gatesOff (free.filter s.gateOn)
  { s with gd := { s.gd with refused := s.gd.refused.filter (!free.contains ·) } }

/-- The handshake of R308 is switched off for a bank: BENCH_MODE with HS_DIS (R311). -/
def State.handshakeOff (s : State) (m : Nat) : Bool := s.flag SYS_CTRL.BENCH_MODE && s.bit GD_BENCH.HS_DIS m

/-- PWM_EDGE (R280, R308, R310, R311): the ideal edge toward gate `g`, `t` steps of 312.5 ps after the tick boundary. The outgoing
switch, where its ideal state has ended, turns off with its own drive code, and GON shows what its gate is sensed at (R334); the incoming one turns on once its complement is sensed off (`sensed`, in ns after the
edge, none while it is not) and DT has elapsed, or waits for the handshake timeout. The refusal of R312 ends for the outgoing
switch, whose command falls. -/
def pwmEdge (g t : Nat) (sensed : Option Nat) (s : State) : State :=
  let m := gateMotor g
  let out := twinGate g
  let s := s.advanceTo (t / 8)
  let kept := s.forced out || s.asked out t
  let s := if kept then s else s.setGate out sensed.isNone
  let s := { s with gd := { s.gd with withheld := s.gd.withheld.filter (· != g),
                                      refused := s.gd.refused.filter (fun x => x != out || s.forced out),
                                      edgeCode := place (place s.gd.edgeCode out (s.slewOf out)) g (s.slewOf g) } }
  if (kept && s.gateOn out) || !s.mayTurnOn g t then s
  else if s.handshakeOff m then s.setGate g true
  else match sensed with
    | some ns =>
      if ns ≤ 100 * s.rd (GDM_DEAD.HS_TMO m) then
        let s := if 5 * s.rd (GDM_DEAD.DT m) < 2 * ns then s.count (GDM_CNT.HS_LATE_CNT m) else s
        s.setGate g true
      else { s with gd := { s.gd with waitingOn := s.gd.waitingOn ++ [g] } }
    | none => { s with gd := { s.gd with waitingOn := s.gd.waitingOn ++ [g] } }

/-! ### Monitors of the switches -/

/-- GD_HS (R310): the waiting turn-on is withheld until the next ideal edge, and the report goes to the FC. -/
def gdHs (g : Nat) (s : State) : State :=
  let s := s.setGate g false
  let s := { s with gd := { s.gd with waitingOn := s.gd.waitingOn.filter (· != g), withheld := s.gd.withheld ++ [g] } }
  (s.setBit (GDM_EVT.HS (g / 6)) (g % 6) true).report srcGdHs g

/-- GD_XCMD (R312): of a leg with both switches commanded on, the switch that is on stays on and the other command is
refused; with neither on, both are refused. While a command of the leg is refused, its conflict has been reported. -/
def gdXcmd (p : Nat) (s : State) : State :=
  if (phaseGates p).any s.gd.refused.contains then s
  else
  let m := p / 3
  let off := (phaseGates p).filter fun g => !s.gateOn g
  let s := { s with gd := { s.gd with refused := s.gd.refused ++ off,
                                      waitingOn := s.gd.waitingOn.filter (!off.contains ·) } }
  ((s.setBit (GDM_EVT.XCMD m) (p % 3) true).count (GDM_CNT.XCMD_CNT m)).report srcGdXcmd p

/-- A gate that the reaction has turned off stops its monitor (R313). -/
def State.vdsFollowsGate (s : State) (g : Nat) : State :=
  if s.gateOn g then s else (s.setBit (GDM_STAT.VDS_LIVE (g / 6)) (g % 6) false).lower srcGdVds g

/-- GD_VDS (R313): the monitor of gate `g` sees VDS above VDS_TH beyond blanking and filter, or no longer. It evaluates only
while its gate is on. -/
def gdVds (g : Nat) (above : Bool) (s : State) : State :=
  if above then
    if s.gateOn g then
      let s := (s.setBit (GDM_EVT.VDS (g / 6)) (g % 6) true).setBit (GDM_STAT.VDS_LIVE (g / 6)) (g % 6) true
      (s.count (GDM_CNT.VDS_CNT (g / 6))).raise srcGdVds g |>.vdsFollowsGate g
    else s
  else (s.setBit (GDM_STAT.VDS_LIVE (g / 6)) (g % 6) false).lower srcGdVds g

/-- GD_BSUV (R307, R315): the bootstrap of high side `g` falls below its threshold: the FC turns the high side off, as under a fault
reaction (R305), and it stays blocked while the undervoltage lasts. -/
def gdBsuv (g : Nat) (low : Bool) (s : State) : State :=
  let m := g / 6
  let x := g % 6 / 2
  if low then
    let s := (s.setBit (GDM_EVT.BSUV m) x true).setBit (GDM_STAT.BSUV_LIVE m) x true
    let s := s.faultOff [g]
    let s := { s with gd := { s.gd with blocked := if s.gd.blocked.contains g then s.gd.blocked else s.gd.blocked ++ [g],
                                        bsuvStage := place s.gd.bsuvStage g 0 } }
    s.raise srcGdBsuv g
  else
    let s := (s.setBit (GDM_STAT.BSUV_LIVE m) x false).lower srcGdBsuv g
    State.fcRefresh { s with gd := { s.gd with blocked := s.gd.blocked.filter (· != g), bsuvStage := erase s.gd.bsuvStage g } }

/-- The undervoltages still present at this tick boundary count one more boundary (R315). -/
def State.bsuvBoundary (s : State) : State :=
  { s with gd := { s.gd with bsuvStage := s.gd.bsuvStage.map fun p =>
      if s.gd.blocked.contains p.1 then (p.1, p.2 + 1) else p } }

/-- BSUV_STAGE (R315): an undervoltage present at two boundaries takes its phase off and its motor to the safe state. -/
def bsuvStage (s : State) : State :=
  (s.gd.bsuvStage.filter fun p => 2 ≤ p.2 && s.gd.blocked.contains p.1).foldl
    (fun s p => (s.activate (s.reaction srcGdBsuv p.1 3)).activate (s.reaction srcGdBsuv p.1 4)) s

/-- GD_CP (R307): the charge pump falls below range, or is back. -/
def gdCp (low : Bool) (s : State) : State :=
  if low then ((s.setFlag GD_EVT.CP true).setFlag GD_STAT.CP_OK false).raise srcGdCp 0
  else (s.setFlag GD_STAT.CP_OK true).lower srcGdCp 0

/-! ### Cut-offs -/

/-- GD_CUT (R317): the sensed cut-off gate of phase `p` does not follow its command within 50 µs, or follows again. -/
def gdCut (p : Nat) (bad : Bool) (s : State) : State :=
  if bad then
    let s := s.senseCut p (!(s.cut p).closed)
    (s.setBit (GDM_EVT.CUT (p / 3)) (p % 3) true).raise srcGdCut p
  else (s.senseCut p (s.cut p).closed).lower srcGdCut p

/-- CUTOFF_FORCED_OPEN (R318): after CUT_DLY ticks a waiting cut-off opens regardless. -/
def cutoffForcedOpen (p : Nat) (s : State) : State :=
  match (s.cut p).waiting with
  | some n =>
    if max 1 (s.rd (GDM_CUT.CUT_DLY (p / 3))) ≤ n then
      ((s.setCut p ⟨false, none⟩).senseCut p false).setBit (GDM_EVT.CUT_FORCED (p / 3)) (p % 3) true
    else s
  | none => s

/-- Waiting cut-offs at a tick boundary: open below CUT_ILIM, else wait one more tick (R318). -/
def State.cutBoundary (s : State) : State :=
  (List.range 9).foldl (fun s p =>
    match (s.cut p).waiting with
    | some n =>
      if s.cutBelow p then (s.setCut p ⟨false, none⟩).senseCut p false else s.setCut p ⟨true, some (n + 1)⟩
    | none => s) s

/-! ### Chopper -/

/-- CHOPPER_ON (R319): VBR is at OV_CHOP or above. With CHOP_EN = 0 or in the forced off time the chopper stays off; a
running test is aborted (R330). -/
def chopperOn (s : State) : State :=
  (({ s with gd := { s.gd with busHigh := true } }).abortTest).chopFollow

/-- CHOPPER_OFF (R319): VBR is below OV_CHOP − CHOP_HYST. A running series-switch test keeps commanding the chopper. -/
def chopperOff (s : State) : State :=
  let s := { s with gd := { s.gd with busHigh := false } }
  if (s.gd.test.map (·.aborted)).getD true then s.chopFollow else s

/-- GD_CHOT (R319): on without interruption for CHOP_TMAX ms; off for four times that. -/
def gdChot (s : State) : State :=
  let tmax := max 1 (s.rd GD_CHOP.CHOP_TMAX) * cecPerMs
  if s.flag GD_STAT.CHOP_ON ∧ s.gd.test.isNone ∧ tmax ≤ s.now - s.gd.chopOnAt then
    let s := s.chopOff
    let s := { s with gd := { s.gd with chopRestUntil := some (s.now + 4 * tmax) } }
    ((s.setFlag GD_EVT.CHOT true).count GD_CNT.CHOT_CNT).raise srcGdChot 0
  else s

/-- CHOPPER_REST_END (R319): the chopper follows OV_CHOP again. -/
def chopperRestEnd (s : State) : State :=
  match s.gd.chopRestUntil with
  | some t =>
    if t ≤ s.now then
      let s := ({ s with gd := { s.gd with chopRestUntil := none } }).lower srcGdChot 0
      if s.gd.test.isNone then s.chopFollow else s
    else s
  | none => s

/-- GD_CHO (R320): no chopper current 2 µs after a turn-on, reported once for it; not evaluated while a test runs (R330). -/
def gdCho (s : State) : State :=
  if s.flag GD_STAT.CHOP_ON ∧ s.gd.test = none ∧ !s.gd.choSeen then
    let s : State := { s with gd := { s.gd with choSeen := true } }
    ((s.setFlag GD_EVT.CHO true).count GD_CNT.CHO_CNT).setFlag GD_STAT.CHOP_I false |>.report srcGdCho 0
  else s

/-- GD_CHS (R320, R332): chopper current while off opens the high-side series switch; not evaluated while a test runs. -/
def gdChs (current : Bool) (s : State) : State :=
  if current then
    if !s.flag GD_STAT.CHOP_ON ∧ s.gd.test = none then
      ((s.setFlag GD_EVT.CHS true).setFlag GD_STAT.CHOP_I true).openHs.raise srcGdChs 0
    else s.setFlag GD_STAT.CHOP_I true
  else (s.setFlag GD_STAT.CHOP_I false).lower srcGdChs 0

/-! ### Overvoltage -/

/-- The CH18 result of a tick against OV_LIM and OV_SHORT, both compared in 25 mV of its 80.0 V full scale: the code C of
R133 stands for C × 80 / 8,192 V (R321, R324). -/
def State.busResult (s : State) (c : Int) : State :=
  let atLevel (t : Nat) : Bool := decide ((t : Int) * 8192 ≤ c * 3200)
  let short := atLevel (s.rd GD_OV1.OV_SHORT)
  let lim := atLevel (s.rd GD_OV0.OV_LIM)
  let s := s.setFlag GD_STAT.OV_LIM_ACT lim
  { s with gd := { s.gd with ovsRun := if short then s.gd.ovsRun + 1 else 0,
                             ovRelRun := if lim then 0 else s.gd.ovRelRun + 1 } }

/-- GD_OVS (R324): the OV_SHORT_N-th consecutive CH18 result at OV_SHORT. The winding short runs from the next boundary. -/
def gdOvs (s : State) : State :=
  if max 1 (s.rd GD_OV2.OV_SHORT_N) ≤ s.gd.ovsRun ∧ !s.flag GD_STAT.OVS_ACT then
    let s := ((s.setFlag GD_EVT.OVS true).setFlag GD_STAT.OVS_ACT true).count GD_CNT.OVS_CNT
    ({ s with gd := { s.gd with ovsDue := true } }).raise srcGdOvs 0
  else s

/-- A reaction of the source is in effect, waits for its boundary, or is deferred to the host. -/
def State.reactionHeld (s : State) (src : Nat) : Bool :=
  s.fc.active.any (·.src == src) || s.fc.waiting.any (·.src == src) || (s.flag FC_HREQ.PEND && s.rd FC_HREQ.SRC == src)

/-- GD_OVS_RELEASE (R324): OV_REL consecutive results below OV_LIM. -/
def gdOvsRelease (s : State) : State :=
  if s.flag GD_STAT.OVS_ACT ∧ max 1 (s.rd GD_OV2.OV_REL) ≤ s.gd.ovRelRun then
    let s := (s.setFlag GD_STAT.OVS_ACT false).lower srcGdOvs 0
    let held := s.reactionHeld srcGdOvs
    { s with gd := { s.gd with ovsDue := s.gd.ovsDue && held, ovsHeld := s.gd.ovsHeld && held } }
  else s

/-- The short of GD_OVS begins at the tick boundary after it (R324). -/
def State.ovsBoundary (s : State) : State :=
  { s with gd := { s.gd with ovsHeld := s.gd.ovsHeld || s.gd.ovsDue, ovsDue := false } }

/-- GD_OVABS (R325): VBR at OV_ABS opens the high-side series switch and shorts every motor of R326. A source that is active stays so until
VBR falls below OV_LIM. -/
def gdOvabs (s : State) : State :=
  if s.flag GD_STAT.OVABS_ACT then s
  else
  let s := ((s.setFlag GD_EVT.OVABS true).setFlag GD_STAT.OVABS_ACT true).count GD_CNT.OVABS_CNT
  let s := ({ s with gd := { s.gd with ovabsHeld := true } }).openHs.abortTest
  s.raise srcGdOvabs 0

/-- GD_OVABS_RELEASE (R325): VBR below OV_LIM. -/
def gdOvabsRelease (s : State) : State :=
  let s := (s.setFlag GD_STAT.OVABS_ACT false).lower srcGdOvabs 0
  { s with gd := { s.gd with ovabsHeld := s.gd.ovabsHeld && s.reactionHeld srcGdOvabs } }

/-! ### Series switches -/

/-- GD_SLVDS (R329, R334): VDS of a series switch is above SL_VDS_ON for 1 µs, or below it; `hs` names the high-side switch. Only
a switch commanded closed is reported. -/
def gdSlvds (hs above : Bool) (s : State) : State :=
  let cmd := if hs then s.flag GD_SLUICE.HS_CMD else s.flag GD_SLUICE.LS_CMD
  let s := s.setFlag (if hs then GD_SLUICE.HS_ON else GD_SLUICE.LS_ON) (!above)
  if cmd && above then (s.setFlag GD_EVT.SLVDS true).raise srcGdSlvds 0 else s.slvdsWatch

/-- The first failing step of a test with its code (R330). -/
def sluiceFail (x : SluiceMeas) : Option (Nat × Nat) :=
  if !(x.hsOff && x.lsOff) then some (5, 1)
  else if x.cur2 then some (1, 2)
  else if !x.cur3 then some (2, 3)
  else if !x.dv4 then some (3, 4)
  else if !x.dv5 then some (4, 5)
  else none

/-- Result code and last step of a test (R330). -/
def sluiceResult (aborted : Bool) (x : SluiceMeas) : Nat × Nat :=
  if aborted then (6, min 5 x.stop) else (sluiceFail x).getD (0, 5)

/-- The test goes on: the command ends in a step before any that fails, and no abort is due. -/
def sluiceGoesOn (aborted : Bool) (x : SluiceMeas) : Bool :=
  !aborted && decide (x.stop ≤ 5) && ((sluiceFail x).map fun f => decide (x.stop ≤ f.2)).getD true

/-- The VDS senses as a test leaves them. -/
def State.senseSluice (s : State) (x : SluiceMeas) : State :=
  (s.setFlag GD_SLUICE.HS_ON x.hsOn).setFlag GD_SLUICE.LS_ON x.lsOn

/-- SLUICE_TEST_END (R330, R381): the test runs on to the step the command names, or to its end with the result: the switches are
closed after a passed test of an arming and open otherwise, and the chopper follows R319 again. -/
def sluiceTestEnd (x : SluiceMeas) (s : State) : State :=
  match s.gd.test with
  | none => s
  | some t =>
    if sluiceGoesOn t.aborted x then (s.testStep (max t.step x.stop)).senseSluice x
    else
      let (res, step) := sluiceResult t.aborted x
      let s := ((s.wr GD_SLTEST.RESULT res).wr GD_SLTEST.STEP step).wr SAFE_SLT.RESULT res
      let s := ((s.setFlag SAFE_SLT.RUN false).senseSluice x).openSluice
      let s := State.chopFollow { s with gd := { s.gd with test := none } }
      if t.arming ∧ s.pwr.trans = .armTesting then
        let s := if res = 0 then s.closeSluice else s
        { s with pwr := { s.pwr with trans := .armJudge (res == 0) } }
      else s

/-- SLUICE_TEST_RUN: a write of 1 to SAFE_SLT.RUN, in STANDBY only (R381). -/
def sluiceTestRun (s : State) : State :=
  if s.half = .standby ∧ s.gd.test = none then (s.setFlag SAFE_SLT.RUN true).startSluiceTest 2
  else s.ignored 0x2434

end Sys2Proof.Machine
end

