-- ==== Sys2Proof/Machine/Modulation.lean ====
section
/-! DEFINITION. Modulation of the field and PWM unit: voltage limit, space vectors, dead-time compensation, minimum pulse and
compare values (R278 to R282, R316). Every step is an integer of Q1.31 scale, rounded to nearest even. -/

namespace Sys2Proof.Machine

/-- 1.0 in the scale of the unit. -/
def oneQ : Int := 2147483648

/-- x / √3, rounded to nearest (R278). -/
def overSqrt3 (x : Int) : Int :=
  let n := (isqrt (4 * x.natAbs * x.natAbs / 3) + 1) / 2
  if x < 0 then -(n : Int) else n

/-- One step of a rotation: the vector (x, y) turns toward the x axis by the arc whose tangent is 2⁻ⁱ, and the angle turned so far
grows by that arc. -/
def turnStep (i arc : Nat) (v : Int × Int × Int) : Int × Int × Int :=
  let (x, y, z) := v
  if 0 ≤ y then (x + y / 2 ^ i, y - x / 2 ^ i, z + arc) else (x - y / 2 ^ i, y + x / 2 ^ i, z - arc)

/-- The arcs whose tangents are 1, 1/2, 1/4 and so on, in 2⁻⁴⁸ turn. -/
def arcTable : List Nat := 
  [35184372088832, 20770547670515, 10974586953444, 5570871696862, 2796246208089, 1399486241028, 699913886760,
  349978300884, 174991820497, 87496244017, 43748163730, 21874087080, 10937044192, 5468522177, 2734261099, 1367130551,
  683565276, 341782638, 170891319, 85445659, 42722830, 21361415, 10680707, 5340354, 2670177, 1335088, 667544, 333772,
  166886, 83443, 41722, 20861, 10430, 5215, 2608, 1304, 652, 326, 163, 81]

/-- The angle of a vector, in 2⁻³² turn, to the nearest but for the last bit. -/
def exactAngle (x y : Int) : Int :=
  let s : Int := 2 ^ 48
  let v : Int × Int × Int := if 0 ≤ x then (x * s, y * s, 0) else (-x * s, -y * s, 2 ^ 47)
  let r := arcTable.zipIdx.foldl (fun v a => turnStep a.2 a.1 v) v
  if x = 0 ∧ y = 0 then 0 else roundDiv r.2.2 65536

/-- The angle of a vector as the unit forms it (R286), 2³² per turn: R286 defines the angle and gives no precision, so the unit's
may lie up to 2⁻¹⁶ turn from it (DESIGN CHOICE for that bound). A vector of length zero has any angle. -/
def vectorAngle (x y : Int) : Nat :=
  if x = 0 ∧ y = 0 then Config.vectorAngleError x y % 2 ^ 32
  else fieldOf 32 (exactAngle x y + (Config.vectorAngleError x y % 131073 : Nat) - 65536)

/-- Sine as the unit forms it, Q1.31 (R294): the sine of R246, from which the unit's may differ by up to 2⁻¹⁵ (DESIGN CHOICE for that
bound: R294 gives no precision). -/
def unitSin (d : Int) : Int := clampInt (-oneQ) oneQ (sinWord d + (Config.unitSinError d % 131073 : Nat) - 65536)

/-- The vector limited to VLIM, and whether the limit acted (VSAT). -/
def limitVector (vlim va vb : Int) : Int × Int × Bool :=
  let m := isqrtNear (va * va + vb * vb).toNat
  if vlim < m then (roundDiv (va * vlim) m, roundDiv (vb * vlim) m, true) else (va, vb, false)

/-- Phase voltages of a vector, in units of VBUS (R278). -/
def phaseVoltages (va vb : Int) : Int × Int × Int :=
  let a := roundDiv (-va) 3
  let b := overSqrt3 vb
  (roundDiv (2 * va) 3, a + b, a - b)

def max3 (a b c : Int) : Int := max a (max b c)
def min3 (a b c : Int) : Int := min a (min b c)

/-- The duties before dead-time compensation, the span after limiting, and whether the hexagon acted (OVM). -/
def hexDuties (u v w : Int) : (Int × Int × Int) × Int × Bool :=
  let span := max3 u v w - min3 u v w
  let tooBig := oneQ < span
  let cut (x : Int) : Int := if tooBig then roundDiv (x * oneQ) span.toNat else x
  let u := cut u
  let v := cut v
  let w := cut w
  let o := roundDiv (-(max3 u v w + min3 u v w)) 2
  let d (x : Int) : Int := oneQ / 2 + x + o
  ((d u, d v, d w), if tooBig then oneQ else span, tooBig)

/-- The dead-time term of one phase (R282). -/
def State.dtcTerm (s : State) (m : Nat) (i : Int) : Int :=
  let band : Int := (s.rd (FIELD_DTC.DTC_BAND m) : Int) * 65536
  let r : Int :=
    if band ≤ (i.natAbs : Int) ∧ i ≠ 0 then (if i < 0 then -oneQ else oneQ)
    else if band = 0 then clampInt (-oneQ) oneQ Config.dtcZero
    else roundDiv (i * oneQ) band.toNat
  roundDiv (((s.rd (GDM_DEAD.DT m) + s.rd (FIELD_DTC.DTC_EXTRA m) : Nat) : Int) * r) s.pwmPeriod

/-- Clamp of R278 and minimum pulse of R279. -/
def State.shapeDuty (s : State) (m : Nat) (d : Int) : Int :=
  let d := clampInt 0 oneQ d
  let minp : Int := (s.rd (FIELD_DTC.MINP m) : Int) * oneQ
  if d * s.pwmPeriod < minp then 0
  else if (oneQ - d) * s.pwmPeriod < minp then oneQ
  else d

/-- Compare value of a duty (R280). -/
def State.compareOf (s : State) (d : Int) : Nat := (roundDiv ((oneQ - d) * 4 * s.pwmPeriod) 2147483648).toNat

/-- What the unit forms at OUT_PHASE for one motor. -/
structure Modulated where
  cmp : List Nat
  duties : List Int
  span : Int
  ovm : Bool
  vsat : Bool

/-- MODULATION (R278 to R280, R282): compare values from the committed vector and phase currents. -/
def State.modulate (s : State) (m : Nat) (va vb iu iv iw : Int) : Modulated :=
  let (va, vb, vsat) := limitVector ((s.rd (FIELD_LIM1.VLIM m) : Int) * 65536) va vb
  let (u, v, w) := phaseVoltages va vb
  let ((du, dv, dw), span, ovm) := hexDuties u v w
  let dtc (i : Int) : Int := if s.flag (FIELD_CTRL.DTC_EN m) then s.dtcTerm m i else 0
  let ds := [s.shapeDuty m (du + dtc iu), s.shapeDuty m (dv + dtc iv), s.shapeDuty m (dw + dtc iw)]
  ⟨ds.map s.compareOf, ds, span, ovm, vsat⟩

/-- Ten-bit duty of FIELD_Mm_DUTY, rounded like every step of R278. -/
def dutyField (d : Int) : Nat := min 1023 (roundDiv d 2097152).toNat

/-- Byte address of word `i` of the motor record (R273). -/
def State.recAddr (s : State) (m i : Nat) : Nat := s.rd (FIELD_CTRL.XBASE m) * 64 + 4 * i

/-- A record word read as a signed number. -/
def State.recInt (s : State) (m i : Nat) : Int := (s.xWord (s.recAddr m i)).toInt

/-- The two copies of words 8 to 14 agree (R275). -/
def State.recAgrees (s : State) (m : Nat) : Bool :=
  [8, 9, 10, 11, 12, 13, 14].all fun i => s.xWord (s.recAddr m i) == s.xWord (mirrorOf (s.recAddr m i))

/-- A PULSE step runs, whose peaks FIELD_Mm_DUTY shows (R296). -/
def State.unitPulses (s : State) (m : Nat) : Bool :=
  s.rd (FIELD_STAT.STATE m) == 7 && ((s.chan m).step.map (·.kind)) == some 3

/-- The unit's part of an OUT_PHASE that commits, for one motor (R275, R278, R299): a record whose copies differ keeps the
previous compare values and raises FIELD_XREC. -/
def State.commitMotor (s : State) (m : Nat) : State :=
  if !s.recAgrees m then (s.setFlag (FIELD_STAT.XREC m) true).report srcFieldXrec m
  else
    let x := s.modulate m (s.recInt m 8) (s.recInt m 9) (s.recInt m 10) (s.recInt m 11) (s.recInt m 12)
    let c := s.chan m
    let s := s.setChan m { c with vAlpha := s.recInt m 8, vBeta := s.recInt m 9, cmpNext := x.cmp, iqCmd := s.recInt m 13,
                                  ovm := x.ovm, vsat := x.vsat, span := (min x.span (oneQ - 1)).toNat }
    let s := if x.ovm then s.setFlag (FIELD_STAT.OVM m) true else s
    let s := if x.vsat then s.setFlag (FIELD_STAT.VSAT m) true else s
    let s := if s.unitPulses m then s
      else ((s.wr (FIELD_DUTY.DU m) (dutyField (x.duties.getD 0 0))).wr (FIELD_DUTY.DV m) (dutyField (x.duties.getD 1 0))).wr
        (FIELD_DUTY.DW m) (dutyField (x.duties.getD 2 0))
    s.setXPair (s.recAddr m 15) (satQ31 x.span)

/-! ### Torque shares -/

/-- 1.0 as a share. -/
def oneShare : Nat := 2147483648

/-- SPLIT_NOM as a share (0x8000 = 1.0). -/
def State.splitNom (s : State) (m : Nat) : Nat := s.rd (FIELD_SHARE.SPLIT_NOM m) * 65536

/-- The source of a motor's share: an unshared motor uses the fixed one (R37, R298). -/
def State.shareSrc (s : State) (m : Nat) : Nat := if s.img.shared.contains m then s.rd (FIELD_SHARE.SRC m) else 0

/-- Where a handover's ramp takes half A's split (R494): 0 when half A leaves, 1 when half B leaves. -/
def State.rampTarget (s : State) : Int := if s.rd MGMT_HO.HSTATE = 5 then oneQ else 0

/-- Half A's split of the tick, committed at OUT_PHASE in DUAL (R299, R300): the request or the nominal split, clamped and
changed by at most SPLIT_RATE; the first after a start of the Rake moves from SPLIT_NOM, the first after a return to DUAL
equals the share of the last tick before. -/
def State.commitSplit (s : State) (m : Nat) : State :=
  if s.halfId = .a ∧ s.shareSrc m = 1 ∧ s.copy = 0 then
    let c := s.chan m
    match c.splitStart with
    | some v => s.setChan m { c with splitLast := v, splitKnown := true, splitStart := none }
    | none =>
      let last : Int := if c.splitKnown then c.splitLast else s.splitNom m
      let want : Int := if s.ho.ramp ∧ s.ho.mask.testBit m then s.rampTarget
        else if s.flag (FIELD_SHARE.REQ_EN m) then s.recInt m 14 else s.splitNom m
      let rate : Int := (s.rd (FIELD_SHARE2.SPLIT_RATE m) : Int) * 65536
      let next := clampInt (last - rate) (last + rate) (clampInt 0 oneQ want)
      s.setChan m { c with splitLast := next.toNat, splitKnown := true }
  else s

/-- Half A's split as a half knows it: the share it starts from after a SINGLE (R300), else the last one committed or received, and
SPLIT_NOM before the first (R299). -/
def State.splitNow (s : State) (m : Nat) (c : Chan) : Nat :=
  c.splitStart.getD (if c.splitKnown then c.splitLast else s.splitNom m)

/-- SHARE of the tick that begins (R298 to R301), before a limp-end action. -/
def State.shareOf (s : State) (m : Nat) (c : Chan) : Nat :=
  let src := s.shareSrc m
  if s.img.shared.contains m ∧ s.inOwnSingle ∧ s.part = .hx962d ∧ (src = 0 ∨ src = 1) then oneShare
  else if src = 1 then
    if s.copy = 0 then
      match s.halfId with
      | .a => s.splitNow m c
      | .b => oneShare - s.splitNow m c
    else c.share
  else if src = 2 then c.fabShare
  else s.splitNom m

/-- The share of a motor at a tick boundary (R298 to R301, R371); a SINGLE notes where the split starts after it (R300). -/
def State.shareBoundary (s : State) (m : Nat) : State :=
  let c := s.chan m
  let c := { c with share := s.shareOf m c }
  let c := if s.copy = 2 then { c with splitStart := some oneShare } else if s.copy = 3 then { c with splitStart := some 0 } else c
  s.setChan m c

/-! ### Limit record -/

/-- FSTATE word of the record (R273). -/
def State.fstate (s : State) (m : Nat) (c : Chan) : Nat :=
  let st := s.rd (FIELD_STAT.STATE m)
  let start := (st = 4 ∧ 8 ≤ c.pulseIdx) ∨ st = 5 ∨ st = 6 ∨ st = 7
  st + (if c.sync then 16 else 0) + (if start then 32 else 0) + (if c.ovm then 64 else 0) + (if c.vsat then 128 else 0)
    + (if s.flag RAKE_STAT.EXTREME then 256 else 0)

/-- LIMIT_RECORD (R274): words 0 to 7 of the motor record, by TSTART − 4. -/
def State.limitRecord (s : State) (m : Nat) : State :=
  let c := s.chan m
  let put (s : State) (i : Nat) (v : Int) : State := s.setXPair (s.recAddr m i) (satQ31 v)
  let s := put s 0 ((s.rd (FIELD_LIM0.IQ_MAX m) : Int) * 4096 * s.derate16 m)
  let s := put s 1 (s.rdInt (FIELD_LIM0.ID_MIN m) * 65536)
  let s := put s 2 ((s.rd (FIELD_LIM1.VLIM m) : Int) * 65536)
  let s := put s 3 ((s.rd (FIELD_LIM1.SPD_MAX m) : Int) * 65536)
  let s := put s 4 (s.limpShare m c.share)
  let s := put s 5 (signedOf 32 (c.angCmd % 2 ^ 32))
  let s := put s 6 (s.fstate m c)
  put s 7 c.irefCmd

/-! ### PWM reload -/

/-- Compare values the PWM of a motor runs with from this boundary (R281, R290, R316, R339): the committed ones, or those of a
winding short; the duty cap comes last. -/
def State.reload (s : State) (m : Nat) : State :=
  let s := s.setChan m { s.chan m with capLive := s.dutyCapped m }
  let c := s.chan m
  let cmp := match s.drive c m with
    | .short low high => List.replicate 3 (s.shortCompare m low high)
    | _ => if c.capLive then c.cmpNext.map (max (s.capCompare m)) else c.cmpNext
  s.setChan m { c with cmpLive := cmp }

end Sys2Proof.Machine
end

