-- ==== Sys2Proof/Machine/Field.lean ====
section
/-! DEFINITION. Sequencer of the motor channels (R283 to R302): channel states at a tick boundary, catch, braking, start
methods, host steps and the locked-rotor watch. -/

namespace Sys2Proof.Machine

/-- Channel states of R283. -/
def chIdle := 0
def chCatch := 1
def chRefuse := 2
def chBrake := 3
def chPulse := 4
def chAlign := 5
def chRamp := 6
def chHstep := 7
def chPause := 8
def chRun := 9
def chSafe := 10

/-- The state of a motor channel. -/
def State.chState (s : State) (m : Nat) : Nat := s.rd (FIELD_STAT.STATE m)

/-- Enter a channel state. -/
def State.setCh (s : State) (m st : Nat) : State := s.wr (FIELD_STAT.STATE m) st

/-- What POS holds of a motor. -/
def State.pos (s : State) (m : Nat) : PosM := lookup s.posM PosM.init m
def State.setPos (s : State) (m : Nat) (p : PosM) : State := { s with posM := store s.posM PosM.init m p }

/-- A motor is sensored when POS_Mm_SRC.SENS is not 0 (R283). -/
def State.sensored (s : State) (m : Nat) : Bool := s.rd (POS_SRC.SENS m) != 0

/-- Bus voltage word: CH18. -/
def State.vbus (s : State) : Int := s.chanWord 18

/-- Back-EMF vector of the phase-voltage samples (R286). -/
def State.emf (s : State) (m : Nat) : Int × Int :=
  let u := s.chanWord (9 + 3 * m)
  let v := s.chanWord (10 + 3 * m)
  let w := s.chanWord (11 + 3 * m)
  (roundDiv (2 * u - v - w) 3, overSqrt3 (v - w))

/-- Back-EMF amplitude |e| (R286). -/
def State.emfAmp (s : State) (m : Nat) : Int :=
  let e := s.emf m
  isqrtNear (e.1 * e.1 + e.2 * e.2).toNat

/-- The line-to-line peak √3 × |e| exceeds the bus (R287), or is below 0.9 of it (R288). -/
def State.peakAboveBus (s : State) (m : Nat) : Bool :=
  decide (0 ≤ s.vbus) && decide (s.vbus * s.vbus < 3 * s.emfAmp m * s.emfAmp m)
def State.peakLow (s : State) (m : Nat) : Bool := decide (300 * s.emfAmp m * s.emfAmp m < 81 * s.vbus * s.vbus)

/-- An amplitude below 2 % of VBUS counts as standstill (R286). -/
def State.standstill (s : State) (m : Nat) : Bool := decide (50 * s.emfAmp m < s.vbus)

/-- Catch speed ω in 2⁻³² turn per tick (R286). -/
def State.catchSpeed (s : State) (m : Nat) : Int :=
  if s.sensored m then (s.pos m).omega
  else if s.standstill m then 0
  else if (s.chan m).catchN = 0 then 0
  else roundDiv (s.chan m).catchSum (s.chan m).catchN

/-- Rotor angle at the last sample (R286): the voted angle, or the angle of e less 90° in the direction of ω. -/
def State.catchAngle (s : State) (m : Nat) (omega : Int) : Int :=
  if s.sensored m then s.rd (POS_ANG.ANG m)
  else
    let a : Int := vectorAngle (s.emf m).1 (s.emf m).2
    if omega < 0 then a + 2 ^ 30 else if 0 < omega then a - 2 ^ 30 else a

/-- The speed format of POS word 1 (R158). -/
def State.speedWord (s : State) (m : Nat) (omega : Int) : Int := satSym (omega * 2 ^ s.rd (POS_SPD.SPD_SCALE m))

/-! ### Context preloads -/

/-- X byte address of a context's state word j (R173). -/
def State.ctxAddr (s : State) (n j : Nat) : Nat := s.rd CE_XMAP.CXBASE * 2048 + 16 * n + 4 * j

/-- Preload a context: only a CLOSED one is written (R289, R294, R302). -/
def State.preload (s : State) (n : Nat) (v : Int) : State :=
  if s.rd (CTX_W0.STATE n) = 0 then
    let w := satQ31 (satSym v)
    (s.setXPair (s.ctxAddr n 0) w).setFlag (CTX_W2.PRE n) true
  else s

/-! ### Entering states -/

/-- Cut-offs follow the channel state (R284, R318, R338, R354): open in IDLE unless CUT_IDLE, as the safe state in SAFE, and closed
in every other state; a phase that a reaction has off stays open. -/
def State.channelCuts (s : State) (m : Nat) : State :=
  let st := s.chState m
  if !s.motorUsed m then s
  else if st = chSafe then s.freeCuts m
  else (motorPhases m).foldl (fun s p =>
    if s.phaseOff p then s
    else if st = chIdle ∧ !s.flag (FIELD_CTRL.CUT_IDLE m) then s.openCut p
    else if s.cutClosed p then s
    else s.closeCut p) s

/-- Gates that nothing drives any more go off, and those of a unit pulse at the valley that ends it (R292). -/
def State.channelGates (s : State) (m : Nat) : State :=
  let off := s.gatesOff ((motorGates m).filter fun g => !s.forced g)
  match s.drive (s.chan m) m with
  | .off => off
  | .pulse _ => if s.flag RAKE_STAT.EXTREME then s else off
  | _ => s

/-- What follows the channel state within a tick boundary: cut-offs, gates, limit record and PWM (R274, R281, R284). -/
def State.settle (s : State) (m : Nat) : State := (((s.channelCuts m).channelGates m).limitRecord m).reload m

/-- `settle` for every used motor. -/
def State.settleUsed (s : State) : State := s.usedMotors.foldl State.settle s

/-- REACTION_RELEASE with what follows it at its boundary: a motor that leaves SAFE has its gates off, its cut-offs as IDLE asks and its
limit record formed anew, and so has one whose derating ends (R274, R284, R354). -/
def State.releaseBoundary (s : State) : State :=
  let t := reactionRelease s
  if t.fc.active = s.fc.active then t else t.settleUsed

/-- Enter CATCH with a new window. -/
def State.enterCatch (s : State) (m : Nat) : State :=
  (s.setCh m chCatch).setChan m { s.chan m with
    timer := 0, catchAng := none, catchSum := 0, catchN := 0, step := none, startOn := false, goodTicks := 0 }

/-- Enter IDLE. -/
def State.enterIdle (s : State) (m : Nat) : State :=
  (s.setCh m chIdle).setChan m { s.chan m with timer := 0, step := none, startOn := false, goodTicks := 0 }

/-- Enter RUN. -/
def State.enterRun (s : State) (m : Nat) : State :=
  (s.setCh m chRun).setChan m { s.chan m with
    timer := 0, step := none, startOn := false, goodTicks := 0, lockTimer := 0, lockSeen := 0,
    lockComm := (s.pos m).events }

/-- The start begins at standstill: PULSE, ALIGN or HSTEP (R287, R292, R293, R296). -/
def State.enterStart (s : State) (m : Nat) : State :=
  let c := { s.chan m with timer := 0, goodTicks := 0, startTimer := 0, startOn := false, travel := 0,
                           angSeen := s.rd (POS_ANG.ANG m), pulseIdx := 0,
                           pulseTicks := if s.flag RAKE_STAT.EXTREME then 0 else 1, peaks := [], rampSpd := 0,
                           step := none, stepTicks := 0, irefCmd := 0 }
  let a := s.rd (FIELD_ALIGN.ALIGN_ANG m) * 65536
  let ang := if c.dir then fieldOf 32 (-(a : Int)) else a
  if s.bit CE_MODE.START_H m then (s.setCh m chHstep).setChan m c
  else if s.rd (FIELD_CTRL.SMETH m) = 0 then (s.setCh m chPulse).setChan m c
  else (s.setCh m chAlign).setChan m { c with angCmd := ang }

/-- A start fails (R295): RETRY counts, and the channel enters PAUSE; a failure beyond START_RETRY exhausts the retries, and EN must
be written 0 before the next start. -/
def State.failStart (s : State) (m : Nat) : State :=
  let n := s.rd (FIELD_STAT.RETRY m) + 1
  let s := s.wr (FIELD_STAT.RETRY m) (min n 15)
  (s.setCh m chPause).setChan m { s.chan m with
    timer := 0, step := none, startOn := false, goodTicks := 0,
    blockedEn := (s.chan m).blockedEn || decide (s.rd (FIELD_PULSE.START_RETRY m) < n) }

/-! ### Catch -/

/-- RUN with SYNC (R289): the catch angle extrapolated to the sample of the tick that begins, the speed, and the preloads that
balance the back-EMF. The quotient by a bus voltage of 0 is not stated by the spec. -/
def State.enterSync (s : State) (m : Nat) (omega : Int) : State :=
  let ang := fieldOf 32 (s.catchAngle m omega + omega)
  let amp := s.emfAmp m
  let s := s.enterRun m
  let s := s.setChan m { s.chan m with sync := true, angCmd := ang, irefCmd := s.speedWord m omega }
  if s.flag (FIELD_CTX.CTXP_EN m) then
    let (q, s) : Int × State :=
      if s.vbus = 0 then (s.draw.1, s.draw.2) else (roundDiv (amp * 3 * 2 ^ 31) (2 * s.vbus).natAbs, s)
    let q := if omega < 0 then -q else q
    ((s.preload (s.rd (FIELD_CTX.DCTX m)) 0).preload (s.rd (FIELD_CTX.QCTX m)) q).preload (s.rd (FIELD_CTX.SCTX m)) 0
  else s

/-- CATCH_DECISION (R287) at the end of the catch window of motor `m`. -/
def catchDecision (m : Nat) (s : State) : State :=
  let c := s.chan m
  if s.chState m ≠ chCatch ∨ c.timer < s.rd (FIELD_CATCH.CATCH_T m) * 40000 then s
  else
    let w := s.catchSpeed m
    if s.peakAboveBus m then
      let s := ((s.wr (FIELD_STAT.CATCH_RES m) 3).setCh m chRefuse).setFlag (FIELD_STAT.REFUSED m) true
      let s := (s.count (FIELD_CNT.REFUSE_CNT m)).setChan m { c with timer := 0, busHist := [], refuseShort := false }
      (s.report srcFieldRefuse m).settle m
    else if s.standstill m ∨ (w.natAbs : Int) < (s.rd (FIELD_CATCH.CATCH_LOW m) : Int) * 65536 then
      let s := s.wr (FIELD_STAT.CATCH_RES m) 0
      (if s.sensored m then s.enterRun m else s.enterStart m).settle m
    else if (0 < w) = !c.dir then ((s.wr (FIELD_STAT.CATCH_RES m) 1).enterSync m w).settle m
    else (((s.wr (FIELD_STAT.CATCH_RES m) 2).setCh m chBrake).setChan m
      { c with timer := 0, shortOff := false, shortNext := false }).settle m

/-- BRK_SEG in CEC. -/
def State.brkSeg (s : State) (m : Nat) : Nat := max 1 (s.rd (FIELD_BRK.BRK_SEG m)) * 200000

/-- BRAKE_SEGMENT_END (R283): a sensorless segment ends after BRK_SEG. -/
def brakeSegmentEnd (m : Nat) (s : State) : State :=
  if s.chState m = chBrake ∧ !s.sensored m ∧ s.brkSeg m ≤ (s.chan m).timer then (s.enterCatch m).settle m else s

/-- REFUSE_SHORT_END (R288): the short ends after BRK_SEG. -/
def refuseShortEnd (m : Nat) (s : State) : State :=
  let c := s.chan m
  if s.chState m = chRefuse ∧ c.refuseShort ∧ s.brkSeg m ≤ c.timer then
    (s.setChan m { c with refuseShort := false, busHist := [], timer := 0 }).settle m
  else s

/-- ALIGN_END (R293): ALIGN_T elapses and RAMP starts from ALIGN_ANG. -/
def alignEnd (m : Nat) (s : State) : State :=
  let c := s.chan m
  if s.chState m = chAlign ∧ s.rd (FIELD_ALIGN.ALIGN_T m) * cecPerMs ≤ c.timer then
    ((s.setCh m chRamp).setChan m { c with
      timer := 0, rampSpd := 0, startTimer := 0, startOn := true, irefCmd := s.rdInt (FIELD_IREF.RAMP_I m) * 65536,
      goodTicks := 0 }).settle m
  else s

/-- PAUSE_END (R283, R295): CATCH while retries remain, otherwise IDLE with START_FAIL, counted and reported. -/
def pauseEnd (m : Nat) (s : State) : State :=
  if s.chState m = chPause ∧ 50 * cecPerMs ≤ (s.chan m).timer then
    if !(s.chan m).blockedEn then (s.enterCatch m).settle m
    else
      let s := ((s.enterIdle m).setFlag (FIELD_STAT.START_FAIL m) true).count (FIELD_CNT.START_FAIL_CNT m)
      (s.report srcFieldStart m).settle m
  else s

/-! ### Handover, timeout and host steps -/

/-- The start accelerates: RAMP, PULSE after its pulses, or a host start (R292 to R296). -/
def State.starting (s : State) (m : Nat) : Bool :=
  s.chState m == chRamp || (s.chState m == chPulse && 8 ≤ (s.chan m).pulseIdx) || s.chState m == chHstep

/-- Handover to RUN with the preload of the speed context (R294). -/
def State.handover (s : State) (m : Nat) : State :=
  let c := s.chan m
  let d := wrapDiff c.angCmd (s.rd (POS_ANG.ANG m))
  let s := s.enterRun m
  if s.flag (FIELD_CTX.CTXP_EN m) then
    s.preload (s.rd (FIELD_CTX.SCTX m)) (roundDiv (c.irefCmd * unitSin d) 2147483648)
  else s

/-- The 16 ticks of R294 have passed; in HSTEP only a HANDOVER step takes them up (R296). -/
def State.handoverDue (s : State) (m : Nat) : Bool :=
  let c := s.chan m
  s.starting m && 16 ≤ c.goodTicks && (s.chState m != chHstep || (c.step.map (·.kind)) == some 4)

/-- START_HANDOVER (R294). -/
def startHandover (m : Nat) (s : State) : State := if s.handoverDue m then (s.handover m).settle m else s

/-- START_TIMEOUT (R295); a handover that is due at the same boundary wins (R302). -/
def startTimeout (m : Nat) (s : State) : State :=
  let c := s.chan m
  if s.starting m ∧ c.startOn ∧ s.rd (FIELD_HAND.START_TMO m) * 10 * cecPerMs ≤ c.startTimer ∧ !s.handoverDue m then
    (s.failStart m).settle m
  else s

/-- HSTEP_WRITE (R296): a write of FIELD_Mm_HSTEP queues or replaces a step; KIND 0 queues none. -/
def hstepWrite (m kind dur param : Nat) (s : State) : State :=
  let s := ((s.wr (FIELD_HSTEP.KIND m) kind).wr (FIELD_HSTEP.DUR m) dur).wr (FIELD_HSTEP.PARAM m) param
  let k := s.rd (FIELD_HSTEP.KIND m)
  s.setChan m { s.chan m with
    queued := if 1 ≤ k ∧ k ≤ 4 then some ⟨k, s.rd (FIELD_HSTEP.DUR m), s.rd (FIELD_HSTEP.PARAM m)⟩ else none }

/-- Begin the queued step: KIND is cleared by hardware. -/
def State.beginStep (s : State) (m : Nat) (x : HStep) : State :=
  let c := s.chan m
  let s := s.wr (FIELD_HSTEP.KIND m) 0
  let ang := if x.kind = 1 then x.param * 65536 else c.angCmd
  let iref := if x.kind = 1 then s.rdInt (FIELD_IREF.ALIGN_I m) * 65536
    else if x.kind = 2 then s.rdInt (FIELD_IREF.RAMP_I m) * 65536 else c.irefCmd
  s.setChan m { c with step := some x, queued := none, stepTicks := 0, angCmd := ang, irefCmd := iref,
                       travel := if x.kind = 2 then c.travel else 0,
                       startOn := c.startOn || x.kind == 2 }

/-- HSTEP_STEP_END (R296): the step has lasted DUR ticks; a HANDOVER step that ends so has failed. -/
def hstepStepEnd (m : Nat) (s : State) : State :=
  let c := s.chan m
  match c.step with
  | none => s
  | some x =>
    if s.chState m ≠ chHstep ∨ c.stepTicks < max 1 x.dur then s
    else if x.kind = 4 then (if s.handoverDue m then s.handover m else s.failStart m).settle m
    else match c.queued with
      | some y => (s.beginStep m y).settle m
      | none => ((s.setChan m { c with step := none }).setFlag (FIELD_STAT.HSTEP_MISS m) true).settle m

/-! ### Locked rotor -/

/-- FIELD_LOCK (R297): the timer reaches LOCK_T. -/
def fieldLock (m : Nat) (s : State) : State :=
  let c := s.chan m
  if s.chState m = chRun ∧ s.flag (FIELD_CTRL.LOCK_EN m) ∧ c.lockSeen = 0
      ∧ s.rd (FIELD_LOCK.LOCK_T m) * cecPerMs ≤ c.lockTimer then
    let s := ((s.setFlag (FIELD_STAT.LOCK m) true).count (FIELD_CNT.LOCK_CNT m)).setChan m { c with lockSeen := 1 }
    s.raise srcFieldLock m
  else s

/-- FIELD_LOCK_HOLD (R297): the timer reaches 2 × LOCK_T. -/
def fieldLockHold (m : Nat) (s : State) : State :=
  let c := s.chan m
  if s.chState m = chRun ∧ s.flag (FIELD_CTRL.LOCK_EN m) ∧ c.lockSeen ≤ 1
      ∧ 2 * s.rd (FIELD_LOCK.LOCK_T m) * cecPerMs ≤ c.lockTimer then
    (s.setChan m { c with lockSeen := 2 }).raise srcFieldLockHold m
  else s

/-- The locked-rotor timer at the end of a tick of `len` CEC (R297, R302). -/
def State.lockBoundary (s : State) (m len : Nat) : State :=
  let c := s.chan m
  let events := (s.pos m).events
  let runs := s.chState m = chRun ∧ s.flag (FIELD_CTRL.LOCK_EN m) ∧ events = c.lockComm
    ∧ s.rd (FIELD_LOCK.LOCK_IQ m) * 65536 < c.iqCmd.natAbs
  if runs then s.setChan m { c with lockTimer := c.lockTimer + len }
  else
    let s := s.setChan m { c with lockTimer := 0, lockComm := events, lockSeen := 0 }
    if c.lockSeen = 0 then s else (s.lower srcFieldLock m).lower srcFieldLockHold m

/-! ### The tick boundary of a channel -/

/-- The sequence of the AFE converts channel `n` (R129). -/
def State.inSequence (s : State) (n : Nat) : Bool :=
  [0, 1, 2, 3].any fun c =>
    let k := match c with
      | 0 => s.rd AFE_NSLOT.NSLOT0 | 1 => s.rd AFE_NSLOT.NSLOT1 | 2 => s.rd AFE_NSLOT.NSLOT2 | _ => s.rd AFE_NSLOT.NSLOT3
    ([AFE_SEQ_A.SLOT0 c, AFE_SEQ_A.SLOT1 c, AFE_SEQ_A.SLOT2 c, AFE_SEQ_A.SLOT3 c, AFE_SEQ_A.SLOT4 c, AFE_SEQ_B.SLOT5 c,
      AFE_SEQ_B.SLOT6 c, AFE_SEQ_B.SLOT7 c, AFE_SEQ_B.SLOT8 c, AFE_SEQ_B.SLOT9 c].take k).any fun f => s.rd f == n

/-- A context has law PI or PID. -/
def State.isPi (s : State) (n : Nat) : Bool := s.rd (CTX_W0.LAW n) == 1 || s.rd (CTX_W0.LAW n) == 2

/-- A configuration that keeps the motor in IDLE (R285). -/
def State.cfgErr (s : State) (m : Nat) : Bool :=
  !(s.inSequence (9 + 3 * m) && s.inSequence (10 + 3 * m) && s.inSequence (11 + 3 * m) && s.inSequence 18)
    || (s.flag (FIELD_CTX.CTXP_EN m) && !(s.isPi (s.rd (FIELD_CTX.DCTX m)) && s.isPi (s.rd (FIELD_CTX.QCTX m))
      && s.isPi (s.rd (FIELD_CTX.SCTX m))))

/-- Times √3/2, rounded. -/
def halfSqrt3 (x : Int) : Int := roundDiv (3 * overSqrt3 x) 2

/-- x × cos(30° × k). -/
def cos30 (k : Nat) (x : Int) : Int :=
  match k % 12 with
  | 0 => x | 1 => halfSqrt3 x | 2 => roundDiv x 2 | 3 => 0 | 4 => -roundDiv x 2 | 5 => -halfSqrt3 x | 6 => -x
  | 7 => -halfSqrt3 x | 8 => -roundDiv x 2 | 9 => 0 | 10 => roundDiv x 2 | _ => halfSqrt3 x

/-- Current along the direction 30° × k, from the phase currents of the tick (R292). -/
def State.currentAlong (s : State) (m k : Nat) : Int :=
  let u := s.phaseCurrent (3 * m)
  let v := s.phaseCurrent (3 * m + 1)
  let w := s.phaseCurrent (3 * m + 2)
  cos30 k (roundDiv (2 * u - v - w) 3) + cos30 (k + 9) (overSqrt3 (v - w))

/-- Index of the largest entry; R292 names no rule for equal ones, so `Config.peakTie` chooses among them. -/
def argMax (l : List Int) : Nat :=
  match (List.range l.length).filter fun i => l.all (· ≤ l.getD i 0) with
  | [] => 0
  | [i] => i
  | ties => ties.getD (Config.peakTie l % ties.length) 0

/-- The pole, in steps of 30 degrees, that six peaks give: the pair with the largest sum, and its larger member (R292). -/
def poleOf (p : List Int) : Nat :=
  let at_ (i : Nat) : Int := p.getD i 0
  let a := argMax [at_ 0 + at_ 3, at_ 1 + at_ 4, at_ 2 + at_ 5]
  2 * (a + 3 * argMax [at_ a, at_ (a + 3)])

/-- Angle 30° × k of 2³² per turn. -/
def angle30 (k : Nat) : Nat := (roundDiv ((k % 12 : Nat) * 2 ^ 32) 12).toNat % 2 ^ 32

/-- The pulses have all been made: the refined angle starts the acceleration (R292). -/
def State.pulsesDone (s : State) (m : Nat) (c : Chan) : State :=
  let six := c.peaks.take 6
  let k := c.pole + [0, 1, 11].getD (argMax [six.getD (c.pole / 2) 0, c.peaks.getD 6 0, c.peaks.getD 7 0]) 0
  s.setChan m { c with pulseIdx := 8, angCmd := angle30 k, rampSpd := 0, irefCmd := s.rdInt (FIELD_IREF.RAMP_I m) * 65536,
                       startTimer := 0, startOn := true, travel := 0, angSeen := s.rd (POS_ANG.ANG m), goodTicks := 0 }

/-- A pulse begins at the present boundary if it is a valley. -/
def State.pulseStart (s : State) : Nat := if s.flag RAKE_STAT.EXTREME then 0 else 1

/-- One tick of the pulse phase (R292). A pulse takes two PWM periods, begins at a valley, and its current is the one sampled
at the valley it ends at; a held tick repeats it. -/
def State.pulseTick (s : State) (m : Nat) (held : Bool) : State :=
  let c := s.chan m
  let per := 1 + s.rd RAKE_TICK.PWM_TICKS
  if held then s.setChan m { c with pulseTicks := s.pulseStart, peaks := c.peaks.take c.pulseIdx }
  else if c.pulseTicks = 0 then s.setChan m { c with pulseTicks := s.pulseStart }
  else
    let c := if c.pulseTicks = per + 1 then { c with peaks := c.peaks ++ [s.currentAlong m (pulseDir c c.pulseIdx)] } else c
    if c.pulseTicks < 2 * per then s.setChan m { c with pulseTicks := c.pulseTicks + 1 }
    else s.setChan m { c with pulseIdx := c.pulseIdx + 1, pulseTicks := s.pulseStart }

/-- What follows a pulse: after six the spread is judged and the pole taken, after eight the acceleration begins. -/
def State.pulseNext (s : State) (m : Nat) : State :=
  let c := s.chan m
  let smallest := (c.peaks.take 6).foldl min (c.peaks.getD 0 0)
  let largest := (c.peaks.take 6).foldl max (c.peaks.getD 0 0)
  if c.pulseIdx = 6 ∧ c.peaks.length = 6 then
    if largest - smallest < (s.rd (FIELD_PULSE.PULSE_MIN m) : Int) * 8388608 then s.failStart m
    else s.setChan m { c with pole := poleOf c.peaks }
  else if c.pulseIdx = 8 ∧ !c.startOn then s.pulsesDone m c
  else s

/-- Handover conditions of one tick (R294). -/
def State.handoverGood (s : State) (m : Nat) : Bool :=
  let c := s.chan m
  let v := s.rd (POS_VSTAT.VSTATE m)
  let w := (s.pos m).omega
  v != 5 && v != 6
    && decide ((s.rd (FIELD_HAND.HANDOVER_SPD m) : Int) * 65536 ≤ (if c.dir then -w else w))
    && decide ((wrapDiff (s.rd (POS_ANG.ANG m)) c.angCmd).natAbs ≤ s.rd (FIELD_HAND.HANDOVER_TOL m) * 16777216)

/-- The angle and travel of an accelerating start advance by one tick (R292, R293, R296); of a host start only its RAMP steps
travel. -/
def State.accelerate (s : State) (m len : Nat) : State :=
  let c := s.chan m
  let good := s.handoverGood m
  let ang := s.rd (POS_ANG.ANG m)
  let d := wrapDiff ang c.angSeen
  let moves := s.chState m != chHstep || (c.step.map (·.kind)) == some 2
  let c := { c with goodTicks := if good then c.goodTicks + 1 else 0, angSeen := ang,
                    travel := if moves then c.travel + (if c.dir then -d else d) else c.travel,
                    startTimer := if c.startOn then c.startTimer + len else 0 }
  if s.chState m = chHstep then
    let step := match c.step with
      | some x => if x.kind = 2 then fieldOf 32 (c.angCmd + x.param * 65536) else c.angCmd
      | none => c.angCmd
    s.setChan m { c with angCmd := step, stepTicks := c.stepTicks + 1 }
  else
    let spd := min (c.rampSpd + s.rd (FIELD_RAMP.RAMP_ACC m)) (s.rd (FIELD_RAMP.RAMP_SPD m) * 4096)
    let d : Int := if c.dir then -(spd * 16 : Nat) else (spd * 16 : Nat)
    s.setChan m { c with rampSpd := spd, angCmd := fieldOf 32 (c.angCmd + d),
                         irefCmd := s.rdInt (FIELD_IREF.RAMP_I m) * 65536 }

/-- Motion against DIR beyond START_BACK fails a pulse start and a host RAMP step (R292, R296). -/
def State.backFails (s : State) (m : Nat) : Bool :=
  let c := s.chan m
  decide (c.travel < -((s.rd (FIELD_PULSE.START_BACK m) * 16777216 : Nat) : Int))
    && (s.chState m == chPulse || (c.step.map (·.kind)) == some 2)

/-- The largest phase current of the tick exceeds BRK_ILIM (R290). -/
def State.brakeOver (s : State) (m : Nat) : Bool :=
  (motorPhases m).any fun p => s.rd (FIELD_BRK.BRK_ILIM m) * 65536 < (s.phaseCurrent p).natAbs

/-- Rise of VSUP over the last 8 ticks (R288). -/
def busRose (hist : List Int) (limit : Nat) : Bool :=
  match hist, hist[8]? with
  | new :: _, some old => decide ((limit : Int) * 2097152 ≤ new - old)
  | _, _ => false

/-- The pulses of a PULSE step (R292, R296). Where the tick that ends began at the valley that ended a pulse, its sample is the pulse's
peak, which FIELD_Mm_DUTY shows, but for a held tick, whose sample is discarded; a step that ran in the tick has its pulse end at the
valley at which the next tick begins. -/
def State.pulsePeak (s : State) (m : Nat) (held : Bool) : State :=
  let c := s.chan m
  let s := match c.pulseDue with
    | some k => if held then s else s.wr (FIELD_DUTY.DU m) (dutyField (s.currentAlong m k))
    | none => s
  let valley := !s.flag RAKE_TICK.PWM_TICKS || !s.flag RAKE_STAT.EXTREME
  let due := if valley && s.unitPulses m then c.step.map stepDir else none
  s.setChan m { c with pulseDue := due }

/-- Off intervals of a winding short (R290): a tick with a current above BRK_ILIM gives them to the period that follows it, in BRAKE
and in a SHORT safe state, but not while the overvoltage stage governs the motor. -/
def State.offIntervals (s : State) (m : Nat) : State :=
  let c := s.chan m
  let high := (s.chState m == chBrake || s.chState m == chSafe) && s.brakeOver m && !s.ovShort m
  if s.flag RAKE_STAT.EXTREME then s.setChan m { c with shortOff := c.shortOff && !s.ovShort m, shortNext := c.shortNext || high }
  else s.setChan m { c with shortOff := (c.shortNext || high) && !s.ovShort m, shortNext := false }

/-- What the unit observes in every tick, held or not: the back-EMF angle of a sensorless catch window (R286), and the bus voltage in
REFUSE outside its short (R288). -/
def State.channelObserve (s : State) (m : Nat) : State :=
  let c := s.chan m
  match s.chState m with
  | 1 =>
    if s.sensored m then s
    else
      let a := vectorAngle (s.emf m).1 (s.emf m).2
      match c.catchAng with
      | none => s.setChan m { c with catchAng := some a }
      | some b => s.setChan m { c with catchAng := some a, catchSum := c.catchSum + wrapDiff a b, catchN := c.catchN + 1 }
  | 2 => if c.refuseShort then s else s.setChan m { c with busHist := (s.vbus :: c.busHist).take 9 }
  | _ => s

/-- What a state does in a tick that was not held, before any change of state that has a row of its own. -/
def State.channelTick (s : State) (m len : Nat) : State :=
  let c := s.chan m
  let s := s.setChan m { c with timer := c.timer + len }
  let c := s.chan m
  match s.chState m with
  | 2 =>
    if c.refuseShort then s
    else if s.peakLow m then s.enterCatch m
    else if busRose c.busHist (s.rd (FIELD_CATCH.BUS_RISE m)) then s.setChan m { c with refuseShort := true, timer := 0 }
    else s
  | 3 =>
    if s.sensored m ∧ ((s.pos m).omega.natAbs < s.rd (FIELD_CATCH.CATCH_LOW m) * 65536) then s.enterCatch m else s
  | 4 =>
    if c.pulseIdx < 8 then (s.pulseTick m false).pulseNext m
    else
      let s := s.accelerate m len
      if s.backFails m ∧ !s.handoverDue m then s.failStart m else s
  | 5 =>
    let full := s.rd (FIELD_ALIGN.ALIGN_T m) * cecPerMs
    let i := s.rdInt (FIELD_IREF.ALIGN_I m) * 65536
    s.setChan m { c with irefCmd := if 4 * c.timer < full then roundDiv (i * (4 * c.timer : Nat)) full else i }
  | 6 => s.accelerate m len
  | 7 =>
    match c.step with
    | none =>
      let s := s.accelerate m len
      match c.queued with
      | some x => s.beginStep m x
      | none => s
    | some x =>
      let s := s.accelerate m len
      if x.kind = 2 ∧ s.backFails m then s.failStart m else s
  | _ => s

/-- EN or DIR decides the state at this boundary, before any other condition that the present state has (R283, R302). -/
def State.commanded (s : State) (m : Nat) (dirChanged : Bool) : Bool :=
  !(s.chan m).en || s.cfgErr m || (dirChanged && s.chState m != chRun && s.chState m != chSafe && s.chState m != chIdle)

/-- EN = 0, or a configuration error, keeps or brings the channel to IDLE; a change of DIR outside RUN, SAFE and IDLE returns
it to CATCH (R283, R285, R291). -/
def State.channelCommands (s : State) (m : Nat) (dirChanged : Bool) : State :=
  let c := s.chan m
  let st := s.chState m
  if !c.en ∨ s.cfgErr m then (if st = chIdle then s else s.enterIdle m)
  else if st = chIdle then
    if c.blockedEn ∨ !s.motorUsed m ∨ !s.inService then s
    else (s.wr (FIELD_STAT.RETRY m) 0).enterCatch m
  else if dirChanged ∧ st ≠ chRun ∧ st ≠ chSafe then s.enterCatch m
  else s

/-- The channel of motor `m` at the boundary that ends a tick of `len` CEC (R283, R302). -/
def State.channelBoundary (s : State) (m len : Nat) (held : Bool) : State :=
  let c := s.chan m
  let en := s.flag (FIELD_CTRL.EN m)
  let dir := s.flag (FIELD_CTRL.DIR m)
  let svc := s.inService
  let safe := s.reactSafe m || s.half == .safe || s.half == .lockout || s.half == .update || (c.inSvc && !svc)
  let s := s.setFlag (FIELD_STAT.CFG_ERR m) (s.cfgErr m)
  let s := s.setChan m { c with en := en, dir := if held && !safe then c.dir else dir, inSvc := svc, blockedEn := c.blockedEn && en,
                                sync := false }
  let s := (s.pulsePeak m held).channelObserve m
  let s :=
    if safe then
      if s.chState m = chSafe then s
      else (s.setCh m chSafe).setChan m { s.chan m with step := none, startOn := false }
    else if held then (if s.chState m = chPulse ∧ (s.chan m).pulseIdx < 8 then s.pulseTick m true else s)
    else if s.chState m = chSafe then s.enterIdle m
    else (if s.commanded m (dir != c.dir) then s else s.channelTick m len).channelCommands m (dir != c.dir)
  let s := if held ∧ s.chState m = chRun then s else s.lockBoundary m len
  ((s.offIntervals m).channelCuts m).channelGates m

end Sys2Proof.Machine
end

