-- ==== Sys2Proof/Machine/Pos.lean ====
section
/-! DEFINITION. Position and speed feedback (chapter Position and speed feedback): encoder ports, Hall triples, the vote and
its fault counts, speed, multi-turn position, distance words and commutation events. -/

namespace Sys2Proof.Machine

/-- Port and Hall records. -/
def State.port (s : State) (p : Nat) : PosPort := lookup s.posPort PosPort.init p
def State.setPort (s : State) (p : Nat) (x : PosPort) : State := { s with posPort := store s.posPort PosPort.init p x }
def State.hall (s : State) (h : Nat) : PosHall := lookup s.posHall PosHall.init h
def State.setHall (s : State) (h : Nat) (x : PosHall) : State := { s with posHall := store s.posHall PosHall.init h x }

/-- Pole pairs of a motor. -/
def State.polePairs (s : State) (m : Nat) : Nat := max 1 (s.rd (POS_SRC.PP m))

/-- One turn of an angle. -/
def turn : Nat := 4294967296

/-! ### Encoder ports -/

/-- Clock periods of a frame (R143). -/
def State.nclk (s : State) (p : Nat) : Nat :=
  let wlen := s.rd (POS_PORT_CFG.WLEN_M1 p) + 1
  if s.flag (POS_PORT_CFG.MODE p) then 1 + s.rd (POS_PORT_TIM.ACK_MAX p) + 1 + 1 + wlen + 2 + 6
  else 1 + wlen + s.rd (POS_PORT_CFG.NXTRA p) + s.rd (POS_PORT_CFG.ZCHK p)

/-- ENC_SPAN of the live settings (R143). -/
def State.encSpan (s : State) (p : Nat) : Nat :=
  s.rd (POS_PORT_CFG.CLK_DIV p) / 2 + s.rd (POS_PORT_CFG.CLK_DIV p) * s.nclk p + s.rd (POS_PORT_TIM.LINE_DLY p)
    + s.rd (POS_PORT_TIM.RECOVERY p)

/-- A number in a 16-bit register: a free value where it does not fit, as the spec does not say what the register shows then. -/
def State.show16 (s : State) (f : Fld) (v : Int) : State :=
  if 0 ≤ v ∧ v < 65536 then s.wr f v.toNat
  else
    let (x, s) := s.draw
    s.wr f x

/-- POS_PORTp_STAT.SPAN follows the settings. -/
def State.showSpans (s : State) : State := motors.foldl (fun s p => s.show16 (POS_PORT_STAT.SPAN p) (s.encSpan p)) s

/-- ENCODER_REQUEST (R43, R54, R143): each enabled port starts a frame with its live settings, whose word serves the next tick. -/
def encoderRequest (s : State) : State :=
  let s := s.advanceTo (s.rd RAKE_ENC.ENC_REQ_PHASE)
  motors.foldl (fun s p =>
    if s.bit POS_CTRL.PORT_EN p then
      (s.setBit POS_STAT.BUSY p true).setPort p { s.port p with
        reqAt := some s.now, reqPhase := s.rd RAKE_ENC.ENC_REQ_PHASE, reqDiv := s.rd (POS_PORT_CFG.CLK_DIV p),
        reqSpan := s.encSpan p, reqNew := true, late := false }
    else s) s

/-- A port that is not enabled takes no word (R150): its request ends. -/
def State.closePorts (s : State) : State :=
  motors.foldl (fun s p =>
    if s.bit POS_CTRL.PORT_EN p then s
    else (s.setBit POS_STAT.BUSY p false).setPort p { s.port p with reqAt := none, cur := none, next := none }) s

/-- ENC_AGE of a word, with the live settings (R55, R56). -/
def State.encAge (s : State) (x : PosWord) : Int :=
  (s.rd RAKE_TICK.TICK_PERIOD : Int) - x.phase - (x.div / 2 : Nat) + s.rd RAKE_SAMPLE.SAMPLE_PHASE

/-- The age delivered with a word, as POS_PORTp_STAT.AGE shows it. -/
def State.deliverAge (s : State) (p : Nat) (x : PosWord) : State :=
  (s.show16 (POS_PORT_STAT.AGE p) (s.encAge x)).setPort p { s.port p with age := s.encAge x }

/-- Gray code to binary, from bit `n` − 1 down. -/
def grayToBinary (g : Nat) : Nat → Bool → Nat
  | 0, _ => 0
  | n + 1, b =>
    let bit := g.testBit n != b
    (if bit then 2 ^ n else 0) + grayToBinary g n bit

/-- The word as a number of WLEN bits, converted from Gray code where the port says so (R145). -/
def State.encWord (s : State) (p : Nat) (w : EncWord) : Nat :=
  let n := s.rd (POS_PORT_CFG.WLEN_M1 p) + 1
  let v := w.bits % 2 ^ n
  if s.flag (POS_PORT_CFG.GRAY p) then grayToBinary v n false else v

/-- Single-turn angle of a word, left-justified, and its turns (R145). -/
def State.encSplit (s : State) (p v : Nat) : Nat × Nat :=
  let n := s.rd (POS_PORT_CFG.WLEN_M1 p) + 1
  let k := n - s.rd (POS_PORT_CFG.MTBITS p)
  ((v % 2 ^ k) * 2 ^ (32 - k), v / 2 ^ k)

/-- ENC_RAW of a motor from a single-turn angle (R146). -/
def State.encRawOf (s : State) (m angle : Nat) : Nat :=
  (angle * s.polePairs m + s.rd (POS_OFS.SENS_OFS m) * 65536) % turn

/-- ENC_VOTE: the angle at the sample instant (R146). -/
def State.encVoteOf (s : State) (m : Nat) (x : PosWord) : Nat :=
  fieldOf 32 (s.encRawOf m x.angle + roundDiv ((s.pos m).omega * s.encAge x) (max 1 (s.rd RAKE_TICK.TICK_PERIOD)))

/-- Motors that take port or triple `i` as their sensor. -/
def State.sensorUsers (s : State) (kind i : Nat) : List Nat :=
  motors.filter fun m => s.rd (POS_SRC.SENS m) == kind && s.rd (POS_SRC.SENS_IDX m) == i

/-- The JUMP check of a word fails for a motor that uses the port (R145, R146), skipped in the first tick after the Rake starts.
DESIGN CHOICE: a port that serves several motors fails when the check fails for any of them. DEDUCED: the previous voted angle is that
of the last vote at the release. -/
def State.encJumps (s : State) (p : Nat) (x : PosWord) : Bool :=
  !s.rake.firstTick && (s.sensorUsers 1 p).any fun m =>
    let tol := s.rd (POS_SPD.JUMP_TOL m) * 65536
    tol != 0 && (s.pos m).voted
      && decide (tol < (wrapDiff (s.encVoteOf m x) (s.rd (POS_ANG.ANG m) + (s.pos m).omega)).natAbs)

/-- CRC-6 over data, nE and nW, transmitted inverted (R145). -/
def State.encCrcOk (s : State) (p : Nat) (w : EncWord) : Bool :=
  let n := s.rd (POS_PORT_CFG.WLEN_M1 p) + 1
  let v := (w.bits % 2 ^ n) * 4 + (if w.nE then 2 else 0) + (if w.nW then 1 else 0)
  w.crc % 64 == 63 - crc6 v (n + 2) 0

/-- The check of R145, in the order of its table: 0 OK, else the result code. -/
def State.encCheck (s : State) (p : Nat) (w : EncWord) (x : PosWord) : Nat :=
  let biss := s.flag (POS_PORT_CFG.MODE p)
  if biss ∧ !w.started then 1
  else if biss ∧ !s.encCrcOk p w then 2
  else if !biss ∧ s.flag (POS_PORT_CFG.ZCHK p) ∧ w.endHigh then 4
  else if biss ∧ !w.nE then 3
  else if !biss ∧ s.flag (POS_PORT_CFG.ERRBIT p) ∧ w.extra = s.flag (POS_PORT_CFG.ERRPOL p) then 3
  else if s.encJumps p x then 5
  else 0

/-- Count a failed word. -/
def State.countEnc (s : State) (p code : Nat) : State :=
  match code with
  | 1 => s.count (POS_PORT_CNT.TMO_CNT p)
  | 2 => s.count (POS_PORT_CNT.CRC_CNT p)
  | 3 => s.count (POS_PORT_CNT.ERR_CNT p)
  | 4 => s.count (POS_PORT_CNT.ERR_CNT p)
  | 5 => s.count (POS_PORT_CNT.JUMP_CNT p)
  | _ => s

/-- A pulse of the supply that the plan assigns to sensor input `i`, or its SETTLE time of `settle` × 4 µs, meets the interval from `t0` to
now (R147, R378). -/
def State.pulseMeets (s : State) (i settle t0 : Nat) : Bool :=
  s.bit SAFE_TPA1.USE i && match s.safe.pulseAt.find? fun p => p.1 == s.inputSupply i with
  | none => false
  | some p => decide (t0 ≤ p.2 + (s.rd SAFE_TP.TP_WIDTH + 4 * settle) * cecPerUs)

/-- The word of a port's request is taken into the slot of the tick it serves (R54). -/
def State.keepWord (s : State) (p : Nat) (x : PosWord) : State :=
  let s := s.deliverAge p x
  let q := s.port p
  s.setPort p (if q.reqNew then { q with next := some x } else { q with cur := some x })

/-- A word is checked, or discarded when a test pulse met its frame, which began at `t0` (R145, R147). -/
def State.judgeWord (s : State) (p t0 : Nat) (w : EncWord) : State :=
  let q := s.port p
  let (angle, turns) := s.encSplit p (s.encWord p w)
  let x : PosWord := ⟨q.reqPhase, q.reqDiv, angle, turns, .good⟩
  let s := s.setFlag (POS_PORT_LAST.WARN p) (s.flag (POS_PORT_CFG.MODE p) && w.started && !w.nW)
  if s.pulseMeets p (s.rd (POS_PORT_TIM.SETTLE p)) t0 then
    (s.wr (POS_PORT_LAST.RESULT p) 6).keepWord p { x with fate := .discarded }
  else
    let code := s.encCheck p w x
    ((s.wr (POS_PORT_LAST.RESULT p) code).countEnc p code).keepWord p { x with fate := if code = 0 then .good else .failed }

/-- ENCODER_WORD_RELEASE of port `p` (R144 to R147, R150), at request + ENC_SPAN. A word that was late for its tick has been treated as a
timeout (R54), and its span only ends. -/
def encoderWordRelease (p : Nat) (w : EncWord) (s : State) : State :=
  let q := s.port p
  match s.bit POS_CTRL.PORT_EN p, q.reqAt with
  | true, some t0 =>
    let s := { s with now := max s.now (t0 + q.reqSpan), cec := s.cec + (t0 + q.reqSpan - s.now) }
    let s := s.setBit POS_STAT.BUSY p false
    let s := if q.late then s else s.judgeWord p t0 w
    s.setPort p { s.port p with reqAt := none, late := false }
  | _, _ => s

/-! ### Hall triples -/

/-- Sector that MAP gives a code from 1 to 6 (R148). -/
def State.hallSector (s : State) (h code : Nat) : Nat := (s.rd (POS_HALL_CFG.MAP h) >>> (3 * (code - 1))) % 8

/-- Start angle of a sector, before SENS_OFS. -/
def sectorStart (k : Nat) : Nat := (roundDiv ((k % 6 : Nat) * turn) 6).toNat

/-- Centre of a sector, before SENS_OFS. -/
def sectorCentre (k : Nat) : Nat := (roundDiv ((2 * (k % 6) + 1 : Nat) * turn) 12).toNat

/-- A commutation event of a motor (R163). -/
def State.countComm (s : State) (m : Nat) : State :=
  (s.wr (POS_COMM.COMM_CNT m) (s.rd (POS_COMM.COMM_CNT m) + 1)).setPos m { s.pos m with events := (s.pos m).events + 1 }

/-- The boundary that a step into sector `k` passes, forward or backward: boundary `k` lies at the start of sector `k`. -/
def boundaryInto (k : Nat) (fwd : Bool) : Nat × Bool := (if fwd then k % 6 else (k + 1) % 6, fwd)

/-- A valid Hall transition into sector `k` counts, unless the voted angle has counted that crossing of the boundary (R163). -/
def State.hallComm (s : State) (h k : Nat) (fwd : Bool) : State :=
  (s.sensorUsers 2 h).foldl (fun s m =>
    let mid := (sectorCentre k + s.rd (POS_OFS.SENS_OFS m) * 65536) % turn
    let b := boundaryInto (mid * 6 / turn) fwd
    let p := s.pos m
    if p.byAngle.contains b then s.setPos m { p with byAngle := p.byAngle.filter (· != b) }
    else (s.countComm m).setPos m { (s.countComm m).pos m with byHall := b :: p.byHall.filter (·.1 != b.1) }) s

/-- HALL_CODE_TAKEN (R148, R149): triple `h` has taken a code. -/
def hallCodeTaken (h code : Nat) (s : State) : State :=
  let old := s.hall h
  let code := code % 8
  if !s.flag (POS_HALL_CFG.HEN h) ∨ s.pulseMeets (3 + h) (s.rd (POS_PORT_TIM.SETTLE h)) s.now then s
  else if code = 0 ∨ code = 7 then
    let s := ((s.wr (POS_HALL_STAT.CODE h) code).setFlag (POS_HALL_STAT.ILL h) true).count (POS_HALL_STAT.ILL_CNT h)
    let s := s.setHall h { old with crossed := none, bad := true }
    (s.sensorUsers 2 h).foldl (fun s m => s.report srcPosHall m) s
  else
    let a := s.rd (POS_HALL_STAT.SECTOR h)
    let b := s.hallSector h code
    let s := (s.wr (POS_HALL_STAT.CODE h) code).wr (POS_HALL_STAT.SECTOR h) b
    if !old.known then s.setHall h { old with known := true }
    else if a = b then s
    else if b = (a + 1) % 6 then (s.setHall h { old with crossed := some (sectorStart b, s.now) }).hallComm h b true
    else if a = (b + 1) % 6 then (s.setHall h { old with crossed := some (sectorStart a, s.now) }).hallComm h b false
    else
      let s := (s.setFlag (POS_HALL_STAT.SEQ h) true).count (POS_HALL_STAT.SEQ_CNT h)
      let s := s.setHall h { old with crossed := none, bad := true }
      (s.sensorUsers 2 h).foldl (fun s m => s.report srcPosHall m) s

/-- Time of the sample instant of the present tick. -/
def State.sampleTime (s : State) : Int := (s.now : Int) - s.cec + s.rd RAKE_SAMPLE.SAMPLE_PHASE

/-- Hall angle of a triple for a motor (R149), with SENS_OFS. -/
def State.hallAngle (s : State) (m h : Nat) : Nat :=
  let k := s.rd (POS_HALL_STAT.SECTOR h)
  let base := sectorStart k
  let at_ : Int := match (s.hall h).crossed with
    | none => sectorCentre k
    | some (a, t) =>
      let moved := roundDiv ((s.pos m).omega * (s.sampleTime - t)) (max 1 (s.rd RAKE_TICK.TICK_PERIOD))
      base + clampInt 0 (fieldOf 32 ((sectorStart (k + 1) : Int) - base) : Nat) (wrapDiff a base + moved)
  fieldOf 32 (at_ + s.rd (POS_OFS.SENS_OFS m) * 65536)

/-! ### Sources -/

/-- What a source gives the vote: nothing that counts, a count against itself, or an angle (R150 to R152, R155). -/
inductive PosSource where
  | absent
  | invalid
  | angle (a : Nat)
  deriving DecidableEq, Repr

/-- The sensor source (R147, R150). DESIGN CHOICE: an enabled Hall triple that has taken no code yet, and an enabled encoder port
without a word (as in the first tick after the Rake starts), have no angle to give: the source is invalid and counts against itself. -/
def State.sensorSource (s : State) (m : Nat) : PosSource :=
  let i := s.rd (POS_SRC.SENS_IDX m)
  if s.rd (POS_SRC.SENS m) = 1 then
    if !s.bit POS_CTRL.PORT_EN i then .invalid
    else match (s.port i).cur with
      | some x =>
        match x.fate with
        | .good => .angle (s.encVoteOf m x)
        | .discarded => .absent
        | .failed => .invalid
      | none => .invalid
  else if s.rd (POS_SRC.SENS m) = 2 then
    if s.flag (POS_HALL_CFG.HEN i) && (s.hall i).known && !(s.hall i).bad then .angle (s.hallAngle m i) else .invalid
  else .absent

/-- Byte address of word `i` of the X record of a motor (R164). -/
def State.posAddr (s : State) (m i : Nat) : Nat := s.rd POS_CTRL.XBASE * 64 + 64 * m + 4 * i

/-- The observer source (R150, R151): the angle of the previous tick, predicted by one tick of speed. -/
def State.observerSource (s : State) (m : Nat) : PosSource :=
  let a := s.xWord (s.posAddr m 8)
  let v := s.xWord (s.posAddr m 9)
  let va := s.xWord (mirrorOf (s.posAddr m 9))
  if v = 0 ∧ va = 0 then .absent
  else if v ≠ 0 ∧ va ≠ 0 ∧ a = s.xWord (mirrorOf (s.posAddr m 8)) then .angle (fieldOf 32 (a.toNat + (s.pos m).omega))
  else .invalid

/-- The slot of PART_FLOW whose source and POSITION entry match the partner lane (R434, R447), as slot and byte offset in its record.
DESIGN CHOICE: the spec names no partner address for an HX961-S, which may have several partner lanes: there any lane's slot serves, the
lowest one with an entry for the motor first. -/
def State.partEntry (s : State) (m : Nat) : Option (Nat × Nat) :=
  let f := s.rd (POS_SRC.PART_FLOW m)
  if s.flowOn f && s.kindOf f == 1 then
    ((s.usedSlots f).flatMap fun i =>
      (((List.range 3).filter fun j => (s.part == .hx961s || s.lanePartner f i) && 16 * j + 16 ≤ s.entryNat f (i * s.esize f) 0 2
          && s.entryNat f (i * s.esize f) (16 + 16 * j) 1 == m).map fun j => (i, 16 * j))).head?
  else none

/-- The partner source from its flow (R152). -/
def State.partnerFlow (s : State) (m : Nat) : PosSource :=
  let f := s.rd (POS_SRC.PART_FLOW m)
  match s.partEntry m with
  | none => .invalid
  | some (i, off) =>
    let u := i * s.esize f
    let age := (s.tick + 65536 - s.entryNat f u 6 2) % 65536
    if max 1 (s.rd (POS_SRC.PART_AGE_MAX m)) < age then .invalid
    else if s.entryNat f u (16 + off + 1) 1 % 2 = 0 then .absent
    else
      let ang := s.entryNat f u (16 + off + 4) 4
      let spd := signedOf 32 (s.entryNat f u (16 + off + 8) 4)
      let dt := 2 * wrapDiff s.gptpNow (s.entryNat f u 8 4) + 5 * (s.sampleTime - s.now)
      .angle (fieldOf 32 (ang + roundDiv (spd * dt) (5 * max 1 (s.rd RAKE_TICK.TICK_PERIOD))
        + s.rd (POS_OFS.PART_OFS m) * 65536))

/-- The partner source (R152). -/
def State.partnerSource (s : State) (m : Nat) : PosSource :=
  if s.part = .hx962d ∧ (s.copy = 2 ∨ s.copy = 3 ∨ s.copy = 4) then .absent
  else if s.part = .hx962d ∧ s.copy = 0 then
    match s.partnerAt, s.posPartner.find? (fun p => p.1 == m) with
    | some t, some (_, x) =>
      if t ≠ s.tick then .invalid
      else if x.valid then .angle (fieldOf 32 (x.angle + x.speed + s.rd (POS_OFS.PART_OFS m) * 65536)) else .absent
    | _, _ => .invalid
  else s.partnerFlow m

/-- Source `i` of a motor is enabled: 0 sensor, 1 partner, 2 observer. -/
def State.sourceOn (s : State) (m i : Nat) : Bool :=
  match i with
  | 0 => s.rd (POS_SRC.SENS m) == 1 || s.rd (POS_SRC.SENS m) == 2
  | 1 => s.flag (POS_SRC.PART_EN m)
  | _ => s.flag (POS_SRC.OBS_EN m)

/-- The motor has an enabled source. -/
def State.voted (s : State) (m : Nat) : Bool := [0, 1, 2].any (s.sourceOn m)

/-- A source as the vote finds it. -/
def State.source (s : State) (m i : Nat) : PosSource :=
  if !s.sourceOn m i then .absent
  else match i with
    | 0 => s.sensorSource m
    | 1 => s.partnerSource m
    | _ => s.observerSource m

/-- Ranking of the sources (R154). -/
def rankOf (prio : Nat) : List Nat :=
  match prio with
  | 0 => [0, 1, 2]
  | 1 => [1, 0, 2]
  | 2 => [0, 2, 1]
  | _ => [2, 0, 1]

/-! ### The vote -/

/-- Outcome of a vote (R154). -/
structure Vote where
  state : Nat
  angle : Nat
  checked : Bool
  outlier : Option Nat
  spread : Bool
  deriving DecidableEq, Repr

/-- Middle one of three numbers. -/
def median3 (a b c : Int) : Int := max (min a b) (min (max a b) c)

/-- The vote over the valid sources in rank order, with tolerance `tol` and the extrapolated previous angle (R154). -/
def voteAngles (tol : Nat) (previous : Nat) (v : List (Nat × Nat)) : Vote :=
  let agree (a b : Nat) : Bool := decide ((wrapDiff a b).natAbs ≤ tol)
  match v with
  | (i, a) :: (j, b) :: (k, c) :: _ =>
    let med := fieldOf 32 (a + median3 0 (wrapDiff b a) (wrapDiff c a))
    match agree a b, agree a c, agree b c with
    | true, true, true => ⟨0, med, true, none, false⟩
    | true, true, false => ⟨0, med, true, none, true⟩
    | true, false, true => ⟨0, med, true, none, true⟩
    | false, true, true => ⟨0, med, true, none, true⟩
    | true, false, false => ⟨0, med, true, some k, false⟩
    | false, true, false => ⟨0, med, true, some j, false⟩
    | false, false, true => ⟨0, med, true, some i, false⟩
    | false, false, false => ⟨1, med, false, none, false⟩
  | [(_, a), (_, b)] => if agree a b then ⟨2, a, true, none, false⟩ else ⟨3, a, false, none, false⟩
  | [(_, a)] => ⟨4, a, false, none, false⟩
  | [] => ⟨5, previous, false, none, false⟩

/-- Speed filter (R158). -/
def filterSpeed (filt shift : Nat) (p : PosM) (d : Int) : PosM :=
  let hist := (d :: p.changes).take 16
  let w := match filt with
    | 0 => d
    | 1 => p.omega + roundDiv (d - p.omega) (2 ^ shift)
    | _ => roundDiv ((hist.take (2 ^ shift)).foldl (· + ·) 0) (2 ^ shift)
  { p with omega := w, changes := hist }

/-- Mechanical position in Q16.16 turns (R159). -/
def State.mechTurns (s : State) (m : Nat) : Int := roundDiv (s.pos m).pos (s.polePairs m * 65536)

/-- PMT, OVT and the saturation flags while REF = 0, when PMT is not clamped (R160). DESIGN CHOICE: a position beyond the 32 bits of Q16.16
saturates in PMT; OVT, which shows the excess of a clamp (R159), reads 0. -/
def State.showFree (s : State) (m : Nat) (x : Int) : State :=
  let s := (s.wrInt (POS_PMT.PMT m) (satSym x)).wr (POS_OVT.OVT m) 0
  (s.setFlag (POS_VSTAT.SAT_HI m) false).setFlag (POS_VSTAT.SAT_LO m) false

/-- PMT, OVT and the saturation flags follow the position (R159, R161). -/
def State.showPosition (s : State) (m : Nat) : State :=
  let p := s.pos m
  let x := s.mechTurns m
  if s.flag (POS_VSTAT.REF m) then
    let c := clampInt p.softMin p.softMax x
    let s := (s.wrInt (POS_PMT.PMT m) c).wrInt (POS_OVT.OVT m) (satSym (x - c))
    let s := (s.setFlag (POS_VSTAT.SAT_HI m) (0 < x - c)).setFlag (POS_VSTAT.SAT_LO m) (x - c < 0)
    if 32767 * 65536 < (x - c).natAbs then ((s.setFlag (POS_VSTAT.REF m) false).showFree m x).raise srcPosRef m
    else s.lower srcPosRef m
  else s.showFree m x

/-- A distance word: turns of Q16.16 over 2^SL_EXP in Q1.31, saturated (R162). -/
def State.distWord (s : State) (m : Nat) (d : Int) : Int :=
  if s.flag (POS_VSTAT.REF m) then satSym (roundDiv (d * 32768) (2 ^ s.rd (POS_SPD.SL_EXP m))) else 2147483647

/-- Write one word of the X record at both addresses, with 0x8000_0000 as 0x8000_0001 (R142, R164). -/
def State.posWord (s : State) (m i : Nat) (w : Word) : State :=
  s.writeXPair rankPos (s.posAddr m i) (if w = 0x80000000 then 0x80000001 else w)

/-- The voted angle crosses a boundary into sector `k` (R163): an event, unless the Hall triple has counted that crossing. -/
def State.angleInto (s : State) (m k : Nat) (fwd : Bool) : State :=
  let b := boundaryInto k fwd
  let p := s.pos m
  let s :=
    if p.byHall.contains b then s.setPos m { p with byHall := p.byHall.filter (· != b) }
    else if s.rd (POS_SRC.SENS m) = 2 then
      (s.countComm m).setPos m { (s.countComm m).pos m with byAngle := b :: p.byAngle.filter (·.1 != b.1) }
    else s.countComm m
  s.setPos m { s.pos m with sector := some (k % 6) }

/-- The sector boundaries the voted angle has passed since the last counted sector (R163). -/
def State.angleComm (s : State) (m : Nat) : State :=
  let a := s.rd (POS_ANG.ANG m)
  let k := a * 6 / turn
  let into := a * 6 % turn
  let margin := 6 * 16777216
  match (s.pos m).sector with
  | none => s.setPos m { s.pos m with sector := some k }
  | some j =>
    let fwd := (k + 6 - j) % 6
    if fwd ≤ 3 then
      let n := if margin ≤ into then fwd else fwd - 1
      (List.range n).foldl (fun (s : State) i => s.angleInto m (j + i + 1) true) s
    else
      let n := if margin ≤ turn - into then 6 - fwd else 5 - fwd
      (List.range n).foldl (fun (s : State) i => s.angleInto m (j + 5 - i) false) s

/-- Drop and readmission counts of one source after a vote (R155, R156). -/
def State.countSource (s : State) (m i : Nat) (src : PosSource) (v : Vote) : State :=
  let p := s.pos m
  let n := lookup p.drops 0 i
  let n := if v.outlier = some i then n + 1
    else match src with
      | .absent => n
      | .invalid => n + 1
      | .angle _ => 0
  let good := match src with
    | .angle a => decide ((wrapDiff a v.angle).natAbs ≤ s.rd (POS_VOTE.VOTE_TOL m) * 65536)
    | _ => false
  let g := if s.bit (POS_VSTAT.PEND m) i && good then lookup p.goods 0 i + 1 else 0
  s.setPos m { p with drops := store p.drops 0 i n, goods := store p.goods 0 i g }

/-- Count an outlier tick of a source (POS_Mm_VCNT). -/
def State.countOutlier (s : State) (m : Nat) (i : Option Nat) : State :=
  match i with
  | some 0 => s.count (POS_VCNT.OUTL_S m)
  | some 1 => s.count (POS_VCNT.OUTL_P m)
  | some _ => s.count (POS_VCNT.OUTL_O m)
  | none => s

/-- Sources enabled and not dropped. -/
def State.sourcesLeft (s : State) (m : Nat) : Nat :=
  ([0, 1, 2].filter fun i => s.sourceOn m i && !s.bit (POS_VSTAT.DROP m) i).length

/-- The word of the motor's encoder that passed and serves this tick (R145, R150). -/
def State.goodWord (s : State) (m : Nat) : Option PosWord :=
  let i := s.rd (POS_SRC.SENS_IDX m)
  if s.rd (POS_SRC.SENS m) = 1 ∧ s.bit POS_CTRL.PORT_EN i then (s.port i).cur.filter fun x => x.fate == .good else none

/-- Position E after a vote: a LOAD, the initialisation an encoder owes, or the change of angle (R159, R160). DESIGN CHOICE: the encoder's
turn bits enter E as an unsigned number. -/
def State.advancePos (s : State) (m : Nat) (d : Int) : State :=
  let p := s.pos m
  let i := s.rd (POS_SRC.SENS_IDX m)
  match p.loadBy with
  | some w =>
    let old := s.rd (POS_PMT.PMT m)
    let e := signedOf 64 (fieldOf 64 (s.rdInt (POS_LOAD.LOAD m) * 65536 * s.polePairs m))
    let s := s.setPos m { p with pos := e, loadBy := none, initDue := false }
    let s := ((s.setFlag (POS_VSTAT.REF m) true).setFlag (POS_CTL.LOAD m) false).showPosition m
    s.logEvent 0x0D w m (dataOf [(4, old), (4, s.rd (POS_PMT.PMT m)), (4, 0)])
  | none =>
    if let some x := (if p.initDue then s.goodWord m else none) then
      let s := s.setPos m { p with pos := ((x.turns * turn + x.angle) * s.polePairs m : Nat), initDue := false }
      (s.setFlag (POS_VSTAT.REF m) (s.rd (POS_PORT_CFG.MTBITS i) != 0)).showPosition m
    else if !p.voted then
      let s := s.setPos m { p with pos := 0, initDue := p.initDue && s.rd (POS_SRC.SENS m) == 1 }
      (s.setFlag (POS_VSTAT.REF m) false).showPosition m
    else (s.setPos m { p with pos := signedOf 64 (fieldOf 64 (p.pos + d)) }).showPosition m

/-- Outcome runs of R157, and the sources whose condition has ended. -/
def State.countOutcome (s : State) (m st : Nat) : State :=
  let p := s.pos m
  let dis := st = 1 ∨ st = 3
  let s := s.setPos m { p with disRun := if dis then p.disRun + 1 else 0, oneRun := if st = 4 then p.oneRun + 1 else 0,
                               noneRun := if st = 5 then p.noneRun + 1 else 0 }
  let s := if dis then s else s.lower srcPosDis m
  let s := if st ≠ 4 ∧ 1 < s.sourcesLeft m then s.lower srcPosOne m else s
  if st ≠ 5 ∧ 0 < s.sourcesLeft m then s.lower srcPosNone m else s

/-- Status bits of a vote (POS_Mm_VSTAT). -/
def State.showVote (s : State) (m : Nat) (v : Vote) (valid : Nat) : State :=
  let s := ((s.wr (POS_VSTAT.VSTATE m) v.state).setFlag (POS_VSTAT.CHECKED m) v.checked).wr (POS_VSTAT.VALID m) valid
  let s := s.wr (POS_VSTAT.OUTL m) (match v.outlier with | some i => 2 ^ i | none => 0)
  let s := if v.spread then s.setFlag (POS_VSTAT.SPREAD m) true else s
  let s := if v.state = 1 then (s.setFlag (POS_VSTAT.NOMAJ m) true).count (POS_VCNT.NOMAJ_CNT m) else s
  if v.state = 3 then s.setFlag (POS_VSTAT.DIS m) true else s

/-- ENC_RAW of the motor: of a good word, or extrapolated (R146, R147, R150). -/
def State.nextRaw (s : State) (m : Nat) : Nat :=
  match s.goodWord m with
  | some x => s.encRawOf m x.angle
  | none => fieldOf 32 ((s.pos m).encRaw + (s.pos m).omega)

/-- The X record of a motor (R164). DESIGN CHOICE: the spec gives words 5 and 6 of a motor whose sensor is no encoder no content of their
own: word 5 is the extrapolation of R147, which no word corrects, and word 6 the age of port SENS_IDX. -/
def State.posRecord (s : State) (m : Nat) : State :=
  let p := s.pos m
  let i := s.rd (POS_SRC.SENS_IDX m)
  let w (s : State) (k v : Nat) : State := s.posWord m k (BitVec.ofNat 32 v)
  let pmt := s.rdInt (POS_PMT.PMT m)
  let st := s.rd (POS_VSTAT.VSTATE m) + 8 * s.rd (POS_VSTAT.CHECKED m) + 16 * s.rd (POS_VSTAT.REF m)
  let s := w (w (w s 0 (s.rd (POS_ANG.ANG m))) 1 (s.rd (POS_SPEED.SPEED m))) 2 (s.rd (POS_PMT.PMT m))
  let s := w (w s 3 (fieldOf 32 (s.distWord m (p.softMax - pmt)))) 4 (fieldOf 32 (s.distWord m (pmt - p.softMin)))
  let s := w (w (w s 5 p.encRaw) 6 (fieldOf 32 (s.port i).age)) 7 (s.hallAngle m i)
  w (w s 10 st) 11 (s.rd (POS_COMM.COMM_CNT m))

/-- The vote of one motor (R154 to R164). -/
def State.voteMotor (s : State) (m : Nat) : State :=
  let p := s.pos m
  let prev := s.rd (POS_ANG.ANG m)
  let srcs := [0, 1, 2].map fun i => (i, s.source m i)
  let valid := (srcs.filter fun x => match x.2 with | .angle _ => true | _ => false).foldl (fun n x => n + 2 ^ x.1) 0
  let angles := (rankOf (s.rd (POS_SRC.VOTE_PRIO m))).filterMap fun i =>
    match s.bit (POS_VSTAT.DROP m) i, s.source m i with
    | false, .angle a => some (i, a)
    | _, _ => none
  let v := voteAngles (s.rd (POS_VOTE.VOTE_TOL m) * 65536) (fieldOf 32 (prev + p.omega)) angles
  let d := if p.voted then wrapDiff v.angle prev else 0
  let raw := s.nextRaw m
  let s := s.setPos m { filterSpeed (s.rd (POS_SPD.FILT m)) (s.rd (POS_SPD.SHIFT m)) p d with encRaw := raw }
  let s := (s.wr (POS_ANG.ANG m) v.angle).wrInt (POS_SPEED.SPEED m) (s.speedWord m (s.pos m).omega)
  let s := ((s.showVote m v valid).countOutlier m v.outlier).advancePos m d
  let s := srcs.foldl (fun s x => if s.bit (POS_VSTAT.DROP m) x.1 && !s.bit (POS_VSTAT.PEND m) x.1 then s
    else s.countSource m x.1 x.2 v) s
  let s := (s.countOutcome m v.state).angleComm m
  (s.setPos m { s.pos m with voted := true }).posRecord m

/-- A request of the last tick whose word is not complete by TSTART − 16 of this one counts as a timeout (R54). -/
def State.lateWord (s : State) (p : Nat) : State :=
  let q := s.port p
  if s.bit POS_CTRL.PORT_EN p ∧ q.reqAt.isSome ∧ !q.reqNew ∧ !q.late then
    ((s.wr (POS_PORT_LAST.RESULT p) 1).count (POS_PORT_CNT.TMO_CNT p)).setPort p { q with late := true }
  else s

/-- The age delivered with the word that serves this tick (R56). -/
def State.deliverWord (s : State) (p : Nat) : State :=
  match (s.port p).cur with
  | some x => s.deliverAge p x
  | none => s

/-- POSITION_VOTE (R154): at TSTART − 16 every motor with an enabled source is voted. -/
def positionVote (s : State) : State :=
  let s := s.advanceTo (s.rd RAKE_TSTART.TSTART - 16)
  let s := motors.foldl (fun (s : State) p => (s.lateWord p).deliverWord p) s
  let s := (motors.filter s.voted).foldl State.voteMotor s
  motors.foldl (fun s p => (s.setPort p { s.port p with cur := none }).setHall p { s.hall p with bad := false }) s

/-! ### Faults of the vote -/

/-- SOURCE_DROP (R155): the drop counter of source `i` has reached VOTE_M. -/
def sourceDrop (m i : Nat) (s : State) : State :=
  if s.sourceOn m i ∧ !s.bit (POS_VSTAT.DROP m) i ∧ max 1 (s.rd (POS_VOTE.VOTE_M m)) ≤ lookup (s.pos m).drops 0 i then
    (s.setBit (POS_VSTAT.DROP m) i true).raise srcPosDrop m
  else s

/-- POS_DIS (R157). -/
def posDis (m : Nat) (s : State) : State :=
  if max 1 (s.rd (POS_VOTE.DIS_N m)) ≤ (s.pos m).disRun then s.raise srcPosDis m else s

/-- POS_ONE (R157). -/
def posOne (m : Nat) (s : State) : State :=
  if max 1 (s.rd (POS_VOTE.VOTE_M m)) ≤ (s.pos m).oneRun ∨ s.sourcesLeft m = 1 then s.raise srcPosOne m else s

/-- POS_NONE (R157). -/
def posNone (m : Nat) (s : State) : State :=
  if s.voted m ∧ (max 1 (s.rd (POS_VOTE.DIS_N m)) ≤ (s.pos m).noneRun ∨ s.sourcesLeft m = 0) then s.raise srcPosNone m else s

/-- READMIT (R156): a write of 1 to bits of POS_Mm_CTL.READMIT; a source that is not dropped is not affected. -/
def readmit (m mask : Nat) (s : State) : State :=
  [0, 1, 2].foldl (fun s i =>
    if mask.testBit i && s.bit (POS_VSTAT.DROP m) i && !s.bit (POS_VSTAT.PEND m) i then
      ((s.setBit (POS_VSTAT.PEND m) i true).setBit (POS_CTL.READMIT m) i true).setPos m
        { s.pos m with goods := erase (s.pos m).goods i }
    else s) s

/-- SOURCE_READMITTED (R156): 64 consecutive good ticks. -/
def sourceReadmitted (m i : Nat) (s : State) : State :=
  if s.bit (POS_VSTAT.PEND m) i ∧ 64 ≤ lookup (s.pos m).goods 0 i then
    let p := s.pos m
    let s := ((s.setBit (POS_VSTAT.PEND m) i false).setBit (POS_CTL.READMIT m) i false).setBit (POS_VSTAT.DROP m) i false
    let s := s.setPos m { p with drops := erase p.drops i, goods := erase p.goods i }
    if s.rd (POS_VSTAT.DROP m) = 0 then s.lower srcPosDrop m else s
  else s

/-- LOAD (R160): a write of 1 to POS_Mm_CTL.LOAD by a writer; the next vote takes POS_Mm_LOAD. -/
def loadPosition (m w : Nat) (s : State) : State :=
  (s.setFlag (POS_CTL.LOAD m) true).setPos m { s.pos m with loadBy := some w, initDue := false }

/-! ### Boundaries -/

/-- SOFT_LIMIT_TAKE (R161). -/
def State.softLimitTake (s : State) : State :=
  motors.foldl (fun s m =>
    let lo := s.rdInt (POS_SOFT_MIN.SOFT_MIN m)
    let hi := s.rdInt (POS_SOFT_MAX.SOFT_MAX m)
    if lo < hi then
      if (s.pos m).softMin = lo ∧ (s.pos m).softMax = hi then s
      else (s.setPos m { s.pos m with softMin := lo, softMax := hi }).showPosition m
    else s.setFlag POS_STAT.SL_ERR true) s

/-- The words released for the next tick serve the tick that begins (R54). -/
def State.turnPorts (s : State) : State :=
  motors.foldl (fun (s : State) p => s.setPort p { s.port p with cur := (s.port p).next, next := none, reqNew := false }) s

/-- POS at a start of the Rake (R154, R158, R160): a LOAD that is pending stays for the first vote. DESIGN CHOICE: the start is no tick
boundary of R161: the first tick's vote uses the pair of soft limits that was taken last. -/
def State.posStart (s : State) : State :=
  let s := motors.foldl (fun (s : State) p => (s.setBit POS_STAT.BUSY p false).setPort p
    { s.port p with reqAt := none, cur := none, next := none }) s
  motors.foldl (fun s m => (s.wr (POS_VSTAT.VSTATE m) 6).setPos m { PosM.init with
    loadBy := (s.pos m).loadBy, initDue := (s.pos m).loadBy.isNone,
    softMin := (s.pos m).softMin, softMax := (s.pos m).softMax, drops := (s.pos m).drops, goods := (s.pos m).goods }) s

end Sys2Proof.Machine
end

