-- ==== Sys2Proof/Machine/Afe.lean ====
section
/-! DEFINITION. Commands of the analog front end (chapter Analog front end): sampling, conversion results, window comparators
and calibration. -/

namespace Sys2Proof.Machine

/-! ### The conversion sequence -/

/-- NSLOT of core `c` (R129). -/
def State.nslot (s : State) (c : Nat) : Nat :=
  match c with
  | 0 => s.rd AFE_NSLOT.NSLOT0 | 1 => s.rd AFE_NSLOT.NSLOT1 | 2 => s.rd AFE_NSLOT.NSLOT2 | _ => s.rd AFE_NSLOT.NSLOT3

/-- Channel of slot `j` of core `c` (R129). -/
def State.slotCh (s : State) (c j : Nat) : Nat :=
  match j with
  | 0 => s.rd (AFE_SEQ_A.SLOT0 c) | 1 => s.rd (AFE_SEQ_A.SLOT1 c) | 2 => s.rd (AFE_SEQ_A.SLOT2 c)
  | 3 => s.rd (AFE_SEQ_A.SLOT3 c) | 4 => s.rd (AFE_SEQ_A.SLOT4 c) | 5 => s.rd (AFE_SEQ_B.SLOT5 c)
  | 6 => s.rd (AFE_SEQ_B.SLOT6 c) | 7 => s.rd (AFE_SEQ_B.SLOT7 c) | 8 => s.rd (AFE_SEQ_B.SLOT8 c)
  | _ => s.rd (AFE_SEQ_B.SLOT9 c)

/-- Channels in the used slots of a core, in slot order. -/
def State.coreChannels (s : State) (c : Nat) : List Nat := (List.range (s.nslot c)).map (s.slotCh c)

/-- Channels in the sequence, core by core. -/
def State.seqChannels (s : State) : List Nat := [0, 1, 2, 3].flatMap s.coreChannels

/-- NCONV: the longest sequence of the four cores (R44, R129). -/
def State.nconv (s : State) : Nat := max (max (s.nslot 0) (s.nslot 1)) (max (s.nslot 2) (s.nslot 3))

/-- RDY_PHASE (R44). -/
def State.rdyPhase (s : State) : Nat := s.rd RAKE_SAMPLE.SAMPLE_PHASE + 40 * s.nconv + 16

/-- NCONV, RDY_PHASE and PREEMPT_PHASE as the status registers show them (R43, R44). -/
def State.showDerived (s : State) : State :=
  ((s.wr AFE_STAT.NCONV s.nconv).wr RAKE_DERIVED.RDY_PHASE s.rdyPhase).wr RAKE_DERIVED.PREEMPT_PHASE
    (s.rd RAKE_TSTART.TSTART - 64)

/-- No channel appears twice. -/
def distinctList : List Nat → Bool
  | [] => true
  | x :: r => !r.contains x && distinctList r

/-- The sequence is valid (R130). -/
def State.seqValid (s : State) : Bool :=
  ([0, 1, 2, 3].all fun c => decide (1 ≤ s.nslot c ∧ s.nslot c ≤ 10)) && (s.seqChannels.all fun n => decide (n ≤ 39))
    && distinctList s.seqChannels && decide (s.rdyPhase + 64 ≤ s.rd RAKE_TSTART.TSTART)

/-- The check of R130: a valid sequence runs unless STOP holds it, an invalid one leaves the AFE stopped. -/
def State.afeCheck (s : State) : State :=
  let s := s.showDerived
  if s.seqValid then s.setFlag AFE_STAT.RUNNING (s.running && !s.flag AFE_CTRL.STOP)
  else ((s.setFlag AFE_CTRL.STOP true).setFlag AFE_STAT.SEQ_ERR true).setFlag AFE_STAT.RUNNING false

/-- AFE_CTRL_STOP (R131): STOP written 1; refused while the half is in service, unless STOP is 1 already (R522). -/
def afeCtrlStop (s : State) : State :=
  if s.flag AFE_CTRL.STOP then s
  else if s.inService then s.ignored 0x800
  else (s.setFlag AFE_CTRL.STOP true).setFlag AFE_STAT.RUNNING false

/-- AFE_CTRL_RUN (R130): STOP written 0. -/
def afeCtrlRun (s : State) : State := (s.setFlag AFE_CTRL.STOP false).afeCheck

/-- OC_EN of the amplifiers as a bit mask. -/
def State.ocMask (s : State) : Nat :=
  (List.range 9).foldl (fun a k => a + if s.flag (AFE_AMP_CFG.OC_EN k) then 2 ^ k else 0) 0

/-- The comparator settings take effect (R136). DESIGN CHOICE for a comparator that is tripped meanwhile: OC_EN becoming 1 reports
nothing, since no trip occurs, and OC_EN becoming 0 leaves AFE_OC active until the output returns. -/
def State.takeComparators (s : State) : State :=
  { s with afe := { s.afe with
      ocEn := s.ocMask
      ocLim := (List.range 9).map fun k => (k, (s.rdInt (AFE_AMP_CFG.OC_LO k), s.rdInt (AFE_AMP_CFG.OC_HI k))) } }

/-- A start of the Rake (R130, R134, R136, R139): trims, the sequence check, the comparator settings, and no valley words. -/
def State.afeStart (s : State) : State :=
  let s := s.loadTrims
  let s := { s with afe := { s.afe with valley := [], held := [], effect := [], sinceWindow := 0, nextAmp := 0,
                                        window := none } }
  s.takeComparators.afeCheck

/-! ### Samples and results -/

/-- Calibration of a source as it takes effect at a SAMPLE_PHASE (R139, R140): (OFS, GAIN) fields. -/
def State.calNow (s : State) (i : Nat) : Nat × Nat :=
  if i < 9 then
    let ofs := if s.flag CE_MODE.AFECAL_H ∧ !s.afe.hostStale.contains i then s.rd (AFE_HOSTCAL.OFFSET i)
      else s.rd (AFE_AMP_CAL.OFS_CAL i)
    (ofs, s.rd (AFE_AMP_CAL.GAIN_CAL i))
  else (s.rd (AFE_CORE_CAL.OFS_CAL (i - 9)), s.rd (AFE_CORE_CAL.GAIN_CAL (i - 9)))

/-- SAMPLE (R43, R129): every channel in a sample-and-hold slot is captured; `codes` are the raw codes at the inputs, CH0
first. New calibration values take effect. -/
def sample (codes : List Nat) (s : State) : State :=
  let s := s.advanceTo (s.rd RAKE_SAMPLE.SAMPLE_PHASE)
  if s.flag AFE_STAT.RUNNING then
    let chs := [0, 1, 2, 3].flatMap fun c => (s.coreChannels c).take 4
    { s with afe := { s.afe with held := chs.foldl (fun l n => place l n (codes.getD n 0 % 16384)) [],
                                 effect := (List.range 13).map fun i => (i, s.calNow i) } }
  else s

/-- Channel `n` is converted as UNI (R133). -/
def State.isUni (s : State) (n : Nat) : Bool :=
  if n < 32 then (s.rd AFE_UNI0.UNI).testBit n else (s.rd AFE_UNI1.UNI).testBit (n - 32)

/-- Calibration source of a channel that core `c` converts: its amplifier, else the core (R138). -/
def calSource (n c : Nat) : Nat := if n < 9 then n else 9 + c

/-- The signed code of R133 and whether the result was clipped; OFS has 4 fraction bits and GAIN 14. -/
def convert (uni : Bool) (raw ofs gain : Nat) : Int × Bool :=
  let d : Int := (16 * ((raw : Int) - 8192) - signedOf 16 ofs) * gain
  let edge := raw = 0 ∨ raw = 16383
  let c := if uni then roundDiv (8192 * 262144 + d) 524288 else roundDiv d 262144
  let lim := clampInt (-8191) 8191 c
  if uni ∧ lim < 0 then (0, true) else (lim, decide (lim ≠ c) || decide edge)

/-- Mark a clipped result (R133). -/
def State.markClip (s : State) (n : Nat) (clipped : Bool) : State :=
  if clipped then (s.setBit (AFE_CLIP.CLIP (n / 32)) (n % 32) true).setFlag AFE_STAT.CLIP true else s

/-- A tick that begins at a peak repeats the valley results of CH0 to CH8 (R134). -/
def State.peakHold (s : State) : Bool :=
  s.flag RAKE_TICK.PWM_TICKS && s.rd RAKE_SAMPLE.SAMPLE_PHASE == 0 && s.flag RAKE_STAT.EXTREME && s.flag AFE_CTRL.PKHOLD

/-- The AFE writes the word of channel `n` to X and its mirror, and keeps what it wrote (R132, R134). -/
def State.writeChan (s : State) (n : Nat) (w : Word) : State :=
  State.writeXPair { s with afe := { s.afe with wrote := store s.afe.wrote 0 n w } } rankAfe (s.rd AFE_XBASE.XBASE * 4 + 4 * n) w

/-- The result of channel `n`: the word, or the repeated valley word (R134). -/
def State.putResult (s : State) (n : Nat) (w : Word) : State :=
  if n < 9 ∧ s.peakHold then s.writeChan n (lookup s.afe.valley 0 n)
  else
    let s := if n < 9 ∧ !s.flag RAKE_STAT.EXTREME then
        { s with afe := { s.afe with valley := store s.afe.valley 0 n w } } else s
    s.writeChan n w

/-- CONVERSION_COMPLETE (R129, R132, R133): slot `j` of core `c` ends. A slot from 4 on converts `raw`, sampled at its own
slot; a sample-and-hold slot converts what it holds. -/
def conversionComplete (c j raw : Nat) (s : State) : State :=
  if s.flag AFE_STAT.RUNNING ∧ j < s.nslot c then
    let s := s.advanceTo (s.rd RAKE_SAMPLE.SAMPLE_PHASE + 40 * (j + 1))
    let n := s.slotCh c j
    let code := if j < 4 then lookup s.afe.held 0 n else raw % 16384
    let cal := lookup s.afe.effect (s.calNow (calSource n c)) (calSource n c)
    let (v, clipped) := convert (s.isUni n) code cal.1 cal.2
    let s := (s.markClip n clipped).putResult n (BitVec.ofInt 32 (v * 262144))
    if n = 18 then s.busResult v else s
  else s

/-! ### Window comparators and calibration -/

/-- Comparator `k` is blanked by a calibration window (R137). -/
def State.comparatorBlank (s : State) (k : Nat) : Bool :=
  match s.afe.window with
  | some (w, t) => w == k && decide (s.now < t + 300)
  | none => false

/-- The window of comparator `k` as it is in effect, OC_LO and OC_HI in 1/128 of full scale (R136). -/
def State.ocWindow (s : State) (k : Nat) : Int × Int :=
  lookup s.afe.ocLim (signedOf 8 (AFE_AMP_CFG.OC_LO k).reset, signedOf 8 (AFE_AMP_CFG.OC_HI k).reset) k

/-- AFE_OC (R131, R136): the output of amplifier `k`, uncorrected and in 2⁻¹⁶ of full scale, has passed OC_FILT: it lies outside the
window and trips the comparator, or inside. The comparators run while D4 is on. -/
def afeOc (k : Nat) (out : Int) (s : State) : State :=
  let w := s.ocWindow k
  if !s.domOn 4 || s.comparatorBlank k then s
  else if out < 512 * w.1 ∨ 512 * w.2 < out then
    if s.bit AFE_OC_STAT.OC_LIVE k then s
    else
      let s := (s.setBit AFE_OC_STAT.OC k true).setBit AFE_OC_STAT.OC_LIVE k true
      if s.afe.ocEn.testBit k then s.raise srcAfeOc k else s
  else (s.setBit AFE_OC_STAT.OC_LIVE k false).lower srcAfeOc k

/-- A measurement of R139 in the register formats: OFS in 1/16 LSB and GAIN in 1/16,384, or none where it is discarded. -/
def accepted (ofsNum ofsDen gainNum gainDen : Int) : Bool :=
  decide (0 < gainDen ∧ ofsNum ≤ 256 * ofsDen ∧ -(256 * ofsDen) ≤ ofsNum ∧ 7 * gainDen ≤ 8 * gainNum
    ∧ 8 * gainNum ≤ 9 * gainDen)

/-- One filter step of R139: the old value plus the rounded part of the measurement's difference; `num` over `den` is the
measurement in the register's units. -/
def filterStep (old num : Int) (den : Int) (shift : Nat) : Int := old + roundDiv (num - old * den) (den.toNat * 2 ^ shift)

/-- The value CAL_SHIFT stands for. -/
def State.calShift (s : State) : Nat := min 8 (s.rd AFE_CAL_CFG.CAL_SHIFT)

/-- An accepted or discarded measurement of one source (R139): OFS_M = ofsNum / ofsDen LSB, GAIN_M = gainNum / gainDen. -/
def State.measured (s : State) (ofs gain : Fld) (ofsNum ofsDen gainNum gainDen : Int) : State :=
  if accepted ofsNum ofsDen gainNum gainDen then
    let s := s.wrInt ofs (filterStep (s.rdInt ofs) (16 * ofsNum) ofsDen s.calShift)
    let s := s.wrInt gain (filterStep (s.rd gain) (16384 * gainNum) gainDen s.calShift)
    s.countWrap AFE_CAL_CNT.CAL_OK_CNT
  else ((s.count AFE_CAL_CNT.CAL_REJ_CNT).setFlag AFE_STAT.CAL_REJ true).report srcAfeCal 0

/-- Core that converts channel `n`. -/
def State.coreOf (s : State) (n : Nat) : Option Nat := [0, 1, 2, 3].find? fun c => (s.coreChannels c).contains n

/-- The amplifier a window serves (R138): the next in round-robin order whose CAL_EN is set, whose channel is in the sequence
and whose comparator is not tripped. -/
def State.calAmp (s : State) : Option Nat :=
  ((List.range 9).map fun d => (s.afe.nextAmp + d) % 9).find? fun k =>
    s.flag (AFE_AMP_CFG.CAL_EN k) && s.seqChannels.contains k && !s.bit AFE_OC_STAT.OC_LIVE k

/-- CAL_PHASE leaves room for a window (R138). -/
def State.calFits (s : State) : Bool :=
  decide (s.rdyPhase ≤ s.rd AFE_CAL_CFG.CAL_PHASE ∧
    s.rd AFE_CAL_CFG.CAL_PHASE + 300 + 64 ≤ s.rd RAKE_TICK.TICK_PERIOD + s.rd RAKE_SAMPLE.SAMPLE_PHASE)

/-- A window's ten conversions turned into measurements (R137, R139). -/
def State.takeWindow (s : State) (k : Nat) (x : CalMeas) : State :=
  let own := s.coreOf k
  let s := s.measured (AFE_AMP_CAL.OFS_CAL k) (AFE_AMP_CAL.GAIN_CAL k) ((x.short : Int) - 8192) 1 4096
    ((x.ref : Int) - x.short)
  [0, 1, 2, 3].foldl (fun s c =>
    if own = some c then s
    else
      let a : Int := x.quarter.getD c 0
      let b : Int := x.threeQuarter.getD c 0
      s.measured (AFE_CORE_CAL.OFS_CAL c) (AFE_CORE_CAL.GAIN_CAL c) (a + b - 16384) 2 8192 (b - a)) s

/-- CALIBRATION_WINDOW (R137 to R139): CAL_PHASE of a tick in which a window is due. DESIGN CHOICE where no amplifier can be served: no
window opens, the count of CAL_EVERY restarts and CAL_SKIP stays as it is. DESIGN CHOICE for where CAL_EVERY counts from: from the start of
the Rake and from the last window, through ticks with CAL_EN = 0 or the AFE stopped too, so that a window may open in the tick in which
they end. -/
def calibrationWindow (x : CalMeas) (s : State) : State :=
  if s.flag AFE_CTRL.CAL_EN ∧ s.flag AFE_STAT.RUNNING ∧ max 1 (s.rd AFE_CAL_CFG.CAL_EVERY) ≤ s.afe.sinceWindow then
    let s := s.advanceTo (s.rd AFE_CAL_CFG.CAL_PHASE)
    let s := { s with afe := { s.afe with sinceWindow := 0 } }
    if s.calFits then
      match s.calAmp with
      | some k =>
        ({ s with afe := { s.afe with nextAmp := (k + 1) % 9, window := some (k, s.now) } }).takeWindow k x
      | none => s
    else s.setFlag AFE_STAT.CAL_SKIP true
  else s

/-- HOSTCAL_TIMEOUT (R140): the host offset of amplifier `k` was not written for HOSTCAL_TMO ticks. -/
def hostcalTimeout (k : Nat) (s : State) : State :=
  if s.flag CE_MODE.AFECAL_H ∧ max 1 (s.rd AFE_HOSTCAL_CFG.HOSTCAL_TMO) ≤ lookup s.afe.hostAge 0 k then
    { s.setFlag AFE_STAT.HOSTCAL_STALE true with
      afe := { s.afe with hostStale := if s.afe.hostStale.contains k then s.afe.hostStale else s.afe.hostStale ++ [k] } }
  else s

/-- A write of AFE_HOSTCALk (R140): the offset is fresh again. -/
def State.hostcalWritten (s : State) (k : Nat) : State :=
  { s with afe := { s.afe with hostAge := erase s.afe.hostAge k, hostStale := s.afe.hostStale.filter (· != k) } }

/-- AFE at a tick boundary: OC_EN takes effect (R136), window and host ages count, and a half in service with the AFE stopped
raises AFE_STOP (R131). -/
def State.afeBoundary (s : State) : State :=
  let s := s.takeComparators
  let s := { s with afe := { s.afe with sinceWindow := s.afe.sinceWindow + 1,
                                        hostAge := (List.range 9).map fun k => (k, lookup s.afe.hostAge 0 k + 1) } }
  if s.inService ∧ !s.flag AFE_STAT.RUNNING then s.report srcAfeStop 0 else s

end Sys2Proof.Machine
end

