-- ==== Sys2Proof/Machine/Brine.lean ====
section
/-! DEFINITION. Commands of the Brine link (chapter Brine link): link states, the per-tick frame, command frames and the sending
of bulk units. -/

namespace Sys2Proof.Machine

/-! ### Link states -/

def linkDown := 0
def linkTrain := 1
def linkConfirm := 2
def linkUp := 3
def linkDisabled := 4

/-- The link state (R396). -/
def State.link (s : State) : Nat := s.rd BRINE_STAT.LINK

/-- Frames are sent and judged: CONFIRM or UP (R399). -/
def State.linkFrames (s : State) : Bool := s.link == linkConfirm || s.link == linkUp

/-- Show the credits and units of a class. -/
def State.setCredit (s : State) (trace : Bool) (n : Nat) : State :=
  if trace then s.wr BRINE_BULK.TX_CRED1 n else s.wr BRINE_BULK.TX_CRED0 n

/-- Credits held of a class (R405). -/
def State.credit (s : State) (trace : Bool) : Nat :=
  if trace then s.rd BRINE_BULK.TX_CRED1 else s.rd BRINE_BULK.TX_CRED0

/-- The outstanding command frame fails (R404). -/
def State.failCommand (s : State) : State :=
  { s.setFlag BRINE_EVT.CMD_FAIL true with brine := { s.brine with cmdOut := none, cmdFailed := true } }

/-- Remove the frame at the head of the crossing queue from the transit pool. -/
def dropCrossing : List Transit → List Transit
  | [] => []
  | t :: r => if t.toBrine then r else t :: dropCrossing r

/-! ### The transmitter (R393, R404, R406) -/

/-- A waiting frame that goes before bulk units: a command frame or its answer (R404). -/
def Sent.first : Sent → Bool
  | .command _ => true
  | _ => false

/-- Wait from now to the first symbol boundary of the lanes, in steps of 312.5 ps (R400). -/
def State.symbolWait (s : State) : Nat := (s.brine.grid + 40 - 8 * s.now % 40) % 40

/-- What is on the lanes at time `now` in steps of 312.5 ps, what still waits, and what has begun to leave: a frame begins when the one before it
has ended. -/
def runTx (now : Nat) : List (Sent × Nat) → Option TxSpan → Option TxSpan × List (Sent × Nat) × List Sent
  | [], some sp => if sp.until_ ≤ now then (none, [], []) else (some sp, [], [])
  | (x, n) :: r, some sp =>
    if sp.until_ ≤ now then
      let (sp, w, out) := runTx now r (some ⟨sp.until_, n, sp.until_ + 40 * n⟩)
      (sp, w, x :: out)
    else (some sp, (x, n) :: r, [])
  | w, none => (none, w, [])

/-- Bring the transmitter up to the present CEC. -/
def State.txRun (s : State) : State :=
  let (sp, w, out) := runTx (8 * s.now) s.brine.txWait s.brine.span
  { s with brine := { s.brine with span := sp, txWait := w }, wire := s.wire ++ out }

/-- Enter a waiting frame: command frames before bulk units, else in order. -/
def enterWait (x : Sent × Nat) : List (Sent × Nat) → List (Sent × Nat)
  | [] => [x]
  | y :: r => if x.1.first && !y.1.first then x :: y :: r else y :: enterWait x r

/-- Send a frame of `n` symbols on each lane: from the next symbol boundary while the lanes are idle, else after what is being sent and
waits. -/
def State.launch (s : State) (x : Sent) (n : Nat) : State :=
  let s := s.txRun
  match s.brine.span with
  | none =>
    let at_ := 8 * s.now + s.symbolWait
    { s with brine := { s.brine with span := some ⟨at_, n, at_ + 40 * n⟩ }, wire := s.wire ++ [x] }
  | some _ => { s with brine := { s.brine with txWait := enterWait (x, n) s.brine.txWait } }

/-- Bytes striped across the lanes: byte 2k on lane 0, byte 2k + 1 on lane 1 (R393). -/
def stripe : List Byte → List LaneSlot
  | a :: b :: r => (.d a, .d b) :: stripe r
  | _ => []

/-- A frame on the lanes: its start symbol, its bytes and K29.7 (R394). -/
def frameSlots (start : Sym) (b : List Byte) : List LaneSlot := (start, start) :: (stripe b ++ [(.k297, .k297)])

/-- Symbols of a frame of `n` bytes on each lane, with its start and end symbols (R393, R394). -/
def frameSymbols (n : Nat) : Nat := n / 2 + 2

/-- Send a frame of bytes. -/
def State.sendFrame (s : State) (x : List LaneSlot → Sent) (start : Sym) (b : List Byte) : State :=
  s.launch (x (frameSlots start b)) (frameSymbols b.length)

/-! ### The receiver (R393 to R395, R406) -/

/-- Symbols of a slot outside frames that R394 counts: what is no idle symbol, no data and not silent. Credit sets and training sets come by
commands of their own. -/
def gapErrors (p : LaneSlot) : Nat :=
  let wrong (x : Sym) : Nat := match x with
    | .d _ | .k285 | .quiet => 0
    | _ => 1
  wrong p.1 + wrong p.2

/-- Symbols of a slot of a frame that are not what their place asks: the control symbol `want`, or data. -/
def placeErrors (want : Option Sym) (p : LaneSlot) : Nat :=
  let wrong (x : Sym) : Nat := match want, x with
    | none, .d _ => 0
    | none, _ => 1
    | some k, x => if x = k then 0 else 1
  wrong p.1 + wrong p.2

/-- Symbol errors of a frame of `n` bytes (R394). DESIGN CHOICE: a frame with too few or too many slots has one error more. -/
def frameErrors (start : Sym) (n : Nat) (slots : List LaneSlot) : Nat :=
  let want := some start :: (List.replicate (n / 2) none ++ [some .k297])
  ((want.zip slots).map fun x => placeErrors x.1 x.2).foldl (· + ·) 0 + if slots.length = frameSymbols n then 0 else 1

/-- The slots of an interrupted frame without K28.6 (R406): a frame is interrupted at most once. -/
def dropResume : List LaneSlot → List LaneSlot
  | [] => []
  | p :: r => if p = (.k286, .k286) then r else p :: dropResume r

/-- The bytes in slots (R393): a symbol that is no data gives none. -/
def laneBytes (slots : List LaneSlot) : List (Option Byte) :=
  let byte (x : Sym) : Option Byte := match x with
    | .d b => some b
    | _ => none
  slots.flatMap fun p => [byte p.1, byte p.2]

/-- The receivers of the half work: D11 on, the link not DISABLED (R395, R396). -/
def State.linkHears (s : State) : Bool := s.domOn 11 && s.link != linkDisabled

/-- Count symbol errors (R394). -/
def State.codeErrors (s : State) : Nat → State
  | 0 => s
  | n + 1 => ((s.count BRINE_CNT1.CODE_CNT).setFlag BRINE_EVT.CODE true).codeErrors n

/-- Activity of the lanes, as the last slot of what is received shows it (R395). -/
def State.showActivity (s : State) (slots : List LaneSlot) : State :=
  match slots.getLast? with
  | some p => (s.setFlag BRINE_STAT.SIG0 (p.1 != .quiet)).setFlag BRINE_STAT.SIG1 (p.2 != .quiet)
  | none => s

/-- Where the frame begins in received slots: at its start symbol on both lanes. -/
def fromStart (start : Sym) (slots : List LaneSlot) : List LaneSlot := slots.dropWhile (· != (start, start))

/-- The slots of the frame in received slots; a command frame or bulk unit may have been interrupted (R406). -/
def frameIn (start : Sym) (slots : List LaneSlot) : List LaneSlot :=
  if start = .k277 then fromStart start slots else dropResume (fromStart start slots)

/-- Symbol errors in received slots: outside the frame and in it. -/
def symbolErrors (start : Sym) (n : Nat) (slots : List LaneSlot) : Nat :=
  ((slots.takeWhile (· != (start, start))).map gapErrors).foldl (· + ·) 0
    + if frameIn start slots = [] then 0 else frameErrors start n (frameIn start slots)

/-- What the lanes bring, from the last command on, to the end of a frame: activity and symbol errors. -/
def State.hear (s : State) (start : Sym) (n : Nat) (slots : List LaneSlot) : State :=
  if s.linkHears then (s.showActivity slots).codeErrors (symbolErrors start n slots) else s

/-- The bytes of a frame that came with valid symbols and framing (R394). -/
def heardFrame (start : Sym) (n : Nat) (slots : List LaneSlot) : Option (List Byte) :=
  let f := frameIn start slots
  if f ≠ [] ∧ frameErrors start n f = 0 then some ((laneBytes ((f.drop 1).take (n / 2))).filterMap id) else none

/-- Launch the per-tick frame (R400, R406) at the first symbol boundary: LOFS is the wait for it. Where a frame is being sent, that is after
the symbol in progress, and the rest of that frame follows the per-tick frame after K28.6. -/
def State.launchPerTick (s : State) (bytes : Nat → List Byte) : State :=
  let s := s.txRun
  let lofs := s.symbolWait
  let at_ := 8 * s.now + lofs
  let frame := Sent.perTick (frameSlots .k277 (bytes lofs))
  let alone : State := { s with brine := { s.brine with span := some ⟨at_, 66, at_ + 2640⟩ }, wire := s.wire ++ [frame] }
  match s.brine.span with
  | none => alone
  | some sp =>
    let sent := (at_ - sp.begin_) / 40
    if sent < sp.symbols then
      { s with brine := { s.brine with span := some { sp with begin_ := sp.begin_ + 2680, until_ := sp.until_ + 2680 } },
               wire := s.wire ++ [.cut sent, frame, .resume] }
    else alone

/-- Discard what is in flight when the link leaves UP (R399, R408). -/
def State.dropFlight (s : State) : State :=
  let s := if s.brine.cmdOut.isSome then s.failCommand else s
  let s := if s.brine.txUnits = [] then s
    else State.showTransit { s with pan := { s.pan with transit := dropCrossing s.pan.transit } }
  let s : State := { s with brine := { s.brine with txUnits := [], rxBytes := [], rxWait := [], span := none, txWait := [] } }
  (s.showTransit.wr BRINE_BULK.RX_USED0 0).wr BRINE_BULK.RX_USED1 0

/-- Take the last wake pattern back. -/
def dropWake (w : List Sent) : List Sent :=
  match w.reverse with
  | .wake :: r => r.reverse
  | _ => w

/-- A wake pattern of the CEC in which UP is entered is not sent, and sets WR_IGN (R408). -/
def State.wakeMeetsUp (s : State) : State :=
  if s.brine.wakeAt = some s.now then
    State.ignored { s with wire := dropWake s.wire, brine := { s.brine with wakeAt := none } } 0x2800
  else s

/-- Enter a link state (R396, R397). -/
def State.enterLink (s : State) (st : Nat) : State :=
  let s := if s.link = linkUp ∧ st ≠ linkUp then s.dropFlight else s
  let s := (s.wr BRINE_STAT.LINK st).setFlag SAFE_RSTAT.LINK_UP (st == linkUp)
  let s := { s with brine := { s.brine with lossDue := false, goodRun := 0 } }
  if st = linkTrain then
    let (grid, s) := s.draw
    let (token, s) := s.draw
    { s.count BRINE_DLY.TRAIN_CNT with brine := { s.brine with
        trainAt := s.now, grid := grid % 40, token := token % 256, aligned := false, measured := false, peerDone := false } }
  else if st = linkConfirm then s.wr BRINE_STAT.LOST_RUN 0
  else if st = linkUp then (((s.setFlag BRINE_EVT.UP true).setCredit false 16).setCredit true 16).wakeMeetsUp
  else { s with brine := { s.brine with rx := none } }

/-- BRINE_ENABLE (R395, R396, R408): a write of EN; ignored in service, and always on an HX961-S. -/
def brineEnable (en : Bool) (s : State) : State :=
  if s.part = .hx961s ∨ s.inService then s.ignored 0x2800
  else
    let s := s.setFlag BRINE_CTRL.EN en
    if en then (if s.link = linkDisabled then s.enterLink linkDown else s)
    else if s.link = linkDisabled then s else s.enterLink linkDisabled

/-- RETRAIN (R397): a write of 1; ignored in service, and always on an HX961-S. -/
def retrain (s : State) : State :=
  if s.part = .hx961s ∨ s.inService then s.ignored 0x2800
  else if s.link = linkDisabled then s
  else s.enterLink linkDown

/-- The half number that training sets and frames carry (R397, R401). -/
def State.halfNumber (s : State) : Nat := match s.halfId with | .a => 0 | .b => 1

/-- The half's training set (R397), with an echo token. -/
def State.ownSet (s : State) (token : Nat) : TrainSet := ⟨s.halfNumber, s.brine.aligned && s.brine.measured, token⟩

/-- BEACON (R396): in DOWN, training sets for 2 µs; their token is a free value. -/
def beacon (s : State) : State :=
  if s.link = linkDown ∧ s.domOn 11 then
    let (t, s) := s.draw
    { s with wire := s.wire ++ [.beacon (s.ownSet (t % 256))] }
  else s

/-- LINK_DLY of a round trip in steps of 312.5 ps: half of it without the partner's turnaround of 8 symbols; half a step is cut off
(DESIGN CHOICE). -/
def linkDelay (trip : Nat) : Nat := (trip - 8 * 40) / 2

/-- A training set that both lanes brought in TRAIN (R397): the lanes are aligned, and the set shows the partner's step. Its token is the
own one come back, `trip` steps of 312.5 ps after it left, or the partner's, whose echo leaves after 8 symbols. -/
def State.takeSet (s : State) (x : TrainSet) (trip : Nat) : State :=
  let s := { s with brine := { s.brine with aligned := true, peerDone := x.done } }
  if x.token ≠ s.brine.token then { s with wire := s.wire ++ [.training (s.ownSet x.token) 8] }
  else if s.brine.measured then s
  else
    let s := { s.wr BRINE_DLY.LINK_DLY (linkDelay trip) with brine := { s.brine with measured := true } }
    { s with wire := s.wire ++ [.training (s.ownSet s.brine.token) 0] }

/-- TRAINING_SET_RX (R394, R396, R397): what the lanes bring: a training set, or none on a lane without activity, and `wrong` symbol
errors. -/
def trainingSetRx (lane0 lane1 : Option TrainSet) (trip wrong : Nat) (s : State) : State :=
  if s.domOn 11 then
    let s := if s.linkHears then s.codeErrors wrong else s
    let s := (s.setFlag BRINE_STAT.SIG0 lane0.isSome).setFlag BRINE_STAT.SIG1 lane1.isSome
    if s.link = linkDown ∧ lane0.isSome ∧ lane1.isSome then
      let s := s.enterLink linkTrain
      { s with wire := s.wire ++ [.training (s.ownSet s.brine.token) 0] }
    else match lane0, lane1 with
      | some x, some y => if s.link = linkTrain ∧ x = y then s.takeSet x trip else s
      | _, _ => s
  else s

/-- TRAIN_DONE (R397): both lanes aligned, the delay measured, and the partner's step shows the same. -/
def trainDone (s : State) : State :=
  if s.link = linkTrain ∧ s.brine.aligned ∧ s.brine.measured ∧ s.brine.peerDone then s.enterLink linkConfirm else s

/-- TRAIN_TIMEOUT (R396): 1 ms in TRAIN. -/
def trainTimeout (s : State) : State :=
  if s.link = linkTrain ∧ cecPerMs ≤ s.now - s.brine.trainAt then s.enterLink linkDown else s

/-- The wake pattern leaves (R407): D11 on and the link not UP. -/
def State.sendWake (s : State) : State :=
  if s.domOn 11 && s.link != linkUp then { s with wire := s.wire ++ [.wake], brine := { s.brine with wakeAt := some s.now } } else s

/-- WAKE_TX (R407, R408): a write of 1; ignored in UP and on an HX961-S. -/
def wakeTx (s : State) : State :=
  if s.part = .hx961s ∨ s.link = linkUp then s.ignored 0x2800 else s.sendWake

/-! ### The per-tick frame, sending -/

/-- The STATE byte of R401, but for HELD. -/
def State.stateByte (s : State) : Nat :=
  s.copy % 8 + (if s.inService then 8 else 0) + (if s.rd RAKE_STAT.LOCK_STATE = 2 then 32 else 0)

/-- A transmit-block word (R402). -/
def State.txWord (s : State) (i : Nat) : Word := s.xWord (s.rd BRINE_XMAP.TXBASE * 128 + 4 * i)

/-- Both copies of every word of the transmit block agree (R402). -/
def State.txAgrees (s : State) : Bool :=
  (List.range 24).all fun i => s.txWord i == s.xWord (mirrorOf (s.rd BRINE_XMAP.TXBASE * 128 + 4 * i))

/-- A share as a Q1.31 word, in which 1 reads as 2³¹ − 1 (R272), and back. -/
def shareWord (x : Nat) : Nat := min 2147483647 x
def shareOfWord (w : Nat) : Nat := if 2147483647 ≤ w then oneShare else w

/-- SPLIT of a motor's entry (R401): half A's committed split, half B's share. -/
def State.splitWord (s : State) (m : Nat) : Nat :=
  match s.halfId with
  | .a => if s.shareSrc m = 1 then shareWord (s.chan m).splitLast else 0
  | .b => shareWord (s.limpShare m (s.chan m).share)

/-- Bytes 0x10 to 0x7B from the transmit block (R401). -/
def State.txBody (s : State) : List Byte :=
  let word (i : Nat) : List Byte := leBytes 4 (s.txWord i).toNat
  (motors.flatMap fun m => ((List.range 6).flatMap fun j => word (7 * m + j)) ++ leBytes 4 (s.splitWord m) ++ word (7 * m + 6))
    ++ word 21 ++ word 22 ++ word 23

/-- BRINE at OUT_PHASE (R401, R402): the words of a tick that commits, or those of the frame before with HELD. -/
def State.brineOut (s : State) (commit : Bool) : State :=
  let s := if s.txAgrees ∨ !s.domOn 11 then s else s.setFlag BRINE_EVT.XREC true
  let held := !commit || !s.txAgrees
  let body := if held then s.brine.txData else s.txBody
  { s with brine := { s.brine with txData := body, txState := s.stateByte + if held then 16 else 0 },
           out := { s.out with txHeld := held } }

/-- The header of a per-tick frame (R401). -/
def State.frameHeader (s : State) (alive lofs : Nat) : List Byte :=
  dataOf [(1, 1), (1, alive), (1, s.brine.txState), (1, s.halfNumber),
    (2, s.rd RAKE_TICK.TICK_PERIOD), (2, s.rd RAKE_BRINE.BRINE_PHASE),
    (1, s.rd RAKE_TICK.PWM_TICKS + 2 * s.rd RAKE_STAT.EXTREME), (1, lofs), (2, s.tick), (4, 0)]

/-- BRINE_EXCHANGE (R400, R401, R406): the frame leaves at the first symbol boundary from BRINE_PHASE on. -/
def brineExchange (s : State) : State :=
  let s := s.advanceTo (s.rd RAKE_BRINE.BRINE_PHASE)
  if s.linkFrames then
    let alive := (s.rd BRINE_STAT.TX_ALIVE + 1) % 256
    let bytes (off : Nat) : List Byte :=
      let b := s.frameHeader alive off ++ s.brine.txData
      b ++ leBytes 4 (crc32c b)
    (s.wr BRINE_STAT.TX_ALIVE alive).launchPerTick bytes
  else s

/-! ### The per-tick frame, receiving -/

/-- A little-endian number in a received frame. -/
def frameNat (b : List Byte) (o n : Nat) : Nat := leNat ((b.drop o).take n)

/-- Half B follows half A's split (R299). -/
def State.followsSplit (s : State) (m : Nat) : Bool := s.halfId == .b && s.shareSrc m == 1 && s.copy == 0

/-- Half B takes a split: it acts in the tick the frame serves, at once where that tick has begun (R299). -/
def State.useSplit (s : State) (m split tick : Nat) : State :=
  let s := s.setChan m { s.chan m with splitLast := split, splitKnown := true, splitStart := none }
  if tick = s.tick then (s.shareBoundary m).limitRecord m else s

/-- Half B takes the split of an accepted frame, and gives it back where the frame proves late (R299). -/
def State.takeSplit (s : State) (b : List Byte) (tick m : Nat) : State :=
  if s.followsSplit m then
    (s.setChan m { s.chan m with splitPrev := s.splitNow m (s.chan m) }).useSplit m (shareOfWord (frameNat b (0x28 + 32 * m) 4)) tick
  else s
def State.undoSplit (s : State) (tick m : Nat) : State :=
  if s.followsSplit m then s.useSplit m (s.chan m).splitPrev tick else s

/-- Partner data of an accepted frame for the vote (R152, R401). -/
def partnerOf (b : List Byte) (m : Nat) : PosPartner :=
  { angle := frameNat b (0x10 + 32 * m) 4, speed := signedOf 32 (frameNat b (0x14 + 32 * m) 4),
    valid := frameNat b (0x2C + 32 * m) 1 % 2 == 1 }

/-- An accepted frame (R398, R399, R152, R299, R366): `tick` is the tick whose TSTART it serves; one that is complete from TSTART − 16 on
comes too late for the vote (R152). -/
def State.acceptFrame (s : State) (b : List Byte) (tick : Nat) (late : Bool) : State :=
  let alive := frameNat b 1 1
  let s := if s.brine.heard && alive != (s.rd BRINE_STAT.RX_ALIVE + 1) % 256 then s.setFlag BRINE_EVT.SKIP true else s
  let s := (s.wr BRINE_STAT.RX_ALIVE alive).wr BRINE_STAT.LOST_RUN 0
  let s := { s with brine := { s.brine with rx := some (b, tick), got := some tick, heard := true } }
  let s := s.takeFrame ((frameNat b 2 1).testBit 3) (frameNat b 2 1 % 8)
  let s := motors.foldl (fun s m => s.takeSplit b tick m) s
  let s := if late then s.setFlag POS_STAT.PART_LATE true
    else { s with posPartner := motors.map fun m => (m, partnerOf b m), partnerAt := some tick }
  if s.link = linkConfirm then
    let s : State := { s with brine := { s.brine with goodRun := s.brine.goodRun + 1 } }
    if 8 ≤ s.brine.goodRun then s.enterLink linkUp else s
  else s

/-- A CRC or format failure of a frame (R398). -/
def State.crcError (s : State) : State := (s.count BRINE_CNT0.CRC_CNT).setFlag BRINE_EVT.CRC true

/-- A late frame (R58). -/
def State.brineLate (s : State) : State := s.setFlag RAKE_EVT.BRINE_LATE true

/-- The first CEC of the write of R403 for a frame complete at CEC `c`: at once before TSTART, from OUT_PHASE after it. -/
def State.writeStart (s : State) (c : Nat) : Nat :=
  if c < s.rd RAKE_TSTART.TSTART then c else max c (s.rd RAKE_OUT.OUT_PHASE)

/-- A whole per-tick frame whose last symbol came 8 CEC ago (R398, R403): its write takes 32 CEC, and its tick is the one whose TSTART comes
next. A frame that is not accepted counts as lost at that TSTART. -/
def State.judgePerTick (s : State) (b : List Byte) : State :=
  let tstart := s.rd RAKE_TSTART.TSTART
  let tick := if s.cec < tstart then s.tick else (s.tick + 1) % 2 ^ 32
  let due := if s.cec < tstart then tstart else s.rake.tickLen + tstart
  let written := s.writeStart s.cec + 32
  if frameNat b 0x7C 4 ≠ crc32c (b.take 0x7C) then s.crcError
  else
  let s : State := { s with brine := { s.brine with valid := some tick } }
  if frameNat b 0 1 ≠ 1 ∨ frameNat b 0x0C 4 ≠ 0 then s.crcError
  else if frameNat b 3 1 ≠ 1 - s.halfNumber then s.setFlag BRINE_EVT.SELF true
  else if s.brine.heard ∧ frameNat b 1 1 = s.rd BRINE_STAT.RX_ALIVE then s.setFlag BRINE_EVT.STALE true
  else if frameNat b 4 2 ≠ s.rd RAKE_TICK.TICK_PERIOD ∨ frameNat b 8 1 % 2 ≠ s.rd RAKE_TICK.PWM_TICKS then
    (s.setFlag RAKE_EVT.PERIOD_MM true).brineLate
  else
  let s : State := { s with brine := { s.brine with peer := some (frameNat b 6 2, frameNat b 9 1) } }
  if due < written then s.brineLate else s.acceptFrame b tick (decide (due < written + 16))

/-- PER_TICK_FRAME_RX (R394, R398): the last symbol of `slots` arrives at CEC `at_` of the tick; the CRC is checked in the 8 CEC after it
(R403). Outside CONFIRM and UP nothing is judged. -/
def perTickFrameRx (slots : List LaneSlot) (at_ : Nat) (s : State) : State :=
  let s := s.hear .k277 128 slots
  if !s.linkFrames || !s.running then s
  else
    let s := s.advanceTo (at_ + 8)
    match heardFrame .k277 128 slots with
    | some b => s.judgePerTick b
    | none => s

/-- Write the 32 words of a frame to the receive block and their mirrors (R403). -/
def State.writeFrame (s : State) (b : List Byte) : State :=
  (List.range 32).foldl (fun s i =>
    s.setXPair (s.rd BRINE_XMAP.RXBASE * 128 + 4 * i) (BitVec.ofNat 32 (frameNat b (4 * i) 4))) s

/-- BRINE_RX_XWRITE (R403): the accepted frame is written, from OUT_PHASE on where it came before; a write that would not end
by TSTART − 1 writes nothing, and the frame is late. -/
def brineRxXwrite (s : State) : State :=
  match s.brine.rx with
  | none => s
  | some (b, t) =>
    let s := { s with brine := { s.brine with rx := none } }
    let start := s.writeStart s.cec
    let tstart := s.rd RAKE_TSTART.TSTART
    if (t = s.tick ∧ start + 32 ≤ tstart) ∨ (t = (s.tick + 1) % 2 ^ 32 ∧ tstart ≤ start) then
      let s := ((s.advanceTo start).writeFrame b)
      { s with brine := { s.brine with written := some t } }
    else motors.foldl (fun s m => s.undoSplit t m) { s.brineLate with brine := { s.brine with got := none }, partnerAt := none }

/-- The ticks of a half B whose frame is late or lost keep the share, and count (R299). -/
def State.holdSplit (s : State) (m : Nat) : State :=
  if s.followsSplit m then s.count (FIELD_CNT.SPLIT_HOLD_CNT m) else s

/-- A frame is lost for its tick (R398, R399): the third in a row takes the link to DOWN at the next boundary. -/
def State.lostFrame (s : State) : State :=
  let s := s.count BRINE_CNT0.LOST_CNT
  let s := s.count BRINE_STAT.LOST_RUN
  let s := { s with brine := { s.brine with goodRun := 0 } }
  if s.rd BRINE_STAT.LOST_RUN = 3 then
    let s := { s with brine := { s.brine with lossDue := true } }
    if s.link = linkUp then (s.setFlag BRINE_EVT.LOSS true).report srcBrineLoss 0 else s
  else s

/-- BRINE_FRAME_MISSING (R58, R403): TSTART − 1 without a frame written since the last TSTART: word 0 reads 0, and where no frame
was accepted for the tick it counts as lost; without a complete, CRC-valid frame for the tick it is late. -/
def brineFrameMissing (s : State) : State :=
  if !s.running || !s.domOn 11 then s
  else
    let s := s.advanceTo (s.rd RAKE_TSTART.TSTART - 1)
    if s.brine.written = some s.tick then s
    else
      let s := s.setXPair (s.rd BRINE_XMAP.RXBASE * 128) 0
      if s.linkFrames && s.brine.got != some s.tick then 
        let s := if s.brine.valid = some s.tick then s else s.brineLate
        (motors.foldl State.holdSplit s).lostFrame
      else s

/-- BRINE at a tick boundary (R399). -/
def State.brineBoundary (s : State) : State :=
  if s.brine.lossDue && s.linkFrames then s.enterLink linkDown
  else { s with brine := { s.brine with lossDue := false } }

/-! ### Command frames -/

/-- The bytes of a command frame (R404). -/
def commandBytes (seq code flags : Nat) (payload : List Byte) : List Byte :=
  let b := dataOf [(1, 2), (1, seq), (1, code), (1, flags)] ++ (payload ++ List.replicate 24 0).take 24
  b ++ leBytes 4 (crc32c b)

/-- The MP posts a command frame (R404): outside UP it fails at once, and only one may be outstanding. -/
def State.postCommand (s : State) (code : Nat) (payload : List Byte) : State :=
  if s.link ≠ linkUp then s.failCommand
  else if s.brine.cmdOut.isSome ∨ s.pwr.stopped.contains 3 then s
  else
    let seq := (s.brine.cmdSeq + 1) % 256
    let b := commandBytes seq code 0 payload
    State.sendFrame { s with brine := { s.brine with cmdSeq := seq, cmdOut := some ⟨b, 0, s.tick⟩, cmdFailed := false } }
      .command .k282 b

/-- COMMAND_FRAME_TX (R404). -/
def commandFrameTx (code : Nat) (payload : List Byte) (s : State) : State := s.postCommand code payload

/-- Answer a command frame ACK or NAK (R404): a command frame of its SEQ with FLAGS [0] or [1]. The spec gives its CODE and payload no content:
free values. -/
def State.answerCommand (s : State) (seq : Nat) (ok : Bool) : State :=
  let (code, s) := s.draw
  let (payload, s) := s.drawBytes 24
  s.sendFrame .command .k282 (commandBytes seq (code % 256) (if ok then 1 else 2) payload)

/-- A command frame other than an answer (R404): delivered once, and answered ACK or NAK. -/
def State.deliverCommand (s : State) (b : List Byte) : State :=
  let seq := frameNat b 1 1
  if s.brine.cmdSeen = some seq then s.answerCommand seq true
  else if s.brine.cmdQueue.length < 4 then
    State.answerCommand { s with brine := { s.brine with cmdSeen := some seq, cmdQueue := s.brine.cmdQueue ++ [b] } } seq true
  else s.answerCommand seq false

/-- Repeat the outstanding command frame, or fail it after three repeats (R404). -/
def State.repeatCommand (s : State) (c : CmdOut) : State :=
  if 3 ≤ c.tries then s.failCommand
  else
    let s := s.count BRINE_CNT1.CMD_RETRY_CNT
    State.sendFrame { s with brine := { s.brine with cmdOut := some { c with tries := c.tries + 1, sentTick := s.tick } } }
      .command .k282 c.bytes

/-- An answer to the outstanding command frame (R404); one to another frame has no effect. -/
def State.takeAnswer (s : State) (seq : Nat) (ok : Bool) : State :=
  match s.brine.cmdOut with
  | some c =>
    if frameNat c.bytes 1 1 ≠ seq then s
    else if ok then { s with brine := { s.brine with cmdOut := none } }
    else s.repeatCommand c
  | none => s

/-- A frame of 32 bytes after K28.2 (R394, R404): FLAGS tells an answer from a command frame. DESIGN CHOICE: a frame with both bits of FLAGS is
taken as ACK. -/
def State.takeCommand (s : State) (slots : List LaneSlot) : State :=
  let s := s.hear .k282 32 slots
  match heardFrame .k282 32 slots with
  | some b =>
    if s.link ≠ linkUp then s
    else if frameNat b 0x1C 4 ≠ crc32c (b.take 0x1C) ∨ frameNat b 0 1 ≠ 2 then s.crcError
    else if frameNat b 3 1 % 4 = 0 then s.deliverCommand b
    else s.takeAnswer (frameNat b 1 1) ((frameNat b 3 1).testBit 0)
  | none => s

/-- COMMAND_FRAME_RX (R404). -/
def commandFrameRx (slots : List LaneSlot) (s : State) : State := s.takeCommand slots

/-- COMMAND_ACK (R404). -/
def commandAck (slots : List LaneSlot) (s : State) : State := s.takeCommand slots

/-- COMMAND_RETRY_TIMEOUT (R404): no answer 4 ticks after sending. -/
def commandRetryTimeout (s : State) : State :=
  match s.brine.cmdOut with
  | some c => if 4 ≤ (s.tick + 2 ^ 32 - c.sentTick) % 2 ^ 32 then s.repeatCommand c else s
  | none => s

/-! ### Sending bulk units -/

/-- Cut bytes into units of 64 (R405). -/
def cutUnits : Nat → List Byte → List (List Byte)
  | 0, _ => []
  | n + 1, b => if b.length ≤ 64 then [b] else b.take 64 :: cutUnits n (b.drop 64)

/-- Mark the units of a frame first and last (R405). -/
def flagUnits (us : List (List Byte)) : List (Nat × List Byte) :=
  (us.zipIdx).map fun p => ((if p.2 = 0 then 1 else 0) + (if p.2 + 1 = us.length then 2 else 0), p.1)

/-- The 72 bytes of a unit (R405). -/
def unitBytes (cls flags : Nat) (data : List Byte) : List Byte :=
  let b := dataOf [(1, 3), (1, cls), (1, data.length), (1, flags)] ++ (data ++ List.replicate 64 0).take 64
  b ++ leBytes 4 (crc32c b)

/-- The units of the crossing frame at the head of the transit pool, where none is being sent. -/
def State.loadUnits (s : State) : State :=
  if s.brine.txUnits ≠ [] then s
  else match s.pan.transit.find? (·.toBrine) with
    | some t => { s with brine := { s.brine with txUnits := flagUnits (cutUnits 64 (frameBytes t.frame)) } }
    | none => s

/-- BULK_UNIT_TX (R405): a unit of class 0 from the crossing frames, or of class 1 with `trace` as its data, while a credit of
the class is held. -/
def bulkUnitTx (cls1 : Bool) (trace : List Byte) (s : State) : State :=
  let enabled := if cls1 then s.flag BRINE_CTRL.BULK1_EN else s.flag BRINE_CTRL.BULK0_EN
  if s.link ≠ linkUp ∨ !enabled ∨ s.credit cls1 = 0 ∨ s.pwr.stopped.contains 3 then s
  else if cls1 then
    if trace = [] then s
    else
      let s := s.setCredit true (s.credit true - 1)
      s.sendFrame .bulk .k283 (unitBytes 1 3 (trace.take 64))
  else
    let s := s.loadUnits
    match s.brine.txUnits with
    | [] => s
    | (flags, data) :: rest =>
      let s := s.setCredit false (s.credit false - 1)
      let s := State.sendFrame { s with brine := { s.brine with txUnits := rest } } .bulk .k283 (unitBytes 0 flags data)
      if rest = [] then State.showTransit { s with pan := { s.pan with transit := dropCrossing s.pan.transit } } else s

/-- The slots of a credit set (R405): K28.0 on both lanes, then the class on lane 0 and a count of 1 to 16 on lane 1. -/
def creditSlots (cls n : Nat) : List LaneSlot := [(.k280, .k280), (.d (BitVec.ofNat 8 cls), .d (BitVec.ofNat 8 n))]

/-- The credit set that ends received slots. -/
def creditIn (slots : List LaneSlot) : Option (Nat × Nat) :=
  match fromStart .k280 slots with
  | [_, (.d c, .d n)] => some (c.toNat, n.toNat)
  | _ => none

/-- Symbol errors of received slots that end with a credit set (R394). -/
def creditErrors (slots : List LaneSlot) : Nat :=
  ((slots.takeWhile (· != (.k280, .k280))).map gapErrors).foldl (· + ·) 0
    + ((((fromStart .k280 slots).drop 1).map (placeErrors none)).foldl (· + ·) 0)

/-- CREDIT_SET (R394, R405): credits come back, at most 16 held. DESIGN CHOICE: a set with a class above 1 or a count that is not 1 to 16
has no effect. -/
def creditSet (slots : List LaneSlot) (s : State) : State :=
  let s := if s.linkHears then (s.showActivity slots).codeErrors (creditErrors slots) else s
  match creditIn slots with
  | some (cls, n) =>
    if s.link ≠ linkUp ∨ 1 < cls ∨ n = 0 ∨ 16 < n then s
    else s.setCredit (cls == 1) (min 16 (s.credit (cls == 1) + n))
  | none => s

end Sys2Proof.Machine
end

