-- ==== Sys2Proof/Machine/Ptp.lean ====
section
/-! DEFINITION. The Ethernet ports of the fabric and the time-aware system on them (R410, R412, R428): peer delay, best master clock, Sync and
Follow_Up. The messages are those of IEEE 802.1AS-2020, to which R428 points; of that standard the model takes (PRESUMED) which message
answers which, what each carries, the order of clocks, the Announce interval of 1 s and a rate ratio of 1. -/

namespace Sys2Proof.Machine

/-- Port `p` is enabled. -/
def State.portEn (s : State) (p : Nat) : Bool :=
  s.domOn 8 && (if p = 0 then s.flag NET_CTRL.P0_EN else s.flag NET_CTRL.P1_EN)

/-- Link and neighbour bits of a port. -/
def linkFld (p : Nat) : Fld := if p = 0 then NET_STAT.LINK0 else NET_STAT.LINK1
def nbFld (p : Nat) : Fld := if p = 0 then NET_STAT.NB0 else NET_STAT.NB1

/-- The port can send: enabled, with its link up. -/
def State.portUp (s : State) (p : Nat) : Bool := s.portEn p && s.flag (linkFld p)

/-- Synchronised to a grandmaster, or the grandmaster itself (R428). -/
def State.inSync (s : State) : Bool := s.rd NET_STAT.GPTP == 2 || s.rd NET_STAT.GPTP == 3

/-- A frame of `len` payload bytes can end before the next scheduled phase (R432). -/
def State.fits (s : State) (len : Nat) : Bool :=
  s.net.bulk && decide (5 * s.now + 16 * (len + 66) ≤ 5 * (s.net.cycleAt + 4 * s.net.fabCycle))

/-! ### Times (R410, R428) -/

def State.ptp (s : State) (p : Nat) : PtpPort := if p = 0 then s.net.ptp0 else s.net.ptp1
def State.setPtp (s : State) (p : Nat) (x : PtpPort) : State :=
  if p = 0 then { s with net := { s.net with ptp0 := x } } else { s with net := { s.net with ptp1 := x } }

/-- The clock of the hardware timestamps in ns, with its resolution of 2 ns. -/
def State.stamp (s : State) : Int := 2 * (s.now * 5 / 4 : Nat)

/-- Timestamps of a frame that arrives and of one that leaves now, corrected by the latencies of the PHY. -/
def State.rxStamp (s : State) (p : Nat) : Int := s.stamp - s.rd (NET_PTPLAT.RX_LAT p)
def State.txStamp (s : State) (p : Nat) : Int := s.stamp + (s.ptp p).txLat

/-- CEC of 2 to the power `e` seconds. -/
def ptpInterval (e : Int) : Nat := if 0 ≤ e then 1000 * cecPerMs * 2 ^ e.toNat else 1000 * cecPerMs / 2 ^ (-e).toNat

/-- An interval has passed since its last message, or there was none. -/
def State.ptpDue (s : State) (last : Option Nat) (interval : Nat) : Bool := last.all fun t => decide (t + interval ≤ s.now)

/-! ### Best master clock -/

/-- The own clock: priority1 counts only for a half that can be grandmaster. -/
def State.ownClock (s : State) : PtpClock :=
  { prio1 := if s.flag NET_PTP.GM_CAP then s.rd NET_PTP.PRIO1 else 255, quality := Config.clockQuality, prio2 := s.rd NET_PTP.PRIO2,
    id := Config.clockIdentity s.fuse.serial (s.rd NET_ADDR.RING) }

/-- A vector as the numbers by which it is compared, first to last; the lower one is the better. -/
def masterOrder (v : PtpVector) : List Nat := [v.clock.prio1, v.clock.quality, v.clock.prio2, v.clock.id, v.steps, v.src, v.port]
def precedes : List Nat → List Nat → Bool
  | a :: l, b :: r => decide (a < b) || (a == b && precedes l r)
  | _, _ => false

/-- The better of two masters, of which the first may be absent. -/
def betterMaster (a : Option (Option Nat × PtpVector)) (b : Option Nat × PtpVector) : Option (Option Nat × PtpVector) :=
  match a with
  | some x => if precedes (masterOrder b.2) (masterOrder x.2) then some b else a
  | none => some b

/-- The best master: the half itself where it is capable, or one that a port has heard of; with the port. -/
def State.bestMaster (s : State) : Option (Option Nat × PtpVector) :=
  let own := if s.flag NET_PTP.GM_CAP then some (none, ⟨s.ownClock, 0, s.ownClock.id, 0⟩) else none
  [0, 1].foldl (fun a p => match (s.ptp p).best with
    | some (v, _) => if s.portUp p then betterMaster a (some p, v) else a
    | none => a) own

/-- What the half announces through port `p`, one step further from the grandmaster than it stands itself. -/
def State.ownVector (s : State) (p : Nat) (m : Option Nat × PtpVector) : PtpVector :=
  ⟨m.2.clock, if m.1.isSome then m.2.steps + 1 else 0, s.ownClock.id, p + 1⟩

/-- Port `p` leads its link: the half announces a better vector than it hears there. -/
def State.leads (s : State) (p : Nat) : Option PtpVector :=
  match s.bestMaster with
  | none => none
  | some m =>
    let v := s.ownVector p m
    if m.1 = some p then none
    else match (s.ptp p).best with
      | some (w, _) => if precedes (masterOrder v) (masterOrder w) then some v else none
      | none => some v

/-- NET_STAT.GPTP and the port to follow, by the best master: 3 grandmaster; 2 while it stays synchronised through the same port; else 1 (R428). -/
def State.chooseMaster (s : State) : State :=
  if !s.portUp 0 && !s.portUp 1 then s
  else
    let slave := (s.bestMaster).bind (·.1)
    let grand := s.bestMaster.isSome && slave.isNone
    let stays := s.rd NET_STAT.GPTP == 2 && slave.isSome && slave == s.net.slave
    let s : State := { s with net := { s.net with slave := slave } }
    s.wr NET_STAT.GPTP (if grand then 3 else if stays then 2 else 1)

/-! ### Sending -/

/-- A gPTP message leaves through a port. -/
def State.sendGptp (s : State) (p : Nat) (m : PtpMsg) : State := { s with wire := s.wire ++ [.gptp p m] }

/-- The requests of the peer are answered: Pdelay_Resp and its follow-up. -/
def State.answerPeer (s : State) (p : Nat) : State :=
  (s.ptp p).owed.foldl (fun s r => (s.sendGptp p (.pdelayResp r.1 r.2)).sendGptp p (.pdelayRespFollowUp r.1 (s.txStamp p)))
    (s.setPtp p { s.ptp p with owed := [] })

/-- A Pdelay_Req that is due. -/
def State.askPeer (s : State) (p : Nat) : State :=
  let x := s.ptp p
  if s.ptpDue x.reqAt (ptpInterval (s.rdInt NET_PTP.LOG_PDELAY)) then
    (s.setPtp p { x with req := some (x.reqSeq, s.txStamp p), resp := none, reqSeq := (x.reqSeq + 1) % 65536, reqAt := some s.now }).sendGptp p
      (.pdelayReq x.reqSeq)
  else s

/-- An Announce that is due on a port that leads. -/
def State.sendMaster (s : State) (p : Nat) (v : PtpVector) : State :=
  let x := s.ptp p
  let path := match s.net.slave with
    | some q => (((s.ptp q).best).map (·.2)).getD []
    | none => []
  if s.ptpDue x.annAt (ptpInterval 0) then
    (s.setPtp p { x with annAt := some s.now }).sendGptp p (.announce v (path ++ [s.ownClock.id]))
  else s

/-- A two-step Sync with its Follow_Up; TX_LAT takes effect with it. `of_ t` is the time of the grandmaster and the correction for a
Sync that leaves at `t`. -/
def State.sendSync (s : State) (p : Nat) (of_ : Int → Int × Int) : State :=
  let x := s.ptp p
  let s := s.setPtp p { x with txLat := s.rd (NET_PTPLAT.TX_LAT p), syncSeq := (x.syncSeq + 1) % 65536, syncAt := some s.now, relay := none }
  let (origin, correction) := of_ (s.txStamp p)
  (s.sendGptp p (.sync x.syncSeq true)).sendGptp p (.followUp x.syncSeq origin correction)

/-- The time of the grandmaster goes out of a port that leads: the own one at its interval, or one received on the other port, with what it
took to pass through. -/
def State.sendTime (s : State) (p : Nat) : State :=
  let x := s.ptp p
  if s.rd NET_STAT.GPTP = 3 then
    (if s.ptpDue x.syncAt (ptpInterval (s.rdInt NET_PTP.LOG_SYNC)) then s.sendSync p fun t => (t + s.net.timeOfs, 0) else s)
  else if s.rd NET_STAT.GPTP = 2 then
    match x.relay with
    | some (origin, correction, t0) => s.sendSync p fun t => (origin, correction + (t - t0))
    | none => s
  else s

/-- What the time-aware system has to send through a port, ahead of every other frame, in the bulk phase; a half that is not synchronised sends at
its local cycle start (R428, R432). A message takes at most 128 bytes. -/
def State.gptpTurn (s : State) (p : Nat) : State :=
  if !s.portUp p ∨ (s.inSync && !s.fits 62) then s
  else
    let s := (s.answerPeer p).askPeer p
    match s.leads p with
    | some v => if (s.ptp p).delay.isSome then (s.sendMaster p v).sendTime p else s
    | none => s

/-! ### Receiving -/

/-- A frame with a valid FCS has arrived on a port (R423). -/
def State.heardPort (s : State) (q : Nat) : State :=
  { s with net := { s.net with silent := erase s.net.silent q } }

/-- An Announce counts on a port with a measured delay, when the half is not on its path. -/
def State.takeMaster (s : State) (q : Nat) (v : PtpVector) (path : List Nat) : State :=
  let x := s.ptp q
  if x.delay.isNone ∨ 255 ≤ v.steps ∨ v.src = s.ownClock.id ∨ path.contains s.ownClock.id then s
  else (s.setPtp q { x with best := some (v, path) }).chooseMaster

/-- A Follow_Up of the Sync that waits for it: the offset from the grandmaster is taken out of the own time, and the other port passes the
time on. -/
def State.takeTime (s : State) (q seq : Nat) (origin correction : Int) : State :=
  let x := s.ptp q
  match x.sync, x.delay with
  | some (n, t), some d =>
    if n = seq ∧ s.net.slave = some q then
      let offset := t + s.net.timeOfs - (origin + correction + d)
      let s := s.setPtp q { x with sync := none }
      let s := s.setPtp (1 - q) { s.ptp (1 - q) with relay := some (origin, correction + d, t) }
      let s := (s.wr NET_STAT.GPTP 2).wrInt NET_PTP_OFS.OFFSET offset
      { s with net := { s.net with timeOfs := s.net.timeOfs - offset } }
    else s
  | _, _ => s

/-- The delay of a link from the four times of a request and its response, rounded down to 1 ns. -/
def peerDelay (t1 t2 t3 t4 : Int) : Int := ((t4 - t1) - (t3 - t2)) / 2

/-- GPTP_FRAME (R412, R428): a message of the time-aware system arrives on a port. Only domain 0 and two-step Syncs are supported; it
is never forwarded. -/
def gptpFrame (q domain : Nat) (m : PtpMsg) (s : State) : State :=
  if !s.portEn q then s
  else
    let s := s.heardPort q
    let x := s.ptp q
    if domain ≠ 0 then s
    else match m with
      | .announce v path => s.takeMaster q v path
      | .sync seq twoStep => if twoStep ∧ s.net.slave = some q then s.setPtp q { x with sync := some (seq, s.rxStamp q) } else s
      | .followUp seq origin correction => s.takeTime q seq origin correction
      | .pdelayReq seq => s.setPtp q { x with owed := x.owed ++ [(seq, s.rxStamp q)] }
      | .pdelayResp seq t2 => if x.req.any (·.1 == seq) then s.setPtp q { x with resp := some (t2, s.rxStamp q) } else s
      | .pdelayRespFollowUp seq t3 =>
        match x.req, x.resp with
        | some (n, t1), some (t2, t4) =>
          if n = seq then s.setPtp q { x with delay := some (peerDelay t1 t2 t3 t4), req := none, resp := none } else s
        | _, _ => s

/-- GPTP_SYNC_LOSS (R428, R430): what the grandmaster sent has stopped to come, and another master is chosen. -/
def gptpSyncLoss (s : State) : State :=
  if s.rd NET_STAT.GPTP = 2 then
    let s := match s.net.slave with
      | some q => s.setPtp q { s.ptp q with best := none, sync := none, relay := none }
      | none => s
    (State.wr { s with net := { s.net with slave := none } } NET_STAT.GPTP 1).chooseMaster
  else s

/-- A link went down: its port starts anew. -/
def State.gptpLinkDown (s : State) (p : Nat) : State := (s.setPtp p .init).chooseMaster

end Sys2Proof.Machine
end

