-- ==== Sys2Proof/Machine/Net.lean ====
section
/-! DEFINITION. Commands of the fabric that need no register access (chapter Horbiud fabric): routes, claims, the fabric cycle,
windows and bulk frames, delivery of records, forwarding and ring crossing, gPTP and the sending of CAN FD frames. -/

namespace Sys2Proof.Machine

/-! ### Addresses, routes -/

/-- The held address; 0 while none is held (R418, R419). -/
def State.heldAddr (s : State) : Nat := if s.rd NET_ADDR.CLAIM = 2 then s.rd NET_ADDR.ADDR else 0

/-- The SRC byte of the half's own frames (R413). -/
def State.ownSrc (s : State) : Nat := s.heldAddr + 64 * s.ring

def seenFld (n q : Nat) : Fld := if q = 0 then ROUTE.SEEN0 n else ROUTE.SEEN1 n
def hopsFld (n q : Nat) : Fld := if q = 0 then ROUTE.HOPS0 n else ROUTE.HOPS1 n

/-- VALID of entry `n` and the count of valid entries (R421, R438). -/
def State.showRoute (s : State) (n : Nat) : State :=
  let s := s.setFlag (ROUTE.VALID n) (s.flag (ROUTE.SEEN0 n) || s.flag (ROUTE.SEEN1 n))
  s.wr NET_STAT.NODES ((List.range 64).filter fun k => s.flag (ROUTE.VALID k)).length

/-- Some node's ANNOUNCE has come through both ports and is not aged (R424). -/
def State.ringClosed (s : State) : Bool :=
  (List.range 64).any fun n => s.flag (ROUTE.SEEN0 n) && s.flag (ROUTE.SEEN1 n)

/-- NET_STAT.RING (R424). -/
def State.showRing (s : State) : State :=
  let a := s.flag NET_STAT.NB0
  let b := s.flag NET_STAT.NB1
  let r := if a ∧ b then (if s.ringClosed then 0 else if s.rd NET_STAT.RING = 3 then 3 else 1)
    else if a ∨ b then 1
    else if s.rd NET_STAT.RING = 3 then 3 else 2
  s.wr NET_STAT.RING r

/-- Clear one direction of one entry. -/
def State.clearSeen (s : State) (n q : Nat) : State :=
  let s := { s.setFlag (seenFld n q) false with net := { s.net with seenAt := erase s.net.seenAt (2 * n + q) } }
  s.showRoute n

/-- PREF in effect since the cycle start (R421). -/
def State.prefNow (s : State) (n : Nat) : Nat := lookup s.net.pref 0 n

/-- The ports a frame to node `n` of the own ring leaves through (R422): a direction is usable while it is seen and its port enabled. -/
def State.routePorts (s : State) (n : Nat) : List Nat :=
  if n = 63 then [0, 1].filter s.portEn
  else
    let seen (q : Nat) : Bool := s.portEn q && s.flag (seenFld n q)
    match s.prefNow n with
    | 0 =>
      if seen 0 ∧ seen 1 then [if s.rd (hopsFld n 1) < s.rd (hopsFld n 0) then 1 else 0]
      else if seen 0 then [0] else if seen 1 then [1] else []
    | 1 => if seen 0 then [0] else []
    | 2 => if seen 1 then [1] else []
    | _ => [0, 1].filter seen

/-! ### Sending -/

/-- A frame with its E2E_CRC (R414). -/
def sealFrame (f : FabFrame) : FabFrame := { f with crc := e2eCrc f }

/-- The copy of a frame of the half itself for a port: DIR names the port, and E2E_CRC covers the copy (R413, R414). -/
def portCopy (p : Nat) (f : FabFrame) : FabFrame := sealFrame { f with flags := f.flags - f.flags % 2 + p }

/-- A frame leaves through a port. -/
def State.emit (s : State) (p : Nat) (f : FabFrame) : State := { s with wire := s.wire ++ [.fabric p f] }

/-- The gate of R432 admits a frame: PCP 7 always, any other in the bulk phase when it can end in time. -/
def State.gateOpen (s : State) (f : FabFrame) : Bool := f.pcp == 7 || s.fits f.payload.length

/-- Place of a frame in the egress order of R426: scheduled frames, then PCP 6, 5 and 3. -/
def egressRank (f : FabFrame) : Nat := if f.pcp = 7 then 0 else if f.pcp = 6 then 1 else if f.pcp = 5 then 2 else 3

/-- A frame that goes before `f` is stored for port `p`: of a lower place in the order, or of the same place and earlier (R426). -/
def State.storedBefore (s : State) (p : Nat) (f : FabFrame) : Bool :=
  (s.pan.transit.any fun t => t.ports.contains p && decide (egressRank t.frame ≤ egressRank f))
    || (s.inSync && s.pan.waiting.any fun w => w.1 == p && decide (egressRank w.2 ≤ egressRank f))

/-- A frame can start on port `p` at once: by the gate of R432, and by the egress order of R426. -/
def State.mayStart (s : State) (p : Nat) (f : FabFrame) : Bool := s.gateOpen f && !s.storedBefore p f

/-- Send a frame of the half itself through a port, or keep it until its turn in the bulk phase (R426, R432). A half that is not synchronised
sends at its local cycle start only. -/
def State.sendOwn (s : State) (p : Nat) (f : FabFrame) : State :=
  if s.inSync && s.mayStart p f then s.emit p (portCopy p f)
  else { s with pan := { s.pan with waiting := s.pan.waiting ++ [(p, portCopy p f)] } }

/-- A frame of the half itself, without its flow and payload. -/
def State.ownFrame (s : State) (typ dst flow seq reqId : Nat) (payload : List Byte) : FabFrame :=
  { pcp := pcpOf typ, ver := 1, typ := typ, src := s.ownSrc, dst := dst, flow := flow, seq := seq, reqId := reqId, hops := 0,
    flags := if typ = 2 ∨ typ = 4 then 4 else 0, time := s.gptpNow, payload := payload, alive := s.net.cycles % 65536, crc := 0,
    da := dst, sa := 256 * s.ring + s.heldAddr, fcs := true }

/-- The next SEQ of flow 0. -/
def State.nextSeq0 (s : State) : Nat × State := (s.net.seq0, { s with net := { s.net with seq0 := (s.net.seq0 + 1) % 65536 } })

/-- A frame with no usable direction (R422). -/
def State.routeMiss (s : State) (f : FabFrame) : State :=
  let s := (s.count NET_CNT2.ROUTE_MISS_CNT).setFlag NET_EVT.ROUTE_MISS true
  if s.flag CE_MODE.ROUTE_H then s.produce (s.rd NET_CTRL.HFLOW) 8 (frameBytes f) else s

/-- Send a frame on as it is: every header field but those a forwarder sets, and E2E_CRC, are its source's (R414, R427). -/
def State.relay (s : State) (p : Nat) (f : FabFrame) : State :=
  if s.mayStart p f then s.emit p f else s.toTransit ⟨false, [p], f⟩

/-- Put a copy on a port: of a frame of the half itself, or of one it passes on. -/
def State.sendCopy (s : State) (own : Bool) (f : FabFrame) (p : Nat) : State := if own then s.sendOwn p f else s.relay p f

/-- Send a frame into the own ring to Ethernet node `n` by R422. -/
def State.sendRing (s : State) (own : Bool) (n : Nat) (f : FabFrame) : State :=
  match s.routePorts n with
  | [] => s.routeMiss f
  | ps => ps.foldl (fun s p => s.sendCopy own f p) s

/-- Store a frame to cross the Brine link (R427, R452). -/
def State.toBrine (s : State) (f : FabFrame) : State := s.toTransit ⟨true, [], f⟩

/-- A frame for the other ring that goes to the gateway node of the own ring: only its Ethernet destination names the gateway (R427). -/
def State.toGateway (s : State) (own : Bool) (f : FabFrame) : State :=
  let n := s.rd NET_CTRL.GW_NODE
  s.sendRing own n { f with da := n + 64 * s.ring }

/-- A frame for the other ring (R427). An HX961-S has no Brine link, and a frame that would take it has no usable direction (DEDUCED). -/
def State.crossOut (s : State) (own : Bool) (f : FabFrame) : State :=
  match s.rd NET_CTRL.XR_MODE with
  | 0 => s.routeMiss f
  | 1 => if s.dual then s.toBrine f else s.routeMiss f
  | 2 => s.toGateway own f
  | _ => if s.flag SAFE_RSTAT.LINK_UP then s.toBrine f else s.toGateway own f

/-- Send a frame the half originates: into its ring, or across (R422, R427). -/
def State.originate (s : State) (f : FabFrame) : State :=
  if f.dst / 64 % 2 ≠ s.ring then s.crossOut true (sealFrame f) else s.sendRing true (f.dst % 64) (sealFrame f)

/-! ### ANNOUNCE -/

/-- The identity bytes 0x00 to 0x17 of an ANNOUNCE (R417). -/
def State.identityBytes (s : State) : List Byte :=
  dataOf [(8, s.fuse.serial), (1, s.fuse.fab)] ++ ((List.range 6).map fun i => BitVec.ofNat 8 (s.fuse.lot.getD i 0))
    ++ dataOf [(1, s.fuse.wafer), (1, s.fuse.dieX), (1, s.fuse.dieY), (2, s.fuse.testDate), (2, s.rd SYS_ID.PART),
      (1, s.rd SYS_ID.HALF), (1, s.strap)]

/-- UPTIME of the own ANNOUNCE (R417). -/
def State.uptime (s : State) : Nat := if s.rd NET_ADDR.CLAIM = 2 then s.net.cycles - s.net.heldAt else 0

/-- The payload of an ANNOUNCE (R417). -/
def State.announcePayload (s : State) : List Byte :=
  s.identityBytes ++ dataOf [(1, s.rd NET_ADDR.ADDR), (1, s.rd NET_ADDR.CLAIM), (2, 0), (4, s.uptime),
    (4, s.rd MGMT_IMG_INFO.IMG_VER), (1, s.half.code), (1, s.copy), (10, 0)]

/-- Broadcast an ANNOUNCE through both ports (R417, R418). -/
def State.sendAnnounce (s : State) : State :=
  let (seq, s) := s.nextSeq0
  let f := s.ownFrame 5 (63 + 64 * s.ring) 0 seq 0 s.announcePayload
  ([0, 1].filter s.portEn).foldl (fun s p => s.sendOwn p f)
    { s with net := { s.net with annLast := s.net.cycles } }

/-- A little-endian number in a payload. -/
def payloadNat (f : FabFrame) (o n : Nat) : Nat := leNat ((f.payload.drop o).take n)

/-- Log entry of a fabric identity (TYPE 0x0C of R487). -/
def State.logIdentity (s : State) (addr serial : Nat) : State :=
  s.logEvent 0x0C deviceWriter (addr + 64 * s.ring) (dataOf [(8, serial), (4, 0)])

/-- The half yields its address, or its claim is refused (R419). -/
def State.yieldAddr (s : State) (f : FabFrame) : State :=
  let s := s.logIdentity (s.rd NET_ADDR.ADDR) (payloadNat f 0 8)
  let s := ((s.wr NET_ADDR.ADDR 0).wr NET_ADDR.CLAIM 3).setFlag NET_EVT.ADDR_CONFLICT true
  { s with net := { s.net with claimLeft := 0 } }

/-- What an ANNOUNCE for the own address does to the own claim or hold (R418, R419). -/
def State.judgeClaim (s : State) (f : FabFrame) : State :=
  let addr := payloadNat f 0x18 1
  let claim := payloadNat f 0x19 1
  let serial := payloadNat f 0 8
  let up := payloadNat f 0x1C 4
  if addr = 0 ∨ addr ≠ s.rd NET_ADDR.ADDR ∨ f.payload.take 24 = s.identityBytes then s
  else if s.rd NET_ADDR.CLAIM = 1 then
    if claim = 2 ∨ (claim = 1 ∧ serial < s.fuse.serial) then s.yieldAddr f else s
  else if s.rd NET_ADDR.CLAIM = 2 then
    if claim = 1 then s.sendAnnounce
    else if claim = 2 ∧ (s.uptime < up ∨ (s.uptime = up ∧ serial < s.fuse.serial)) then s.yieldAddr f
    else s
  else s

/-- Keep the identity of a holder (R420). -/
def State.keepIdentity (s : State) (f : FabFrame) : State :=
  let addr := payloadNat f 0x18 1
  let who := f.payload.take 24
  if payloadNat f 0x19 1 ≠ 2 ∨ addr = 0 ∨ f.src / 64 % 2 ≠ s.ring then s
  else if (s.net.idents.find? fun p => p.1 == addr) = some (addr, who) then s
  else
    let s := (s.logIdentity addr (payloadNat f 0 8)).setFlag NET_EVT.NEW_PEER true
    { s with net := { s.net with idents := place s.net.idents addr who } }

/-- A node is seen through port `q` (R422). -/
def State.learnRoute (s : State) (q : Nat) (f : FabFrame) : State :=
  let n := f.src % 64
  if n = 0 ∨ n = 63 ∨ f.src / 64 % 2 ≠ s.ring then s
  else
    let s := (s.setFlag (seenFld n q) true).wr (hopsFld n q) (f.hops + 1)
    ({ s with net := { s.net with seenAt := place s.net.seenAt (2 * n + q) s.net.cycles } }).showRoute n

/-! ### Receiving -/

/-- A frame returned to its source (R425). -/
def State.returned (s : State) (f : FabFrame) : Bool := s.heldAddr != 0 && f.src % 128 == s.ownSrc

/-- A frame is for this half (R425): its own address, a broadcast of the own ring, or link-local. -/
def State.forMe (s : State) (f : FabFrame) : Bool :=
  f.dst % 64 == 0 || (f.dst / 64 % 2 == s.ring && (f.dst % 64 == 63 || (s.heldAddr != 0 && f.dst % 64 == s.heldAddr)))

/-- The duplicate rule (R425): SEQ is 1 to 32,767 ahead of the last delivered one of the source and flow; every node without an address has
the source node 0. -/
def State.fresh (s : State) (f : FabFrame) : Bool :=
  match s.net.lastSeq.find? fun p => p.1 == f.src * 256 + f.flow with
    | none => true
    | some (_, q) => let d := (f.seq + 65536 - q) % 65536; decide (1 ≤ d ∧ d ≤ 32767)

/-- Note a delivered SEQ (R425). -/
def State.noteSeq (s : State) (f : FabFrame) : State :=
  { s with net := { s.net with lastSeq := place s.net.lastSeq (f.src * 256 + f.flow) f.seq } }

/-- Send a received frame on through port `p` (R410, R426): cut through when both ports run at 1,000 Mb/s, the egress is idle, the gate
admits it and no stored frame goes before it, else from the transit pool. A frame whose FCS fails leaves with an inverted FCS where it was cut through, and nowhere else. -/
def State.forwardOn (s : State) (p : Nat) (idle : Bool) (f : FabFrame) : State :=
  let f := { f with hops := f.hops + 1 }
  if !s.portUp p then s
  else if idle ∧ s.rd NET_STAT.SPEED0 = 2 ∧ s.rd NET_STAT.SPEED1 = 2 ∧ s.mayStart p f then s.emit p f
  else if f.fcs then s.toTransit ⟨false, [p], f⟩
  else s

/-- Forwarding of a received frame (R425, R427): a broadcast within BC_HOPS, any other frame within 62 hops; a frame for the
other ring crosses at the gateway node. -/
def State.forward (s : State) (q : Nat) (idle : Bool) (f : FabFrame) : State :=
  let bc := max 1 (s.rd NET_TIM.BC_HOPS)
  if f.dst % 64 = 0 then s
  else if f.dst / 64 % 2 ≠ s.ring then
    if 62 < f.hops + 1 then s.count NET_CNT0.HOP_DROP
    else if s.heldAddr ≠ 0 ∧ s.heldAddr = s.rd NET_CTRL.GW_NODE then
      (if f.fcs then s.crossOut false { f with hops := f.hops + 1 } else s)
    else s.forwardOn (1 - q) idle f
  else if f.dst % 64 = 63 then
    if f.hops + 1 < bc then s.forwardOn (1 - q) idle f else s.count NET_CNT0.HOP_DROP
  else if s.heldAddr ≠ 0 ∧ f.dst % 64 = s.heldAddr then s
  else if f.hops + 1 ≤ 62 then s.forwardOn (1 - q) idle f
  else s.count NET_CNT0.HOP_DROP

/-- The checks of a frame that is for this half, before its type is looked at (R414, R425): duplicate, then E2E_CRC. -/
def State.takeNew (s : State) (f : FabFrame) : Bool × State :=
  if !s.fresh f then (false, s.count NET_CNT0.DUP_DROP)
  else if f.crc ≠ e2eCrc f then (false, s.count NET_CNT1.E2E_CRC_CNT)
  else (true, s.noteSeq f)

/-- Arrival of a frame on port `q` (R425): returned frames are discarded; others are forwarded as their address asks, and the
answer says whether the frame is to be delivered here. -/
def State.arrive (s : State) (q : Nat) (idle : Bool) (f : FabFrame) : Bool × State :=
  if !s.portEn q ∨ !s.domOn 8 then (false, s)
  else
    let s := if f.fcs then s.heardPort q else s
    if s.returned f then (false, s.count NET_CNT0.HOP_DROP)
    else
      let s := s.forward q idle f
      if f.fcs && s.forMe f then s.takeNew f else (false, s)

/-! ### DATA -/

/-- The receive flow a frame matches (R443); a frame of flow 0 belongs to none (R439). -/
def State.matchFlow (s : State) (f : FabFrame) : Option Nat :=
  (List.range 256).find? fun k =>
    s.flowOn k && (s.kindOf k == 0 || s.kindOf k == 1) && f.flow != 0 && s.rd (FLOW_W2.PEER_FLOW k) == f.flow
      && s.rd (FLOW_W2.RING k) == f.src / 64 % 2
      && (s.rd (FLOW_W2.NODE k) == 63 || s.rd (FLOW_W2.NODE k) == f.src % 64)

/-- What the end-to-end check of flow `k` has seen. -/
def State.e2eOf (s : State) (k : Nat) : E2e := lookup s.net.e2e ⟨false, false, 0, none, []⟩ k
def State.setE2e (s : State) (k : Nat) (e : E2e) : State := { s with net := { s.net with e2e := place s.net.e2e k e } }

/-- A scheduled flow's frame for R433: a SEQ ahead of the last one of its source by more than 1 is a gap. -/
def State.noteE2e (s : State) (k : Nat) (f : FabFrame) : State :=
  if s.flag (FLOW_W0.SCHED k) then
    let e := s.e2eOf k
    let gap := e.last.any fun p => p.1 == f.src && decide (1 < (f.seq + 65536 - p.2) % 65536)
    let s := if gap then s.count NET_CNT1.E2E_GAP_CNT else s
    s.setE2e k { e with got := true, bad := e.bad || gap, src := some f.src, last := place e.last f.src f.seq }
  else s

/-- Store the record of a frame in its flow, or count it (R443, R444). -/
def State.deliverRecord (s : State) (f : FabFrame) : State :=
  match s.matchFlow f with
  | none => s.count PAN_CNT0.NOFLOW_CNT
  | some k =>
    let s := s.noteE2e k f
    let s := s.wr (FLOW_W6.SEQ k) f.seq
    s.receiveRecord k ⟨f.src, 1 + (if f.flags.testBit 1 then 2 else 0), f.seq, f.time⟩ f.payload

/-- A DATA frame of the partner's status flow (R449). -/
def State.isStatus (s : State) (f : FabFrame) : Bool :=
  s.dual && s.rd SAFE_RCFG.PSTAT_FLOW != 0 && s.img.partner != 0 && f.flow == s.rd SAFE_RCFG.PSTAT_FLOW
    && f.src % 128 == s.img.partner + 64 * (1 - s.ring)

/-- Deliver a DATA frame that has passed R425 and R414. -/
def State.deliverData (s : State) (f : FabFrame) : State :=
  if s.isStatus f then s.takeStatus ((payloadNat f 1 1).testBit 3) (payloadNat f 0 1 % 8) else s.deliverRecord f

/-- A frame that fails its E2E_CRC counts against its scheduled flow (R433). -/
def State.noteBad (s : State) (f : FabFrame) : State :=
  match s.matchFlow f with
  | some k => if s.flag (FLOW_W0.SCHED k) then s.setE2e k { s.e2eOf k with bad := true, src := some f.src } else s
  | none => s

/-- DATA (R425, R443, R449): a DATA frame arrives on port `q`. -/
def dataFrame (q : Nat) (idle : Bool) (f : FabFrame) (s : State) : State :=
  let bad := f.fcs && s.fresh f && f.crc != e2eCrc f && s.forMe f && !s.returned f && s.portEn q
  match s.arrive q idle f with
  | (true, s) => s.deliverData f
  | (false, s) => if bad then s.noteBad f else s

/-- REG_RSP (R415): delivered to its flow. -/
def regRsp (q : Nat) (idle : Bool) (f : FabFrame) (s : State) : State :=
  match s.arrive q idle f with
  | (true, s) => s.deliverRecord f
  | (false, s) => s

/-- MBOX_RSP (R415): delivered to its flow. -/
def mboxRsp (q : Nat) (idle : Bool) (f : FabFrame) (s : State) : State :=
  match s.arrive q idle f with
  | (true, s) => s.deliverRecord f
  | (false, s) => s

/-- FRAME_FORWARD (R415, R425, R426, R427): a frame that is not for this half goes on; one of a reserved type is discarded at delivery. -/
def frameForward (q : Nat) (idle : Bool) (f : FabFrame) (s : State) : State :=
  if 8 ≤ f.typ ∨ !s.forMe f then (s.arrive q idle f).2
  else if !s.portEn q ∨ !s.domOn 8 then s
  else
    let s := if f.fcs then s.heardPort q else s
    if s.returned f then s.count NET_CNT0.HOP_DROP else s.forward q idle f

/-- ANNOUNCE (R418 to R420, R422, R424): a claim for the own address is judged also in a frame that carries the own address as SRC (R419),
and a direction is learned from the copy of each port. -/
def announce (q : Nat) (idle : Bool) (f : FabFrame) (s : State) : State :=
  let mine := s.portEn q && s.domOn 8 && f.fcs && f.crc == e2eCrc f && f.dst / 64 % 2 == s.ring
  let s := if mine then s.judgeClaim f else s
  let s := if mine && !s.returned f then (s.learnRoute q f).showRing else s
  match s.arrive q idle f with
  | (true, s) => s.keepIdentity f
  | (false, s) => s

/-- RING_EVT (R423): a reporter with HOPS h on port `q` clears SEEN_q of every entry beyond it. -/
def ringEvt (q : Nat) (idle : Bool) (f : FabFrame) (s : State) : State :=
  match s.arrive q idle f with
  | (true, s) =>
    let s := s.setFlag NET_EVT.RING_EVT true
    let far := (List.range 64).filter fun n => s.flag (seenFld n q) && decide (f.hops + 1 < s.rd (hopsFld n q))
    (far.foldl (fun s n => s.clearSeen n q) s).showRing
  | (false, s) => s

/-- NEIGHBOR (R414, R423, R425): a link-local frame that passes its E2E_CRC shows the neighbour on its port, whatever the duplicate rule says of
it (DEDUCED: one neighbour can stand on both ports). -/
def neighbor (q : Nat) (f : FabFrame) (s : State) : State :=
  let mine := s.portEn q && f.fcs && f.crc == e2eCrc f && f.dst % 64 == 0 && !s.returned f
  let s := if mine then (((s.setFlag (nbFld q) true).lower srcNetRing q).lower srcNetRing 2).showRing else s
  (s.arrive q false f).2

/-- OTHER_ETHERTYPE (R412, R426): a frame, from its Ethernet header to its FCS, goes on unchanged at the lowest priority, from the pool of
the bulk phase. -/
def otherEthertype (q : Nat) (frame : List Byte) (s : State) : State :=
  if !s.portEn q then s
  else
    let s := s.heardPort q
    if s.flag NET_CTRL.FWD_OTHER then (if s.portUp (1 - q) then s.otherToTransit (1 - q) frame else s)
    else s.count NET_CNT2.OTHER_DROP_CNT

/-- PORT_LINK_UP (R410, R428): in-band status shows link up with a speed, 0 = 10, 1 = 100, 2 = 1,000 Mb/s. -/
def portLinkUp (p speed : Nat) (s : State) : State :=
  if s.domOn 8 then ((s.setFlag (linkFld p) true).wr (if p = 0 then NET_STAT.SPEED0 else NET_STAT.SPEED1) speed).chooseMaster else s

/-- NEIGHBOR_LOSS (R423): link down, or NB_N cycles without a frame. -/
def neighborLoss (p : Nat) (linkDown : Bool) (s : State) : State :=
  let s := if linkDown then (s.setFlag (linkFld p) false).gptpLinkDown p else s
  let silent := decide (max 1 (s.rd NET_TIM.NB_N) ≤ lookup s.net.silent 0 p)
  if s.flag (nbFld p) && (linkDown || silent) then
    let s := (s.setFlag (nbFld p) false).setFlag (if p = 0 then NET_EVT.NB0_LOST else NET_EVT.NB1_LOST) true
    let s := s.raise srcNetRing p
    let s := if s.flag (nbFld (1 - p)) then s else s.raise srcNetRing 2
    let s := (List.range 64).foldl (fun s n => if s.flag (seenFld n p) then s.clearSeen n p else s) s
    ({ s with net := { s.net with ringOwed := s.net.ringOwed ++ [p] } }).showRing
  else s

/-- ADDRESS_HOLD (R418): the claim has run its cycles unopposed. -/
def addressHold (s : State) : State :=
  if s.rd NET_ADDR.CLAIM = 1 ∧ s.net.claimLeft = 0 then
    { s.wr NET_ADDR.CLAIM 2 with net := { s.net with heldAt := s.net.cycles } }
  else s

/-- ROUTE_AGEING (R422, R424): directions not confirmed for AGE announce periods. -/
def routeAgeing (s : State) : State :=
  let limit := max 1 (s.rd NET_TIM.AGE) * max 1 s.net.annPeriod
  let old := ((List.range 64).flatMap fun n => [(n, 0), (n, 1)]).filter fun d =>
    s.flag (seenFld d.1 d.2) && decide (limit < s.net.cycles - lookup s.net.seenAt 0 (2 * d.1 + d.2))
  (old.foldl (fun s d => s.clearSeen d.1 d.2) s).showRing

/-! ### The fabric cycle -/

/-- The windows as written. -/
def State.windowRegs (s : State) : List Window :=
  (List.range 16).map fun k =>
    ⟨s.flag (NET_WIN_A.EN k), s.rd (NET_WIN_A.PORTS k), s.rd (NET_WIN_A.FLOW k), s.rd (NET_WIN_A.OFFSET k), s.rd (NET_WIN_B.LEN k)⟩

/-- Wire time of a window frame in ns, and its start (R430). -/
def windowEnd (w : Window) : Nat := 10 * w.offset + 8 * (w.len + 66)

/-- No two enabled windows on one port overlap (R430). -/
def windowsApart : List Window → Bool
  | [] => true
  | w :: r => (r.all fun v => w.ports &&& v.ports == 0 || decide (windowEnd w ≤ 10 * v.offset) || decide (windowEnd v ≤ 10 * w.offset))
      && windowsApart r

/-- The rules of R430. -/
def windowsValid (fab sched : Nat) (ws : List Window) : Bool :=
  let on := ws.filter (·.en)
  decide (10 * sched ≤ 6 * fab) && (on.all fun w => decide (windowEnd w ≤ 10 * sched)) && windowsApart on

/-- One lane of R301: weight and in-service bit of a slot's entry for the motor. -/
def State.laneEntry (s : State) (f i m : Nat) : Option (Nat × Bool) :=
  let u := i * s.esize f
  let len := s.entryNat f u 0 2
  ((List.range 3).filter fun j => 8 * j + 8 ≤ len && s.entryNat f u (16 + 8 * j) 1 == m).head?.map fun j =>
    (s.entryNat f u (16 + 8 * j + 4) 2, s.entryNat f u (16 + 8 * j + 1) 1 % 2 == 1)

/-- The lane of slot `i` is stale (R301, R447). -/
def State.laneStale (s : State) (m f i : Nat) : Bool :=
  !s.lanePartner f i && decide (s.rd (FIELD_SHARE2.SHARE_AGE_MAX m) < (s.net.cycles + 65536 - s.entryNat f (i * s.esize f) 12 2) % 65536)

/-- The lane of slot `i` counts (R301): the partner half while the own copy is DUAL or DUAL_UNLINKED (R33), another lane while its
entry is fresh and in service. -/
def State.laneCounts (s : State) (m f i : Nat) : Bool :=
  match s.laneEntry f i m with
  | some (_, inSvc) => if s.lanePartner f i then s.copy == 0 || s.copy == 1 else inSvc && !s.laneStale m f i
  | none => false

/-- Slots of the lanes of a motor. -/
def State.laneSlots (s : State) (f : Nat) : List Nat := if s.flowOn f && s.kindOf f == 1 then s.usedSlots f else []

/-- The own share among the lanes that counted at the last cycle start and still count (R301). -/
def State.laneShare (s : State) (m : Nat) : State :=
  let c := s.chan m
  let own := s.rd (FIELD_SHARE.SPLIT_NOM m)
  let still := c.lanes.filter fun l => s.laneCounts m (s.rd (FIELD_SHARE.SHARE_FLOW m)) l.1
  let sum := own + (still.map (·.2)).foldl (· + ·) 0
  let share := if sum = 0 then Config.zeroShare else (roundDiv ((own : Int) * 2147483648) sum).toNat
  s.setChan m { c with lanes := still, fabShare := share }

/-- The lanes of a motor are taken anew at a fabric cycle start; a stale entry is a fault source (R301). -/
def State.takeLanes (s : State) (m : Nat) : State :=
  if s.shareSrc m = 2 then
    let f := s.rd (FIELD_SHARE.SHARE_FLOW m)
    let slots := s.laneSlots f
    let weight (i : Nat) : Nat := ((s.laneEntry f i m).map (·.1)).getD 0
    let s := (s.setChan m { s.chan m with
      lanes := (slots.filter (s.laneCounts m f)).map fun i => (i, weight i) }).laneShare m
    if slots.any fun i => s.laneStale m f i && (s.laneEntry f i m).isSome then s.raise srcFieldShare m
    else s.lower srcFieldShare m
  else s

/-- Credits at a cycle start (R450). -/
def State.refill (s : State) (f : Nat) : State :=
  let c : Int := s.rd (FLOW_W4.CRED f)
  s.wrInt (FLOW_W4.CRED_NOW f) (min (s.rdInt (FLOW_W4.CRED_NOW f) + c) c)

/-- The schedule as written. -/
def State.schedRegs (s : State) : Sched := ⟨s.rd NET_CYC.FAB_CYCLE, s.rd NET_SCHED.SCHED_LEN, s.rd NET_SCHED.ANN_PERIOD, s.windowRegs⟩

/-- The schedule for the cycle that starts: as it stood before the writes of the present CEC (R429, R437). -/
def State.scheduleTaken (s : State) : Sched :=
  match s.net.winOld with
  | some (t, old) => if t = s.now then old else s.schedRegs
  | none => s.schedRegs

/-- A write of NET_CYC, NET_SCHED or a window is to come: what stood before the writes of this CEC is kept (R437). -/
def State.keepSchedule (s : State) (off : Nat) : State :=
  if (off = 0x2C10 ∨ off = 0x2C14 ∨ (0x2C40 ≤ off ∧ off < 0x2CC0)) ∧ !(s.net.winOld.any fun o => o.1 == s.now) then
    { s with net := { s.net with winOld := some (s.now, s.schedRegs) } }
  else s

/-- An ANNOUNCE is due: every cycle of a claim, and every ANN_PERIOD cycles while held (R418). -/
def State.announceDue (s : State) : Bool :=
  (s.rd NET_ADDR.CLAIM == 1 && s.net.claimLeft != 0)
    || (s.rd NET_ADDR.CLAIM == 2 && decide (max 1 s.net.annPeriod ≤ s.net.cycles - s.net.annLast))

/-- A NEIGHBOR frame through a port (R411, R413 to R415, R423). -/
def State.sendNeighbor (s : State) (p : Nat) : State :=
  let (seq, s) := s.nextSeq0
  s.sendOwn p (s.ownFrame 7 0 0 seq 0 [])

/-- What the time-aware system has to send, NEIGHBOR on each enabled port, and an ANNOUNCE that is due (R418, R423, R428, R432). -/
def State.presence (s : State) : State :=
  let s := ([0, 1].filter s.portEn).foldl State.sendNeighbor ((s.gptpTurn 0).gptpTurn 1)
  if s.announceDue then ({ s with net := { s.net with claimLeft := s.net.claimLeft - 1 } }).sendAnnounce else s

/-- What a half that is not synchronised sends at its local cycle start beside gPTP: NEIGHBOR, ANNOUNCE and response frames of at most 128
bytes (R432). -/
def freeRuns (w : Nat × FabFrame) : Bool := [2, 4, 5, 7].contains w.2.typ && decide (w.2.payload.length + 46 ≤ 128)

/-- The local cycle start of a half that is not synchronised (R426, R432); what it forwards has the whole cycle (DEDUCED). -/
def State.localStart (s : State) : State :=
  let s := State.presence { s with net := { s.net with bulk := true } }
  let now := s.pan.waiting.filter freeRuns
  let s : State := { s with pan := { s.pan with waiting := s.pan.waiting.filter (!freeRuns ·) } }
  (now.filter (egressRank ·.2 == 1) ++ now.filter (egressRank ·.2 != 1)).foldl (fun (s : State) w => s.emit w.1 w.2) s

/-- FABRIC_CYCLE_START (R429, R430, R433, R450, R301): the registers written out of service take effect, windows are checked,
credits refilled, lane shares recomputed, the end-to-end check expects new frames, and the best master is chosen by what NET_PTP says. -/
def fabricCycleStart (s : State) : State :=
  let x := s.scheduleTaken
  let ok := windowsValid x.fab x.len x.windows
  let s := if ok then s else s.setFlag NET_EVT.SCHED_ERR true
  let s := { s with
    net := { s.net with cycles := s.net.cycles + 1, cycleAt := s.now, bulk := false, fabCycle := x.fab, schedLen := x.len,
                        annPeriod := x.ann, windows := x.windows, windowsOk := ok, pref := (List.range 64).map fun n => (n, s.rd (ROUTE.PREF n)),
                        silent := [0, 1].map fun p => (p, lookup s.net.silent 0 p + 1),
                        e2e := s.net.e2e.map fun e => (e.1, { e.2 with got := false, bad := false }) },
    pan := { s.pan with tickSent := [] }, safe := { s.safe with recAge := s.safe.recAge + 1 } }
  let s := ((List.range 256).filter s.flowOn).foldl State.refill s
  let s := (motors.foldl State.takeLanes s).chooseMaster
  if s.inSync then s else s.localStart

/-- Fit bytes to a length: cut, or filled with zeros. -/
def fitBytes (n : Nat) (b : List Byte) : List Byte := (b ++ List.replicate n 0).take n

/-- A frame of flow `f` with its destination and the flow's SEQ (R413). -/
def State.flowFrame (s : State) (f pcp : Nat) (payload : List Byte) : FabFrame :=
  { s.ownFrame 0 (s.rd (FLOW_W2.NODE f) + 64 * s.rd (FLOW_W2.RING f)) f (s.rd (FLOW_W6.SEQ f)) 0 payload with pcp := pcp }

/-- The flow's next SEQ. -/
def State.stepSeq (s : State) (f : Nat) : State := s.countWrap (FLOW_W6.SEQ f)

/-- SCHEDULED_WINDOW (R430, R431): window `k` sends the record of its TX_TICK flow; NODE 0 is not sent on the fabric (R440). -/
def scheduledWindow (k : Nat) (s : State) : State :=
  match s.net.windows[k]? with
  | none => s
  | some w =>
    if w.en ∧ s.net.windowsOk ∧ s.inSync ∧ s.heldAddr ≠ 0 ∧ s.flowOn w.flow ∧ s.kindOf w.flow = 3 ∧ s.rd (FLOW_W2.NODE w.flow) ≠ 0 ∧ !s.panStopped then
      let record := if s.fill w.flow = 0 then [] else s.entryRecord w.flow 0
      let f := { s.flowFrame w.flow 7 (fitBytes w.len record) with time := lookup s.pan.sampled s.gptpNow w.flow }
      let ports := [0, 1].filter fun p => w.ports.testBit p && s.portEn p
      let s := s.stepSeq w.flow
      if f.dst / 64 % 2 ≠ s.ring then s.crossOut true (sealFrame { f with pcp := 3 }) else ports.foldl (fun s p => s.emit p (portCopy p f)) s
    else s

/-- BULK_PHASE_START (R418, R423, R428, R432): gPTP, NEIGHBOR on each enabled port, a due ANNOUNCE, and the RING_EVT frames owed. -/
def bulkPhaseStart (s : State) : State :=
  if s.net.bulk then s
  else
    let s := State.presence { s with net := { s.net with bulk := true } }
    let owed := s.net.ringOwed
    let s := { s with net := { s.net with ringOwed := [] } }
    owed.foldl (fun s p =>
      let (seq, s) := s.nextSeq0
      if s.portEn (1 - p) then s.sendOwn (1 - p) (s.ownFrame 6 (63 + 64 * s.ring) 0 seq 0 []) else s) s

/-! ### Bulk frames -/

/-- A flow is named by an enabled window (R450). -/
def State.inWindow (s : State) (f : Nat) : Bool := s.net.windows.any fun w => w.en && w.flow == f

/-- Ports the waiting record of flow `f` uses, or none where it has to cross or misses its route (R422, R427, R451). -/
def State.flowPorts (s : State) (f : Nat) : List Nat :=
  match s.pan.headPorts.find? fun p => p.1 == f with
  | some (_, ps) => ps
  | none => if s.rd (FLOW_W2.RING f) = s.ring then s.routePorts (s.rd (FLOW_W2.NODE f)) else []

/-- A record of the flow can go on the fabric: LEN a multiple of 4 and at most 1,476 (R451). -/
def State.fabricLen (s : State) (f : Nat) : Bool :=
  let n := (s.entryRecord f (s.rd (FLOW_W5.RPTR f))).length
  n % 4 == 0 && decide (n ≤ 1476)

/-- What has been done with the head entry, by the numbers of `Pan.headSent` (R451). -/
def State.doneFor (s : State) (f : Nat) : List Nat := lookup s.pan.headSent [] f

/-- Flow `f` has a frame for port `p` in the bulk phase (R450); the copy for the second port has been charged with the first. -/
def State.hasFrame (s : State) (f p : Nat) : Bool :=
  s.flowOn f && s.rd (FLOW_W2.NODE f) != 0 && (decide (0 < s.rdInt (FLOW_W4.CRED_NOW f)) || (s.doneFor f).any fun d => d == 0 || d == 1)
    && (if s.kindOf f = 2 then
          s.fill f != 0 && !(s.doneFor f).contains 4 && !(s.doneFor f).contains p
            && (s.flowPorts f == [] || (s.flowPorts f).contains p)
        else s.kindOf f == 3 && !s.inWindow f && !s.pan.tickSent.contains f && s.fill f != 0
          && (s.flowPorts f == [] || (s.flowPorts f).contains p))

/-- CAN FD controllers with a transmit entry that names the flow (R451). -/
def canFlow (s : State) (c k : Nat) : Nat :=
  let w := if c = 0 then s.rd (NET_CAN0_FL.FLOW (k / 4)) else s.rd (NET_CAN1_FL.FLOW (k / 4))
  (w >>> (8 * (k % 4))) % 256

/-- The fields of an identifier entry: EN, DIR, IDE, ID. -/
def canId (s : State) (c k : Nat) : Bool × Bool × Bool × Nat :=
  if c = 0 then (s.flag (NET_CAN0_ID.EN k), s.flag (NET_CAN0_ID.DIR k), s.flag (NET_CAN0_ID.IDE k), s.rd (NET_CAN0_ID.ID k))
  else (s.flag (NET_CAN1_ID.EN k), s.flag (NET_CAN1_ID.DIR k), s.flag (NET_CAN1_ID.IDE k), s.rd (NET_CAN1_ID.ID k))

/-- Controller `c` sends and receives mapped frames: enabled for CAN FD (R435, R436). -/
def State.canOn (s : State) (c : Nat) : Bool := s.flag (NET_CAN_CFG.EN c) && s.flag (NET_CAN_CFG.FD c)

/-- Controllers that send the flow's records. -/
def State.canPaths (s : State) (f : Nat) : List Nat :=
  [0, 1].filter fun c => s.canOn c && (List.range 8).any fun k =>
    (canId s c k).1 && (canId s c k).2.1 && canFlow s c k == f

/-- Note what has been done with the head entry. -/
def State.noteHead (s : State) (f what : Nat) : State :=
  let done := if (s.doneFor f).contains what then s.doneFor f else s.doneFor f ++ [what]
  { s with pan := { s.pan with headSent := place s.pan.headSent f done } }

/-- A record of the head entry that a path cannot carry is counted in DROP, once (R451). -/
def State.dropHead (s : State) (f : Nat) : State := if (s.doneFor f).contains 5 then s else (s.dropEntry f).noteHead f 5

/-- The SEQ of a copy of the head entry: the first one on any path takes the flow's next SEQ, every other carries the same (R422, R440). -/
def State.headSeq (s : State) (f : Nat) : Nat × State :=
  if (s.doneFor f).contains 6 then ((s.rd (FLOW_W6.SEQ f) + 65535) % 65536, s) else (s.rd (FLOW_W6.SEQ f), (s.stepSeq f).noteHead f 6)

/-- A path of the head entry is done; with every path done the entry is removed (R451). -/
def State.pathDone (s : State) (f path : Nat) : State :=
  let s := s.noteHead f path
  let done := s.doneFor f
  let fabric := s.rd (FLOW_W2.NODE f) == 0 || done.contains 4 || ((s.flowPorts f != []) && (s.flowPorts f).all done.contains)
  if fabric && (s.canPaths f).all (fun c => done.contains (2 + c)) then s.removeHead f else s

/-- Charge a frame to its flow (R450). -/
def State.charge (s : State) (f len : Nat) : State :=
  s.wrInt (FLOW_W4.CRED_NOW f) (s.rdInt (FLOW_W4.CRED_NOW f) - ((len + 66 + 63) / 64 : Nat))

/-- Send the newest record of a TX_TICK flow through all its ports (R450). -/
def State.sendTick (s : State) (f : Nat) : State :=
  let g := s.flowFrame f 3 (s.entryRecord f 0)
  let s := (s.charge f g.payload.length).stepSeq f
  ({ s with pan := { s.pan with tickSent := s.pan.tickSent ++ [f] } }).originate g

/-- Send the head entry of a TX_PAN flow through port `p` (R450, R451): of its copies for the ports the first is charged. -/
def State.sendHead (s : State) (f p : Nat) : State :=
  let record := s.entryRecord f (s.rd (FLOW_W5.RPTR f))
  if !s.fabricLen f then (s.dropHead f).pathDone f 4
  else
    let first := (s.doneFor f).all fun d => d != 0 && d != 1
    let ps := s.flowPorts f
    let (seq, s) := s.headSeq f
    let g := { s.flowFrame f 3 record with seq := seq }
    let s := if first then s.charge f record.length else s
    match ps with
    | [] => (s.originate g).pathDone f 4
    | ps => (State.emit { s with pan := { s.pan with headPorts := place s.pan.headPorts f ps } } p (portCopy p g)).pathDone f p

/-- A frame may start on a port now: by the gate, and one of the half itself while it is synchronised (R432). -/
def State.waitsFor (s : State) (p r : Nat) : Option FabFrame :=
  ((s.pan.transit.find? fun t => t.ports.contains p && egressRank t.frame == r).map (·.frame)).orElse fun _ =>
    if s.inSync then (s.pan.waiting.find? fun w => w.1 == p && egressRank w.2 == r).map (·.2) else none

/-- The first stored frame for port `p` in the egress order: its rank and the frame (R426, R450). -/
def State.storedFor (s : State) (p : Nat) : Option (Nat × FabFrame) :=
  [0, 1, 2, 3].findSome? fun r => (s.waitsFor p r).map fun f => (r, f)

/-- Take port `p` off the first transit frame of a rank waiting for it. -/
def takeTransit (p r : Nat) : List Transit → List Transit
  | [] => []
  | t :: l =>
    if t.ports.contains p && egressRank t.frame == r then
      (if t.ports.all (· == p) then l else { t with ports := t.ports.filter (· != p) } :: l)
    else t :: takeTransit p r l

/-- Take the first frame of a rank that waits for port `p` out of the frames of the half itself. -/
def takeWaiting (p r : Nat) : List (Nat × FabFrame) → List (Nat × FabFrame)
  | [] => []
  | w :: l => if w.1 == p && egressRank w.2 == r then l else w :: takeWaiting p r l

/-- Send the first stored frame of a rank. -/
def State.sendStored (s : State) (p r : Nat) (f : FabFrame) : State :=
  let s := s.emit p f
  if s.pan.transit.any fun t => t.ports.contains p && egressRank t.frame == r then
    State.showTransit { s with pan := { s.pan with transit := takeTransit p r s.pan.transit } }
  else { s with pan := { s.pan with waiting := takeWaiting p r s.pan.waiting } }

/-- Take the first frame of another EtherType that waits for port `p`. -/
def takeOther (p : Nat) : List (Nat × List Byte) → List (Nat × List Byte)
  | [] => []
  | o :: l => if o.1 == p then l else o :: takeOther p l

/-- Send the first frame of another EtherType that waits for a port: last in the egress order (R412, R426). -/
def State.sendOther (s : State) (p : Nat) : State :=
  match s.pan.others.find? fun o => o.1 == p with
  | some (_, b) =>
    if s.fits (b.length - 46) then
      State.showTransit { s with wire := s.wire ++ [.other p b], pan := { s.pan with others := takeOther p s.pan.others } }
    else s
  | none => s

/-- The flow to serve next on a port: round-robin from the one after the last served (R450). -/
def State.nextFlow (s : State) (p : Nat) : Option Nat :=
  let last := lookup s.pan.served 0 p
  ((List.range 256).map fun d => (last + 1 + d) % 256).find? fun f => s.hasFrame f p

/-- The payload length of the flow's next frame. -/
def State.nextLen (s : State) (f : Nat) : Nat :=
  (s.entryRecord f (if s.kindOf f = 3 then 0 else s.rd (FLOW_W5.RPTR f))).length

/-- The next frame of port `p` after gPTP: a stored frame in the egress order, then a flow with credit and a record, then a frame of
another EtherType (R426, R432, R450). A half that is not synchronised sends no flow (DEDUCED). -/
def State.sendNext (s : State) (p : Nat) : State :=
  match s.storedFor p with
    | some (r, f) => if s.gateOpen f then s.sendStored p r f else s
    | none =>
      match if s.inSync then s.nextFlow p else none with
      | none => s.sendOther p
      | some f =>
        if s.fits (s.nextLen f) then
          let s := { s with pan := { s.pan with served := place s.pan.served p f } }
          if s.kindOf f = 3 then s.sendTick f else s.sendHead f p
        else s

/-- BULK_FRAME_SEND (R426, R428, R432, R450): what the time-aware system has to send through port `p` while the half is synchronised, and the
next other frame. -/
def bulkFrameSend (p : Nat) (s : State) : State :=
  if !s.portUp p ∨ s.panStopped then s else State.sendNext (if s.inSync then s.gptpTurn p else s) p

/-- The SRC byte of a receive flow (R438): of its last frame, and of the source its descriptor names where none has come. -/
def State.e2eSource (s : State) (k : Nat) : Nat := ((s.e2eOf k).src).getD (s.rd (FLOW_W2.NODE k) + 64 * s.rd (FLOW_W2.RING k))

/-- E2E_CHECK (R433): at the end of the scheduled phase each scheduled receive flow is judged for this cycle. Where several flows fail, the
highest number is recorded (DESIGN CHOICE). -/
def e2eCheck (s : State) : State :=
  let flows := (List.range 256).filter fun k => s.flowOn k && s.flag (FLOW_W0.SCHED k) && (s.kindOf k == 0 || s.kindOf k == 1)
  let s := flows.foldl (fun s k =>
    let e := s.e2eOf k
    s.setE2e k { e with got := false, bad := false, run := if !e.got || e.bad then e.run + 1 else 0 }) s
  let n := max 1 (s.rd NET_TIM.E2E_N)
  let failed := flows.filter fun k => decide (n ≤ (s.e2eOf k).run)
  match failed.getLast? with
  | some k =>
    let s := ((s.setFlag NET_EVT.E2E true).wr NET_E2E_INFO.FLOW k).wr NET_E2E_INFO.SRC (s.e2eSource k)
    s.raise srcNetE2e 0
  | none => s.lower srcNetE2e 0

/-! ### CAN FD, sending -/

/-- The CAN FD data length that holds `n` bytes. -/
def canLength (n : Nat) : Nat :=
  if n ≤ 12 then 12 else if n ≤ 16 then 16 else if n ≤ 20 then 20 else if n ≤ 24 then 24 else if n ≤ 32 then 32
  else if n ≤ 48 then 48 else 64

/-- The identifier word under the CRC of R436: IDE in bit 31. -/
def canIdWord (ide : Bool) (id : Nat) : Nat := id + if ide then 2 ^ 31 else 0

/-- The data of a mapped frame (R436), filled with zeros to a CAN FD length. -/
def canData (ide : Bool) (id seq typ reqId : Nat) (payload : List Byte) : List Byte :=
  let body := fitBytes (canLength (payload.length + 8) - 4) (dataOf [(1, seq), (1, typ), (2, reqId)] ++ payload)
  body ++ leBytes 4 (crc32c (leBytes 4 (canIdWord ide id) ++ body))

/-- Error state of a controller by its counters (R435, R438): bus-off, once entered, stays until recovery. -/
def State.showCan (s : State) (c : Nat) : State :=
  if s.rd (NET_CAN_STAT.BUS c) = 2 then s
  else s.wr (NET_CAN_STAT.BUS c) (if 128 ≤ s.rd (NET_CAN_STAT.TEC c) ∨ 128 ≤ s.rd (NET_CAN_STAT.REC c) then 1 else 0)

/-- The controller is off the bus. -/
def State.busOff (s : State) (c : Nat) : Bool := s.rd (NET_CAN_STAT.BUS c) == 2

/-- What happened on the bus of a controller, under ISO 11898-1 (R435): the transmit counter that passes 255 takes it off the bus, from which it
recovers after 128 times 11 recessive bits. TEC reads 255 while it is off, and REC stays at 255 (DESIGN CHOICE). -/
def State.canEvent (c : Nat) (s : State) (e : CanEvent) : State :=
  if !s.domOn 9 ∨ !s.flag (NET_CAN_CFG.EN c) then s
  else match s.busOff c, e with
    | true, .idle n =>
      let seen := lookup s.net.canIdle 0 c + n
      if 128 ≤ seen then
        ((({ s with net := { s.net with canIdle := erase s.net.canIdle c } } : State).wr (NET_CAN_STAT.TEC c) 0).wr (NET_CAN_STAT.REC c) 0).wr
          (NET_CAN_STAT.BUS c) 0
      else { s with net := { s.net with canIdle := place s.net.canIdle c seen } }
    | true, _ | false, .idle _ => s
    | false, .txError =>
      if 256 ≤ s.rd (NET_CAN_STAT.TEC c) + 8 then
        (({ s with net := { s.net with canIdle := erase s.net.canIdle c } } : State).wr (NET_CAN_STAT.TEC c) 255).wr (NET_CAN_STAT.BUS c) 2
      else (s.wr (NET_CAN_STAT.TEC c) (s.rd (NET_CAN_STAT.TEC c) + 8)).showCan c
    | false, .rxError => (s.count (NET_CAN_STAT.REC c)).showCan c
    | false, .rxDominant => (s.countN (NET_CAN_STAT.REC c) 8).showCan c

/-- A frame sent, and a frame received, without an error: a receive counter above 127 takes some value of 119 to 127 (R435). -/
def State.canSent (s : State) (c : Nat) : State := (s.wr (NET_CAN_STAT.TEC c) (s.rd (NET_CAN_STAT.TEC c) - 1)).showCan c
def State.canHeard (s : State) (c : Nat) : State :=
  if 128 ≤ s.rd (NET_CAN_STAT.REC c) then
    let (x, s) := s.draw
    (s.wr (NET_CAN_STAT.REC c) (119 + x % 9)).showCan c
  else (s.wr (NET_CAN_STAT.REC c) (s.rd (NET_CAN_STAT.REC c) - 1)).showCan c

/-- Send a mapped frame through entry `k` of controller `c`, with a bit-rate switch unless DBR names no data rate (R436, R438). -/
def State.sendCan (s : State) (c k seq typ reqId : Nat) (payload : List Byte) : State :=
  let (_, _, ide, id) := canId s c k
  let f : CanFrame := ⟨true, s.rd (NET_CAN_CFG.DBR c) != 0, ide, id, canData ide id (seq % 256) typ reqId payload⟩
  State.canSent { s with wire := s.wire ++ [.can c f] } c

/-- CAN_FRAME_TX (R435, R436, R451): controller `c` completes the frame of transmit entry `k`, after what else happened on its bus. -/
def canFrameTx (c k : Nat) (evs : List CanEvent) (s : State) : State :=
  let s := evs.foldl (State.canEvent c) s
  let (en, dir, _, _) := canId s c k
  let f := canFlow s c k
  if s.canOn c && s.domOn 9 && !s.busOff c && en && dir && s.flowOn f && s.fill f != 0 then
    if s.kindOf f = 3 then
      let r := s.entryRecord f 0
      if r.length ≤ 56 then (s.stepSeq f).sendCan c k (s.rd (FLOW_W6.SEQ f)) 0 0 r else s.dropEntry f
    else if s.kindOf f = 2 ∧ !(s.doneFor f).contains (2 + c) then
      let r := s.entryRecord f (s.rd (FLOW_W5.RPTR f))
      if r.length ≤ 56 then
        let (seq, s) := s.headSeq f
        (s.sendCan c k seq 0 0 r).pathDone f (2 + c)
      else (s.dropHead f).pathDone f (2 + c)
    else s
  else s

end Sys2Proof.Machine
end

