-- ==== Sys2Proof/Machine/Flags.lean ====
section
/-! DEFINITION. The FLAGS register of a stream and how each kind of operation writes it (R213, R234, R237, R248). -/

namespace Sys2Proof.Machine

/-- FLAGS bits as MVTS and MVFS order them: Z, N, V, SV, TC from bit 4 down (R248). -/
def flagZ := 16
def flagN := 8
def flagV := 4
def flagSV := 2
def flagTC := 1

/-- A write of FLAGS: the bits it writes and their values. -/
structure FlagWrite where
  mask : Nat
  val : Nat
  deriving DecidableEq, Repr

def FlagWrite.none_ : FlagWrite := ⟨0, 0⟩

/-- Z and N of a written result; pass B forms N of an S-tagged result from its negation (R237). -/
def flagsNZ (passB tagS : Bool) (r : Int) : FlagWrite :=
  let neg := if passB && tagS then decide (0 < r) else decide (r < 0)
  ⟨flagZ + flagN, (if r = 0 then flagZ else 0) + (if neg then flagN else 0)⟩

/-- V as given, and SV set with it and otherwise left (R213, R234). -/
def flagsV (v : Bool) : FlagWrite := if v then ⟨flagV + flagSV, flagV + flagSV⟩ else ⟨flagV, 0⟩

/-- TC. -/
def flagsTC (c : Bool) : FlagWrite := ⟨flagTC, if c then flagTC else 0⟩

/-- The flag writes of two slots of one bundle: V is ORed, and SV is formed from that OR (R234). -/
def FlagWrite.or (a b : FlagWrite) : FlagWrite := ⟨a.mask ||| b.mask, a.val ||| b.val⟩

/-- FLAGS after a write lands. -/
def FlagWrite.apply (w : FlagWrite) (flags : Nat) : Nat := ((flags ||| w.mask) ^^^ w.mask) ||| (w.val &&& w.mask)

/-- SAT of R234 in `w` bits: the stored result and V. -/
def satW (w : Nat) (s : Bool) (v : Int) : Int × Bool :=
  let m : Int := 2 ^ (w - 1) - 1
  (if s then clampInt (-m) m v else signedOf w (fieldOf w v), decide (v < -m) || decide (m < v))

/-- RNE of R234. -/
def rne (v : Int) (k : Nat) : Int := roundDiv v (2 ^ k)

end Sys2Proof.Machine
end

