-- ==== Sys2Proof/Machine/Operands.lean ====
section
/-! DEFINITION. The operand forms of the control engine: register names and their mirrors, address registers and their
modifiers, X and Y words as a stream reads them, and special registers (R200 to R208, R247, R254 to R256). -/

namespace Sys2Proof.Machine

/-- The word an X or Y address reaches: bits [14:2] (R196, R197). -/
def wordAddr (a : Nat) : Nat := a % 32768 / 4 * 4

end Sys2Proof.Machine

namespace Sys2Proof

open Sys2Proof.Machine

/-- The stream is pass B, whose resources are mirrored (R254). -/
def Strm.isB : Strm → Bool
  | .passB => true
  | _ => false

/-- The stream is a pass of the T-program. -/
def Strm.isT : Strm → Bool
  | .bprog => false
  | _ => true

/-- Mirrors of pass B (R254). -/
def Strm.dIdx (x : Strm) (p : Nat) : Nat := if x.isB then 31 - p else p
def Strm.accIdx (x : Strm) (n : Nat) : Nat := if x.isB then 3 - n else n
def Strm.pIdx (x : Strm) (n : Nat) : Nat := if x.isB then 7 - n else n

def PMod2.full : PMod2 → PMod
  | .stay => .stay | .inc => .inc | .pm => .pm | .circ => .circ

/-- The physical X address of a stream's access (R254). -/
def Strm.xAddr (x : Strm) (a : Nat) : Nat := if x.isB then mirrorOf (wordAddr a) else wordAddr a

/-- Where a write of a special register lands, in pass-A numbers, with its KIND and number for CE_TR_INFO. -/
def SReg.dest : SReg → Dest × Nat × Nat
  | .p n => (.p n.toNat, 2, n.toNat)
  | .pm n => (.pm n.toNat, 2, 8 + n.toNat)
  | .pl n => (.pl n.toNat, 2, 16 + n.toNat)
  | .lc k => (.lc k.toNat, 3, 24 + k.toNat)
  | .rrb => (.rrb, 3, 26)
  | .flags => (.flags 31, 4, 27)

/-- Bits of a special register. -/
def SReg.width : SReg → Nat
  | .rrb => 4
  | .flags => 5
  | _ => 16

end Sys2Proof

namespace Sys2Proof.Machine

/-! ### Streams -/

/-- The register set of a stream. -/
def State.strm (s : State) : Strm → Stream
  | .passA => s.ce.a
  | .passB => s.ce.b
  | .bprog => s.ce.p

/-- Replace it. -/
def State.setStrm (s : State) (x : Strm) (st : Stream) : State :=
  match x with
  | .passA => { s with ce := { s.ce with a := st } }
  | .passB => { s with ce := { s.ce with b := st } }
  | .bprog => { s with ce := { s.ce with p := st } }

/-! ### Loop state and flags: copy 1 for pass A and the B-program, copy 2 for pass B (R200) -/

def State.rrbOf (s : State) (x : Strm) : Nat := if x.isB then s.ce.rrb2 else s.ce.rrb1

def State.lcOf (s : State) (x : Strm) (k : Nat) : Nat := lookup (if x.isB then s.ce.lc2 else s.ce.lc1) 0 k

def State.flagsOf (s : State) (x : Strm) : Nat := if x.isB then s.ce.flagsB else s.ce.flags

def State.setRrb (s : State) (x : Strm) (v : Nat) : State :=
  if x.isB then { s with ce := { s.ce with rrb2 := v } } else { s with ce := { s.ce with rrb1 := v } }

def State.setLc (s : State) (x : Strm) (k v : Nat) : State :=
  if x.isB then { s with ce := { s.ce with lc2 := store s.ce.lc2 0 k v } }
  else { s with ce := { s.ce with lc1 := store s.ce.lc1 0 k v } }

def State.setFlags (s : State) (x : Strm) (v : Nat) : State :=
  if x.isB then { s with ce := { s.ce with flagsB := v } } else { s with ce := { s.ce with flags := v } }

/-! ### Register names -/

/-- The physical D register that a name resolves to (R208). -/
def dPhys (rrb k : Nat) : Nat := if k < 16 then k else 16 + (k - 16 + rrb) % 16

/-- The name `k` of a D register, resolved as the stream sees it: the number in pass A (R208, R254). -/
def State.dName (s : State) (x : Strm) (k : BitVec 5) : Nat := dPhys (s.rrbOf x) k.toNat

/-- The D register a name reads. -/
def State.dRead (s : State) (x : Strm) (k : BitVec 5) : TWord := lookup (s.strm x).d ⟨0, false⟩ (x.dIdx (s.dName x k))

/-- An accumulator as a later accumulate reads it, and as every other read does (R214). -/
def State.accNear (s : State) (x : Strm) (n : BitVec 2) : TAcc := lookup (s.strm x).accNear ⟨0, false⟩ (x.accIdx n.toNat)
def State.accFar (s : State) (x : Strm) (n : BitVec 2) : TAcc := lookup (s.strm x).accFar ⟨0, false⟩ (x.accIdx n.toNat)

/-- Address, modifier and length registers. -/
def State.pRead (s : State) (x : Strm) (n : Nat) : Nat := lookup (s.strm x).p 0 (x.pIdx n)
def State.pmRead (s : State) (x : Strm) (n : Nat) : Nat := lookup (s.strm x).pm 0 (x.pIdx n)
def State.plRead (s : State) (x : Strm) (n : Nat) : Nat := lookup (s.strm x).pl 0 (x.pIdx n)

/-! ### Address modifiers (R206) -/

/-- The smallest power of two, from 2 ^ k up, that is at least `n`. -/
def pow2From : Nat → Nat → Nat → Nat
  | 0, k, _ => 2 ^ k
  | fuel + 1, k, n => if n ≤ 2 ^ k then 2 ^ k else pow2From fuel (k + 1) n

/-- The circular form. -/
def circular (p pm pl : Nat) : Nat :=
  let k := pow2From 16 0 pl
  let base := p / k * k
  let a : Int := (p : Int) + signedOf 16 pm
  let a := if (base + pl : Int) ≤ a then a - pl else a
  let a := if a < base then a + pl else a
  fieldOf 16 a

/-- Pn after an access. -/
def modAddr (p pm pl : Nat) : PMod → Nat
  | .stay => p
  | .inc => (p + 4) % 65536
  | .dec => (p + 65532) % 65536
  | .pm => fieldOf 16 ((p : Int) + signedOf 16 pm)
  | .circ => circular p pm pl

/-- The address an access uses and what its register then holds. -/
def State.access (s : State) (x : Strm) (n : Nat) (m : PMod) : Nat × Nat :=
  (s.pRead x n, modAddr (s.pRead x n) (s.pmRead x n) (s.plRead x n) m)

/-- A circular access with a length or a step that R206 does not admit (R249, PLBAD). -/
def State.plBad (s : State) (x : Strm) (n : Nat) (m : PMod) : Bool :=
  match m with
  | .circ =>
    let pl := s.plRead x n
    !(4 ≤ pl && pl ≤ 32768 && pl % 4 == 0) || decide ((pl : Int) < (signedOf 16 (s.pmRead x n)).natAbs)
  | _ => false

/-! ### Errors in stored words (R199) -/

/-- The error stored at a place. -/
def State.errAt (s : State) (key : Nat) : Option Ecc := (s.eccs.find? fun e => e.1 == key).map (·.2)

/-- An error strikes a stored word, and stays until the word is written. -/
def State.strike (s : State) (k : Strike) : State :=
  { s with eccs := (placeOf k.mem k.addr, k.err) :: erase s.eccs (placeOf k.mem k.addr) }

/-- The data a read finds in a word: corrected, or as read with a double-bit error. -/
def State.asRead (s : State) (key : Nat) (w : Word) : Word :=
  match s.errAt key with
  | some (.double f) => w ^^^ f
  | _ => w

/-- An X word as the CE reads it outside the passes. -/
def State.xData (s : State) (a : Nat) : Word := s.asRead (placeOf .x a) (s.xWord a)

/-! ### Memory words -/

/-- A word whose new value a pass does not see yet (R214). -/
def State.oldWord (s : State) (x : Strm) (bank a : Nat) : Option Word :=
  if x.isT then (s.ce.old.find? fun o => o.bank == bank && o.addr == a && (s.strm x).t < o.due).map (·.old) else none

/-- The first word that stands. -/
def firstOf (a b : Option Word) (w : Word) : Word := (a.orElse fun _ => b).getD w

/-- The X word a stream reads: the old one before a store is visible (R214) and in the CEC of a write (R196); a word of the test ROM in the
known-answer test, which pass A reads through XL and pass B, under its mirror, through XU (R264). -/
def State.xSeen (s : State) (x : Strm) (a : Nat) : Word :=
  let p := x.xAddr a
  if s.ce.katRun then Config.katWord (if x.isB then 1 else 0) p
  else s.asRead (placeOf .x p) (firstOf (s.oldWord x 2 p) (s.beforeCec (placeOf .x p)) (s.xWord p))

/-- A Y bank's word. -/
def State.yWord (s : State) (bank a : Nat) : Word := if bank = 0 then s.ymem0.word 0 a else s.ymem1.word 0 a

/-- Write a Y word; an error stored in it ends (R199). -/
def State.setYWord (s : State) (bank a : Nat) (w : Word) : State :=
  if bank = 0 then { s with ymem0 := s.ymem0.setWord 0 a w, eccs := erase s.eccs (placeOf .y0 a) }
  else { s with ymem1 := s.ymem1.setWord 0 a w, eccs := erase s.eccs (placeOf .y1 a) }

/-- The place of a Y word. -/
def yPlace (bank a : Nat) : Nat := placeOf (if bank = 0 then .y0 else .y1) a

/-- An indirect write of a Y word: a load in its CEC finds the old value (R197). -/
def State.writeY (s : State) (bank a : Nat) (w : Word) : State :=
  (s.touch (yPlace bank a) rankQueue (s.yWord bank a)).setYWord bank a w

/-- The Y bank of an access: PBANK, or the other one for a B-program access with bit 15 set (R197). -/
def State.yBank (s : State) (x : Strm) (a : Nat) : Nat :=
  let b := s.rd CE_PROG.PBANK
  if !x.isT && a.testBit 15 then 1 - b else b

/-- The Y word of a bank a stream reads, in the same way (R197). -/
def State.yRead (s : State) (x : Strm) (bank a : Nat) : Word :=
  s.asRead (yPlace bank a) (firstOf (s.oldWord x bank a) (s.beforeCec (yPlace bank a)) (s.yWord bank a))

/-- The Y word a stream reads. -/
def State.ySeen (s : State) (x : Strm) (a : Nat) : Word :=
  if s.ce.katRun then Config.katWord 2 (wordAddr a) else s.yRead x (s.yBank x a) (wordAddr a)

/-- The value an X load brings (R255, R256): negated in pass B, and 0x8000_0000 replaced in a T-program. -/
def loadValue (x : Strm) (w : Word) : Int :=
  let v := w.toInt
  let v := if x.isT && v == -2147483648 then -2147483647 else v
  if x.isB then -v else v

/-! ### Special registers -/

/-- A special register as MVFS reads it (R248). -/
def State.specialRead (s : State) (x : Strm) : SReg → Int
  | .p n => s.pRead x n.toNat
  | .pm n => signedOf 16 (s.pmRead x n.toNat)
  | .pl n => s.plRead x n.toNat
  | .lc k => s.lcOf x k.toNat
  | .rrb => s.rrbOf x
  | .flags => s.flagsOf x

/-- A destination in the physical numbers of a stream (R254). -/
def Dest.of (x : Strm) : Dest → Dest
  | .d n => .d (x.dIdx n)
  | .accNear n => .accNear (x.accIdx n)
  | .accFar n => .accFar (x.accIdx n)
  | .p n => .p (x.pIdx n)
  | .pm n => .pm (x.pIdx n)
  | .pl n => .pl (x.pIdx n)
  | y => y

end Sys2Proof.Machine
end

