-- ==== Sys2Proof/Machine/Isa.lean ====
section
/-! DEFINITION. What each M, A and L slot operation computes from the operands its stream reads: results with their tags and
latencies, flags, and whether its tags are in conflict (R209, R211 to R214, R234 to R248). -/

namespace Sys2Proof.Machine

/-- One result of a slot: where it lands (pass-A numbers), its bits and tag, its latency, its SLOT, KIND and DEST for the
comparators, and whether it is presented to them. -/
structure Effect where
  dst : Dest
  val : Nat
  tag : Bool
  lat : Nat
  slot : Nat
  kind : Nat
  num : Nat
  shown : Bool
  deriving DecidableEq, Repr

/-- A store: KIND 5 for X or 6 for Y, logical address, and the value to memory. -/
structure StoreOut where
  kind : Nat
  addr : Nat
  val : Word
  deriving DecidableEq, Repr

/-- What one slot does. -/
structure SlotOut where
  effs : List Effect
  fl : FlagWrite
  /-- The tags of the operands are in conflict (R235, R210, R198). -/
  conf : Bool
  /-- Address registers after post-modification: number, value, SLOT (R214: visible from the next stream cycle). -/
  posts : List (Nat × Nat × Nat)
  stored : Option StoreOut
  /-- 0x8000_0000 was loaded from X in a T-program (R256). -/
  xmin : Bool
  /-- Places of the words read, with the memory as CE_MEMERR counts it: 1 X, 2 Y (R199). -/
  reads : List (Nat × Nat)
  deriving DecidableEq, Repr

def SlotOut.empty : SlotOut := ⟨[], FlagWrite.none_, false, [], none, false, []⟩

/-! ### Results -/

/-- A D register result. -/
def dResult (slot p : Nat) (r : Int) (tag : Bool) (lat : Nat) : Effect := ⟨.d p, fieldOf 32 r, tag, lat, slot, 0, p, true⟩

/-- An accumulator result in its two views (R214). -/
def accResult (n : BitVec 2) (r : Int) (tag : Bool) : List Effect :=
  [⟨.accNear n.toNat, fieldOf 72 r, tag, 1, 0, 1, n.toNat, false⟩, ⟨.accFar n.toNat, fieldOf 72 r, tag, 3, 0, 1, n.toNat, true⟩]

/-- Tags of an additive operation: the common tag, or a conflict with an S result (R235, R236, R258). -/
def addTag (a b : Bool) : Bool × Bool := (a || b, a != b)

/-- The product of two words with the pass-B rule of S × S (R235). -/
def product (x : Strm) (a b : TWord) : Int :=
  let p := a.v.toInt * b.v.toInt
  if x.isB && a.s && b.s then -p else p

/-! ### M slot (R239) -/

/-- MPY. -/
def State.opMpy (s : State) (x : Strm) (sat : Bool) (dd da db : BitVec 5) : SlotOut :=
  let a := s.dRead x da
  let b := s.dRead x db
  let r := satW 32 sat (rne (product x a b) 31)
  { SlotOut.empty with effs := [dResult 0 (s.dName x dd) r.1 (a.s || b.s) 3], fl := flagsV r.2 }

/-- MPA. -/
def State.opMpa (s : State) (x : Strm) (sat : Bool) (n : BitVec 2) (da db : BitVec 5) : SlotOut :=
  let a := s.dRead x da
  let b := s.dRead x db
  let r := satW 72 sat (2 * product x a b)
  { SlotOut.empty with effs := accResult n r.1 (a.s || b.s), fl := flagsV r.2 }

/-- The accumulate of MAC and MSU: a product of sign `g` added to the accumulator. -/
def State.accumulate (s : State) (x : Strm) (sat : Bool) (n : BitVec 2) (da db : BitVec 5) (g : Int) : SlotOut :=
  let a := s.dRead x da
  let b := s.dRead x db
  let c := s.accNear x n
  let t := addTag c.s (a.s || b.s)
  let r := satW 72 sat (c.v.toInt + g * (2 * product x a b))
  { SlotOut.empty with effs := accResult n r.1 t.1, fl := flagsV r.2, conf := t.2 }

/-- MAC. -/
def State.opMac (s : State) (x : Strm) (sat : Bool) (n : BitVec 2) (da db : BitVec 5) : SlotOut := s.accumulate x sat n da db 1

/-- MSU. -/
def State.opMsu (s : State) (x : Strm) (sat : Bool) (n : BitVec 2) (da db : BitVec 5) : SlotOut := s.accumulate x sat n da db (-1)

/-- MVA. -/
def State.opMva (s : State) (x : Strm) (sat : Bool) (dd : BitVec 5) (n sh : BitVec 2) : SlotOut :=
  let c := s.accFar x n
  let r := satW 32 sat (rne (c.v.toInt * 2 ^ sh.toNat) 32)
  { SlotOut.empty with effs := [dResult 0 (s.dName x dd) r.1 c.s 3], fl := flagsV r.2 }

/-- LDA. -/
def State.opLda (s : State) (x : Strm) (n : BitVec 2) (da : BitVec 5) : SlotOut :=
  let a := s.dRead x da
  { SlotOut.empty with effs := accResult n (a.v.toInt * 2 ^ 32) a.s }

/-- CLRA. -/
def opClra (n : BitVec 2) (t : Bool) : SlotOut := { SlotOut.empty with effs := accResult n 0 t }

/-- ADDA and SUBA: the second accumulator with sign `g`. -/
def State.accSum (s : State) (x : Strm) (sat : Bool) (n m : BitVec 2) (g : Int) : SlotOut :=
  let a := s.accNear x n
  let b := if n = m then a else s.accFar x m
  let t := addTag a.s b.s
  let r := satW 72 sat (a.v.toInt + g * b.v.toInt)
  { SlotOut.empty with effs := accResult n r.1 t.1, fl := flagsV r.2, conf := t.2 }

/-- NEGA. -/
def State.opNega (s : State) (x : Strm) (sat : Bool) (n m : BitVec 2) : SlotOut :=
  let b := s.accFar x m
  let r := satW 72 sat (-b.v.toInt)
  { SlotOut.empty with effs := accResult n r.1 b.s, fl := flagsV r.2 }

/-- MULI. -/
def State.opMuli (s : State) (x : Strm) (sat : Bool) (dd da db : BitVec 5) : SlotOut :=
  let a := s.dRead x da
  let b := s.dRead x db
  let r := satW 32 sat (a.v.toInt * b.v.toInt)
  { SlotOut.empty with effs := [dResult 0 (s.dName x dd) r.1 (a.s || b.s) 3], fl := flagsV r.2, conf := a.s || b.s }

/-- The M slot. -/
def State.mSlot (s : State) (x : Strm) : MOp → SlotOut
  | .nop => SlotOut.empty
  | .mpy t dd da db => s.opMpy x t dd da db
  | .mpa t n da db => s.opMpa x t n da db
  | .mac t n da db => s.opMac x t n da db
  | .msu t n da db => s.opMsu x t n da db
  | .mva t dd n sh => s.opMva x t dd n sh
  | .lda _ n da => s.opLda x n da
  | .clra n t => opClra n t
  | .adda t n m => s.accSum x t n m 1
  | .suba t n m => s.accSum x t n m (-1)
  | .nega t n m => s.opNega x t n m
  | .muli t dd da db => s.opMuli x t dd da db

/-! ### A slot (R241) -/

/-- An A-slot result with N, Z and the flags beside them. -/
def State.aResult (s : State) (x : Strm) (dd : BitVec 5) (r : Int) (tag conf : Bool) (lat : Nat) (more : FlagWrite) : SlotOut :=
  { SlotOut.empty with effs := [dResult 1 (s.dName x dd) r tag lat], fl := (flagsNZ x.isB tag r).or more, conf := conf }

/-- ADD and SUB. -/
def State.opSum (s : State) (x : Strm) (sat : Bool) (dd da db : BitVec 5) (g : Int) : SlotOut :=
  let a := s.dRead x da
  let b := s.dRead x db
  let t := addTag a.s b.s
  let r := satW 32 sat (a.v.toInt + g * b.v.toInt)
  s.aResult x dd r.1 t.1 t.2 3 (flagsV r.2)

/-- MIN and MAX, which swap in pass B for S operands. -/
def State.opExtreme (s : State) (x : Strm) (dd da db : BitVec 5) (least : Bool) : SlotOut :=
  let a := s.dRead x da
  let b := s.dRead x db
  let t := addTag a.s b.s
  let least := if x.isB && a.s && b.s then !least else least
  let r := if least then min a.v.toInt b.v.toInt else max a.v.toInt b.v.toInt
  s.aResult x dd r t.1 t.2 3 FlagWrite.none_

/-- SEL. -/
def State.opSel (s : State) (x : Strm) (dd da db : BitVec 5) : SlotOut :=
  let a := s.dRead x da
  let b := s.dRead x db
  let t := addTag a.s b.s
  let r := if (s.flagsOf x).testBit 0 then a.v.toInt else b.v.toInt
  { SlotOut.empty with effs := [dResult 1 (s.dName x dd) r t.1 3], conf := t.2 }

/-- A condition of R243. -/
def condHolds (c : Cond) (a b : Int) : Bool :=
  match c with
  | .eq => decide (a = b) | .ne => decide (a ≠ b) | .lt => decide (a < b)
  | .le => decide (a ≤ b) | .gt => decide (b < a) | .ge => decide (b ≤ a)

/-- The mirrored condition. -/
def condMirror : Cond → Cond
  | .eq => .eq | .ne => .ne | .lt => .gt | .gt => .lt | .le => .ge | .ge => .le

/-- CMP. -/
def State.opCmp (s : State) (x : Strm) (c : Cond) (da db : BitVec 5) : SlotOut :=
  let a := s.dRead x da
  let b := s.dRead x db
  let c := if x.isB && a.s && b.s then condMirror c else c
  { SlotOut.empty with fl := flagsTC (condHolds c a.v.toInt b.v.toInt), conf := a.s != b.s }

/-- The quotient of R244 and V. -/
def divQ31 (a b : Int) : Int × Bool :=
  if b = 0 then (if a = 0 then 0 else if 0 < a then 2147483647 else -2147483647, decide (a ≠ 0))
  else satW 32 true (roundDiv ((if b < 0 then -a else a) * 2147483648) b.natAbs)

/-- DIV. -/
def State.opDiv (s : State) (x : Strm) (dd da db : BitVec 5) : SlotOut :=
  let a := s.dRead x da
  let b := s.dRead x db
  let nb := x.isB && b.s
  let r := divQ31 a.v.toInt (if nb then -b.v.toInt else b.v.toInt)
  let q := if nb && !a.s then -r.1 else r.1
  s.aResult x dd q (a.s || b.s) false 6 (flagsV r.2)

/-- 2²³ / √(a / 2³¹), rounded to nearest with ties to even: the nearest integer to √(2⁷⁷ / a) (R245). -/
def rsqrtExact (a : Nat) : Int :=
  let f := isqrt (2 ^ 77 / a)
  let d := 2 ^ 79
  let m := (2 * f + 1) * (2 * f + 1) * a
  if d < m then f else if m < d then f + 1 else if f % 2 = 0 then f else f + 1

/-- RSQRT of R245 and V. -/
def rsqrtQ31 (a : Int) : Int × Bool := if a ≤ 0 then (2147483647, true) else satW 32 true (rsqrtExact a.toNat)

/-- RSQRT. -/
def State.opRsqrt (s : State) (x : Strm) (dd da : BitVec 5) : SlotOut :=
  let a := s.dRead x da
  let nb := x.isB && a.s
  let r := rsqrtQ31 (if nb then -a.v.toInt else a.v.toInt)
  s.aResult x dd (if nb then -r.1 else r.1) a.s false 6 (flagsV r.2)

/-- ASR. -/
def State.opAsr (s : State) (x : Strm) (dd da n : BitVec 5) : SlotOut :=
  let a := s.dRead x da
  s.aResult x dd (rne a.v.toInt n.toNat) a.s false 3 FlagWrite.none_

/-- ASL. -/
def State.opAsl (s : State) (x : Strm) (sat : Bool) (dd da n : BitVec 5) : SlotOut :=
  let a := s.dRead x da
  let r := satW 32 sat (a.v.toInt * 2 ^ n.toNat)
  s.aResult x dd r.1 a.s false 3 (flagsV r.2)

/-- A bitwise or integer operation, whose operands must be C-tagged (R235). -/
def State.opBits (s : State) (x : Strm) (dd : BitVec 5) (r : Word) (tagged : Bool) : SlotOut :=
  s.aResult x dd r.toInt tagged tagged 3 FlagWrite.none_

/-- AND, OR and XOR. -/
def State.opLogic (s : State) (x : Strm) (dd da db : BitVec 5) (f : Word → Word → Word) : SlotOut :=
  let a := s.dRead x da
  let b := s.dRead x db
  s.opBits x dd (f a.v b.v) (a.s || b.s)

/-- NOT. -/
def State.opNot (s : State) (x : Strm) (dd da : BitVec 5) : SlotOut :=
  let a := s.dRead x da
  s.opBits x dd (~~~a.v) a.s

/-- ADDI. -/
def State.opAddi (s : State) (x : Strm) (sat : Bool) (dd da i : BitVec 5) : SlotOut :=
  let a := s.dRead x da
  let r := satW 32 sat (a.v.toInt + i.toInt)
  s.aResult x dd r.1 a.s a.s 3 (flagsV r.2)

/-- MOV. -/
def State.opMov (s : State) (x : Strm) (dd da : BitVec 5) : SlotOut :=
  let a := s.dRead x da
  s.aResult x dd a.v.toInt a.s false 3 FlagWrite.none_

/-- NEG. -/
def State.opNeg (s : State) (x : Strm) (sat : Bool) (dd da : BitVec 5) : SlotOut :=
  let a := s.dRead x da
  let r := satW 32 sat (-a.v.toInt)
  s.aResult x dd r.1 a.s false 3 (flagsV r.2)

/-- ABS. -/
def State.opAbs (s : State) (x : Strm) (sat : Bool) (dd da : BitVec 5) : SlotOut :=
  let a := s.dRead x da
  let r := satW 32 sat (a.v.toInt.natAbs : Int)
  s.aResult x dd (if x.isB && a.s then -r.1 else r.1) a.s false 3 (flagsV r.2)

/-- SIN. -/
def State.opSin (s : State) (x : Strm) (dd da : BitVec 5) : SlotOut :=
  let a := s.dRead x da
  s.aResult x dd (sinWord a.v.toInt) a.s false 3 FlagWrite.none_

/-- COS. -/
def State.opCos (s : State) (x : Strm) (dd da : BitVec 5) : SlotOut :=
  let a := s.dRead x da
  let r := cosWord a.v.toInt
  s.aResult x dd (if x.isB && a.s then -r else r) a.s false 3 FlagWrite.none_

/-- The A slot. -/
def State.aSlot (s : State) (x : Strm) : AOp → SlotOut
  | .nop => SlotOut.empty
  | .add t dd da db => s.opSum x t dd da db 1
  | .sub t dd da db => s.opSum x t dd da db (-1)
  | .min _ dd da db => s.opExtreme x dd da db true
  | .max _ dd da db => s.opExtreme x dd da db false
  | .sel _ dd da db => s.opSel x dd da db
  | .cmp _ c da db => s.opCmp x c da db
  | .div dd da db => s.opDiv x dd da db
  | .asr _ dd da n => s.opAsr x dd da n
  | .asl t dd da n => s.opAsl x t dd da n
  | .mov _ dd da => s.opMov x dd da
  | .neg t dd da => s.opNeg x t dd da
  | .abs t dd da => s.opAbs x t dd da
  | .sin _ dd da => s.opSin x dd da
  | .cos _ dd da => s.opCos x dd da
  | .rsqrt dd da => s.opRsqrt x dd da
  | .not _ dd da => s.opNot x dd da
  | .and _ dd da db => s.opLogic x dd da db (· &&& ·)
  | .or _ dd da db => s.opLogic x dd da db (· ||| ·)
  | .xor _ dd da db => s.opLogic x dd da db (· ^^^ ·)
  | .addi t dd da i => s.opAddi x t dd da i

/-! ### L slot (R248) -/

/-- LDX. -/
def State.opLdx (s : State) (x : Strm) (dd : BitVec 5) (p : Nat) (m : PMod) : SlotOut :=
  let a := s.access x p m
  let w := s.xSeen x a.1
  { SlotOut.empty with
    effs := [dResult 2 (s.dName x dd) (loadValue x w) true 3], posts := [(p, a.2, 2)], xmin := x.isT && w == 0x80000000#32,
    reads := [(1, placeOf .x (x.xAddr a.1))] }

/-- LDY. -/
def State.opLdy (s : State) (x : Strm) (dd : BitVec 5) (p : Nat) (m : PMod) : SlotOut :=
  let a := s.access x p m
  { SlotOut.empty with
    effs := [dResult 2 (s.dName x dd) (s.ySeen x a.1).toInt false 3], posts := [(p, a.2, 2)],
    reads := [(2, yPlace (s.yBank x a.1) (wordAddr a.1))] }

/-- LDXY. -/
def State.opLdxy (s : State) (x : Strm) (dx dy : BitVec 5) (px py : BitVec 2) (mx my : PMod2) : SlotOut :=
  let a := s.opLdx x dx px.toNat mx.full
  let b := s.access x (4 + py.toNat) my.full
  { a with effs := a.effs ++ [dResult 3 (s.dName x dy) (s.ySeen x b.1).toInt false 3],
           posts := a.posts ++ [(4 + py.toNat, b.2, 3)],
           reads := a.reads ++ [(2, yPlace (s.yBank x b.1) (wordAddr b.1))] }

/-- STX: pass B negates an S-tagged value on its way to memory. -/
def State.opStx (s : State) (x : Strm) (ds : BitVec 5) (p : Nat) (m : PMod) : SlotOut :=
  let a := s.access x p m
  let d := s.dRead x ds
  { SlotOut.empty with stored := some ⟨5, wordAddr a.1, if x.isB && d.s then -d.v else d.v⟩, posts := [(p, a.2, 2)] }

/-- STY: a T-program store of an S-tagged value is a tag conflict and writes nothing (R198). -/
def State.opSty (s : State) (x : Strm) (ds : BitVec 5) (p : Nat) (m : PMod) : SlotOut :=
  let a := s.access x p m
  let d := s.dRead x ds
  let bad := x.isT && d.s
  { SlotOut.empty with
    stored := if bad then none else some ⟨6, wordAddr a.1, d.v⟩, conf := bad, posts := [(p, a.2, 2)] }

/-- LDI. -/
def State.opLdi (s : State) (x : Strm) (dd : BitVec 5) (h : Bool) (imm : BitVec 11) : SlotOut :=
  { SlotOut.empty with effs := [dResult 2 (s.dName x dd) (if h then imm.toInt * 2 ^ 21 else imm.toInt) false 3] }

/-- A write of a special register by a slot (R214: visible from t + 3); FLAGS goes with the bundle's flags. -/
def specialWrite (r : SReg) (v : Nat) : SlotOut :=
  match r with
  | .flags => { SlotOut.empty with fl := ⟨31, v % 32⟩ }
  | _ => { SlotOut.empty with effs := [⟨r.dest.1, v % 2 ^ r.width, false, 3, 2, r.dest.2.1, r.dest.2.2, true⟩] }

/-- LDIP. -/
def opLdip (p : BitVec 3) (imm : BitVec 13) : SlotOut := specialWrite (.p p) (imm.toNat * 4)

/-- LDIM. -/
def opLdim : ImmDst → SlotOut
  | .pm n imm => specialWrite (.pm n) (fieldOf 16 (imm.toInt * 4))
  | .pl n imm => specialWrite (.pl n) (imm.toNat * 4)
  | .lc k imm => specialWrite (.lc k) imm.toNat
  | .rrb imm => specialWrite .rrb imm.toNat

/-- MVTS, whose source must be C-tagged (R210). -/
def State.opMvts (s : State) (x : Strm) (ds : BitVec 5) (r : SReg) : SlotOut :=
  { specialWrite r (s.dRead x ds).v.toNat with conf := (s.dRead x ds).s }

/-- MVFS. -/
def State.opMvfs (s : State) (x : Strm) (dd : BitVec 5) (r : SReg) : SlotOut :=
  { SlotOut.empty with effs := [dResult 2 (s.dName x dd) (s.specialRead x r) false 3] }

/-- The L slot. -/
def State.lSlot (s : State) (x : Strm) : LOp → SlotOut
  | .nop => SlotOut.empty
  | .ldxy dx dy px py mx my => s.opLdxy x dx dy px py mx my
  | .ldx dd p m => s.opLdx x dd p.toNat m
  | .ldy dd p m => s.opLdy x dd p.toNat m
  | .stx ds p m => s.opStx x ds p.toNat m
  | .sty ds p m => s.opSty x ds p.toNat m
  | .ldi dd h imm => s.opLdi x dd h imm
  | .ldip p imm => opLdip p imm
  | .ldim k => opLdim k
  | .mvts ds r => s.opMvts x ds r
  | .mvfs dd r => s.opMvfs x dd r

end Sys2Proof.Machine
end

