-- ==== Sys2Proof/Machine/Engine.lean ====
section
/-! DEFINITION. How a stream of the control engine issues a bundle: results landing in their stream cycles, the checks of R249,
the control codes, the B-program's stops, and the rows that carry one bundle each (R214 to R227, R230 to R258). -/

namespace Sys2Proof.Machine

/-! ### Landing (R214 to R216) -/

/-- Present a writeback to the comparators (R260); B-program results are never compared (R263). -/
def State.present (s : State) (x : Strm) (l : Landed) : State :=
  match x with
  | .passA => { s with ce := { s.ce with bufA := s.ce.bufA ++ [l] } }
  | .passB => { s with ce := { s.ce with bufB := s.ce.bufB ++ [l] } }
  | .bprog => s

/-- Write a result to its destination. -/
def State.writeDest (s : State) (x : Strm) (dst : Dest) (v : Nat) (tag : Bool) : State :=
  let st := s.strm x
  match dst with
  | .d n => s.setStrm x { st with d := store st.d ⟨0, false⟩ n ⟨BitVec.ofNat 32 v, tag⟩ }
  | .accNear n => s.setStrm x { st with accNear := store st.accNear ⟨0, false⟩ n ⟨BitVec.ofNat 72 v, tag⟩ }
  | .accFar n => s.setStrm x { st with accFar := store st.accFar ⟨0, false⟩ n ⟨BitVec.ofNat 72 v, tag⟩ }
  | .p n => s.setStrm x { st with p := store st.p 0 n v }
  | .pm n => s.setStrm x { st with pm := store st.pm 0 n v }
  | .pl n => s.setStrm x { st with pl := store st.pl 0 n v }
  | .lsa k => s.setStrm x { st with lsa := store st.lsa 0 k v }
  | .lc k => s.setLc x k v
  | .rrb => s.setRrb x v
  | .flags mask => s.setFlags x (FlagWrite.apply ⟨mask, v⟩ (s.flagsOf x))
  | .x a => s.writeXPair rankCe a (BitVec.ofNat 32 v)

/-- The tag a writeback is compared with: only D registers and accumulators carry one (R259). -/
def shownTag (kind : Nat) (tag : Bool) : Option Bool := if kind ≤ 1 then some tag else none

/-- One held result lands. -/
def State.landOne (x : Strm) (s : State) (h : Held) : State :=
  let s := s.writeDest x h.dst h.val h.tag
  match h.twin with
  | some t =>
    let v := if t.kind = 4 then s.flagsOf x else h.val
    s.present x ⟨h.due, t, v, shownTag t.kind h.tag, 0, none⟩
  | none => s

/-- Every held result that is visible in stream cycle `c` lands, in the order of R216. -/
def State.landUpTo (s : State) (x : Strm) (c : Nat) : State :=
  let st := s.strm x
  (st.held.filter fun h => h.due ≤ c).foldl (State.landOne x) (s.setStrm x { st with held := st.held.filter fun h => c < h.due })

/-- Enter a result among those held, after every one that is due no later (R216). -/
def holdIn : List Held → Held → List Held
  | [], h => [h]
  | a :: r, h => if h.due < a.due then h :: a :: r else a :: holdIn r h

/-- Hold a result. -/
def State.hold (s : State) (x : Strm) (h : Held) : State :=
  let st := s.strm x
  s.setStrm x { st with held := holdIn st.held h }

/-- Hold a slot's result of the bundle of stream cycle `t`. -/
def State.holdEffect (x : Strm) (t : Nat) (conf : Bool) (s : State) (e : Effect) : State :=
  s.hold x ⟨t + e.lat, e.dst.of x, e.val, e.tag,
    if x.isT && e.shown then some ⟨t, e.slot, e.kind, e.num, conf⟩ else none⟩

/-! ### Memory errors (R199) -/

/-- Memories of CE_MEMERR: 0 program, 1 X, 2 Y. -/
def memCorr (k : Nat) : Fld := if k = 0 then CE_MEMERR.PM_CORR else if k = 1 then CE_MEMERR.X_CORR else CE_MEMERR.Y_CORR
def memDed (k : Nat) : Fld := if k = 0 then CE_MEMERR.PM_DED else if k = 1 then CE_MEMERR.X_DED else CE_MEMERR.Y_DED

/-- What a read of memory `k` finds in the check bits of a place; the known-answer test reads its ROM. -/
def State.noteEcc (s : State) (k key : Nat) : State :=
  if s.ce.katRun then s
  else match s.errAt key with
    | none => s
    | some .single => s.count (memCorr k)
    | some (.double _) => (s.setFlag (memDed k) true).report srcCeEcc 0

/-- The findings of several reads. -/
def State.noteReads (s : State) (l : List (Nat × Nat)) : State := l.foldl (fun (s : State) r => s.noteEcc r.1 r.2) s

/-! ### Program header (R223) -/

/-- A bundle of a program bank. -/
def State.bundleAt (s : State) (bank n : Nat) : Bundle := (if bank = 0 then s.pm0 else s.pm1).bundle 0 (8 * n)

/-- T_ENTRY, B_ENTRY and T_ISSUE of the active bank. -/
def State.tEntry (s : State) : Nat := ((s.bundleAt (s.rd CE_PROG.PBANK) 0).extractLsb' 16 14).toNat
def State.bEntry (s : State) : Nat := ((s.bundleAt (s.rd CE_PROG.PBANK) 0).extractLsb' 0 14).toNat
def State.tIssue (s : State) : Nat := s.rd RAKE_BUDGET.T_ISSUE

/-! ### What a tick reports once -/

/-- A source that one tick reports once: 0 CE_ILL, 1 CE_ISSUE, 2 CE_TAG, 3 TR_KAT, 4 TR_MM. Each holds the outputs of the
tick (R225, R250, R258, R262, R265). -/
def State.onceInTick (s : State) (k : Nat) (f : State → State) : State :=
  if s.ce.seen.testBit k then s else f { s with ce := { s.ce with seen := s.ce.seen ||| 2 ^ k } }

/-- The first illegal bundle of the tick is recorded, and before one a tag conflict (R250, R258). -/
def State.recordBundle (s : State) (x : Strm) (pc code : Nat) : State :=
  let rank := if code = 0x09 then 1 else 2
  if x.isT ∧ rank ≤ s.ce.recorded then s
  else
    let n := match x with
      | .bprog => 0
      | .passA => 1
      | .passB => 2
    let s := ((s.wr CE_ILL_INFO.STREAM n).wr CE_ILL_INFO.PC pc).wr CE_ILL_INFO.ILL_CODE code
    if x.isT then { s with ce := { s.ce with recorded := rank } } else s

/-- An illegal bundle (R250). -/
def State.illegal (s : State) (x : Strm) (pc code : Nat) : State :=
  let s := s.recordBundle x pc code
  if x.isT then
    (s.setFlag CE_ILL_INFO.ILL_T true).onceInTick 0 fun s => (s.count CE_ILL_CNT.ILL_T_CNT).report srcCeIll 0
  else (s.setFlag CE_ILL_INFO.ILL_B true).count CE_ILL_CNT.ILL_B_CNT

/-- A tag conflict (R236, R258). -/
def State.tagConflict (s : State) (x : Strm) (pc : Nat) : State :=
  if x.isT then
    ((s.recordBundle x pc 0x09).setFlag CE_TR_STAT.TAGC true).onceInTick 2 fun s => s.report srcCeTag 0
  else s.setFlag CE_PSTAT.BTAGC true

/-- The wrong issue count of pass A (R225). -/
def State.issueFault (s : State) : State := s.onceInTick 1 fun s => (s.count CE_ISSUE.ISSUE_ERR_CNT).report srcCeIssue 0

/-! ### The bundle that issues -/

/-- A bundle as fetched: its control field, its slots as decoded, the argument of REP, CTXRUN or COMPETE, and whether its slots
break the form of R232. -/
structure Fetched where
  ctl : CtlCode
  m : Slot MOp
  a : Slot AOp
  l : Slot LOp
  arg : Nat
  badForm : Bool
  deriving DecidableEq, Repr

/-- A bundle from its control field and its raw slots. -/
def fetched (c : CtlCode) (m a l : BitVec 20) : Fetched :=
  let plain := decide (m = 0 ∧ a = 0)
  match c with
  | .free c => ⟨.free c, decodeM m, decodeA a, decodeL l, 0, false⟩
  | .rep => ⟨.rep, decodeM m, decodeA a, .op .nop, (l.extractLsb' 0 6).toNat, !(plain && l.extractLsb' 6 14 == 0)⟩
  | .ctxrun => ⟨.ctxrun, decodeM m, decodeA a, .op .nop, (l.extractLsb' 0 7).toNat, !(plain && l.extractLsb' 7 13 == 0)⟩
  | .compete =>
    ⟨.compete, decodeM m, decodeA a, if l.extractLsb' 0 2 = 3 then .ill 0x02 else .op .nop, (l.extractLsb' 0 2).toNat,
      !(plain && l.extractLsb' 2 18 == 0)⟩
  | .halt => ⟨.halt, decodeM m, decodeA a, decodeL l, 0, !(plain && l == 0)⟩
  | .reserved => ⟨.reserved, decodeM m, decodeA a, .ill 0x01, 0, false⟩

/-- The control field of a bundle that has no effect there: code NOP, or a reserved code, which makes the bundle illegal (R249,
R250). -/
def nopCode (v : BitVec 4) : CtlCode :=
  match ctlOf v with
  | .reserved => .reserved
  | _ => .free .nop

/-- A bundle that holds operations and control code NOP. -/
def fetchedOps (m : MOp) (a : AOp) (l : LOp) : Fetched := ⟨.free .nop, .op m, .op a, .op l, 0, false⟩

/-- The D registers that slots write, by pass-A number. -/
def dNumbers (o : SlotOut) : List Nat := o.effs.filterMap fun e => match e.dst with
  | .d n => some n
  | _ => none

/-- Some number stands twice. -/
def twice : List Nat → Bool
  | [] => false
  | a :: r => r.contains a || twice r

/-- The address registers and modifiers an L-slot operation uses. -/
def accesses : LOp → List (Nat × PMod)
  | .ldxy _ _ px py mx my => [(px.toNat, mx.full), (4 + py.toNat, my.full)]
  | .ldx _ p m | .ldy _ p m | .stx _ p m | .sty _ p m => [(p.toNat, m)]
  | _ => []

/-- The loop counter or RRB that an L-slot operation writes: 24, 25 or 26. -/
def loopDest : LOp → Option Nat
  | .ldim (.lc k _) | .mvts _ (.lc k) => some (24 + k.toNat)
  | .ldim (.rrb _) | .mvts _ .rrb => some 26
  | _ => none

/-- The loop state a control code writes. -/
def ctlDests : CtlCode → List Nat
  | .free (.le k) => [24 + k.toNat]
  | .free (.ler k) => [24 + k.toNat, 26]
  | .free .rot => [26]
  | _ => []

/-- The L slot writes FLAGS. -/
def writesFlags : LOp → Bool
  | .mvts _ .flags => true
  | _ => false

def Slot.getOp {α : Type} (d : α) : Slot α → α
  | .op o => o
  | .ill _ => d

/-- The lowest code of R249 that a bundle earns at its issue, 0 for a legal bundle. -/
def State.illCode (s : State) (x : Strm) (f : Fetched) : Nat :=
  let m := s.mSlot x (Slot.getOp .nop f.m)
  let a := s.aSlot x (Slot.getOp .nop f.a)
  let lop := Slot.getOp .nop f.l
  let l := s.lSlot x lop
  let fixed := lowerCode (Slot.code f.m) (lowerCode (Slot.code f.a) (Slot.code f.l))
  let dup := if twice (dNumbers m ++ dNumbers a ++ dNumbers l) then 0x03 else 0
  let flagwr := if writesFlags lop ∧ (m.fl.mask ||| a.fl.mask) ≠ 0 then 0x04 else 0
  let ctldst := match loopDest lop with
    | some n => if (ctlDests f.ctl).contains n then 0x05 else 0
    | none => 0
  let form := if f.badForm then 0x06 else 0
  let target := if (s.strm x).rep ≠ 0 ∧ f.ctl ≠ .free .nop then 0x07 else 0
  let plbad := if (accesses lop).any fun p => s.plBad x p.1 p.2 then 0x08 else 0
  [fixed, dup, flagwr, ctldst, form, target, plbad].foldl lowerCode 0

/-! ### The B-program (R170, R171, R226, R227) -/

/-- CE_STAT and CE_PSTAT follow the B-program. -/
def State.showB (s : State) : State :=
  let s := (s.wr CE_STAT.B_PC s.ce.p.pc).setFlag CE_STAT.B_RUN (s.ce.p.run && !s.ce.bStopped)
  s.setFlag CE_PSTAT.BHOLD (s.ce.bStopped && !s.ce.p.held.isEmpty)

/-- The B-program stops: its flags are kept, and its results wait (R227). -/
def State.stopB (s : State) (pp : Bool) : State :=
  let s := { s with ce := { s.ce with bStopped := true, bStop := false, tOver := false, flagsKept := s.ce.flags } }
  (s.setFlag CE_PSTAT.PPSTOP pp).showB

/-- It resumes with its flags and its program counter (R46, R227). -/
def State.resumeB (s : State) : State :=
  if s.ce.bStopped then ({ s with ce := { s.ce with bStopped := false, flags := s.ce.flagsKept } } : State).showB else s

/-- It starts at its entry (R169, R170, R171). -/
def State.startB (s : State) : State :=
  let p := { s.ce.p with run := true, pc := s.bEntry, t := 0, issued := 0, rep := 0, repNew := false, cache := [], held := [] }
  let s := { s with ce := { s.ce with p := p, bStop := false, bEnd := none, bStopped := false } }
  (s.setFlag CE_STAT.B_HALT false).showB

/-- It stops for good, and the program of the new bank starts where the flag says so (R169, R170). -/
def State.endB (s : State) (restart : Bool) : State :=
  let s := { s with ce := { s.ce with p := { s.ce.p with run := false, rep := 0, repNew := false, cache := [], held := [] }, bEnd := none, bStop := false,
                                      bStopped := false } }
  if restart then s.startB else (s.setFlag CE_STAT.B_HALT false).showB

/-- A stop for good happens at the first bundle boundary outside a REP (R169, R170). -/
def State.boundaryB (s : State) : State :=
  if s.ce.p.rep ≠ 0 then s
  else match s.ce.bEnd with
    | some r => s.endB r
    | none => s

/-! ### Issue -/

/-- CEC in which the next bundle of pass A and of pass B issues (R252): the pattern is A, A, B, B. -/
def State.slotA (s : State) : Nat := s.ce.tStart + 4 * (s.ce.a.t / 2) + s.ce.a.t % 2
def State.slotB (s : State) : Nat := s.ce.tStart + 4 * (s.ce.b.t / 2) + s.ce.b.t % 2 + 2

/-- The stream may issue: the pass whose turn it is, before OUT_PHASE, or a B-program that is neither idle nor stopped, in a CEC of the
tick, and not at the bundle boundary at which a preemption stops it (R45, R51, R252). -/
def State.mayIssue (s : State) : Strm → Bool
  | .passA => s.ce.a.run && decide (s.slotA < s.rd RAKE_OUT.OUT_PHASE) && (!s.ce.b.run || decide (s.slotA < s.slotB))
  | .passB => s.ce.b.run && decide (s.slotB < s.rd RAKE_OUT.OUT_PHASE) && (!s.ce.a.run || decide (s.slotB < s.slotA))
  | .bprog => s.ce.p.run && !s.ce.bStopped && !(s.ce.bStop && s.ce.p.rep == 0) && decide (s.cec < s.rake.tickLen)

/-- The clock comes to the CEC of the stream's issue slot. -/
def State.toSlot (s : State) : Strm → State
  | .passA => s.advanceTo s.slotA
  | .passB => s.advanceTo s.slotB
  | .bprog => s

/-- The loop cache serves the next bundle of a stream (R222): a repeated one after its first issue, or one of a body that has run once. -/
def Stream.served (st : Stream) : Bool :=
  (st.rep != 0 && !st.repNew) || st.cache.any fun b => decide (b.1 ≤ st.pc ∧ st.pc ≤ b.2)

/-- The loop cache is invalidated (R222). -/
def State.emptyCache (s : State) : State :=
  { s with ce := { s.ce with a := { s.ce.a with cache := [] }, b := { s.ce.b with cache := [] }, p := { s.ce.p with cache := [] } } }

/-- The fetch of a bundle over the I bus, with what it finds in the check bits (R195, R199). -/
def State.fetchBundle (s : State) (x : Strm) : State :=
  let st := s.strm x
  if st.served then s else s.noteEcc 0 (placeOf (if s.rd CE_PROG.PBANK = 0 then .pm0 else .pm1) st.pc)

/-- Count `n` issued bundles and go on: to the same bundle while a REP repeats it, and otherwise to the given one (R221, R224). -/
def State.goOn (s : State) (x : Strm) (n next : Nat) : State :=
  let st := s.strm x
  if 1 < st.rep then s.setStrm x { st with t := st.t + n, issued := st.issued + n, rep := st.rep - 1, repNew := false }
  else s.setStrm x { st with t := st.t + n, issued := st.issued + n, rep := 0, repNew := false, pc := next % 16384 }

/-- Write the address registers that the bundle has modified; they are compared as any register (R206, R259). -/
def State.postModify (x : Strm) (t : Nat) (s : State) (p : Nat × Nat × Nat) : State :=
  (s.writeDest x (.p (x.pIdx p.1)) p.2.1 false).present x ⟨t + 1, ⟨t, p.2.2, 2, p.1, false⟩, p.2.1, none, 0, none⟩

/-- An address of the B window (R172). -/
def State.inBWindow (s : State) (a : Nat) : Bool := a / 2048 == s.rd CE_XMAP.BBASE

/-- Pass A has halted, and a store of stream cycle `t` would become visible after its halt-to-tick bundle (R218). -/
def State.tooLate (s : State) (t : Nat) : Bool := !s.ce.a.run && decide (s.ce.a.t ≤ t + 3)

/-- A store of the bundle of stream cycle `t`: to the comparators in a T-program, into the B window in a B-program (R172,
R198, R218, R260). A T-program store to Y words from 0x7000 sets YCTX. -/
def State.issueStore (s : State) (x : Strm) (t : Nat) (o : StoreOut) : State :=
  if x.isT then
    let s := if o.kind = 6 ∧ 0x7000 ≤ o.addr ∧ !s.ce.katRun then s.setFlag CE_PSTAT.YCTX true else s
    if x.isB ∧ s.tooLate t then s.setFlag CE_PSTAT.LATEWB true
    else s.present x ⟨t, ⟨t, 2, o.kind, 0, false⟩, o.val.toNat, none, o.addr, none⟩
  else if o.kind = 5 ∧ s.inBWindow o.addr then s.hold x ⟨t + 3, .x o.addr, o.val.toNat, false, none⟩
  else s.setFlag CE_STAT.BWR true

/-- Hold the flags that a bundle writes. -/
def State.holdFlags (s : State) (x : Strm) (t slot : Nat) (fl : FlagWrite) (conf : Bool) : State :=
  if fl.mask = 0 then s
  else s.hold x ⟨t + 3, .flags fl.mask, fl.val, false, if x.isT then some ⟨t, slot, 4, 27, conf⟩ else none⟩

/-- The slot that CE_TR_INFO names for a flag write. -/
def flagSlot (m a : FlagWrite) : Nat := if a.mask ≠ 0 then 1 else if m.mask ≠ 0 then 0 else 2

/-- The slots of a legal bundle act (R214: all of them read before any writes). -/
def State.runSlots (s : State) (x : Strm) (mop : MOp) (aop : AOp) (lop : LOp) : State :=
  let t := (s.strm x).t
  let pc := (s.strm x).pc
  let m := s.mSlot x mop
  let a := s.aSlot x aop
  let l := s.lSlot x lop
  let s := s.noteReads l.reads
  let s := m.effs.foldl (State.holdEffect x t m.conf) s
  let s := a.effs.foldl (State.holdEffect x t a.conf) s
  let s := l.effs.foldl (State.holdEffect x t l.conf) s
  let fl := (m.fl.or a.fl).or l.fl
  let s := s.holdFlags x t (flagSlot m.fl a.fl) fl ((m.conf && m.fl.mask != 0) || (a.conf && a.fl.mask != 0) || (l.conf && l.fl.mask != 0))
  let s := l.posts.foldl (State.postModify x t) s
  let s := match l.stored with
    | some o => s.issueStore x t o
    | none => s
  let s := if l.xmin then s.setFlag CE_TR_STAT.XMIN true else s
  if m.conf || a.conf || l.conf then s.tagConflict x pc else s

/-- A control code writes loop state, visible from the next stream cycle (R214). -/
def State.holdLoop (s : State) (x : Strm) (dst : Dest) (num v : Nat) : State :=
  let t := (s.strm x).t
  s.hold x ⟨t + 1, dst, v, false, if x.isT then some ⟨t, 4, 3, num, false⟩ else none⟩

/-- Rotate RRB (R208). -/
def State.rotate (s : State) (x : Strm) : State := s.holdLoop x .rrb 26 ((s.rrbOf x + 15) % 16)

/-- A loop end: the counter after it and the next bundle (R219). The loop cache holds the body for the iterations that follow when it has at
most 32 bundles (R222). -/
def State.loopEnd (s : State) (x : Strm) (k : Bool) : State × Nat :=
  let v := (s.lcOf x k.toNat + 65535) % 65536
  let st := s.strm x
  let first := lookup st.lsa 0 k.toNat
  let rest := st.cache.filter fun b => b.2 != st.pc
  let keeps := v ≠ 0 ∧ first ≤ st.pc ∧ st.pc < first + 32
  let s := s.setStrm x { st with cache := if keeps then (first, st.pc) :: rest else rest }
  (s.holdLoop x (.lc k.toNat) (24 + k.toNat) v, if v ≠ 0 then first else st.pc + 1)

/-- The PP of a B-program falls in its window (R226). -/
def State.ppDue (s : State) : Bool :=
  let pre := s.rd RAKE_DERIVED.PREEMPT_PHASE
  decide (pre - s.ce.ppWin ≤ s.cec ∧ s.cec < pre)

/-- The control code of a bundle with operations, and the step to the next bundle. -/
def State.runCtl (s : State) (x : Strm) (c : Ctl) : State :=
  let st := s.strm x
  match c with
  | .nop => s.goOn x 1 (st.pc + 1)
  | .ls k =>
    let s := s.setStrm x { st with lsa := store st.lsa 0 k.toNat st.pc }
    (s.present x ⟨st.t + 1, ⟨st.t, 4, 3, 28 + k.toNat, false⟩, st.pc, none, 0, none⟩).goOn x 1 (st.pc + 1)
  | .le k => let r := s.loopEnd x k; r.1.goOn x 1 r.2
  | .ler k => let r := s.loopEnd x k; (r.1.rotate x).goOn x 1 r.2
  | .rot => (s.rotate x).goOn x 1 (st.pc + 1)
  | .pp =>
    let s := s.goOn x 1 (st.pc + 1)
    if !x.isT && s.ppDue then s.stopB true else s

/-- Both passes have stopped. -/
def State.showT (s : State) : State := s.setFlag CE_STAT.T_RUN (s.ce.a.run || s.ce.b.run)

/-- Stores of the T-program that would become visible after stream cycle `h`: those that wait for the comparators, and those already in memory,
whose words take their old values again (R218). -/
def State.dropStores (s : State) (h : Nat) : State :=
  let late (l : Landed) : Bool := (l.twin.kind == 5 || l.twin.kind == 6) && l.twin.slot == 2 && decide (h < l.cyc + 3)
  let undo := s.ce.old.filter fun o => decide (h < o.due)
  let any_ := s.ce.bufA.any late || s.ce.bufB.any late || !undo.isEmpty
  let s := undo.foldr (fun o (s : State) =>
    if o.bank = 2 then (if s.xWord o.addr = o.new then s.setXWord o.addr o.old else s)
    else if s.yWord o.bank o.addr = o.new then s.setYWord o.bank o.addr o.old else s) s
  let s : State := { s with ce := { s.ce with bufA := s.ce.bufA.filter (!late ·), bufB := s.ce.bufB.filter (!late ·),
                                              old := s.ce.old.filter fun o => decide (o.due ≤ h) } }
  if any_ then s.setFlag CE_PSTAT.LATEWB true else s

/-- The results of a B-program that goes idle land in the CECs that R214 gives them, as if it issued on (R171): `p.t` is the stream cycle
after the halt. -/
def State.landIdle (s : State) : State :=
  let held := s.ce.p.held
  let t := s.ce.p.t
  held.foldl (fun (s : State) h => s.atTime (s.now + (h.due - t)) fun s => State.landOne .bprog s h)
    (s.setStrm .bprog { s.ce.p with held := [] })

/-- The halt-to-tick bundle: it ends a pass, discarding what would become visible after it, or idles the B-program, whose
results land while it idles (R48, R171, R218, R225). -/
def State.haltStream (s : State) (x : Strm) : State :=
  let s := s.goOn x 1 (s.strm x).pc
  match x with
  | .bprog =>
    let s := s.landIdle
    let s := { s with ce := { s.ce with p := { s.ce.p with run := false } } }
    (s.setFlag CE_STAT.B_HALT true).showB
  | _ =>
    let st := s.strm x
    let s := if st.held.isEmpty then s else s.setFlag CE_PSTAT.LATEWB true
    let s := s.setStrm x { st with run := false, held := [] }
    if x.isB then ({ s with ce := { s.ce with tOver := true } } : State).showT
    else
      let s := (s.wr CE_ISSUE.ISSUE_A st.issued).dropStores (st.t - 1)
      if st.issued = s.tIssue then s.showT else s.issueFault.showT

/-- What is visible in the next stream cycle of a pass has landed by then, in the CEC before its issue (R214). -/
def State.landNext (s : State) (x : Strm) : State := s.landUpTo x (s.strm x).t

/-- What is visible in the stream cycle that issues: a B-program's results have landed in the CEC before (R214). -/
def State.landDue (s : State) (x : Strm) : State :=
  if x.isT then s.landNext x else s.atTime (s.now - 1) fun s => s.landNext x

/-- Pass A must not issue more than T_ISSUE bundles (R225). -/
def State.checkIssue (s : State) (x : Strm) : State :=
  if x.isT ∧ !x.isB ∧ s.ce.a.run ∧ s.tIssue < s.ce.a.issued then s.issueFault else s

/-- A bundle issues: `ctx` and `comp` are what CTXRUN and COMPETE do in a pass. -/
def State.issueWith (s : State) (i : Issue) (f : Fetched) (ctx comp : Nat → State → State) : State :=
  let x := i.strm
  if !s.mayIssue x then s
  else
    let s := ((i.strikes.foldl State.strike (s.toSlot x)).landDue x).fetchBundle x
    let st := s.strm x
    let code := s.illCode x f
    let s :=
      if code ≠ 0 then ((s.illegal x st.pc code).setStrm x { st with cache := st.cache.filter fun b => !(b.1 ≤ st.pc && st.pc ≤ b.2) }).goOn x 1 (st.pc + 1)
      else match f.ctl with
        | .free c => (s.runSlots x (Slot.getOp .nop f.m) (Slot.getOp .nop f.a) (Slot.getOp .nop f.l)).runCtl x c
        | .rep =>
          let s := s.goOn x 1 (st.pc + 1)
          s.setStrm x { s.strm x with rep := f.arg + 1, repNew := true }
        | .ctxrun => if x.isT then (ctx f.arg s).goOn x 16 (st.pc + 1) else (s.setFlag CE_STAT.BILL true).goOn x 1 (st.pc + 1)
        | .compete => if x.isT then (comp f.arg s).goOn x 24 (st.pc + 1) else (s.setFlag CE_STAT.BILL true).goOn x 1 (st.pc + 1)
        | .halt => s.haltStream x
        | .reserved => s.goOn x 1 (st.pc + 1)
    if x.isT then (s.landNext x).checkIssue x else s.boundaryB.showB.passCec

end Sys2Proof.Machine
end

