-- ==== Sys2Proof/Machine/Context.lean ====
section
/-! DEFINITION. Loop contexts, host data and the competition: the laws and their preload, CTXRUN, COMPETE, the divider, the
resolved angle, and what OUT_PHASE makes of them (R173 to R192). -/

namespace Sys2Proof.Machine

/-! ### Laws (R175, R181) -/

/-- A product on its own, rounded and saturated. -/
def mulQ (a b : Int) : Int := satSym (rne (a * b) 31)

/-- A bracket formed exactly, shifted left by E, then rounded and saturated once. -/
def mulShift (e : Nat) (x : Int) : Int := satSym (rne (x * 2 ^ e) 31)

/-- Coefficients K0 to K7 and state words S0 to S3. -/
structure LawIn where
  a : Int
  b : Int
  k : Nat → Int
  st : Nat → Int

/-- What a law leaves: u and the four state words. -/
structure LawOut where
  u : Int
  s0 : Int
  s1 : Int
  s2 : Int
  s3 : Int
  deriving DecidableEq, Repr

/-- The clamp to OUT_MAX and OUT_MIN. -/
def LawIn.clamp (i : LawIn) (u : Int) : Int := min (max u (i.k 7)) (i.k 6)

/-- PI and PID with derivative term `d` and new states S2 and S3; `pre` is the track value of a preloaded run. -/
def LawIn.pi (i : LawIn) (d s2 s3 : Int) (pre : Option Int) : LawOut :=
  let e := satSym (i.a - i.b)
  match pre with
  | some t =>
    let tc := i.clamp t
    ⟨tc, tc, satSym (satSym (tc - mulQ (i.k 0) e) - d), s2, s3⟩
  | none =>
    let n := satSym (i.st 1 + mulQ (i.k 1) e)
    let u := satSym (satSym (mulQ (i.k 0) e + n) + d)
    let y := i.clamp u
    ⟨u, y, satSym (n + mulQ (i.k 2) (satSym (y - u))), s2, s3⟩

/-- The derivative term of PID. -/
def LawIn.deriv (i : LawIn) : Int :=
  satSym (i.st 2 + mulQ (i.k 4) (satSym (mulQ (i.k 3) (satSym (i.st 3 - i.b)) - i.st 2)))

/-- FO1 and RATE: u as given, or the track value. -/
def LawIn.plain (i : LawIn) (u : Int) (pre : Option Int) : LawOut :=
  let u := match pre with
    | some t => i.clamp t
    | none => u
  ⟨u, i.clamp u, i.st 1, i.st 2, i.st 3⟩

/-- SO2 and LEADLAG. -/
def LawIn.direct (i : LawIn) (second : Bool) (pre : Option Int) : LawOut :=
  let e := (fieldOf 32 (i.k 5)) % 4
  let ka := mulShift e (i.k 0 * i.a)
  let u := match pre with
    | some t => i.clamp t
    | none => satSym (ka + i.st 1)
  let y := i.clamp u
  if second then
    ⟨u, y, satSym (mulShift e (i.k 1 * i.a - i.k 3 * y) + i.st 2), mulShift e (i.k 2 * i.a - i.k 4 * y), i.st 3⟩
  else ⟨u, y, mulShift e (i.k 1 * i.a - i.k 2 * y), i.st 2, i.st 3⟩

/-- A law by its number. -/
def LawIn.eval (i : LawIn) (law : Nat) (pre : Option Int) : LawOut :=
  match law with
  | 1 => i.pi 0 (i.st 2) (i.st 3) pre
  | 2 => i.pi i.deriv i.deriv i.b pre
  | 3 => i.plain (satSym (i.st 0 + mulQ (i.k 0) (satSym (i.a - i.st 0)))) pre
  | 4 => i.direct true pre
  | 5 => i.direct false pre
  | _ => i.plain (satSym (i.st 0 + min (max (satSym (i.a - i.st 0)) (-i.k 1)) (i.k 0))) pre

/-! ### Host pairs (R190, R191) -/

/-- The host block. -/
def State.hostAddr (s : State) (o : Nat) : Nat := s.rd CE_XMAP.HBASE * 2048 + o

/-- A pair is valid: both copies equal, and the stamp no older than HOST_AGE. -/
def State.pairValid (s : State) (o : Nat) : Bool :=
  let a := s.hostAddr o
  let v := s.xData a
  let st := (s.xData (a + 4)).toNat % 65536
  v == s.xData (mirrorOf a) && st == (s.xData (mirrorOf (a + 4))).toNat % 65536
    && fieldOf 16 ((s.tick : Int) - st) ≤ s.rd CE_MODE.HOST_AGE

/-- The host value of the pair at offset `o`, where the block is in use and the pair valid. -/
def State.hostValue (s : State) (o : Nat) : Option Word :=
  if s.flag CE_XMAP.HEN && s.pairValid o then some (s.xData (s.hostAddr o)) else none

/-- A host angle of a selected motor is missing (R192). -/
def State.angleMissing (s : State) (m : Nat) : Bool :=
  s.flag CE_XMAP.HEN && s.bit CE_MODE.ANG_H m && (s.hostValue (0x400 + 8 * m)).isNone

/-- The angle of motor `m`: the host angle where it is selected and valid, else the voted angle. -/
def State.resolvedAngle (s : State) (m : Nat) : Word :=
  let voted := BitVec.ofNat 32 (s.rd (POS_ANG.ANG m))
  if s.bit CE_MODE.ANG_H m then (s.hostValue (0x400 + 8 * m)).getD voted else voted

/-- A host pair, of which each pass reads both copies. -/
def State.pairReads (s : State) (o : Nat) : List (Nat × Nat) :=
  let a := s.hostAddr o
  [a, a + 4, mirrorOf a, mirrorOf (a + 4)].map fun b => (1, placeOf .x b)

/-- ANGLE_RESOLVE (R190, R191, R192, R199): the resolved angle of every motor is written, with HEN at 0 or 1. -/
def angleResolve (s : State) : State :=
  let s := s.advanceTo (s.rd RAKE_TSTART.TSTART - 3)
  let missing := motors.filter s.angleMissing
  let asked := motors.filter fun m => s.flag CE_XMAP.HEN && s.bit CE_MODE.ANG_H m
  let s := s.noteReads (asked.flatMap fun m => s.pairReads (0x400 + 8 * m))
  let s := motors.foldl (fun (s : State) m => s.writeXPair rankCe (s.hostAddr (0x418 + 4 * m)) (s.resolvedAngle m)) s
  let s := missing.foldl (fun (s : State) m => s.setBit CE_HOST_STAT.ANG_MISS m true) s
  if missing.isEmpty then s else s.count CE_HOST_CNT.ANG_MISS_CNT

/-! ### CTXRUN (R176, R177, R179 to R181) -/

/-- An X word as the laws read it: symmetric in both passes (R233, R256). -/
def State.ctxX (s : State) (x : Strm) (a : Nat) : Int := satSym (s.xSeen x a).toInt

/-- Coefficient k of context n in a bank (R173). -/
def State.coef (s : State) (bank n k : Nat) : Int := (s.yWord bank (0x7000 + 32 * n + 4 * k)).toInt

/-- The same as a stream reads it. -/
def State.coefSeen (s : State) (x : Strm) (bank n k : Nat) : Int := (s.yRead x bank (0x7000 + 32 * n + 4 * k)).toInt

/-- A context's role in a competition: 0 for none and for a reserved code. -/
def State.role (s : State) (n : Nat) : Nat := if 5 < s.rd (CTX_W0.CROLE n) then 0 else s.rd (CTX_W0.CROLE n)

/-- The law runs in this tick (R177 to R179). -/
def State.lawRuns (s : State) (n : Nat) : Bool :=
  let law := s.rd (CTX_W0.LAW n)
  s.rd (CTX_W0.STATE n) != 1 && 1 ≤ law && law ≤ 6 && s.rd (CTX_W2.DCNT n) == 0

/-- Context n selects its host value as setpoint (R189). -/
def State.sphOn (s : State) (n : Nat) : Bool := s.flag CE_XMAP.HEN && s.bit (CE_MODE_SPH.SPH (n / 32)) (n % 32)

/-- Its host pair is selected, and invalid (R192). -/
def State.ctxMissing (s : State) (n : Nat) : Bool :=
  s.flag CE_XMAP.HEN && (s.sphOn n || s.rd (CTX_W0.STATE n) == 3) && (s.hostValue (8 * n)).isNone

/-- The track value of a context in TRACKING (R180). -/
def State.trackOf (s : State) (n : Nat) (s0 : Int) : Int :=
  if s.role n = 0 then s0 else ((s.ce.track.find? fun p => p.1 == n).map (·.2)).getD s0

/-- The value T of a preloaded run; none for a run that is not preloaded (R179, R181). -/
def State.preloadValue (s : State) (n : Nat) (s0 : Int) : Option Int :=
  match s.rd (CTX_W0.STATE n) with
  | 2 => some (s.trackOf n s0)
  | 3 => (s.hostValue (8 * n)).map fun w => satSym w.toInt
  | _ => if s.flag (CTX_W2.PRE n) then some s0 else none

/-- The law of a context in one pass. -/
def State.evalLaw (s : State) (x : Strm) (n : Nat) : LawOut :=
  let bank := s.rd (CTX_W0.BANK n)
  let host := if s.sphOn n then s.hostValue (8 * n) else none
  let st (j : Nat) : Int := s.ctxX x (s.ctxAddr n j)
  let a := match host with
    | some w => satSym w.toInt
    | none => s.ctxX x (4 * s.rd (CTX_W1.IN_A n))
  LawIn.eval ⟨a, s.ctxX x (4 * s.rd (CTX_W1.IN_B n)), s.coefSeen x bank n, st⟩ (s.rd (CTX_W0.LAW n)) (s.preloadValue n (st 0))

/-- Present a word that CTXRUN or COMPETE writes: an X store to the comparators (R233, R259). -/
def State.presentWord (s : State) (x : Strm) (a : Nat) (v : Int) (eff : Option CtxEffect) : State :=
  let t := (s.strm x).t
  s.present x ⟨t, ⟨t, 5, 5, 0, false⟩, fieldOf 32 v, none, wordAddr a, eff⟩

/-- The X word at an address as a stream's read finds it, for CE_MEMERR. -/
def xRead (x : Strm) (a : Nat) : Nat × Nat := (1, placeOf .x (x.xAddr a))

/-- The words that CTXRUN n reads (R177, R199): A or the host pair, B, the four state words and the eight coefficients. -/
def State.ctxReads (s : State) (x : Strm) (n : Nat) : List (Nat × Nat) :=
  let bank := s.rd (CTX_W0.BANK n)
  (if s.flag CE_XMAP.HEN && (s.sphOn n || s.rd (CTX_W0.STATE n) == 3) then s.pairReads (8 * n) else [])
    ++ [xRead x (4 * s.rd (CTX_W1.IN_A n)), xRead x (4 * s.rd (CTX_W1.IN_B n))]
    ++ ((List.range 4).map fun j => xRead x (s.ctxAddr n j))
    ++ (List.range 8).map fun k => (2, yPlace bank (0x7000 + 32 * n + 4 * k))

/-- CTXRUN n in one pass. -/
def State.ctxRun (s : State) (x : Strm) (n : Nat) : State :=
  if s.lawRuns n then
    let o := s.evalLaw x n
    let bank := s.rd (CTX_W0.BANK n)
    let sat := (if s.coefSeen x bank n 6 < o.u then 2 else 0) + (if o.u < s.coefSeen x bank n 7 then 1 else 0)
    let eff : CtxEffect := .run n sat (fieldOf 32 o.u) (s.rd (CTX_W0.STATE n) != 0) (s.ctxMissing n)
    let s := s.noteReads (s.ctxReads x n)
    let s := s.presentWord x (s.ctxAddr n 0) o.s0 none
    let s := s.presentWord x (s.ctxAddr n 1) o.s1 none
    let s := s.presentWord x (s.ctxAddr n 2) o.s2 none
    s.presentWord x (s.ctxAddr n 3) o.s3 (some eff)
  else s

/-! ### COMPETE (R186 to R188) -/

/-- The contexts of motor m with a role. -/
def State.compRoles (s : State) (m : Nat) : List Nat :=
  (List.range 128).filter fun n => s.rd (CTX_W0.CMOT n) == m && s.role n != 0

/-- Members of the competition: CLOSED, HOST or OPEN. -/
def State.compMembers (s : State) (m : Nat) : List Nat := (s.compRoles m).filter fun n => s.rd (CTX_W0.STATE n) != 2

/-- A bound is active for the primary request p and the speed ω. -/
def boundActive (role : Nat) (p omega : Int) : Bool :=
  match role with
  | 2 => true
  | 3 => decide (p * omega < 0)
  | 4 => decide (0 < p)
  | 5 => decide (p < 0)
  | _ => false

/-- The primary request, and the PRIMARY context that gives it (R186). -/
def State.primary (s : State) (x : Strm) (m : Nat) : Int × Option Nat :=
  let prim := (s.compMembers m).find? fun n => s.role n == 1
  if s.flag (CE_COMP.PRI_X m) then (s.ctxX x (4 * s.rd (CE_COMP.PRI_IDX m)), none)
  else match prim with
    | some n => (s.ctxX x (s.ctxAddr n 0), some n)
    | none => (0, none)

/-- The active bounds with their values, in rising context number. -/
def State.compBounds (s : State) (x : Strm) (m : Nat) (p omega : Int) : List (Nat × Int) :=
  ((s.compMembers m).filter fun n => boundActive (s.role n) p omega).map fun n => (n, max (s.ctxX x (s.ctxAddr n 0)) 0)

/-- The first bound with the smallest value. -/
def leastBound : List (Nat × Int) → Option (Nat × Int)
  | [] => none
  | b :: r => match leastBound r with
    | some c => if c.2 < b.2 then some c else some b
    | none => some b

/-- The result r: the primary request cut to the smallest bound. -/
def compResult (p : Int) (least : Option (Nat × Int)) : Int :=
  let mag : Int := match least with
    | some b => min (p.natAbs : Int) b.2
    | none => p.natAbs
  if p < 0 then -mag else mag

/-- The winner code and the winning context, 0xFF for none (R188). -/
def compWinner (p : Int) (prim : Option Nat) (least : Option (Nat × Int)) : Nat × Nat :=
  if p = 0 then (0xFF, 0xFF)
  else
    let own : Nat × Nat := match prim with
      | some n => (0x80, n)
      | none => (0x81, 0xFF)
    match least with
    | some b => if (p.natAbs : Int) ≤ b.2 then own else (b.1, b.1)
    | none => own

/-- The applied value of a member or TRACKING context: r for PRIMARY, |r| for an active bound (R187). -/
def appliedValue (role : Nat) (p omega r : Int) : Option Int :=
  if role = 1 then some r else if boundActive role p omega then some r.natAbs else none

/-- A member is corrected: its law ran in the tick and has an integrator (R187). -/
def State.corrected (s : State) (n : Nat) : Bool :=
  s.rd (CTX_W0.STATE n) != 1 && s.ce.ran.contains n && (s.rd (CTX_W0.LAW n) == 1 || s.rd (CTX_W0.LAW n) == 2)

/-- The words that COMPETE m reads (R186, R187, R199): the primary request, the speed, the bounds, and S1, S0 and K2 of each member it
corrects. -/
def State.compReads (s : State) (x : Strm) (m : Nat) (p omega : Int) (prim : Option Nat) : List (Nat × Nat) :=
  let s0 (n : Nat) := xRead x (s.ctxAddr n 0)
  let first := if s.flag (CE_COMP.PRI_X m) then [xRead x (4 * s.rd (CE_COMP.PRI_IDX m))] else prim.toList.map s0
  let corr := (s.compMembers m).filter fun n => s.corrected n && (appliedValue (s.role n) p omega 0).isSome
  first ++ [xRead x (s.posAddr m 1)] ++ (s.compBounds x m p omega).map (fun b => s0 b.1)
    ++ corr.flatMap fun n => [xRead x (s.ctxAddr n 1), s0 n, (2, yPlace (s.rd (CTX_W0.BANK n)) (0x7000 + 32 * n + 8))]

/-- COMPETE m in one pass. -/
def State.compete (s : State) (x : Strm) (m : Nat) : State :=
  if s.flag (CE_COMP.CEN m) then
    let p := s.primary x m
    let omega := s.ctxX x (s.posAddr m 1)
    let least := leastBound (s.compBounds x m p.1 omega)
    let r := compResult p.1 least
    let win := compWinner p.1 p.2 least
    let track := ((s.compRoles m).filter fun n => s.rd (CTX_W0.STATE n) == 2).filterMap fun n =>
      (appliedValue (s.role n) p.1 omega r).map fun a => (n, a)
    let corr := ((s.compMembers m).filter s.corrected).filterMap fun n =>
      (appliedValue (s.role n) p.1 omega r).map fun a =>
        (s.ctxAddr n 1, satSym (s.ctxX x (s.ctxAddr n 1)
          + mulQ (s.coefSeen x (s.rd (CTX_W0.BANK n)) n 2) (satSym (a - s.ctxX x (s.ctxAddr n 0)))))
    let s := s.noteReads (s.compReads x m p.1 omega p.2)
    let s := s.presentWord x (4 * s.rd (CE_COMP.OUT_IDX m)) r none
    let s := corr.foldl (fun s c => s.presentWord x c.1 c.2 none) s
    let t := (s.strm x).t
    s.present x ⟨t, ⟨t, 5, 8, 0, false⟩, win.1, none, 0, some (.compete m win.1 win.2 track)⟩
  else s

/-! ### What accepted evaluations leave (R177, R187, R192) -/

/-- The effect of a CTXRUN or COMPETE whose words both comparators accepted. -/
def State.ctxAccept (s : State) (e : CtxEffect) : State :=
  match e with
  | .run n sat u pre miss =>
    let s := ((s.setFlag (CTX_W2.SAT_HI n) (sat.testBit 1)).setFlag (CTX_W2.SAT_LO n) (sat.testBit 0)).setFlag (CTX_W2.PRE n) pre
    let s := s.wr (CTX_W3.U_LAST n) u
    let s := { s with ce := { s.ce with ran := n :: s.ce.ran } }
    if miss then
      let s := ((s.setFlag CE_HOST_STAT.CTX_MISS true).wr CE_HOST_STAT.MISS_CTX n).count CE_HOST_CNT.CTX_MISS_CNT
      { s with ce := { s.ce with hmiss := n :: s.ce.hmiss } }
    else s
  | .compete m code winner track =>
    { s with ce := { s.ce with wins := place s.ce.wins m (code, winner), trackNew := track ++ s.ce.trackNew } }

/-- At OUT_PHASE of a tick that commits outputs: RAN, HMISS, WON, WIN and the recorded T (R174, R180, R188). -/
def State.ctxCommit (s : State) : State :=
  let s := (List.range 128).foldl (fun (s : State) n =>
    ((s.setFlag (CTX_W2.RAN n) (s.ce.ran.contains n)).setFlag (CTX_W2.HMISS n) (s.ce.hmiss.contains n)).setFlag (CTX_W2.WON n)
      (s.ce.wins.any fun w => w.2.2 == n)) s
  let s := s.ce.wins.foldl (fun (s : State) w =>
    if s.rd (CE_WIN.WIN w.1) = w.2.1 then s else (s.wr (CE_WIN.WIN w.1) w.2.1).count (CE_WIN.WIN_CHG w.1)) s
  let old := s.ce.track.filter fun p => !s.ce.trackNew.any fun q => q.1 == p.1
  { s with ce := { s.ce with track := s.ce.trackNew ++ old, trackNew := [] } }

/-! ### Divider (R178) -/

/-- DCNT as loaded. -/
def State.dcntLoad (s : State) (n : Nat) : Nat := s.rd (CTX_W0.RPHASE n) % (s.rd (CTX_W0.RDIV n) + 1)

/-- Every context that is not OPEN advances DCNT at a boundary, unless it has just been loaded. -/
def State.dcntBoundary (s : State) : State :=
  let s := (List.range 128).foldl (fun (s : State) n =>
    if s.rd (CTX_W0.STATE n) = 1 then s
    else if s.ce.loaded.contains n then s.wr (CTX_W2.DCNT n) (s.dcntLoad n)
    else if s.rd (CTX_W2.DCNT n) = 0 then s.wr (CTX_W2.DCNT n) (s.rd (CTX_W0.RDIV n))
    else s.wr (CTX_W2.DCNT n) (s.rd (CTX_W2.DCNT n) - 1)) s
  { s with ce := { s.ce with loaded := [], ran := [], hmiss := [], wins := [], trackNew := [] } }

/-- Every start of the Rake loads DCNT of every context. -/
def State.dcntStart (s : State) : State :=
  (List.range 128).foldl (fun (s : State) n => s.wr (CTX_W2.DCNT n) (s.dcntLoad n)) s

/-- A commit of G_CTX moves a context to a new STATE (R178, R180, R181). -/
def State.ctxMove (s : State) (n old new : Nat) : State :=
  let s := if old = 1 ∧ new ≠ 1 then { s with ce := { s.ce with loaded := n :: s.ce.loaded } } else s
  let s := if new = 2 ∧ old ≠ 2 then { s with ce := { s.ce with track := s.ce.track.filter fun p => p.1 != n } } else s
  if new = old then s else s.setFlag (CTX_W2.PRE n) !(new == 0 && (old == 2 || old == 3))

/-! ### Issue -/

/-- Issue a bundle, with CTXRUN and COMPETE as this chapter gives them. -/
def State.issueNow (s : State) (i : Issue) (f : Fetched) : State :=
  s.issueWith i f (fun n s => s.ctxRun i.strm n) (fun m s => s.compete i.strm m)

end Sys2Proof.Machine
end

