-- ==== Sys2Proof/Machine/Redund.lean ====
section
/-! DEFINITION. Time-redundant execution: the comparison of the two passes and what it decides, the known-answer test, the
count of transients, and the start and end of the passes (R45, R46, R50, R202, R203, R252 to R269). -/

namespace Sys2Proof.Machine

/-! ### Comparison (R259 to R262) -/

/-- Values of a D register or accumulator that an S tag admits: exact negations of each other, without wrap. -/
def negated (kind a b : Nat) : Bool :=
  let w := if kind = 1 then 72 else 32
  decide (signedOf w a = -signedOf w b)

/-- A pass-A writeback and its pass-B twin agree (R259); a tag conflict found in both passes is no mismatch (R258). -/
def agrees (a b : Landed) : Bool :=
  if a.twin.conf && b.twin.conf then true
  else match a.tag, b.tag with
    | some true, some true => negated a.twin.kind a.val b.val
    | some false, some false => a.val == b.val
    | none, none => a.val == b.val && a.addr == b.addr
    | _, _ => false

/-- Only the tags differ: KIND 7. -/
def tagOnly (a b : Landed) : Bool := a.tag != b.tag && (a.val == b.val || negated a.twin.kind a.val b.val)

/-- The datapath is declared broken by a source that lasts until a half reset (R267). -/
def State.declareBroken (s : State) (src : Nat) : State := (s.setFlag CE_TR_STAT.BROKEN true).raise src 0

/-- The first mismatch of the tick is recorded, and the next tick runs the known-answer test (R262). -/
def State.recordMismatch (s : State) (cmp bidx slot kind dest da db : Nat) : State :=
  if s.ce.mism then s
  else
    let s := if s.ce.katRun then { s with ce := { s.ce with katBad := some (cmp, bidx) } } else s
    let s := ((s.wr CE_TR_INFO.CMP cmp).wr CE_TR_INFO.BIDX bidx).setFlag CE_TR_INFO.KATF s.ce.katRun
    let s := ((s.wr CE_TR_INFO.SLOT slot).wr CE_TR_INFO.KIND kind).wr CE_TR_INFO.DEST dest
    let s := ((s.wr CE_TR_DA.DA da).wr CE_TR_DB.DB db).wr CE_TR_TICK.MM_TICK s.tick
    let s := s.count CE_TR_CNT.MM_CNT
    { s with ce := { s.ce with mism := true, katNext := true } }

/-- The verdicts of the two comparators on one writeback, at least one a mismatch (R261). -/
def State.verdicts (s : State) (c1 c2 : Bool) : State :=
  if c1 && c2 then (s.setFlag CE_TR_STAT.MM true).onceInTick 4 fun s => s.report srcTrMm 0
  else (s.setFlag CE_TR_STAT.CMPDIS true).declareBroken srcTrCmpdis

/-- KIND as CE_TR_INFO shows it. -/
def shownKind (k : Nat) : Nat := if k = 8 then Config.winnerKind else k

/-- A word keeps its old value for loads before stream cycle `due` (R214). -/
def State.keepOld (s : State) (bank a due : Nat) (old new : Word) : State :=
  { s with ce := { s.ce with old := s.ce.old ++ [⟨bank, a, due, old, new⟩] } }

/-- A decided X store: both copies (R260). The words of CTXRUN and COMPETE are visible at once (R177). -/
def State.landX (s : State) (l : Landed) : State :=
  let due := l.twin.idx + 3
  let w := BitVec.ofNat 32 l.val
  let s :=
    if l.twin.slot = 5 then s
    else (s.keepOld 2 l.addr due (s.xWord l.addr) w).keepOld 2 (mirrorOf l.addr) due (s.xWord (mirrorOf l.addr)) w
  s.writeXPair rankCe l.addr w

/-- A decided Y store: once, in the bank of PBANK, below word 0x7000 (R198). -/
def State.landY (s : State) (l : Landed) : State :=
  let bank := s.rd CE_PROG.PBANK
  let w := BitVec.ofNat 32 l.val
  if 0x7000 ≤ l.addr then s
  else (s.keepOld bank l.addr (l.twin.idx + 3) (s.yWord bank l.addr) w).setYWord bank l.addr w

/-- What agreement of both comparators decides; a store of the known-answer test goes to a sink (R264). -/
def State.acceptWriteback (s : State) (b : Landed) (eff : Option CtxEffect) : State :=
  if s.ce.mism || s.ce.katRun then s
  else
    let s := if b.twin.kind = 5 then s.landX b else if b.twin.kind = 6 then s.landY b else s
    match eff with
    | some e => s.ctxAccept e
    | none => s

/-- The comparators decide one pair, with bits of the pass-B value inverted at their inputs; a writeback without a twin is a
mismatch. -/
def State.decidePair (s : State) (a b : Option Landed) (f1 f2 : Nat) : State :=
  match a, b with
  | some a, some b =>
    let c1 := !agrees a { b with val := b.val ^^^ f1 }
    let c2 := !agrees a { b with val := b.val ^^^ f2 }
    if c1 || c2 then
      let kind := if f1 = 0 ∧ f2 = 0 ∧ tagOnly a b then 7 else shownKind a.twin.kind
      let s := s.verdicts c1 c2
      s.recordMismatch (c1.toNat + 2 * c2.toNat) a.twin.idx a.twin.slot kind (if 5 ≤ a.twin.kind then 0 else a.twin.dest)
        a.val (b.val ^^^ (f1 &&& f2))
    else s.acceptWriteback b a.eff
  | some l, none => (s.verdicts true true).recordMismatch 3 l.twin.idx l.twin.slot (shownKind l.twin.kind)
      (if 5 ≤ l.twin.kind then 0 else l.twin.dest) l.val 0
  | none, some l => (s.verdicts true true).recordMismatch 3 l.twin.idx l.twin.slot (shownKind l.twin.kind)
      (if 5 ≤ l.twin.kind then 0 else l.twin.dest) 0 l.val
  | none, none => s

/-- The same result of the same bundle. -/
def sameTwin (a b : Landed) : Bool :=
  a.twin.idx == b.twin.idx && a.twin.slot == b.twin.slot && a.twin.kind == b.twin.kind
    && (a.twin.kind != 3 || a.twin.dest == b.twin.dest)

/-- Pass-A writebacks whose twin would have landed by now, and has not. -/
def State.orphans (s : State) : List Landed :=
  s.ce.bufA.filter fun a => !s.ce.bufB.any (sameTwin a) && (!s.ce.b.run || decide (a.cyc ≤ s.ce.b.t ∧ a.twin.idx < s.ce.b.t))

/-- CEC in which the comparators decide a writeback (R260): the one after its pass-B twin issues for a store, the one in which that lands
otherwise. -/
def State.decideCec (s : State) (l : Landed) : Nat :=
  let at_ := s.ce.tStart + 4 * (l.cyc / 2) + l.cyc % 2
  if 5 ≤ l.twin.kind then at_ + 3 else at_ + 1

/-- The first of the writebacks that are decided earliest. -/
def State.earliest (s : State) : List Landed → Option Landed
  | [] => none
  | l :: r => match s.earliest r with
    | some k => if s.decideCec k < s.decideCec l then some k else some l
    | none => some l

/-- The next pair for the comparators, by the CEC in which they decide it: a writeback of pass B with its twin, or one of pass A without. -/
def State.nextPair (s : State) : Option (Nat × Option Landed × Option Landed) :=
  let ofB (b : Landed) := (s.decideCec b, s.ce.bufA.find? fun a => sameTwin a b, some b)
  match s.earliest s.orphans, s.earliest s.ce.bufB with
  | some a, some b => some (if s.decideCec a < s.decideCec b then (s.decideCec a, some a, none) else ofB b)
  | some a, none => some (s.decideCec a, some a, none)
  | none, some b => some (ofB b)
  | none, none => none

/-- Bits that disturbances invert in a writeback. -/
def hitBits (hits : List KatHit) (at_ : HitAt) (l : Landed) : Nat :=
  hits.foldl (fun n h => if h.at_ = at_ ∧ h.bidx = l.twin.idx ∧ h.slot = l.twin.slot then n ^^^ h.flip else n) 0

/-- The disturbances of the known-answer test at the input of a comparator. -/
def State.katBits (s : State) (at_ : HitAt) (b : Option Landed) : Nat :=
  if s.ce.katRun then (b.map (hitBits s.ce.katHits at_)).getD 0 else 0

/-- A pair leaves the buffers and is decided. -/
def State.decideNow (s : State) (a b : Option Landed) (f1 f2 : Nat) : State :=
  let bufA := match a with
    | some a => s.ce.bufA.erase a
    | none => s.ce.bufA
  let bufB := match b with
    | some b => s.ce.bufB.erase b
    | none => s.ce.bufB
  State.decidePair { s with ce := { s.ce with bufA := bufA, bufB := bufB } } a b (f1 ^^^ s.katBits .cmp1 b) (f2 ^^^ s.katBits .cmp2 b)

/-- CEC in which the next bundle of the passes issues; none once both have ended. -/
def State.nextSlot (s : State) : Option Nat :=
  match s.ce.a.run, s.ce.b.run with
  | true, true => some (min s.slotA s.slotB)
  | true, false => some s.slotA
  | false, true => some s.slotB
  | false, false => none

/-- A decision of CEC `c` comes no later than the next bundle. -/
def State.timely (s : State) (c : Nat) : Bool := s.nextSlot.all fun n => c ≤ n

/-- Decide the pairs, at most `n` of them, that are decided before CEC `c`, each in its CEC. -/
def State.decideTo (c : Nat) : Nat → State → State
  | 0, s => s
  | n + 1, s => match s.nextPair with
    | some (k, a, b) => if k < c then State.decideTo c n (s.atTime (s.now + k - s.cec) fun s => s.decideNow a b 0 0) else s
    | none => s

/-- Every comparison that is decided before CEC `c`. -/
def State.compareTo (s : State) (c : Nat) : State := State.decideTo c (s.ce.bufA.length + s.ce.bufB.length) s

/-- Decide `n` pairs. -/
def State.decideAll : Nat → State → State
  | 0, s => s
  | n + 1, s => match s.nextPair with
    | some (_, a, b) => State.decideAll n (s.decideNow a b 0 0)
    | none => s

/-- Every comparison that is still open is decided (R48: before the pass-B halt in a T-program that runs as built). -/
def State.closeCompare (s : State) : State := State.decideAll (s.ce.bufA.length + s.ce.bufB.length) s

/-! ### Known-answer test (R264 to R266) -/

/-- Transients within the window that ends at the present tick (R266). -/
def State.windowCount (s : State) : Nat :=
  (s.ce.transients.filter fun k => (s.tick + 4294967296 - k) % 4294967296 < max 1 (s.rd CE_TR_CFG.TR_W)).length

/-- WIN_CNT. -/
def State.showWindow (s : State) : State := s.wr CE_TR_STAT.WIN_CNT s.windowCount

/-- A transient is counted; a lasting count declares the datapath broken (R266, R267). -/
def State.countTransient (s : State) : State :=
  if s.flag CE_TR_STAT.BROKEN then s
  else
    let s := ({ s with ce := { s.ce with transients := (s.tick :: s.ce.transients).take 15 } } : State).showWindow
    if max 1 (s.rd CE_TR_CFG.TR_N) ≤ s.windowCount then (s.setFlag CE_TR_STAT.LASTING true).declareBroken srcTrLasting else s

/-- KAT_REASON of the test that has run; 0 for a passed one (R265). -/
def State.katReason (s : State) : Nat :=
  let sigA := s.ce.katSigA == Config.katSignature
  let sigB := s.ce.katSigB == Config.katSignature
  match s.ce.katBad with
  | some (c, _) => if c = 3 then 1 else 2
  | none => if sigA then (if sigB then 0 else 4) else if sigB then 3 else 5

/-! ### Passes and the B-program in the tick -/

/-- A free D register, accumulator or 16-bit value: what the known-answer test leaves is not specified (R203). -/
def freeWord (n : Nat) : TWord := ⟨BitVec.ofNat 32 (Config.freeValue n), (Config.freeValue (n + 1)).testBit 0⟩
def freeAcc (n : Nat) : TAcc := ⟨BitVec.ofNat 72 (Config.freeValue n), (Config.freeValue (n + 1)).testBit 0⟩

/-- The registers of a pass after the known-answer test, from free values numbered from `n` on. -/
def Stream.scrambled (st : Stream) (n : Nat) : Stream :=
  let acc := (List.range 4).map fun i => (i, freeAcc (n + 64 + 2 * i))
  { st with d := (List.range 32).map fun i => (i, freeWord (n + 2 * i)),
            accNear := acc, accFar := acc,
            p := (List.range 8).map fun i => (i, Config.freeValue (n + 72 + i) % 65536),
            pm := (List.range 8).map fun i => (i, Config.freeValue (n + 80 + i) % 65536),
            pl := (List.range 8).map fun i => (i, Config.freeValue (n + 88 + i) % 65536) }

/-- A pass at its first bundle. -/
def Stream.begin (st : Stream) (entry : Nat) : Stream :=
  { st with run := true, pc := entry, t := 0, issued := 0, rep := 0, repNew := false, cache := [], held := [] }

/-- A writeback as a disturbance of its pass leaves it. -/
def Landed.hit (hits : List KatHit) (at_ : HitAt) (l : Landed) : Landed := { l with val := l.val ^^^ hitBits hits at_ l }

/-- The writebacks that a pass of the known-answer test has presented since its buffer held `n`: they are disturbed, and noted for the
signature of the pass (R264). -/
def State.katNote (s : State) (x : Strm) (n : Nat) : State :=
  match x with
  | .passA =>
    let new := (s.ce.bufA.drop n).map (Landed.hit s.ce.katHits .passA)
    { s with ce := { s.ce with bufA := s.ce.bufA.take n ++ new, katLogA := s.ce.katLogA ++ new } }
  | .passB =>
    let new := (s.ce.bufB.drop n).map (Landed.hit s.ce.katHits .passB)
    { s with ce := { s.ce with bufB := s.ce.bufB.take n ++ new, katLogB := s.ce.katLogB ++ new } }
  | .bprog => s

/-- One bundle of the known-answer test issues in a pass (R264): three operations from the ROM and no control code. -/
def State.katIssue (s : State) (x : Strm) : State :=
  let n := match x with
    | .passA => s.ce.bufA.length
    | _ => s.ce.bufB.length
  let st := s.strm x
  let w := Config.katBundle st.issued
  let s := (s.runSlots x (Slot.getOp .nop (decodeM (w.extractLsb' 40 20))) (Slot.getOp .nop (decodeA (w.extractLsb' 20 20)))
    (Slot.getOp .nop (decodeL (w.extractLsb' 0 20)))).goOn x 1 (st.pc + 1)
  (s.landNext x).katNote x n

/-- The next bundle of the known-answer test: its CEC and pass (R252). -/
def State.katSlot (s : State) : Option (Nat × Strm) :=
  if s.ce.a.issued < 256 ∧ s.slotA < s.slotB then some (s.slotA, .passA)
  else if s.ce.b.issued < 256 then some (s.slotB, .passB)
  else none

/-- What the known-answer test does next, and in which CEC: a bundle issues, or the comparators decide a pair. -/
def State.katEvent (s : State) : Option (Nat × (State → State)) :=
  match s.nextPair, s.katSlot with
  | some (c, a, b), some (n, x) => some (if c ≤ n then (c, fun s => s.decideNow a b 0 0) else (n, fun s => s.katIssue x))
  | some (c, a, b), none => some (c, fun s => s.decideNow a b 0 0)
  | none, some (n, x) => some (n, fun s => s.katIssue x)
  | none, none => none

/-- The known-answer test goes on, `n` events at most, to the end of CEC `c`. -/
def State.katTo (c : Nat) : Nat → State → State
  | 0, s => s
  | n + 1, s => match s.katEvent with
    | some (k, f) => if k ≤ c then State.katTo c n (s.atTime (s.now + k - s.cec) f) else s
    | none => s

/-- More than the known-answer test has events: 512 bundles of at most eight writebacks. -/
def katEvents : Nat := 8192

/-- The known-answer test brings the comparators to their next pair: the bundles before it issue. -/
def State.katFeed : Nat → State → State
  | 0, s => s
  | n + 1, s => match s.katSlot with
    | some (k, x) =>
      if s.nextPair.any fun p => p.1 ≤ k then s else State.katFeed n (s.atTime (s.now + k - s.cec) fun s => s.katIssue x)
    | none => s

/-- The bytes with which a writeback enters the signature of its pass (R264), least significant first, nine for an accumulator and four
otherwise: DESIGN CHOICE. Pass B enters an S-tagged value negated. -/
def Landed.signed (negate : Bool) (l : Landed) : List Byte :=
  let n := if l.twin.kind = 1 then 9 else 4
  leBytes n (if negate && l.tag == some true then fieldOf (8 * n) (-(signedOf (8 * n) l.val)) else l.val)

/-- The known-answer test begins in both passes, with the disturbances that strike it (R264). -/
def State.beginKat (s : State) (hits : List KatHit) : State :=
  { s with ce := { s.ce with katRun := true, katBad := none, katHits := hits, katLogA := [], katLogB := [], katLc := s.ce.lc1, katRrb := s.ce.rrb1,
                             a := s.ce.a.begin 0, b := s.ce.b.begin 0, tOver := false } }

/-- Its last results land, and are compared. -/
def State.katTail (s : State) : State :=
  let n := s.ce.bufA.length
  let s := (s.landUpTo .passA 512).katNote .passA n
  let n := s.ce.bufB.length
  ((s.landUpTo .passB 512).katNote .passB n).closeCompare

/-- The known-answer test has run: its signatures are formed and its verdict is due, copy 1 of the loop state stays, and the other registers
hold free values (R202, R203, R264). -/
def State.endKat (s : State) : State :=
  let s := s.katTail
  let a := { s.ce.a with run := false, held := [] }
  let b := { s.ce.b with run := false, held := [] }
  { s with drawn := s.drawn + 192,
           ce := { s.ce with a := a.scrambled s.drawn, b := b.scrambled (s.drawn + 96), bufA := [], bufB := [], old := [], katRun := false,
                             katOpen := true, katSigA := crc32c (s.ce.katLogA.flatMap (Landed.signed false)),
                             katSigB := crc32c (s.ce.katLogB.flatMap (Landed.signed true)), katHits := [], katLogA := [], katLogB := [],
                             flags := 0, flagsB := 0, lc1 := s.ce.katLc, rrb1 := s.ce.katRrb, lc2 := s.ce.katLc, rrb2 := s.ce.katRrb } }

/-- Both passes begin with clear flags and equal loop state (R202). -/
def State.beginPasses (s : State) : State :=
  { s with ce := { s.ce with a := s.ce.a.begin s.tEntry, b := s.ce.b.begin s.tEntry, flags := 0, flagsB := 0,
                             lc2 := s.ce.lc1, rrb2 := s.ce.rrb1, tOver := false } }

/-- The passes of an active T-program begin; the tick of a Rake without one has no interval for them (R46). -/
def State.startPasses (s : State) : State :=
  if s.tIssue = 0 then { s with ce := { s.ce with tOver := true } } else s.beginPasses.showT

/-- A known-answer test that runs comes to its end, 512 CEC after TSTART, and the passes of the T-program begin (R50, R252). -/
def State.katDone (s : State) : State :=
  if s.ce.katRun then
    let s := (State.katTo (s.ce.tStart + 511) katEvents s).endKat
    State.startPasses { s with ce := { s.ce with tStart := s.ce.tStart + 512 } }
  else s

/-- WRITEBACK_COMPARE (R260): the comparators decide the next pair, in its CEC, with the given bits inverted at the input of each; a pair that is
decided only after the next bundle waits for that. -/
def writebackCompare (f1 f2 : Word) (s : State) : State :=
  let s := if s.ce.katRun then s.katFeed katEvents else s
  match s.nextPair with
  | some (c, a, b) => if s.ce.katRun || s.timely c then (s.advanceTo c).decideNow a b f1.toNat f2.toNat else s
  | none => s

/-- KAT_VERDICT (R265): at TSTART + 520 of a tick that runs the test. -/
def katVerdict (s : State) : State :=
  if s.ce.katRun || s.ce.katOpen then
    let s := (s.advanceTo (s.rd RAKE_TSTART.TSTART + 520)).katDone
    let s : State := { s with ce := { s.ce with katOpen := false } }
    let r := s.katReason
    if r = 0 then ((s.wr CE_TR_STAT.KAT_LAST 1).count CE_TR_CNT.KAT_PASS_CNT).countTransient
    else
      let s := s.wr CE_TR_KAT.KAT_BIDX ((s.ce.katBad.map (·.2)).getD 0 % 256)
      let s := ((s.wr CE_TR_STAT.KAT_LAST 2).setFlag CE_TR_STAT.KAT_FAIL true).wr CE_TR_KAT.KAT_REASON r
      s.onceInTick 3 fun s => s.declareBroken srcTrKat
  else s

/-- A bundle issues; one of the T-program after the known-answer test of its tick (R50). -/
def State.issue (s : State) (i : Issue) (f : Fetched) : State := (if i.strm.isT then s.katDone else s).issueNow i f

/-- T_PROGRAM_START (R45, R50, R202, R252): at TSTART a known-answer test that the tick owes begins, with the disturbances that strike it; it
runs for 512 CEC, and then, or at once, the passes of an active T-program begin. -/
def tProgramStart (hits : List KatHit) (s : State) : State :=
  if s.running then
    let start := s.rd RAKE_TSTART.TSTART
    let s := s.advanceTo start
    let s := if s.ce.p.run && !s.ce.bStopped then s.stopB false else s
    let s : State := { s with ce := { s.ce with bufA := [], bufB := [], old := [], katOpen := false, tStart := start,
                                                flags := 0, flagsB := 0, lc2 := s.ce.lc1, rrb2 := s.ce.rrb1 } }
    if s.flag RAKE_STAT.KAT_DUE then s.beginKat hits else s.startPasses
  else s

/-- PREEMPTION_REQUEST (R45): a running B-program is asked to stop. -/
def preemptionRequest (s : State) : State :=
  let s := s.advanceTo (s.rd RAKE_DERIVED.PREEMPT_PHASE)
  if s.ce.p.run && !s.ce.bStopped then { s with ce := { s.ce with bStop := true } } else s

/-- B_PROGRAM_STOP (R45, R227): an asked B-program stops at a bundle boundary outside a REP. -/
def bProgramStop (s : State) : State :=
  if s.ce.bStop && s.ce.p.run && !s.ce.bStopped && s.ce.p.rep == 0 then s.stopB false else s

/-- B_PROGRAM_RESUME (R46, R50, R52): once the T-program of the tick is over, and with it a known-answer test before it. -/
def bProgramResume (s : State) : State :=
  let s := if s.ce.tStart + 512 ≤ s.cec then s.katDone else s
  if s.ce.tOver then s.resumeB else s

/-- The Rake stops both passes at OUT_PHASE; their held writes and the stores not yet decided are discarded (R51, R218). -/
def State.stopPasses (s : State) : State :=
  let s : State := { s with ce := { s.ce with a := { s.ce.a with run := false, held := [] }, b := { s.ce.b with run := false, held := [] },
                                              bufA := [], bufB := [], tOver := true } }
  (s.wr CE_ISSUE.ISSUE_A s.ce.a.issued).showT

/-- Every start of the Rake clears the resources of the three sets (R205), and starts the B-program where it is enabled. A known-answer test
that is pending runs in the first tick (R269). -/
def State.ceStart (s : State) : State :=
  let s := s.setFlag RAKE_STAT.KAT_DUE s.ce.katNext
  let s : State := { s with ce := { Ce.init with transients := s.ce.transients, ppWin := s.rd CE_BCTL.PP_WIN } }
  let s := ((s.setFlag CE_STAT.T_RUN false).setFlag CE_STAT.B_HALT false).dcntStart
  if s.flag CE_PROG.BEN then s.startB else s.showB

/-- The control engine at a tick boundary: an idle B-program starts again at its entry (R171), and the tick's reports begin
anew. -/
def State.ceBoundary (s : State) : State :=
  let s := (s.setFlag RAKE_STAT.KAT_DUE s.ce.katNext).dcntBoundary
  let s : State := { s with ce := { s.ce with
                                    katNext := false, mism := false, seen := 0, recorded := 0,
                                    ppWin := s.rd CE_BCTL.PP_WIN } }
  let s := s.showWindow
  if s.ce.p.rep = 0 ∧ s.ce.bEnd.isSome then s.boundaryB
  else if s.flag CE_PROG.BEN ∧ s.flag CE_STAT.B_HALT then s.startB else s

end Sys2Proof.Machine
end

