-- ==== Sys2Proof/Machine/Commit.lean ====
section
/-! DEFINITION. Commit groups: writer records, the snapshot and its checks, rejection and application (R42, R47, R49, R59,
R89 to R95, R169, R170, R182 to R184, R189, R224, R253, R277, R309). -/

namespace Sys2Proof.Machine

/-! ### Groups (R89) -/

def gTick := 0
def gDead := 1
def gLim (m : Nat) : Nat := 2 + m
def gCtx := 5
def gMode := 6
def gProg := 7

/-- Bit `g` of a mask of groups. -/
def inMask (mask g : Nat) : Bool := mask.testBit g

/-- The groups of a mask, in rising order. -/
def groupsOf (mask : Nat) : List Nat := (List.range 8).filter (inMask mask)

/-- The group a SHD field belongs to. -/
def groupOf (f : Fld) : Nat :=
  if f.off < 0x800 then gTick
  else if 0x1D00 ≤ f.off ∧ f.off < 0x2000 then gDead
  else if 0x1800 ≤ f.off ∧ f.off < 0x1C00 then gLim ((f.off - 0x1800) / 0x100)
  else if f.off = 0x1000 then gProg
  else if 0x100C ≤ f.off ∧ f.off < 0x1020 then gMode
  else gCtx

/-- The SHD fields of a group. -/
def groupFields (g : Nat) : List Fld :=
  match g with
  | 0 => [RAKE_TICK.PWM_TICKS, RAKE_TICK.TICK_PERIOD, RAKE_SAMPLE.SAMPLE_PHASE, RAKE_TSTART.TSTART, RAKE_OUT.OUT_PHASE,
      RAKE_ENC.ENC_REQ_PHASE, RAKE_BRINE.BRINE_PHASE, RAKE_FAB.FAB_LOCK_EN, RAKE_FAB.FAB_OFFSET]
  | 1 => motors.flatMap fun m => [GDM_DEAD.HS_TMO m, GDM_DEAD.HS_VTH m, GDM_DEAD.DT m]
  | 2 => [FIELD_LIM0.IQ_MAX 0, FIELD_LIM0.ID_MIN 0, FIELD_LIM1.VLIM 0, FIELD_LIM1.SPD_MAX 0]
  | 3 => [FIELD_LIM0.IQ_MAX 1, FIELD_LIM0.ID_MIN 1, FIELD_LIM1.VLIM 1, FIELD_LIM1.SPD_MAX 1]
  | 4 => [FIELD_LIM0.IQ_MAX 2, FIELD_LIM0.ID_MIN 2, FIELD_LIM1.VLIM 2, FIELD_LIM1.SPD_MAX 2]
  | 5 => ((List.range 4).map CE_CTX_MASK.MASK) ++ ((List.range 128).flatMap fun n => [CTX_W0.STATE n, CTX_W0.BANK n])
  | 6 => [CE_MODE.GRACE, CE_MODE.HOST_AGE, CE_MODE.AFECAL_H, CE_MODE.ROUTE_H, CE_MODE.FR_F2_H, CE_MODE.FR_F1_H,
      CE_MODE.START_H, CE_MODE.ANG_H] ++ (List.range 4).map CE_MODE_SPH.SPH
  | 7 => [CE_PROG.BEN, CE_PROG.PBANK]
  | _ => []

/-! ### Writer records (R93, R94) -/

/-- The recorded writer of a group, 0xFF for none. -/
def State.groupWriter (s : State) (g : Nat) : Nat := lookup s.sys.groupWriter 0xFF g

/-- PENDING and DIRTY follow. -/
def State.showCommit (s : State) : State :=
  let dirty := ((List.range 8).filter fun g => s.groupWriter g != 0xFF).foldl (fun m g => m + 2 ^ g) 0
  (s.wr SYS_COMMIT_STAT.PENDING (s.rd SYS_COMMIT.GROUPS ||| s.sys.accepted)).wr SYS_COMMIT_STAT.DIRTY dirty

/-- A shadow write by a writer: the first records the writer, one by another marks the group MIXED. -/
def State.noteShadow (s : State) (g w : Nat) : State :=
  let s :=
    if s.groupWriter g = 0xFF then { s with sys := { s.sys with groupWriter := place s.sys.groupWriter g w } }
    else if s.groupWriter g = w then s
    else s.setBit SYS_COMMIT_STAT.MIXED g true
  s.showCommit

/-- A software write of a SHD field: it replaces the shadow only (R84). -/
def State.writeShadow (s : State) (f : Fld) (v w : Nat) : State := (s.setShadow f v).noteShadow (groupOf f) w

/-- Clear a group's writer record and MIXED mark (R92, R94). -/
def State.clearWriter (s : State) (g : Nat) : State :=
  ({ s with sys := { s.sys with groupWriter := erase s.sys.groupWriter g } } : State).setBit SYS_COMMIT_STAT.MIXED g false

/-- Forget the commit writes that a discarded group has seen since its last snapshot (R94). -/
def State.dropCommit (s : State) (g : Nat) : State :=
  ({ s with sys := { s.sys with commitWriters := s.sys.commitWriters.filter fun p => p.1 != g } } : State).setBit SYS_COMMIT.GROUPS g false

/-- COMMIT (R90): the groups become pending for the next snapshot. -/
def commit (w mask : Nat) (s : State) : State :=
  let gs := groupsOf mask
  let s := s.wr SYS_COMMIT.GROUPS (s.rd SYS_COMMIT.GROUPS ||| mask)
  let new := (gs.map fun g => (g, w)).filter fun p => !s.sys.commitWriters.contains p
  ({ s with sys := { s.sys with commitWriters := s.sys.commitWriters ++ new } } : State).showCommit

/-- DISCARD (R94): the shadows are reloaded; a commit that waits for its snapshot is cancelled. -/
def discard (mask : Nat) (s : State) : State :=
  let s := (groupsOf mask).foldl (fun (s : State) g =>
    (((groupFields g).foldl State.dropShadow s).clearWriter g).dropCommit g) s
  s.showCommit

/-! ### Candidate values -/

/-- The value a field would have: its snapshot for a group in the mask, else its live value. -/
def State.cand (s : State) (mask : Nat) (f : Fld) : Nat :=
  if inMask mask (groupOf f) then lookup s.sys.snapshot (s.rd f) f.key else s.rd f

/-! ### G_TICK (R59) -/

/-- The phase-range, order, reload-margin, Brine and encoder rules for a tick length (R59, R66), as their codes. -/
def State.lengthCodes (s : State) (c : Fld → Nat) (len : Nat) : List (Nat × Bool) :=
  let smp := c RAKE_SAMPLE.SAMPLE_PHASE
  let ts := c RAKE_TSTART.TSTART
  let out := c RAKE_OUT.OUT_PHASE
  let enc := c RAKE_ENC.ENC_REQ_PHASE
  let bri := c RAKE_BRINE.BRINE_PHASE
  let dual := s.part == .hx962d
  let span := ((motors.filter fun p => s.bit POS_CTRL.PORT_EN p).map s.encSpan).foldl max 0
  [(0x06, smp < len && ts < len && out < len && enc < len && (!dual || bri < len)),
   (0x07, smp < ts && ts < out),
   (0x0A, out + 32 ≤ len),
   (0x0B, !(dual && s.flag BRINE_CTRL.EN) || (out + 16 ≤ bri && bri + 380 ≤ len + ts)),
   (0x0C, s.rd POS_CTRL.PORT_EN == 0 || (enc + span + 16 ≤ len + ts && span ≤ len))]

/-- RDY_PHASE for a sample phase and the live sequence (R44). -/
def State.rdyFor (s : State) (smp : Nat) : Nat := smp + 40 * s.nconv + 16

/-- R47 for an issue count; no program needs no budget. -/
def budgetFits (t out ts : Nat) : Bool := t == 0 || 2 * t + 512 + ts ≤ out

/-- The first rule of a list that fails; 0 where all hold. -/
def firstFailed : List (Nat × Bool) → Nat
  | [] => 0
  | (c, ok) :: r => if ok then firstFailed r else c

/-- The checks of G_TICK other than those it shares, in the order of their codes. -/
def State.tickCodes (s : State) (c : Fld → Nat) : List (Nat × Bool) :=
  let per := c RAKE_TICK.TICK_PERIOD
  let pwm := c RAKE_TICK.PWM_TICKS
  let fab := s.rd NET_CYC.FAB_CYCLE
  [(0x02, 1000 ≤ per && per ≤ 40000),
   (0x03, 2000 ≤ per * (1 + pwm) && per * (1 + pwm) ≤ 40000),
   (0x04, pwm != 0 || per % 2 == 0),
   (0x05, !s.inService || (per == s.rd RAKE_TICK.TICK_PERIOD && pwm == s.rd RAKE_TICK.PWM_TICKS)),
   (0x08, s.rdyFor (c RAKE_SAMPLE.SAMPLE_PHASE) + 64 ≤ c RAKE_TSTART.TSTART),
   (0x0E, c RAKE_FAB.FAB_LOCK_EN == 0 || (fab * 4 % per == 0 && c RAKE_FAB.FAB_OFFSET < per))]
   ++ s.lengthCodes c per

/-! ### G_PROG (R224, R253) -/

/-- The header of a bank: 0x30 for an empty bank, 0x31 for a bad header, 0 for a good one. -/
def State.headerCode (s : State) (bank : Nat) : Nat :=
  let b0 := s.bundleAt bank 0
  let b1 := s.bundleAt bank 1
  let b2 := s.bundleAt bank 2
  let pm := if bank = 0 then s.pm0 else s.pm1
  let last := (b1.extractLsb' 16 14).toNat
  let te := (b0.extractLsb' 16 14).toNat
  let be := (b0.extractLsb' 0 14).toNat
  let ti := (b1.extractLsb' 48 16).toNat
  if (b0.extractLsb' 32 32).toNat ≠ 0x50524743 then 0x30
  else if crc32c (pm.bytes 0 0 16 ++ pm.bytes 0 20 4) = (b2.extractLsb' 0 32).toNat ∧ b1.extractLsb' 8 8 = 1#8
    ∧ 3 ≤ te ∧ te ≤ last ∧ 3 ≤ be ∧ be ≤ last ∧ 3 ≤ ti ∧ ti % 2 = 0
    ∧ b0.extractLsb' 30 2 = 0 ∧ b0.extractLsb' 14 2 = 0 ∧ b1.extractLsb' 30 18 = 0 ∧ b1.extractLsb' 0 8 = 0
    ∧ b2.extractLsb' 32 32 = 0 then 0
  else 0x31

/-- T_ISSUE of a bank's header. -/
def State.headerIssue (s : State) (bank : Nat) : Nat := ((s.bundleAt bank 1).extractLsb' 48 16).toNat

/-! ### The other groups -/

/-- G_DEAD: the range codes of one motor (R309). -/
def deadCodes (c : Fld → Nat) (m : Nat) : List (Nat × Bool) :=
  let dt := c (GDM_DEAD.DT m)
  let tmo := c (GDM_DEAD.HS_TMO m)
  [(0x10, 10 ≤ dt), (0x11, c (GDM_DEAD.HS_VTH m) ≤ 8), (0x12, 1 ≤ tmo && tmo ≤ 100 && dt < 40 * tmo)]

/-- The dead time of every motor of a list is below a quarter of the PWM period (R309). -/
def deadQuarter (ms : List Nat) (c : Fld → Nat) : Bool :=
  ms.all fun m => 4 * c (GDM_DEAD.DT m) < c RAKE_TICK.TICK_PERIOD * (1 + c RAKE_TICK.PWM_TICKS)

/-- G_LIM(m) (R277). -/
def limOk (c : Fld → Nat) (m : Nat) : Bool :=
  let id := c (FIELD_LIM0.ID_MIN m)
  let v := c (FIELD_LIM1.VLIM m)
  let sp := c (FIELD_LIM1.SPD_MAX m)
  c (FIELD_LIM0.IQ_MAX m) ≤ 0x7FFF && (id == 0 || 0x8001 ≤ id) && 0x2000 ≤ v && v ≤ 0x7FFF && 1 ≤ sp && sp ≤ 0x7FFF

/-- Context n is masked by the candidate mask. -/
def ctxMasked (c : Fld → Nat) (n : Nat) : Bool := (c (CE_CTX_MASK.MASK (n / 32))).testBit (n % 32)

/-- The STATE a context would have. -/
def State.ctxWould (s : State) (c : Fld → Nat) (n : Nat) : Nat :=
  if ctxMasked c n then c (CTX_W0.STATE n) else s.rd (CTX_W0.STATE n)

/-- The competition conditions of a context with a role (R184). -/
def State.roleOk (s : State) (c : Fld → Nat) (n : Nat) : Bool :=
  let role := s.rd (CTX_W0.CROLE n)
  let m := s.rd (CTX_W0.CMOT n)
  role == 0 ||
    (role ≤ 5 && s.isPi n && m < 3 && s.motorUsed m && s.flag (CE_COMP.CEN m)
      && (role != 1 || (!s.flag (CE_COMP.PRI_X m)
        && !(List.range 128).any fun j => j != n && s.ctxWould c j != 2 && s.rd (CTX_W0.CROLE j) == 1 && s.rd (CTX_W0.CMOT j) == m)))

/-- A masked context that would be live in CLOSED, TRACKING or HOST (R184). -/
def State.ctxOk (s : State) (c : Fld → Nat) (n : Nat) : Bool :=
  let law := s.rd (CTX_W0.LAW n)
  let k (i : Nat) : Int := s.coef (c (CTX_W0.BANK n)) n i
  !ctxMasked c n || c (CTX_W0.STATE n) == 1 ||
    (1 ≤ law && law ≤ 6 && decide (k 7 ≤ k 6)
      && (law != 6 || (decide (0 ≤ k 0) && decide (0 ≤ k 1)))
      && (!(law == 4 || law == 5) || (decide (0 ≤ k 5) && decide (k 5 ≤ 3)))
      && s.roleOk c n && (c (CTX_W0.STATE n) != 3 || s.flag CE_XMAP.HEN))

/-- G_CTX. -/
def State.ctxCodes (s : State) (c : Fld → Nat) : List (Nat × Bool) :=
  [(0x20, (List.range 4).any fun k => c (CE_CTX_MASK.MASK k) != 0), (0x21, (List.range 128).all (s.ctxOk c))]

/-- A host flow is configured (R189). -/
def State.hostFlowOk (s : State) : Bool := s.flowOn (s.rd NET_CTRL.HFLOW) && s.isQueue (s.rd NET_CTRL.HFLOW)

/-- G_MODE (R189). -/
def State.modeCodes (s : State) (c : Fld → Nat) : List (Nat × Bool) :=
  let host := c CE_MODE.ANG_H != 0 || (List.range 4).any fun k => c (CE_MODE_SPH.SPH k) != 0
  let fr := c CE_MODE.FR_F1_H != 0 || c CE_MODE.FR_F2_H != 0
  [(0x28, !(host && !s.flag CE_XMAP.HEN) && !(fr && c CE_MODE.GRACE == 0) && !(c CE_MODE.ROUTE_H != 0 && !s.hostFlowOk)),
   (0x29, c CE_MODE.GRACE ≤ 1000)]

/-! ### The snapshot (R90 to R93) -/

/-- The group is rejected for its writers (R93). -/
def State.mixed (s : State) (g : Nat) : Bool :=
  s.bit SYS_COMMIT_STAT.MIXED g
    || (s.groupWriter g != 0xFF && s.sys.commitWriters.any fun p => p.1 == g && p.2 != s.groupWriter g)

/-- The lowest code of the failed rules of a list; 0 for none. The spec does not say which code a group that fails several rules
reports (DESIGN CHOICE). -/
def lowestFailed (l : List (Nat × Bool)) : Nat := (l.filter fun p => !p.2).foldl (fun a p => lowerCode a p.1) 0

/-- The code a group earns by itself. -/
def State.ownCode (s : State) (c : Fld → Nat) (g : Nat) : Nat :=
  if s.mixed g then 0x01
  else match g with
    | 0 => lowestFailed (s.tickCodes c)
    | 1 => lowestFailed (s.usedMotors.flatMap (deadCodes c))
    | 5 => firstFailed (s.ctxCodes c)
    | 6 => firstFailed (s.modeCodes c)
    | 7 => s.headerCode (c CE_PROG.PBANK)
    | g => if limOk c (g - 2) then 0 else 0x18

/-- The code of every group of the mask: its own, then those of the checks that span two groups (R91). -/
def State.groupCodes (s : State) (mask : Nat) : List (Nat × Nat) :=
  let c := s.cand mask
  let own (g : Nat) : Nat := if inMask mask g then s.ownCode c g else 0
  let tick := inMask mask gTick
  let prog := inMask mask gProg
  let dead := inMask mask gDead
  let ti := if prog ∧ s.headerCode (c CE_PROG.PBANK) = 0 then s.headerIssue (c CE_PROG.PBANK) else s.tIssue
  let overBudget := (tick || (prog && own gProg == 0)) && !budgetFits ti (c RAKE_OUT.OUT_PHASE) (c RAKE_TSTART.TSTART)
  let short := (tick || dead) && !deadQuarter s.usedMotors c
  (groupsOf mask).map fun g =>
    let cross :=
      lowerCode (if overBudget ∧ (g = gTick ∨ (g = gProg ∧ own gProg = 0)) then 0x09 else 0)
        (if short ∧ (g = gTick ∨ g = gDead) then 0x0D else 0)
    (g, if own g = 0x01 then 0x01 else if g = gProg ∧ own g ≠ 0 then own g else lowerCode (own g) cross)

/-- The writer reported for a rejected group (R92). -/
def State.rejectWriter (s : State) (g : Nat) : Nat :=
  if s.groupWriter g ≠ 0xFF then s.groupWriter g
  else ((s.sys.commitWriters.find? fun p => p.1 == g).map (·.2)).getD deviceWriter

/-- A rejected group: it keeps its live values and its shadows, and is logged (R92). -/
def State.rejectGroups (s : State) (bad : List (Nat × Nat)) : State :=
  match bad with
  | [] => s
  | b :: r =>
    let w := s.rejectWriter b.1
    let s := (((s.setFlag SYS_COMMIT_REJ.COMMIT_REJ true).wr SYS_COMMIT_REJ.REJ_GROUP b.1).wr SYS_COMMIT_REJ.REJ_CODE b.2).wr
      SYS_COMMIT_REJ.REJ_WRITER w
    let s := if r.isEmpty then s else s.setFlag SYS_COMMIT_REJ.REJ_MORE true
    bad.foldl (fun (s : State) x =>
      s.logEvent 0x07 deviceWriter x.1 (dataOf [(1, x.2), (1, s.rejectWriter x.1), (10, 0)])) s

/-- COMMIT_SNAPSHOT (R90): the shadows of the pending groups are taken and checked; accepted groups wait for the boundary. A
rejection is reported and logged with the check, and not at the boundary that ends it (DESIGN CHOICE). -/
def commitSnapshot (s : State) : State :=
  let s := if s.running then s.advanceTo (s.rake.tickLen - 48) else { s with now := s.now + 1 }
  let mask := s.rd SYS_COMMIT.GROUPS
  if mask = 0 then s
  else
    let snap := (groupsOf mask).flatMap fun g => (groupFields g).map fun f => (f.key, s.shadow f)
    let s : State := { s with sys := { s.sys with snapshot := snap } }
    let codes := s.groupCodes mask
    let ok := ((codes.filter fun p => p.2 == 0).map fun p => 2 ^ p.1).foldl (· + ·) 0
    let s := s.rejectGroups (codes.filter fun p => p.2 != 0)
    let s := s.wr SYS_COMMIT.GROUPS 0
    ({ s with sys := { s.sys with accepted := ok, commitWriters := [] } } : State).showCommit

/-! ### Application (R90, R92) -/

/-- The budget registers follow the live set (R49). Where OUT_PHASE − TSTART is below 512 no T_ISSUE is admissible, and
T_ISSUE_MAX reads 0 (DESIGN CHOICE). -/
def State.showBudget (s : State) : State :=
  s.wr RAKE_BUDGET.T_ISSUE_MAX ((s.rd RAKE_OUT.OUT_PHASE - s.rd RAKE_TSTART.TSTART - 512) / 2)

/-- G_TICK becomes live: a change of the period restarts the centre-aligned counter (R523). -/
def State.applyTick (s : State) (mask : Nat) : State :=
  let per := s.rd RAKE_TICK.TICK_PERIOD
  let pwm := s.rd RAKE_TICK.PWM_TICKS
  let s := (groupFields gTick).foldl (fun (s : State) f => s.wr f (s.cand mask f)) s
  let s := s.showDerived.showBudget
  if s.rd RAKE_TICK.TICK_PERIOD = per ∧ s.rd RAKE_TICK.PWM_TICKS = pwm then s
  else { s with rake := { s.rake with restartPwm := true } }

/-- G_CTX becomes live: every masked context takes its BANK and STATE at once (R182). -/
def State.applyCtx (s : State) (mask : Nat) : State :=
  let c := s.cand mask
  let s := (List.range 4).foldl (fun (s : State) k => s.wr (CE_CTX_MASK.MASK k) (c (CE_CTX_MASK.MASK k))) s
  (List.range 128).foldl (fun (s : State) n =>
    if ctxMasked c n then
      let old := s.rd (CTX_W0.STATE n)
      let new := c (CTX_W0.STATE n)
      ((s.wr (CTX_W0.STATE n) new).wr (CTX_W0.BANK n) (c (CTX_W0.BANK n))).ctxMove n old new
    else s) s

/-- G_PROG becomes live: a new bank replaces the B-program at its next bundle boundary, and BEN starts or ends it (R169,
R170). -/
def State.applyProg (s : State) (mask : Nat) : State :=
  let bank := s.rd CE_PROG.PBANK
  let ben := s.flag CE_PROG.BEN
  let s := (groupFields gProg).foldl (fun (s : State) f => s.wr f (s.cand mask f)) s
  let s := s.wr RAKE_BUDGET.T_ISSUE (s.headerIssue (s.rd CE_PROG.PBANK))
  let on := s.flag CE_PROG.BEN
  let s := if s.rd CE_PROG.PBANK = bank then s else s.emptyCache
  if s.rd CE_PROG.PBANK = bank ∧ on = ben then s
  else if s.ce.p.run && !s.ce.bStopped && s.ce.p.rep != 0 then { s with ce := { s.ce with bEnd := some on } }
  else if s.ce.p.run ∨ s.flag CE_STAT.B_HALT then s.endB on
  else if on then s.startB else s

/-- One accepted group becomes live. -/
def State.applyGroup (mask : Nat) (s : State) (g : Nat) : State :=
  let s :=
    if g = gTick then s.applyTick mask
    else if g = gCtx then s.applyCtx mask
    else if g = gProg then s.applyProg mask
    else (groupFields g).foldl (fun (s : State) f => s.wr f (s.cand mask f)) s
  ((groupFields g).foldl State.dropShadow s).clearWriter g

/-- COMMIT_APPLY (R90): every accepted group of the last snapshot becomes live at once, and LAST_OK shows them. -/
def commitApply (s : State) : State :=
  if s.sys.snapshot = [] then s
  else
    let mask := s.sys.accepted
    let s := if s.running then s else { s with now := s.now + 48 }
    let s := (groupsOf mask).foldl (State.applyGroup mask) s
    let s := s.wr SYS_COMMIT_STAT.LAST_OK mask
    ({ s with sys := { s.sys with accepted := 0, snapshot := [] } } : State).showCommit

end Sys2Proof.Machine
end

