-- ==== Sys2Proof/Machine/Handover.lean ====
section
/-! DEFINITION. Handover update between the two halves (R493 to R498). -/

namespace Sys2Proof.Machine

/-- HSTATE codes of MGMT_HO. -/
def hoIdle := 0
def hoAsk := 1
def hoRamp := 2
def hoOut := 3
def hoFail := 4
def hoPartner := 5

/-- HSTATE. -/
def State.hstate (s : State) : Nat := s.rd MGMT_HO.HSTATE

/-- IMG_VER that the next boot would find in copy 0 (R105), which a half that leaves for an update announces (R493). -/
def State.nextImgVer (s : State) : Nat := leNat (s.flash.bytes 0xFF 0x0C 4)

/-- One step of a handover in the log (TYPE 0x0B). -/
def State.logHandover (s : State) : State :=
  s.logEvent 0x0B deviceWriter (s.rd MGMT_HO.HO_ID)
    (dataOf [(1, s.hstate), (1, s.rd MGMT_HO.REASON), (4, s.nextImgVer), (6, 0)])

/-- Enter a handover state. -/
def State.enterHo (s : State) (st : Nat) : State := (s.wr MGMT_HO.HSTATE st).logHandover

/-- The MP has a command frame to post; it posts one at a time (R404). -/
def State.sendHo (s : State) (code : Nat) (payload : List Byte) : State :=
  if s.brine.cmdOut.isNone ∧ s.ho.toSend.isEmpty then s.postCommand code payload
  else { s with ho := { s.ho with toSend := s.ho.toSend ++ [(code, payload)] } }

/-- The ramp ends and both halves fail with a reason (R494, R496). -/
def State.failHo (s : State) (reason : Nat) : State :=
  ({ s.wr MGMT_HO.REASON reason with ho := { s.ho with ramp := false } } : State).enterHo hoFail

/-- RAMP runs: in the leaving half, or in the partner before HO_OUT. -/
def State.inRamp (s : State) : Bool := s.hstate == hoRamp || (s.hstate == hoPartner && !s.ho.out)

/-- Abort RAMP: HO_ABORT is sent, and the half fails with the reason (R496). -/
def State.abortHo (s : State) (reason : Nat) : State :=
  if s.inRamp then (s.sendHo 0x15 (dataOf [(2, s.rd MGMT_HO.HO_ID), (1, reason)])).failHo reason else s

/-- The payload of the command frame at the head of the MP's receive queue, if it has the given CODE (R404). -/
def State.headCommand (s : State) (code : Nat) : Option (List Byte) :=
  match s.brine.cmdQueue with
  | [] => none
  | b :: _ => if frameNat b 2 1 = code then some ((b.drop 4).take 24) else none

/-- Take the head command frame off the queue. -/
def State.dropCommand (s : State) : State := { s with brine := { s.brine with cmdQueue := s.brine.cmdQueue.drop 1 } }

/-- A number in a payload. -/
def payNat (p : List Byte) (o n : Nat) : Nat := leNat ((p.drop o).take n)

/-- A reaction of LIMIT or stronger is active, or a HOLD has been taken since the last tick boundary (R493, R496). -/
def State.limited (s : State) : Bool := decide (1 ≤ s.topReaction) || s.ho.held

/-- The first reason of R493 that keeps a partner from a handover; 0 for none. -/
def State.hoReason (s : State) : Nat :=
  if s.copy ≠ 0 then 1
  else if !s.inService then 2
  else if s.limited then 3
  else if s.flag CE_TR_STAT.BROKEN then 4
  else if s.hstate = hoIdle ∨ s.hstate = hoFail then 0
  else 5

/-- HO_REQ (R494, R498): the partner answers a received request. -/
def hoReq (s : State) : State :=
  match s.headCommand 0x10 with
  | none => s
  | some p =>
    let s := s.dropCommand
    let id := payNat p 0 2
    let s := if s.hstate = hoAsk ∧ s.halfId = .b then s.failHo 5 else s
    let reason := s.hoReason
    if reason = 0 then
      let s := s.sendHo 0x11 (leBytes 2 id)
      let s := ((s.wr MGMT_HO.HO_ID id).wr MGMT_HO.REASON 0)
      ({ s with ho := { s.ho with mask := payNat p 2 1, ramp := false, since := s.now, out := false } } : State).enterHo hoPartner
    else s.sendHo 0x12 (dataOf [(2, id), (1, reason)])

/-- HO_ACK (R494): the leaving half enters RAMP. -/
def hoAck (s : State) : State :=
  match s.headCommand 0x11 with
  | none => s
  | some p =>
    let s := s.dropCommand
    if s.hstate = hoAsk ∧ payNat p 0 2 = s.rd MGMT_HO.HO_ID then
      ({ s with ho := { s.ho with since := s.now } } : State).enterHo hoRamp
    else s

/-- HO_NAK (R494). -/
def hoNak (s : State) : State :=
  match s.headCommand 0x12 with
  | none => s
  | some p =>
    let s := s.dropCommand
    if s.hstate = hoAsk ∧ payNat p 0 2 = s.rd MGMT_HO.HO_ID then s.failHo (payNat p 2 1) else s

/-- The committed split of every named motor has reached its target (R494, R495). -/
def State.rampDone (s : State) : Bool :=
  motors.all fun m => !s.ho.mask.testBit m ||
    ((s.chan m).splitKnown && (s.chan m).splitLast == (match s.halfId with | .a => 0 | .b => oneShare))

/-- HO_RAMP_DONE (R495): the leaving half sends HO_OUT, enters OUT and raises its own request to STANDBY. -/
def hoRampDone (s : State) : State :=
  if s.hstate = hoRamp ∧ s.rampDone then
    let s := (s.sendHo 0x13 (leBytes 2 (s.rd MGMT_HO.HO_ID))).enterHo hoOut
    ({ s with ho := { s.ho with out := true, toUpdate := true } } : State).request 4 0x80
  else s

/-- HO_OUT (R495): the partner learns that the leaving half is out. -/
def hoOutRx (s : State) : State :=
  match s.headCommand 0x13 with
  | none => s
  | some p =>
    let s := s.dropCommand
    if s.hstate = hoPartner ∧ payNat p 0 2 = s.rd MGMT_HO.HO_ID then
      ({ s with ho := { s.ho with out := true } } : State).logHandover
    else s

/-- HO_TIMEOUT (R496): the targets have not been reached within HO_TMO ms. -/
def hoTimeout (s : State) : State :=
  if s.inRamp ∧ max 1 (s.rd MGMT_HO.HO_TMO) * cecPerMs ≤ s.now - s.ho.since then s.abortHo 6 else s

/-- HO_ABORT (R496): a received abort. -/
def hoAbort (s : State) : State :=
  match s.headCommand 0x15 with
  | none => s
  | some p =>
    let s := s.dropCommand
    if (s.inRamp ∨ s.hstate = hoAsk) ∧ payNat p 0 2 = s.rd MGMT_HO.HO_ID then s.failHo (payNat p 2 1) else s

/-- The partner is done with the handover (R497). -/
def State.partnerBack (s : State) : State :=
  if s.hstate = hoPartner then ({ s with ho := { s.ho with ramp := false, out := false } } : State).enterHo hoIdle else s

/-- HO_BACK (R497). -/
def hoBack (s : State) : State := if (s.headCommand 0x14).isSome then s.dropCommand.partnerBack else s

/-- UPD_NEXT (R497). -/
def updNext (s : State) : State := if (s.headCommand 0x20).isSome then s.dropCommand.setFlag MGMT_HO.NEXT true else s

/-- Enter UPDATE (R461, R492, R495): every used motor in its safe state, the series switches open, ALIVE low, the unlock
closed (R386). -/
def State.enterUpdate (s : State) (byHandover : Bool) : State :=
  let s := ((s.outputsSafe false).setHalf .update).aliveLow.leaveKeyStates.fcRefresh
  { s with ho := { s.ho with toUpdate := false, inUpdate := byHandover } }

/-- Post the next command frame the MP holds back. -/
def State.postHeld (s : State) : State :=
  match s.ho.toSend with
  | [] => s
  | (c, p) :: r =>
    if s.brine.cmdOut.isSome then s else ({ s with ho := { s.ho with toSend := r } } : State).postCommand c p

/-- The conditions that abort RAMP at a boundary (R496), the link first (R498: the loss of the link also ends DUAL), and the failure of the
request in ASK (R494). -/
def State.hoChecks (s : State) : State :=
  if s.inRamp then
    if s.link ≠ linkUp then s.abortHo 7
    else if s.copy ≠ 0 then s.abortHo 1
    else if s.limited then s.abortHo 3
    else s
  else if s.hstate = hoAsk ∧ s.brine.cmdFailed then s.failHo 7
  else s

/-- Handover at a tick boundary (R494 to R497): the ramp runs, its abort conditions, UPDATE after the disarm, the return of either
half to IDLE, and what the MP has to post. -/
def State.handoverBoundary (s : State) : State :=
  let s := s.hoChecks
  let s : State := { s with ho := { s.ho with held := false } }
  let s : State := if s.inRamp then { s with ho := { s.ho with ramp := true } } else s
  let s : State := if s.hstate = hoPartner ∧ s.ho.out ∧ s.copy ≠ 0 then { s with ho := { s.ho with ramp := false } } else s
  let s := if s.hstate = hoPartner ∧ s.ho.out ∧ !s.ho.ramp ∧ s.copy = 0 then s.partnerBack else s
  let s :=
    if !s.ho.toUpdate then s
    else if s.half = .standby then (if s.flag PWR_STATE.BUSY then s else s.enterUpdate (s.hstate == hoOut))
    else if s.half = .armed ∨ s.half = .limp then s
    else { s with ho := { s.ho with toUpdate := false } }
  let s :=
    if s.ho.flag ∧ s.copy = 0 ∧ s.inService then
      let s : State := { s with ho := { s.ho with flag := false } }
      let s := s.sendHo 0x14 (dataOf [(2, s.rd MGMT_HO.HO_ID), (4, s.rd MGMT_IMG_INFO.IMG_VER), (4, s.mgmt.fwVersion)])
      (s.sendHo 0x20 (leBytes 4 (s.rd MGMT_IMG_INFO.IMG_VER))).enterHo hoIdle
    else s
  s.postHeld

end Sys2Proof.Machine
end

