-- ==== Sys2Proof/Machine/Rake.lean ====
section
/-! DEFINITION. The Rake (chapter The tick and the Rake): the tick boundary with what every block does at it, the output
commit, and the lock of the tick to its reference. -/

namespace Sys2Proof.Machine

/-! ### Lock reference (R60 to R69, R525) -/

/-- Lock states of RAKE_STAT (R68). -/
def lockFree := 0
def lockAcquire := 1
def lockLocked := 2
def lockHoldover := 3

/-- The reference that R60 gives: 0 none, 1 Brine link, 2 gPTP. -/
def State.lockRef (s : State) : Nat :=
  let fab := if s.flag RAKE_FAB.FAB_LOCK_EN then 2 else 0
  let up := s.link == linkUp
  match s.part, s.halfId with
  | .hx961s, _ => fab
  | .hx962d, .a => if s.copy = 3 ∧ up then 1 else fab
  | .hx962d, .b => if s.copy = 0 ∨ (s.copy = 2 ∧ up) then 1 else fab

/-- The lock source of a reference (R525). -/
def lockSource (ref : Nat) : Nat := if ref = 1 then srcRakeLock else srcRakeFabLock

/-- Both lock sources end (R525). -/
def State.lowerLock (s : State) : State := (s.lower srcRakeLock 0).lower srcRakeFabLock 0

/-- Enter a lock state with its measurement counts at zero. -/
def State.enterLock (s : State) (st : Nat) : State :=
  { s.wr RAKE_STAT.LOCK_STATE st with rake := { s.rake with inLimit := 0, beyond := 0 } }

/-- One occurrence of the lock source, which stays active (R525). -/
def State.loseLock (s : State) : State :=
  let src := lockSource (s.rd RAKE_STAT.LOCK_REF)
  (s.report src 0).setSource src 0 true

/-- The reference at a tick boundary (R60): a new one is acquired, and without one the half runs FREE. -/
def State.referenceBoundary (s : State) : State :=
  let r := s.lockRef
  if r = s.rd RAKE_STAT.LOCK_REF then s
  else
    let s := (s.wr RAKE_STAT.LOCK_REF r).setFlag RAKE_STAT.MASTER (r != 1)
    let s := s.enterLock (if r = 0 then lockFree else lockAcquire)
    let s : State := { s with rake := { s.rake with noMeas := 0, lastErr := [], jumpLeft := 0 } }
    if r = 0 then s.lowerLock else s

/-- PHASE_ERR as shown: its 16 bits where the error fits, else a free value. -/
def State.showPhase (s : State) (err : Int) : State :=
  if -32768 ≤ err ∧ err < 32768 then s.wrInt RAKE_STAT.PHASE_ERR err
  else
    let (v, s) := s.draw
    s.wr RAKE_STAT.PHASE_ERR v

/-- Lock and loss limits in steps of 312.5 ps (R68). -/
def lockLimit (ref : Nat) : Int := if ref = 1 then 8 else 80
def lossLimit (ref : Nat) : Int := if ref = 1 then 16 else 160

/-- What a measurement does to the lock state (R68). -/
def State.judgeLock (s : State) (err : Int) : State :=
  let ref := s.rd RAKE_STAT.LOCK_REF
  let mag : Int := err.natAbs
  match s.rd RAKE_STAT.LOCK_STATE with
  | 1 =>
    let n := if mag ≤ lockLimit ref then s.rake.inLimit + 1 else 0
    if 8 ≤ n then (s.enterLock lockLocked).lowerLock else { s with rake := { s.rake with inLimit := n } }
  | 2 =>
    let n := if lossLimit ref < mag then s.rake.beyond + 1 else 0
    if 4 ≤ n then
      (((s.enterLock lockAcquire).setFlag RAKE_EVT.LOCK_LOST true).count RAKE_CNT.LOCK_LOSS_CNT).loseLock
    else { s with rake := { s.rake with beyond := n } }
  | _ => s.enterLock lockAcquire

/-- A number wrapped to the range of one period around zero, −period/2 to period/2. -/
def wrapPeriod (period : Nat) (x : Int) : Int :=
  let y := x % (period : Int)
  if 2 * y < period then y else y - period

/-- The phase error in steps of 312.5 ps, 8 to a CEC, positive when the own tick is late (R62, R63, R400). With the Brine link
as reference `instant` is the arrival of the partner frame's first symbol after the own boundary, and the frame's BRINE_PHASE
and LOFS and the link delay tell where it should be. With gPTP `instant` is the gPTP time of the own boundary: the targets are
FAB_OFFSET after the cycle starts, and every TICK_PERIOD from there. None without a frame to measure. -/
def State.phaseError (s : State) (instant : Int) : Option Int :=
  let period := 8 * s.rd RAKE_TICK.TICK_PERIOD
  if s.rd RAKE_STAT.LOCK_REF = 1 then
    s.brine.peer.map fun p => wrapPeriod period (8 * (p.1 : Int) - (instant - s.rd BRINE_DLY.LINK_DLY - p.2))
  else
    let cycle := 32 * s.net.fabCycle
    some (wrapPeriod period (instant % (cycle : Int) - 8 * (s.rd RAKE_FAB.FAB_OFFSET : Int)))

/-- PHASE_MEASUREMENT (R63, R68, R69): once in a tick the phase error is formed and judged. -/
def phaseMeasurement (instant : Int) (s : State) : State :=
  if s.running ∧ s.rd RAKE_STAT.LOCK_REF ≠ 0 ∧ s.rake.measured = false then
    match s.phaseError instant with
    | none => s
    | some err =>
      let s := s.showPhase err
      let s : State := { s with rake := { s.rake with noMeas := 0, lastErr := (err, s.now) :: s.rake.lastErr.take 1, measured := true },
                                brine := { s.brine with peer := none } }
      s.judgeLock err
  else s

/-- HOLDOVER_ENTRY (R68, R525): four consecutive ticks without a measurement. -/
def holdoverEntry (s : State) : State :=
  let st := s.rd RAKE_STAT.LOCK_STATE
  if 4 ≤ s.rake.noMeas ∧ (st = lockAcquire ∨ st = lockLocked) then
    let s := s.enterLock lockHoldover
    (({ s with rake := { s.rake with holdSince := s.now } } : State)).loseLock
  else s

/-- HOLDOVER_TIMEOUT (R68): HOLDOVER has lasted one second. -/
def holdoverTimeout (s : State) : State :=
  if s.rd RAKE_STAT.LOCK_STATE = lockHoldover ∧ s.rake.holdSince + 1000 * cecPerMs ≤ s.now then s.enterLock lockFree else s

/-- Phases around which a step slot is skipped (R64); BRINE_PHASE is ignored on an HX961-S. -/
def State.stepPhases (s : State) : List Nat :=
  [s.rd RAKE_SAMPLE.SAMPLE_PHASE, s.rd RAKE_TSTART.TSTART, s.rd RAKE_OUT.OUT_PHASE, s.rd RAKE_ENC.ENC_REQ_PHASE]
    ++ (if s.part == .hx962d then [s.rd RAKE_BRINE.BRINE_PHASE] else [])

/-- A slot at CEC `c` may take a step. -/
def State.slotOpen (s : State) (c : Nat) : Bool :=
  decide (s.cec ≤ c) && decide (c < s.rake.tickLen) && s.stepPhases.all fun p => decide (p + 16 < c) || decide (c + 16 < p)

/-- The direction of the step a slot applies, from the error extrapolated to time `t` (R64): −1 advances a late tick, +1 holds
an early one. While only one measurement is known, its error stands unchanged (DESIGN CHOICE: R64 speaks of the last two). In HOLDOVER
the steps of the tick 64 ticks ago are repeated (R68). -/
def State.stepWanted (s : State) (t : Nat) : Int :=
  if s.rd RAKE_STAT.LOCK_STATE = lockHoldover then
    let due := s.rake.stepHist.getD 63 0
    if s.rake.stepNow < due then 1 else if due < s.rake.stepNow then -1 else 0
  else if s.rd RAKE_STAT.LOCK_STATE = lockFree ∨ (s.rd RAKE_STAT.LOCK_STATE = lockAcquire ∧ !s.inService) then 0
  else
    let (num, den) : Int × Int := match s.rake.lastErr with
      | [] => (0, 1)
      | (e, _) :: [] => (e, 1)
      | (e, t1) :: (e0, t0) :: _ =>
        if t0 < t1 then (e * ((t1 : Int) - t0) + (e - e0) * ((t : Int) - t1), (t1 : Int) - t0) else (e, 1)
    if 4 * den < num then -1 else if num < -(4 * den) then 1 else 0

/-- LOCK_STEP (R64): slot `k`, at CEC 1,000 × k + 500, inserts or deletes one CEC of the Rake and PWM counters. -/
def lockStep (k : Nat) (s : State) : State :=
  let c := 1000 * k + 500
  if s.running && s.slotOpen c then
    let s := s.advanceTo c
    let d := s.stepWanted s.now
    if d = 0 then s
    else
      let rake := { s.rake with stepNow := s.rake.stepNow + d, lastErr := s.rake.lastErr.map fun p => (p.1 + 8 * d, p.2) }
      if d = 1 then { s with now := s.now + 2, cec := s.cec + 1, rake := rake }
      else { s with now := s.now + 1, cec := s.cec + 2, rake := rake }
  else s

/-- The shortest tick that keeps the phase-range, reload-margin, Brine and encoder rules of R59 (R66). -/
def State.shortestTick (s : State) : Nat :=
  let dual := s.part == .hx962d
  let ts := s.rd RAKE_TSTART.TSTART
  let bri := s.rd RAKE_BRINE.BRINE_PHASE
  let enc := s.rd RAKE_ENC.ENC_REQ_PHASE
  let out := s.rd RAKE_OUT.OUT_PHASE
  let span := ((motors.filter fun p => s.bit POS_CTRL.PORT_EN p).map s.encSpan).foldl max 0
  let phases := [s.rd RAKE_SAMPLE.SAMPLE_PHASE, ts, out, enc] ++ (if dual then [bri] else [])
  let brine := if dual && s.flag BRINE_CTRL.EN then bri + 380 - ts else 0
  let ports := if s.rd POS_CTRL.PORT_EN = 0 then 0 else max span (enc + span + 16 - ts)
  max (max (phases.foldl (fun a p => max a (p + 1)) 0) (out + 32)) (max brine ports)

/-- The length of the tick that begins (R66): out of service in ACQUIRE the error is removed by a phase jump. `even` says that the
tick that ended had its plain length, so that its measurement counts. An error of exactly half a CEC is rounded to the even number of CEC
(DESIGN CHOICE: R66 gives no rule for a tie). -/
def State.beginTick (s : State) (even : Bool) : State :=
  let per := s.rd RAKE_TICK.TICK_PERIOD
  let fresh := match s.rake.lastErr with
    | (e, t) :: _ => if even && decide (s.rake.lastBoundary ≤ t) then roundDiv e 8 else 0
    | [] => 0
  let err := if s.rake.jumpLeft = 0 then fresh else s.rake.jumpLeft
  if s.inService ∨ s.rd RAKE_STAT.LOCK_STATE ≠ lockAcquire ∨ err = 0 then
    { s with rake := { s.rake with tickLen := per, jumpLeft := 0 } }
  else
    let len := max (min s.shortestTick per : Int) ((per : Int) - err)
    let cut := (per : Int) - len
    let s := s.setFlag RAKE_EVT.JUMP true
    { s with rake := { s.rake with tickLen := len.toNat, jumpLeft := err - cut,
                                   lastErr := s.rake.lastErr.map fun p => (p.1 - 8 * cut, p.2) } }

/-! ### Domains at a boundary (R459, R460) -/

/-- A domain that is switched off loses its registers and memories: D8 and D11 here. -/
def State.loseDomain (s : State) (n : Nat) : State :=
  if n = 8 then
    let gone (k : Nat) : Bool := (0x2C00 ≤ k && k < 0x3400) || (0x2000000 ≤ k && k < 0x4000000)
    let s : State := { s with regs := s.regs.filter fun p => !gone (p.1 / 32), sram := [], net := Net.init, pan := Pan.init }
    (s.wr NET_ADDR.RING (match s.halfId with | .a => 0 | .b => 1)).wr NET_ADDR.STRAP s.strap
  else if n = 11 then
    let s := s.enterLink linkDown
    { s with regs := s.regs.filter fun p => !(0x2800 ≤ p.1 / 32 && p.1 / 32 < 0x2C00), brine := Brine.init }
  else s

/-- Changes of D8_OFF, D9_OFF and D11_OFF take effect (R460); BOOT_FAIL keeps its domains (R123, R461). -/
def State.domainBoundary (s : State) : State :=
  if s.pwr.domChange && s.half != .bootFail then
    let new := s.operatingSet
    let s := [8, 11].foldl (fun (s : State) n => if s.domOn n && !new.testBit n then s.loseDomain n else s) s
    { s.setDomains new with pwr := { s.pwr with domChange := false } }
  else s

/-! ### Power-state machine at a boundary (R462 to R469) -/

/-- The vote of a step of phase 1 (R468): the block refuses. -/
def State.sleepRefuses (s : State) (j : Nat) : Bool :=
  if j = 1 then
    s.usedMotors.any fun m => (s.chState m != chIdle && s.chState m != chSafe)
      || decide (s.rd (FIELD_CATCH.CATCH_LOW m) * 65536 ≤ (s.pos m).omega.natAbs)
  else if j = 2 then
    ((List.range 256).any fun f => s.flowOn f && s.kindOf f == 2 && s.fill f != 0) || s.transitUsed != 0
      || s.pan.cache.any fun c => c.entries.any fun e => e.done.isNone
  else if j = 3 then s.brine.cmdOut.isSome || !s.brine.txUnits.isEmpty
  else if j = 4 then !s.mgmt.queue.isEmpty || s.mgmt.long.isSome || !s.logQueue.isEmpty
  else if j = 5 then s.rd SAFE_UNL.STATE == 2 || s.gd.test.isSome
  else s.rd SYS_COMMIT.GROUPS != 0

/-- One step of phase 1: the block stops, and votes. A refusal restarts the stopped blocks at the next boundary (R469). -/
def State.sleepStep (s : State) (j : Nat) : State :=
  if s.sleepRefuses j then
    let s := (s.wr PWR_REQ_STAT.REF_BLOCK j).refuse 1 s.pwr.reqWriter 3
    { s with pwr := { s.pwr with trans := .sleepRollback } }
  else
    { s with pwr := { s.pwr with stopped := s.pwr.stopped ++ [j], trans := if j = 6 then .sleepDown else .sleeping (j + 1) } }

/-- The transition that runs, at a tick boundary. A return from SAFE by request is a recovery (R356): it is counted and limited as
one, and raises the request of AUTO_ARM (R126). -/
def State.transitionBoundary (s : State) : State :=
  match s.pwr.trans with
  | .toStandby => s.disarm
  | .toSafe => s.endTransition.inSafe false
  | .leaveSafe =>
    if 5 ≤ s.rd FC_STAT.TOP then s.abortTransition
    else if s.recoveryBlocked then s.enterLockout
    else (s.logRequest 4 0 s.pwr.reqWriter).recover.enterStandby true
  | .arming => s.armingBoundary
  | .armJudge _ => s.armingBoundary
  | .sleeping j => s.sleepStep j
  | .sleepRollback => s.restartBlocks
  | .sleepAborting safe failed =>
    let s := (if failed then s else s.abortRequest 1).dropPending.restartBlocks
    if safe then s.inSafe false else s
  | .sleepDown => s.sleepDown
  | _ => s

/-- Reactions of F1 and F2 sources take effect (R335), and the half takes the state they ask for (R462). -/
def State.reactionBoundary (s : State) : State :=
  let waiting := s.fc.waiting
  let s : State := { s with fc := { s.fc with waiting := [] } }
  let s := waiting.foldl State.effect s
  match s.fc.halfReq with
  | none => s
  | some code =>
    let s : State := { s with fc := { s.fc with halfReq := none } }
    if code = 8 then s.enterLockout
    else if code = 4 then s.leaveLockout
    else if code = 2 then s.beginBoot
    else if s.half = .standby ∨ s.half = .armed ∨ s.half = .limp then s.enterSafe true else s

/-! ### The tick boundary -/

/-- GD writes the bus words (R322): OV_LIM over 80.0 V, and the bus state. -/
def State.busWords (s : State) : State :=
  let x := s.rd GD_OV2.BUS_XIDX
  if x = 0 then s
  else
    let bits := (if s.flag GD_STAT.CHOP_ON then 1 else 0) + (if s.flag GD_EVT.CHO ∨ s.flag GD_EVT.CHS then 2 else 0)
      + (if s.flag GD_STAT.OVS_ACT then 4 else 0) + (if s.flag GD_STAT.OVABS_ACT then 8 else 0)
    (s.setXPair (4 * x) (satQ31 (roundDiv ((s.rd GD_OV0.OV_LIM : Int) * 2147483648) 3200))).setXPair (4 * x + 4) (BitVec.ofNat 32 bits)

/-- STATUS record (R434): 8 bytes from the values at the tick boundary. -/
def State.statusRecord (s : State) : List Byte :=
  dataOf [(1, s.copy), (1, s.stateByte + if s.out.held then 16 else 0), (1, s.rd PWR_STATE.STATE), (1, 0), (2, s.tick % 65536), (2, 0)]

/-- SAFE forms the STATUS record of its flows at a tick boundary (R446). -/
def State.statusTick (s : State) : State := (s.tickFlows 1).foldl (fun (s : State) f => s.tickRecord f s.statusRecord) s

/-- The extreme at which the tick begins (R41, R523). -/
def State.nextExtreme (s : State) (jumped : Bool) : State :=
  let restart := s.rake.restartPwm || jumped || !s.flag RAKE_TICK.PWM_TICKS
  let s := s.setFlag RAKE_STAT.EXTREME (!restart && !s.flag RAKE_STAT.EXTREME)
  { s with rake := { s.rake with restartPwm := false } }

/-- Lock bookkeeping of the tick that ended: ticks without a measurement, and its steps (R68). -/
def State.lockBoundaryCounts (s : State) : State :=
  let measured := match s.rake.lastErr with
    | (_, t) :: _ => decide (s.rake.lastBoundary ≤ t)
    | [] => false
  { s with rake := { s.rake with noMeas := if measured then 0 else s.rake.noMeas + 1,
                                 stepHist := (s.rake.stepNow :: s.rake.stepHist).take 64, stepNow := 0 } }

/-- Each used motor channel at the boundary: state, share, limit record and PWM reload (R274, R281, R283, R298). -/
def State.motorBoundary (len : Nat) (held : Bool) (s : State) (m : Nat) : State :=
  let s := if s.pwr.stopped.contains 1 then s else s.channelBoundary m len held
  (((s.laneShare m).shareBoundary m).limitRecord m).reload m

/-- Everything the blocks do while the Rake goes on. -/
def State.blocksBoundary (s : State) (len : Nat) (held jumped : Bool) : State :=
  let s := s.domainBoundary.keyStateCheck.quietRefresh.showRecoveries
  let s := s.brineBoundary.redundancyUpdate
  let s := (s.limpTick len).limpEpisode.handoverBoundary
  let s := s.bsuvBoundary.fcRefresh
  let s := s.nextExtreme jumped
  let s := s.usedMotors.foldl (State.motorBoundary len held) s
  let s := s.busWords.ceBoundary.softLimitTake.turnPorts.afeBoundary
  s.statusTick

/-- TICK_BOUNDARY (R39, R41): the tick that ends applies accepted commits, the reactions and transitions that waited take
effect, and every block updates; the new tick begins at CEC 0. -/
def tickBoundary (s : State) : State :=
  if s.running then
    let len := s.rake.tickLen
    let even := decide (len = s.rd RAKE_TICK.TICK_PERIOD)
    let held := s.out.held
    let s := s.advanceTo len
    let s := ({ s with cec := 0 } : State).countWrap RAKE_TICK_COUNT.TICK_COUNT
    let s := (s.lower srcRegVote 0).lower srcFcSelf 0
    let s := commitApply s
    let s := s.lockBoundaryCounts.cutBoundary.ovsBoundary.reactionBoundary.transitionBoundary
    if s.running then
      let s := s.blocksBoundary len held (!even)
      let s := s.referenceBoundary.beginTick even
      { s with rake := { s.rake with lastBoundary := s.now, boundaryBefore := s.rake.lastBoundary, measured := false, firstTick := false }, out := { s.out with held := false, done := false } }
    else s
  else s

/-! ### Output commit -/

/-- The tick is an overrun (R51): the passes run past OUT_PHASE. -/
def State.overrun (s : State) : State :=
  let a := s.ce.a.issued
  let b := s.ce.b.issued
  let s := (s.stopPasses.setFlag RAKE_EVT.OVR true).count RAKE_CNT.OVR_CNT
  ((s.wr RAKE_OVR_INFO.OVR_PASSA a).wr RAKE_OVR_INFO.OVR_PASSB b).report srcRakeOvr 0

/-- The outputs of this tick are held (R51, R262, R335, R524): an overrun, no active T-program, a mismatch or another fault of the passes,
a broken datapath, or a HOLD reaction that is due. -/
def State.mustHold (s : State) (over_ due : Bool) : Bool :=
  over_ || s.tIssue == 0 || s.ce.mism || s.ce.seen != 0 || s.flag CE_TR_STAT.BROKEN || due

/-- What a tick whose passes agreed commits (R24). -/
def State.commitOutputs (s : State) : State :=
  let s := s.usedMotors.foldl (fun (s : State) m => (s.commitMotor m).commitSplit m) s
  let s := (s.tickFlows 0).foldl State.txTickFromX s
  s.ctxCommit

/-- OUTPUT_COMMIT (R24, R51, R218, R262, R335, R524): at OUT_PHASE the outputs are committed, or held at their values of the previous
tick. Passes that still run are stopped, with what their comparators have not yet decided. A HOLD raised before OUT_PHASE acts here, and
one raised at it, by the overrun or by a record whose copies differ, at the next. -/
def outputCommit (s : State) : State :=
  if s.running && !s.out.done then
    let s := (s.advanceTo (s.rd RAKE_OUT.OUT_PHASE)).katDone.compareTo (s.rd RAKE_OUT.OUT_PHASE)
    let late := s.ce.a.run || s.ce.b.run
    let s := if late then s else s.closeCompare
    let due := s.fc.hold
    let s : State := { s with fc := { s.fc with hold := false } }
    let s := if late then s.overrun else s
    let hold := s.mustHold late due
    let s := if hold then s else s.commitOutputs
    let s := s.brineOut (!hold)
    { s with out := { s.out with held := hold, done := true } }
  else s

/-! ### Starting and stopping (R118, R205, R523) -/

/-- The reset state of what a motor commits (R524): a zero voltage vector, whose duties are one half (R278, R280). -/
def State.zeroVector (s : State) (m : Nat) : State :=
  s.setChan m { s.chan m with vAlpha := 0, vBeta := 0, cmpNext := List.replicate 3 (s.compareOf (oneQ / 2)), iqCmd := 0, ovm := false,
                              vsat := false, span := 0 }

/-- The reset state of the transmit words (R524): words of 0, in the records of the T-program's flows and on the Brine link. -/
def State.zeroWords (s : State) : State :=
  let s := (s.tickFlows 0).foldl (fun (s : State) f => s.tickRecord f (List.replicate (4 * s.rd (FLOW_W3.XLEN f)) 0)) s
  { s with brine := { s.brine with txData := Brine.init.txData } }

/-- The Rake starts counting ticks (R118): the first tick begins at a valley, and every block starts from its reset state. -/
def State.rakeStart (s : State) : State :=
  let s := (((s.setFlag RAKE_STAT.RUN true).wr RAKE_TICK_COUNT.TICK_COUNT 0).setFlag RAKE_STAT.EXTREME false).wr
    RAKE_STAT.LOCK_STATE lockFree
  let s := (s.wr RAKE_STAT.LOCK_REF 0).setFlag RAKE_STAT.MASTER true
  let s : State := { s with cec := 0, out := Outputs.init,
                            rake := { Rake.init with tickLen := s.rd RAKE_TICK.TICK_PERIOD, restartPwm := false,
                                                     lastBoundary := s.now, boundaryBefore := s.now } }
  let s := s.showDerived.showBudget.afeStart.posStart.ceStart
  let s := s.usedMotors.foldl (fun (s : State) m => ((((s.zeroVector m).laneShare m).shareBoundary m).limitRecord m).reload m) s
  s.zeroWords.busWords.statusTick.referenceBoundary

end Sys2Proof.Machine
end

