-- ==== Sys2Proof/Machine/Mbox.lean ====
section
/-! DEFINITION. The mailbox queue and its answers, and the response cache of duplicate requests (R455, R456, R477 to R479). -/

namespace Sys2Proof.Machine

/-- STATUS codes (R479). -/
def mbOk := 0x00
def mbStarted := 0x01
def mbBadSvc := 0x02
def mbBadLen := 0x03
def mbBadArg := 0x04
def mbState := 0x05
def mbWriter := 0x06
def mbBusy := 0x07
def mbFlash := 0x08
def mbOtpUsed := 0x09
def mbCase4 := 0x0A
def mbRestart := 0x0B

/-- A response: header and data (R477). -/
def responseBytes (svc status detail : Nat) (data : List Byte) : List Byte :=
  dataOf [(2, svc), (2, data.length), (2, status), (2, detail)] ++ data

/-! ### Response cache (R455, R456) -/

/-- The slot of a source. -/
def State.cacheSlot (s : State) (path node : Nat) : Option CacheSlot := s.pan.cache.find? fun c => c.path == path && c.node == node

/-- Put a slot back as the one used last. -/
def State.useSlot (s : State) (c : CacheSlot) : State :=
  { s with pan := { s.pan with cache := (s.pan.cache.filter fun d => !(d.path == c.path && d.node == c.node)) ++ [c] } }

/-- A free slot for a new source, or the one used least recently, whose entries are forgotten. -/
def State.newSlot (s : State) (path node : Nat) : State :=
  let s := match s.pan.cache with
    | c :: r =>
      if r.length + 1 < 16 then s
      else ({ s with pan := { s.pan with cache := r } } : State).countN PAN_CNT2.DUP_EVICT_CNT c.entries.length
    | [] => s
  { s with pan := { s.pan with cache := s.pan.cache ++ [⟨path, node, []⟩] } }

/-- Remove the oldest DONE entry. -/
def dropDone : List CacheEntry → Option (List CacheEntry)
  | [] => none
  | e :: r => if e.done.isSome then some r else (dropDone r).map (e :: ·)

/-- Send a response: into the fabric, on the port of arrival for a link-local request, or through the transmit entry of the same
controller that names the same flow (R419, R436, R478). -/
def State.sendResponse (s : State) (r : Reply) (f : FabFrame) : State :=
  if r.path = 2 ∨ r.path = 3 then
    let c := r.path - 2
    match (List.range 8).find? fun k => (canId s c k).1 && (canId s c k).2.1 && canFlow s c k == r.flow with
    | some k =>
      if f.payload.length ≤ 56 ∧ s.canOn c ∧ !s.busOff c then
        let (seq, s) := s.nextSeq0
        s.sendCan c k seq f.typ f.reqId f.payload
      else s
    | none => s
  else if r.path = 4 then s
  else
    let (seq, s) := s.nextSeq0
    let f := { f with seq := seq }
    if r.linkLocal then s.sendOwn r.port f else s.originate f

/-- Whether a request is to be executed (R456): a duplicate gets its cached response again, or waits for it. -/
def State.admitRequest (s : State) (r : Reply) : Bool × State :=
  if r.path = 4 ∨ r.reqId = 0 then (true, s)
  else
    let s := if (s.cacheSlot r.path r.node).isSome then s else s.newSlot r.path r.node
    let slot := (s.cacheSlot r.path r.node).getD ⟨r.path, r.node, []⟩
    match slot.entries.find? fun e => e.flow == r.flow && e.reqId == r.reqId with
    | some e =>
      let s := s.useSlot slot
      match e.done with
      | some f => (false, (s.count PAN_CNT1.DUP_HIT_CNT).sendResponse r f)
      | none => (false, State.count { s with pan := { s.pan with copies := (s.now, r) :: s.pan.copies.filter (·.1 == s.now) } } PAN_CNT1.DUP_PEND_CNT)
    | none =>
      let entry : CacheEntry := ⟨r.flow, r.reqId, none⟩
      if slot.entries.length < 8 then (true, s.useSlot { slot with entries := slot.entries ++ [entry] })
      else match dropDone slot.entries with
        | some rest => (true, s.useSlot { slot with entries := rest ++ [entry] })
        | none => (false, (s.useSlot slot).count PAN_CNT1.DUP_PEND_CNT)

/-- Mark the request's entry DONE with its response. -/
def State.storeResponse (s : State) (r : Reply) (f : FabFrame) : State :=
  if r.path = 4 ∨ r.reqId = 0 then s
  else
    let done (e : CacheEntry) : CacheEntry := if e.flow = r.flow ∧ e.reqId = r.reqId then { e with done := some f } else e
    { s with pan := { s.pan with cache := s.pan.cache.map fun c =>
        if c.path = r.path ∧ c.node = r.node then { c with entries := c.entries.map done } else c } }

/-- A copy discarded in the CEC in which its original completes gets the cached response after all (R457). -/
def State.answerCopies (s : State) (r : Reply) (f : FabFrame) : State :=
  let mine (c : Nat × Reply) : Bool := c.1 == s.now && c.2.path == r.path && c.2.node == r.node && c.2.flow == r.flow && c.2.reqId == r.reqId
  let now := if r.reqId = 0 then [] else s.pan.copies.filter mine
  let s : State := { s with pan := { s.pan with copies := s.pan.copies.filter (!mine ·) } }
  now.foldl (fun (s : State) c =>
    ((s.wr PAN_CNT1.DUP_PEND_CNT (s.rd PAN_CNT1.DUP_PEND_CNT - 1)).count PAN_CNT1.DUP_HIT_CNT).sendResponse c.2 f) s

/-- Payload bytes filled to a multiple of 4 (R413). -/
def padWords (b : List Byte) : List Byte := fitBytes ((b.length + 3) / 4 * 4) b

/-- Answer a request with a payload of the given type: the response is stored and sent (R456). -/
def State.respond (s : State) (r : Reply) (typ : Nat) (payload : List Byte) : State :=
  let ring := if r.path = 1 then 64 else 0
  let p := if r.path ≤ 1 then padWords payload else payload
  let f := s.ownFrame typ (r.node + ring) 0 0 r.reqId p
  ((s.storeResponse r f).sendResponse r f).answerCopies r f

/-! ### Mailbox (R477 to R479) -/

/-- The words of the buffer that bytes spell, from word `i` on. -/
def State.putBuffer (s : State) (i : Nat) : List (List Byte) → State
  | [] => s
  | w :: r => State.putBuffer (s.wr (MGMT_MBX_BUF.DATA i) (leNat w)) (i + 1) r

/-- Bytes in groups of four. -/
def chunk4 : Nat → List Byte → List (List Byte)
  | 0, _ => []
  | n + 1, b => b.take 4 :: chunk4 n (b.drop 4)

/-- The request bytes in MGMT_MBX_BUF. -/
def State.bufferBytes (s : State) : List Byte := (List.range 128).flatMap fun i => leBytes 4 (s.rd (MGMT_MBX_BUF.DATA i))

/-- The response of a host request: it replaces the request in the buffer (R478). -/
def State.hostResponse (s : State) (status : Nat) (b : List Byte) : State :=
  let s := s.putBuffer 0 (chunk4 128 (fitBytes 512 b))
  ((s.wr MGMT_MBX_STAT.RSP_LEN b.length).wr MGMT_MBX_STAT.STATUS status).setFlag MGMT_MBX_STAT.DONE true

/-- Answer a mailbox request; a response that does not fit a CAN FD frame is refused with BAD_LEN (R477). -/
def State.answer (s : State) (r : Reply) (svc status detail : Nat) (data : List Byte) : State :=
  let b := responseBytes svc status detail data
  if r.path = 4 then (s.setFlag MGMT_MBX_CTRL.GO false).hostResponse status b
  else if (r.path = 2 ∨ r.path = 3) ∧ 56 < b.length then s.respond r 4 (responseBytes svc mbBadLen 0 [])
  else s.respond r 4 b

/-- SVC of a request. -/
def svcOf (b : List Byte) : Nat := leNat (b.take 2)

/-- LEN of a request. -/
def lenOf (b : List Byte) : Nat := leNat ((b.drop 2).take 2)

/-- Argument bytes of a request. -/
def argsOf (b : List Byte) : List Byte := (b.drop 4).take (lenOf b)

/-- Enter a request: a fifth one, or one that arrives while the mailbox has stopped for sleep, is answered with BUSY (R468,
R478). -/
def State.mboxPost (s : State) (r : Reply) (b : List Byte) : State :=
  if 4 ≤ s.mgmt.queue.length ∨ s.pwr.stopped.contains 4 then s.answer r (svcOf b) mbBusy 0 []
  else { s with mgmt := { s.mgmt with queue := s.mgmt.queue ++ [⟨r, b⟩] } }

/-- A write of 1 to MGMT_MBX_CTRL.GO (R478). -/
def State.hostRequest (s : State) (w : Nat) : State :=
  (s.setFlag MGMT_MBX_CTRL.GO true).mboxPost ⟨4, 0, false, 0, 0, 0, w⟩ s.bufferBytes

/-- The MP restarts (R479): every queued request and every PENDING entry is answered with RESTART. -/
def State.restartAnswers (s : State) : State :=
  let q := s.mgmt.queue
  let s : State := { s with mgmt := { s.mgmt with queue := [], long := none } }
  let s := q.foldl (fun (s : State) m => s.answer m.reply (svcOf m.bytes) mbRestart 0 []) s
  let left := s.pan.cache.flatMap fun c => (c.entries.filter fun e => e.done.isNone).map fun e => (c, e)
  left.foldl (fun (s : State) p =>
    s.answer ⟨p.1.path, 0, false, p.1.node, p.2.flow, p.2.reqId, 0⟩ 0 mbRestart 0 []) s

end Sys2Proof.Machine
end

