-- ==== Sys2Proof/Machine/Wake.lean ====
section
/-! DEFINITION. Half reset, wake and the WATCH sequencer (R124, R358, R463, R470 to R472, R508). -/

namespace Sys2Proof.Machine

/-- A half reset, or the end of UPDATE: BOOT begins at the next tick boundary while the Rake runs, and at once otherwise (R124,
R462). -/
def State.halfResetDue (s : State) : State :=
  if s.running then (if s.fc.halfReq = some 8 then s else { s with fc := { s.fc with halfReq := some 2 } }) else s.beginBoot

/-- A wake source occurs (R470): its CAUSE bit is set; an enabled one wakes a half in WATCH, and ends phase 1 of sleep entry
(R466). -/
def State.wakeSource (s : State) (b : Nat) : State :=
  if s.half = .off then s
  else
    let s := s.setBit PWR_WAKE_STAT.CAUSE b true
    if !s.bit PWR_WAKE_EN.EN b then s
    else if s.half = .watch then (s.count PWR_WATCH_CNT.WAKE_CNT).beginBoot
    else match s.pwr.trans with
      | .sleeping _ => s.sleepAborted
      | .sleepDown => s.sleepAborted
      | _ => s

/-- WAKE_PIN (R470): the pin has stood at a level for 50 µs. -/
def wakePin (high : Bool) (s : State) : State := if high = s.flag PWR_WAKE_EN.WAKE_POL then s.wakeSource 0 else s

/-- CAN_WAKE on CANRXc (R470): a dominant, a recessive and a dominant time in ns. -/
def canWake (c dom1 rec_ dom2 : Nat) (s : State) : State :=
  if 1000 ≤ dom1 ∧ 1000 ≤ rec_ ∧ 1000 ≤ dom2 ∧ dom1 + rec_ + dom2 ≤ s.rd PWR_WAKE_EN.CAN_TMO * 100000 then s.wakeSource (2 + c) else s

/-- ETH_WAKE of port p (R470). -/
def ethWake (p : Nat) (s : State) : State := s.wakeSource (4 + p)

/-- BRINE_WAKE (R470): the wake pattern has stood on lane 0 for a time in µs. -/
def brineWake (us : Nat) (s : State) : State := if s.part = .hx962d ∧ 20 ≤ us then s.wakeSource 6 else s

/-- Judge a request (R464): a request to STANDBY from host SPI wakes a half in WATCH. -/
def State.judgeNew (s : State) (tgt w : Nat) : State :=
  if s.half = .watch ∧ tgt = 4 ∧ w = 0 then
    let s := s.wr PWR_REQ_STAT.WRITER w
    if s.bit PWR_WAKE_EN.EN 1 then (s.logRequest tgt 0 w).wakeSource 1 else (s.wakeSource 1).refuse tgt w 1
  else s.judge tgt w

/-- A request of a half that is powered (R464 to R466). -/
def State.requestRow (s : State) (tgt w : Nat) : State :=
  if s.half = .off then s else if s.half = .watch ∧ tgt = 4 ∧ w = 0 then s.judgeNew tgt w else s.request tgt w

/-- PENDING_REQUEST (R465): judged as a new request at the boundary after the transition has ended; dropped when its target
equals the state just reached. -/
def pendingRequest (s : State) : State :=
  if s.flag PWR_STATE.PEND ∧ !s.flag PWR_STATE.BUSY then
    let tgt := s.rd PWR_STATE.PEND_TGT
    let w := s.pwr.pendWriter
    if tgt = s.rd PWR_STATE.STATE then s.dropPending
    else ((s.setFlag PWR_STATE.PEND false).wr PWR_STATE.PEND_TGT 0).judgeNew tgt w
  else s

/-! ### WATCH sequencer (R471, R472) -/

/-- Put a word into the fields of a register. -/
def State.restoreWord (s : State) (off : Nat) (w : Word) : State :=
  ((fieldsAt off).getD []).foldl (fun (s : State) f => s.wr f (fieldBits w f)) s

/-- The settings of the sampled source as D0 keeps them, seen by the checks of R145. -/
def State.watchView (s : State) (i : Nat) : State :=
  (s.restoreWord (0xC10 + 0x10 * i) s.pwr.keep.portCfg).restoreWord (0xC14 + 0x10 * i) s.pwr.keep.portTim

/-- The sample of a cycle with its source's setting: T_ENC, the sample as LAST holds it and as the reference keeps it, and
whether it is invalid (R471, R472). -/
def State.watchSample (s : State) (enc : EncWord) (hall raw : Nat) : Nat × Nat × Nat × Bool :=
  let i := s.rd PWR_WATCH.IDX
  match s.rd PWR_WATCH.SRC with
  | 1 =>
    let v := s.watchView i
    let (angle, turns) := v.encSplit i (v.encWord i enc)
    (v.encSpan i, angle / 65536, turns * 65536 + angle / 65536, v.encCheck i enc ⟨0, 0, angle, turns, .good⟩ != 0)
  | 2 => (0, hall % 8, hall % 8, hall % 8 == 0 || hall % 8 == 7)
  | 3 =>
    let c := (convert s.pwr.keep.uni raw s.pwr.keep.trimOfs s.pwr.keep.trimGain).1
    (0, fieldOf 16 c, fieldOf 16 c, false)
  | _ => (0, 0, 0, false)

/-- A later sample lies outside its window (R472). -/
def State.watchOutside (s : State) (reference sample : Nat) : Bool :=
  match s.rd PWR_WATCH.SRC with
  | 1 =>
    let d := (signedOf 16 (fieldOf 16 ((sample % 65536 : Nat) - (reference % 65536 : Nat) : Int))).natAbs
    decide (s.rd PWR_WIN.WIN_HI < d) || sample / 65536 != reference / 65536
  | 2 => sample != reference
  | 3 => decide (signedOf 16 sample < s.rdInt PWR_WIN.WIN_LO) || decide (s.rdInt PWR_WIN.WIN_HI < signedOf 16 sample)
  | _ => false

/-- Another wake source occurs in WATCH: a request to STANDBY over host SPI, or a source that its bit of R470 names. -/
def State.otherWake (s : State) (b : Nat) : State := if b = 1 then s.requestRow 4 0 else s.wakeSource b

/-- The sample of a cycle that began at `start` is judged (R472): the cycle counts, and an invalid sample or one outside the window
wakes the half. -/
def State.judgeSample (s : State) (start : Nat) (x : Nat × Nat × Nat × Bool) : State :=
  let (tEnc, last, sample, bad) := x
  let first := s.pwr.reference
  let s : State := { s with
    now := start + (32 + 10 * max 1 (s.rd PWR_WATCH.SETTLE)) * cecPerUs + tEnc,
    pwr := { s.pwr with reference := if bad then s.pwr.reference else some (s.pwr.reference.getD sample) } }
  let s := (s.countWrap PWR_WATCH_CNT.CYC_CNT).wr PWR_WAKE_STAT.LAST last
  if bad then (s.setFlag PWR_WAKE_STAT.ERR true).wakeSource 7
  else if first.any (s.watchOutside · sample) then s.wakeSource 7
  else s

/-- WATCH_CYCLE (R471, R472, R475): one cycle of the sequencer, with what the sampled source shows, and another wake source that occurs
within it, as its bit and its CEC after the cycle start. A wake stops the cycle: before the comparison no sample counts, and after it
the supply, D10 and D4 go off with the wake (DESIGN CHOICE: a cycle without a comparison does not count in CYC_CNT). -/
def watchCycle (enc : EncWord) (hall raw : Nat) (wake : Option (Nat × Nat)) (s : State) : State :=
  if s.half = .watch ∧ s.rd PWR_WATCH.SRC ≠ 0 then
    let start := max s.now s.pwr.watchAt
    let s : State := { s with pwr := { s.pwr with watchAt := start + max 1 (s.rd PWR_WATCH.PERIOD) * cecPerMs } }
    let x := s.watchSample enc hall raw
    let judged := (32 + 10 * max 1 (s.rd PWR_WATCH.SETTLE)) * cecPerUs + x.1
    let early := wake.filter fun k => k.2 < judged
    let late := wake.filter fun k => judged ≤ k.2 && k.2 < judged + 12 * cecPerUs
    let s : State := match early with
      | some (b, t) => State.otherWake { s with now := start + t } b
      | none => s
    let s : State := if s.half = .watch then s.judgeSample start x else s
    if s.half = .watch then
      match late with
      | some (b, t) =>
        let s : State := State.otherWake { s with now := start + t } b
        if s.half = .watch then { s with now := start + judged + 12 * cecPerUs } else s
      | none => { s with now := s.now + 12 * cecPerUs }
    else s
  else s

/-! ### RESTART and loss of supply -/

/-- A RESTART edge is accepted by its filtered high time in µs; between the bands either may be (R358). -/
def restartAccepted (us : Nat) (either : Bool) : Bool :=
  if 21000 ≤ us ∧ us ≤ 1980000 then true else if us < 19000 ∨ 2020000 < us then false else either

/-- RESTART_EDGE (R358, R124): a falling edge after a high time in µs. -/
def restartEdge (us : Nat) (either : Bool) (s : State) : State :=
  if s.half = .off then s
  else
    let ms := min 4095 (us / 1000)
    let s := if s.domOn 3 then s.wr FC_RESTART.HIGH_MS ms else s
    if restartAccepted us either then
      let s := s.logEvent 0x03 deviceWriter 1 (dataOf [(2, ms), (10, 0)])
      match s.half with
      | .lockout =>
        if s.running then
          (if s.fc.halfReq.isSome then s else { s with fc := { s.fc with halfReq := some 4 } })
        else s.leaveLockout.settleUsed
      | .bootFail => s.halfResetDue
      | _ => s
    else if s.domOn 3 then s.count FC_RESTART.REJ_CNT else s

/-- POR_ASSERT (R462, R508): a rail of the half has stayed below its assert level for 2 µs; the half is OFF, with only what
one-time memory, MRAM and flash hold. -/
def porAssert (s : State) : State :=
  let t : State := { State.reset with
    pending := s.pending, part := s.part, halfId := s.halfId, strap := s.strap, drawn := s.drawn, mram := s.mram, keepArea := s.keepArea,
    otp := s.otp, flash := s.flash, fuse := s.fuse, wire := s.wire }
  let t := ((t.wr PWR_STATE.STATE 0).setDomains 0).setFlag PWR_STATE.BUSY false
  { t.setFlag FC_STAT.FAULT false with pwr := { t.pwr with trans := .idle }, fc := { t.fc with faultN := false } }

end Sys2Proof.Machine
end

