-- ==== Sys2Proof/Machine/Access.lean ====
section
/-! DEFINITION. Register accesses by software (chapter Registers, shadows and commit groups): the direct space, the field classes,
the indirect windows, the host SPI frames, and the vote of triplicated fields. -/

namespace Sys2Proof.Machine

/-! ### Time and flags -/

/-- An access under R72. -/
def State.addrErr (s : State) : State := s.setFlag SYS_ACC_STAT.ADDR_ERR true

/-- Domain of a direct offset (R71). -/
def domainOf (off : Nat) : Nat :=
  if off < 0x800 then 3
  else if off < 0xC00 then 4
  else if off < 0x1000 then 10
  else if off < 0x1C00 then 3
  else if off < 0x1E00 then 5
  else if off < 0x1F00 then 6
  else if off < 0x2000 then 7
  else if off < 0x2800 then 3
  else if off < 0x2C00 then 11
  else if off < 0x3400 then 8
  else if off < 0x3800 then 0
  else if off < 0x3C00 then 2
  else 3

/-- A BRINE register of an HX961-S, which fixed logic answers (R395). -/
def State.deadBrine (s : State) (off : Nat) : Bool := s.part == .hx961s && 0x2800 ≤ off && off < 0x2C00

/-- The fields of a direct offset, where the access is not one of R72. -/
def State.reach (s : State) (off : Nat) : Option (List Fld) :=
  if off % 4 ≠ 0 ∨ 0x4000 ≤ off then none
  else match fieldsAt off with
    | none => none
    | some fs => if (s.deadBrine off && s.domOn 3) || s.domOn (domainOf off) then some fs else none

/-! ### Triplicated fields (R87, R88) -/

/-- The three copies of a field. -/
def State.copies (s : State) (f : Fld) : Nat × Nat × Nat :=
  let a := lookup s.regs f.reset f.key
  (a, lookup s.tmr1 a f.key, lookup s.tmr2 a f.key)

/-- Store the three copies. -/
def State.putCopies (s : State) (f : Fld) (a b c : Nat) : State :=
  { s with regs := store s.regs f.reset f.key a, tmr1 := store s.tmr1 a f.key b, tmr2 := store s.tmr2 a f.key c }

/-- All three copies differ. -/
def allDiffer (x : Nat × Nat × Nat) : Bool := x.1 != x.2.1 && x.1 != x.2.2 && x.2.1 != x.2.2

/-- The first read or rewrite that finds three different copies raises the source of R88 once. -/
def State.voteCheck (s : State) (f : Fld) : State :=
  if f.triple && allDiffer (s.copies f) && !s.sys.voteSeen.contains f.key then
    let s : State := { s with sys := { s.sys with voteSeen := s.sys.voteSeen ++ [f.key] } }
    if 0x2000 ≤ f.off ∧ f.off < 0x2400 then fcSelf 0 s else (s.report srcRegVote 0).setSource srcRegVote 0 true
  else s

/-- The triplicated field at a word offset and low bit, those among them that no register shows. -/
def tripleAt (off lo : Nat) : Option Fld :=
  ((fieldsAt off).getD [] ++ [LIMP_TIMER.LEFT, LIMP_TIMER.RUN, LIMP_TIMER.USED, LIMP_TIMER.EXPIRED, LIMP_TIMER.RAMP_ON, LIMP_TIMER.RAMP,
    FC_STATE.ERR]).find? fun f => f.off == off && f.lo == lo && f.triple

/-- The triplicated field that a key stores; low bits from 32 on share the keys of the offset after the word's. -/
def tripleOf (k : Nat) : Option Fld :=
  if k / 32 % 4 = 0 then tripleAt (k / 32) (k % 32) else tripleAt (k / 32 - 1) (k % 32 + 32)

/-- An upset of one copy of a triplicated field: word offset, low bit, copy and flipped bits. The copies of the FC's internal state
are voted in every CEC, so that any difference among them raises FC_SELF at once (R353). -/
def State.upset (s : State) (u : Nat × Nat × Nat × Nat) : State :=
  match tripleAt u.1 u.2.1 with
  | none => s
  | some f =>
    let (a, b, c) := s.copies f
    let m := u.2.2.2 % 2 ^ f.width
    let s := match u.2.2.1 with
      | 0 => s.putCopies f (a ^^^ m) b c
      | 1 => s.putCopies f a (b ^^^ m) c
      | _ => s.putCopies f a b (c ^^^ m)
    if f = FC_STATE.ERR ∧ m ≠ 0 then fcSelf 0 s else s

/-- Rewrite one field with its majority value, or with its reset value where all copies differ, which changes the set where the field is a
member of it (R389); each copy that a majority corrects is counted (R87, R88). -/
def State.rewriteField (s : State) (f : Fld) : State :=
  let (a, b, c) := s.copies f
  let v := voteOf f.reset a b c
  let wrong := ([a, b, c].filter (· != v)).length
  let s := s.voteCheck f
  let s : State := { s.wr f v with sys := { s.sys with voteSeen := s.sys.voteSeen.filter (· != f.key) } }
  let s := if allDiffer (a, b, c) && isSetOffset f.off then s.renewSetCrc else s
  if wrong = 0 ∨ allDiffer (a, b, c) then s else (s.countN SYS_VOTE.VOTE_ERR wrong).wr SYS_VOTE.VOTE_LAST f.off

/-- TMR_REWRITE (R87, R88), with the upsets that have come since the last one: every field whose copies disagree is rewritten. -/
def tmrRewrite (upsets : List (Nat × Nat × Nat × Nat)) (s : State) : State :=
  let s := upsets.foldl State.upset s
  let keys := (s.tmr1.map (·.1)) ++ ((s.tmr2.map (·.1)).filter fun k => !(s.tmr1.map (·.1)).contains k)
  keys.foldl (fun (s : State) k =>
    match tripleOf k with
    | some f => s.rewriteField f
    | none => s) s

/-! ### Which values are refused (R522) -/

/-- A range test. -/
def outside (lo hi v : Nat) : Bool := v < lo || hi < v

/-- Fields in which 0 reads as 1. -/
def zeroIsOne : List Fld :=
  [AFE_CAL_CFG.CAL_EVERY, AFE_HOSTCAL_CFG.HOSTCAL_TMO, CE_TR_CFG.TR_N, CE_TR_CFG.TR_W, GD_CHOP.CHOP_TMAX, GD_OV2.OV_SHORT_N,
   GD_OV2.OV_REL, SAFE_RCFG.FAB_N, SAFE_LIMP.LIMP_RAMP, NET_SCHED.ANN_PERIOD, NET_TIM.NB_N, NET_TIM.E2E_N, NET_TIM.CLAIM_N,
   NET_TIM.AGE, NET_TIM.BC_HOPS, PWR_WATCH.SETTLE, MGMT_HO.HO_TMO]
  ++ motors.flatMap fun m => [POS_SRC.PART_AGE_MAX m, POS_VOTE.DIS_N m, POS_VOTE.VOTE_M m, FIELD_SHARE2.SHARE_AGE_MAX m,
    FIELD_BRK.BRK_SEG m, GDM_CUT.CUT_DLY m]

/-- CNT_N of a source whose count is fixed at 1 (R345). -/
def fixedCount (f : Fld) : Bool :=
  0x2100 ≤ f.off && f.off < 0x2300 && f.lo == 16 && srcCountsOne ((f.off - 0x2100) / 4)

/-- The value a field of a written word is to take, before any refusal. -/
def intended (v : Word) (f : Fld) : Nat :=
  let x := fieldBits v f
  if fixedCount f then 1
  else if x = 0 ∧ (zeroIsOne.contains f || (0x2100 ≤ f.off && f.off < 0x2300 && (f.lo == 16 || f.lo == 4))) then 1
  else if f = AFE_CAL_CFG.CAL_SHIFT then min 8 x else x

/-- The block of a LOCK field runs (R130, R165, R193, R303, R322, R409, R438 to R440). -/
def State.lockHeld (s : State) (f : Fld) : Bool :=
  let off := f.off
  if 0x800 ≤ off ∧ off < 0xC00 then s.running && !s.flag AFE_CTRL.STOP
  else if 0x1030 ≤ off ∧ off < 0x1040 then s.inService
  else if 0x1000 ≤ off ∧ off < 0x1800 then s.running
  else if 0x1C00 ≤ off ∧ off < 0x2000 then s.running
  else if 0x2800 ≤ off ∧ off < 0x2C00 then s.running
  else if 0x3000 ≤ off ∧ off < 0x3400 then (List.range 256).any s.flowOn
  else if 0x3000000 ≤ off then s.flag (FLOW_W0.EN ((off - 0x3000000) / 32))
  else s.inService

/-- Structural fields of a context are open to writes: its live STATE is OPEN, and no commit under check takes it out of OPEN
(R174, R185). -/
def State.ctxOpen (s : State) (n : Nat) : Bool :=
  s.rd (CTX_W0.STATE n) == 1 && !(inMask s.sys.accepted gCtx && s.ctxWould (s.cand (2 ^ gCtx)) n != 1)

/-- The value lies outside the range that a rule of the field refuses. -/
def State.badRange (s : State) (f : Fld) (v : Nat) : Bool :=
  let off := f.off
  if off < 0x800 then off == 4 && v == 1 && s.half != .standby
  else if off < 0xC00 then
    (f == AFE_CTRL.STOP && v == 1 && s.inService) || ((List.range 9).any fun k => f == AFE_AMP_CFG.GAIN k && 4 < v)
  else if off < 0x1000 then
    motors.any fun m =>
      (f == POS_PORT_CFG.CLK_DIV m && (outside 40 1600 v || v % 2 == 1)) || (f == POS_SRC.PP m && v == 0)
        || (f == POS_HALL_CFG.MAP m && !([0, 1, 2, 3, 4, 5].all fun k => (List.range 6).any fun i => v / 8 ^ i % 8 == k))
  else if off < 0x1C00 then
    motors.any fun m => (f == FIELD_SHARE.SPLIT_NOM m && 0x8000 < v) || (f == FIELD_LOCK.LOCK_T m && outside 1 2000 v)
  else if off < 0x2000 then
    (f == GD_CHOP.CHOP_IMIN && outside 10 80 v) || motors.any fun m => f == GDM_MON.DUTY_REFRESH_MAX m && outside 800 999 v
  else if off < 0x2400 then (f == FC_REC0.FC_QUIET && outside 1 10000 v) || (f == FC_REC1.REC_WIN && outside 1 600 v)
  else if off < 0x2800 then
    (f == SAFE_RCFG.PA_TMO && v < 30) || (f == SAFE_LIMP.LIMP_TMAX && outside 1 1800 v)
      || (f == SAFE_TP.TP_WIDTH && outside 20 200 v) || (f == SAFE_TP.TP_PERIOD && outside 2 100 v)
  else if off < 0x2C00 then f == BRINE_CTRL.EN && s.inService
  else if off < 0x3000 then f == NET_CYC.FAB_CYCLE && outside 5000 1000000 v
  else if off < 0x3400 then f == PAN_CTRL.XBUF && outside 96 1024 v
  else if off < 0x3800 then
    (f == PWR_WATCH.PERIOD && outside 1 10000 v) || (f == PWR_WAKE_EN.CAN_TMO && outside 5 100 v)
      || (off == 0x340C && s.inService) || (f == PWR_CFG.D11_OFF && s.part == .hx961s)
  else false

/-- The order of the OV thresholds would break, or one would leave 6.0 V to 70.0 V (R321). -/
def ovBroken (val : Fld → Nat) : Bool :=
  let chop := val GD_OV0.OV_CHOP
  let lim := val GD_OV0.OV_LIM
  let short := val GD_OV1.OV_SHORT
  let abs := val GD_OV1.OV_ABS
  !(240 ≤ chop && chop < lim && lim < short && short < abs && abs ≤ 2800)

/-- A port's span with the given values breaks R54. -/
def State.spanBreaks (s : State) (p : Nat) : Bool :=
  !(s.rd RAKE_ENC.ENC_REQ_PHASE + s.encSpan p + 16 ≤ s.rd RAKE_TICK.TICK_PERIOD + s.rd RAKE_TSTART.TSTART
    && s.encSpan p ≤ s.rd RAKE_TICK.TICK_PERIOD)

/-- The entry of a source would break R344: `val` gives the values the write leaves. -/
def State.reactBroken (s : State) (n : Nat) (val : Fld → Nat) : Bool :=
  let l := val (FC_REACT.REACT_L n)
  let t := val (FC_REACT.REACT_T n)
  l < srcFloor n || (t != s.rd (FC_REACT.REACT_T n) && t < srcFloor n) || l < t

/-- A field is refused for the values the word would leave together. -/
def State.badJoint (s : State) (f : Fld) (val : Fld → Nat) : Bool :=
  let off := f.off
  if off = 0xC00 then
    f == POS_CTRL.PORT_EN && motors.any fun p => (val f).testBit p && !s.bit f p && s.spanBreaks p
  else if off < 0x1000 then
    motors.any fun m =>
      ((f == POS_PORT_CFG.MTBITS m || f == POS_PORT_CFG.WLEN_M1 m)
        && (20 < val (POS_PORT_CFG.MTBITS m) || val (POS_PORT_CFG.WLEN_M1 m) + 1 < val (POS_PORT_CFG.MTBITS m) + 8))
      || (f == POS_PORT_CFG.CLK_DIV m && s.bit POS_CTRL.PORT_EN m && (s.wr f (val f)).spanBreaks m)
      || ((f == POS_SPD.FILT m || f == POS_SPD.SHIFT m)
        && (let filt := val (POS_SPD.FILT m)
            let shift := val (POS_SPD.SHIFT m)
            filt == 3 || (filt == 1 && outside 1 8 shift) || (filt == 2 && outside 1 4 shift)))
  else if off = 0x1C04 ∨ off = 0x1C08 then ovBroken val
  else if 0x2100 ≤ off ∧ off < 0x2300 then (f.lo == 24 || f.lo == 20) && s.reactBroken ((off - 0x2100) / 4) val
  else if off = 0x386C then val MGMT_TLIM.CRIT ≤ val MGMT_TLIM.WARN
  else false

/-- A changed field is refused (R84, R185, R382, R522). -/
def State.refused (s : State) (w : Nat) (f : Fld) (val : Fld → Nat) : Bool :=
  val f != s.rd f &&
    ((match f.cls with
      | .lock => s.lockHeld f
      | .lockCtx => !s.ctxOpen ((f.off - 0x1300000) / 64)
      | .tmr => isSetOffset f.off && !s.unlockedFor w
      | _ => false)
     || s.badRange f (val f) || s.badJoint f val)

/-! ### Writing the fields of a word -/

/-- Store a TMR member of the safety set: logged, with the set's CRC renewed, at boot once the set is whole (R386, R387, R389). -/
def State.writeMember (s : State) (w : Nat) (f : Fld) (v : Nat) : State :=
  let old := s.rd f
  let s : State := { s.wr f v with sys := { s.sys with voteSeen := s.sys.voteSeen.filter (· != f.key) } }
  if isSetOffset f.off then
    let s : State := { s with safe := { s.safe with memberAt := s.now } }
    let s := s.logMember w f old v
    if w = 0x80 ∧ (s.half = .boot ∨ s.half = .selftest) then s else s.renewSetCrc
  else s

/-- Apply a value to a field under its class (R84); GO fields act afterwards. -/
def State.writeField (s : State) (w : Nat) (f : Fld) (v : Nat) : State :=
  match f.cls with
  | .ro | .roTmr => s
  | .w1c => s.wr f ((s.rd f ||| v) ^^^ v)
  | .w1s => s.wr f (s.rd f ||| v)
  | .go => s
  | .shd => s.writeShadow f v w
  | .tmr => s.writeMember w f v
  | _ => s.wr f v

/-- Fields whose writes are events or have rows of their own; they are not stored here. -/
def eventField (f : Fld) : Bool :=
  f == AFE_CTRL.STOP || f == BRINE_CTRL.EN || f == SAFE_KEY.KEY || f.off == 0x2064 || (0x2440 ≤ f.off && f.off < 0x2460)
    || (0x1840 == f.off || 0x1940 == f.off || 0x1A40 == f.off)
    || (0x3000000 ≤ f.off && ((f.off % 32 == 0 && f.lo == 31) || (f.off % 32 == 4 && f.lo == 0)))

/-- Write a word to the fields of an offset, field by field; `rep` is the offset recorded for a refusal (R86, R522). -/
def State.writeFields (s : State) (w rep : Nat) (fs : List Fld) (v : Word) : State :=
  let val (f : Fld) : Nat := if fs.contains f then intended v f else s.rd f
  let bad := fs.filter fun f =>
    match f.cls with
    | .ro | .roTmr | .w1c | .w1s | .go => false
    | .shd => false
    | _ => s.refused w f val
  let t := fs.foldl (fun (t : State) f => if bad.contains f || eventField f then t else t.writeField w f (intended v f)) s
  if bad.isEmpty then t else t.ignored rep

/-! ### What follows a write -/

/-- PWH: a word of the new hash, taken only under the unlock (R388). -/
def State.writeHash (s : State) (w k : Nat) (v : Word) : State :=
  if s.rd SAFE_UNL.STATE = 2 ∧ s.rd SAFE_UNL.WRITER = w then
    { s with safe := { s.safe with newHash := s.safe.newHash.set k v } }
  else s.ignored (0x2440 + 4 * k)

/-- PAN_OP with its operation (R445). -/
def State.panOp (s : State) (op : Nat) : State :=
  let f := s.rd PAN_OP.FLOW
  match op with
  | 1 => panPush f s
  | 2 => panPop f s
  | 3 => panFlush f s
  | 4 => panClear f (s.rd PAN_OP.SLOT) s
  | _ => s

/-- Bit `i` of a written word. -/
def wbit (v : Word) (i : Nat) : Bool := v.toNat.testBit i

/-- Effects of a write to a direct offset beside its stored fields: GO fields, event words and derived values. -/
def State.afterWrite (s : State) (w off : Nat) (v : Word) : State :=
  let n := v.toNat
  if off = 0x0004 ∨ off = 0x1C28 then s.forceFollows
  else if off = 0x0008 then (if n % 256 = 0 then s else commit w (n % 256) s)
  else if off = 0x000C then (if n % 256 = 0 then s else Sys2Proof.Machine.discard (n % 256) s)
  else if off = 0x0800 then (if wbit v 0 then (if s.inService then s else afeCtrlStop s) else afeCtrlRun s)
  else if 0x081C ≤ off ∧ off < 0x0840 then s.showDerived
  else if 0x08C0 ≤ off ∧ off < 0x08E4 then s.hostcalWritten ((off - 0x08C0) / 4)
  else if off = 0x0C00 then s.closePorts
  else if 0x0C10 ≤ off ∧ off < 0x0C40 then s.showSpans
  else if off = 0x0CB4 ∨ off = 0x0CF4 ∨ off = 0x0D34 then
    let m := (off - 0x0CB4) / 0x40
    let s := if n % 8 = 0 then s else readmit m (n % 8) s
    if wbit v 3 then loadPosition m w s else s
  else if off = 0x1840 ∨ off = 0x1940 ∨ off = 0x1A40 then
    hstepWrite ((off - 0x1840) / 0x100) (n / 2 ^ 28) (n / 2 ^ 16 % 4096) (n % 65536) s
  else if off = 0x2010 then
    let s := s.fcRefresh
    if wbit v 0 then firstClr s else s
  else if off = 0x2064 then hostAnswer w (n % 256) (n / 256 % 8) s
  else if off = 0x2408 then s.evidenceFollows
  else if off = 0x2410 then (if wbit v 0 then limpRestart w s else s)
  else if off = 0x2428 then keyWrite w v s
  else if off = 0x242C then
    let s := if wbit v 3 then pwSet w s else s
    if wbit v 2 then unlockLock s else s
  else if off = 0x2434 then (if wbit v 0 then sluiceTestRun s else s)
  else if 0x2440 ≤ off ∧ off < 0x2460 then s.writeHash w ((off - 0x2440) / 4) v
  else if off = 0x2800 then
    let s := if s.flag BRINE_CTRL.EN = wbit v 0 ∨ s.inService then s else brineEnable (wbit v 0) s
    let s := if wbit v 5 then retrain s else s
    if wbit v 1 then wakeTx s else s
  else if off = 0x3004 then s.panOp (n / 2 ^ 24 % 8)
  else if off = 0x3404 then (if wbit v 4 then s.requestRow (n % 16) w else s)
  else if off = 0x340C then { s with pwr := { s.pwr with domChange := true } }
  else if off = 0x3840 then (if wbit v 0 then s.hostRequest w else s)
  else if off = 0x3C00 then s.setFlag IDX_STAT.HALF false
  else s

/-! ### Indirect space (R73 to R75) -/

/-- The identity block (R486). -/
def State.identityBlock (s : State) : List Byte :=
  s.identityBytes ++ dataOf [(1, s.rd SYS_ID.DIE_STEP), (1, s.rd MGMT_BOOT_STAT.FW_SLOT), (2, 0), (4, s.mgmt.fwVersion),
    (4, s.rd MGMT_IMG_INFO.IMG_VER), (2, s.keepArea.bootCount), (26, 0)]

/-- A program bank. -/
def State.pmBank (s : State) (b : Nat) : Mem := if b = 0 then s.pm0 else s.pm1

/-- Replace a program bank. -/
def State.setPmBank (s : State) (b : Nat) (m : Mem) : State := if b = 0 then { s with pm0 := m } else { s with pm1 := m }

/-- A Y bank. -/
def State.ymemOf (s : State) (b : Nat) : Mem := if b = 0 then s.ymem0 else s.ymem1

/-- The indirect address. -/
def State.idxAddr (s : State) : Nat := 4 * s.rd IDX_ADDR.ADDR

/-- The address lies in a program window. -/
def inProgram (a : Nat) : Bool := 0x1000000 ≤ a && a < 0x1020000

/-- Domain of an indirect window; none outside every window (R74). -/
def idxDomain (a : Nat) : Option Nat :=
  if inProgram a then some 3
  else if 0x1100000 ≤ a ∧ a < 0x1108000 then some 3
  else if (0x1200000 ≤ a ∧ a < 0x1208000) ∨ (0x1210000 ≤ a ∧ a < 0x1218000) then some 3
  else if 0x1300000 ≤ a ∧ a < 0x1302000 then some 3
  else if 0x2000000 ≤ a ∧ a < 0x2000100 then some 8
  else if 0x3000000 ≤ a ∧ a < 0x3080000 then some 8
  else if 0x4000000 ≤ a ∧ a < 0x4040000 then some 2
  else if 0x5000000 ≤ a ∧ a < 0x5001400 then some 2
  else none

/-- A word made of fields: the shadow of SHD fields where asked (R76, R80). -/
def State.fieldWord (s : State) (shadow : Bool) (fs : List Fld) : Word :=
  wordOfFields (fun f => if shadow && f.cls == .shd then s.shadow f else s.rd f) fs

/-- Byte address of the half of a bundle that the next access moves (R73). -/
def State.halfAddr (s : State) (a : Nat) : Nat := 8 * (a % 0x10000 / 4) + (if s.flag IDX_STAT.HALF then 0 else 4)

/-- The word at the indirect address. -/
def State.idxWord (s : State) (shadow : Bool) (a : Nat) : Word :=
  if inProgram a then (s.pmBank (a / 0x10000 % 2)).word 0 (s.halfAddr a)
  else if a < 0x1108000 then s.xWord (a - 0x1100000)
  else if a < 0x1300000 then (s.ymemOf (a / 0x10000 % 2)).word 0 (a % 0x10000)
  else if a < 0x3000000 ∨ (0x3000000 ≤ a ∧ a < 0x3002000) then
    if 0x3000000 ≤ a ∧ a < 0x3000020 then 0 else s.fieldWord shadow ((indirectFieldsAt a).getD [])
  else if a < 0x4000000 then s.sram.word 0 (a - 0x3000000)
  else if a < 0x5000000 then s.mram.word 0 (a - 0x4000000)
  else if a < 0x5001000 then s.otp.word 0 (a - 0x5000000)
  else Mem.word (Mem.ofBytes 0 0 s.identityBlock) 0 (a - 0x5001000)

/-- The bank of a Y word is inactive for every context in the word's range (R74): below 0x7000 the words belong to the programs,
above it 32 bytes belong to each context. -/
def State.yInactive (s : State) (bank o : Nat) : Bool :=
  if o < 0x7000 then s.rd CE_PROG.PBANK != bank else s.rd (CTX_W0.BANK ((o - 0x7000) / 32)) != bank

/-- An X word enters the write queue (R75). -/
def State.queueX (s : State) (a : Nat) (v : Word) : State :=
  if 64 ≤ s.sys.xQueue.length then s.setFlag IDX_STAT.QOVF true
  else
    let s := s.setFlag IDX_STAT.QBUSY true
    { s with sys := { s.sys with xQueue := s.sys.xQueue ++ [(a, v, s.now)] } }

/-- A structural write refused for a context is noted for it (R185). -/
def State.noteStruct (s : State) (a : Nat) (v : Word) : State :=
  let n := (a - 0x1300000) / 64
  if !s.ctxOpen n && ((indirectFieldsAt a).getD []).any fun f => f.cls == .lockCtx && fieldBits v f != s.rd f then
    (s.setFlag CE_CTX_STAT.STRUCT_IGN true).wr CE_CTX_STAT.STRUCT_CTX n
  else s

/-- Write a word of a flow descriptor (R440, R441, R454). -/
def State.writeFlow (s : State) (w a : Nat) (v : Word) : State :=
  let f := (a - 0x3000000) / 32
  if f = 0 then s
  else
    let s := s.writeFields w idxDataOff ((indirectFieldsAt a).getD []) v
    if a % 32 = 0 then
      if wbit v 31 = s.flag (FLOW_W0.EN f) then s else if wbit v 31 then flowEnable f s else flowDisable f s
    else if a % 32 = 4 then (if v.toNat % 2 ^ 13 = s.rd (FLOW_W1.PLEN f) then s else plenWrite f (v.toNat % 2 ^ 13) s)
    else s

/-- Write the word at the indirect address. -/
def State.idxWrite (s : State) (w a : Nat) (v : Word) : State :=
  if inProgram a then
    let b := a / 0x10000 % 2
    if s.rd CE_PROG.PBANK = b then s.ignored idxDataOff
    else { s.setPmBank b ((s.pmBank b).setWord 0 (s.halfAddr a) v) with
             eccs := erase s.eccs (placeOf (if b = 0 then .pm0 else .pm1) (s.halfAddr a / 8)) }
  else if a < 0x1108000 then s.queueX (a - 0x1100000) v
  else if a < 0x1300000 then
    let b := a / 0x10000 % 2
    if s.yInactive b (a % 0x10000) then s.writeY b (a % 0x10000) v else s.ignored idxDataOff
  else if a < 0x1302000 then (s.noteStruct a v).writeFields w idxDataOff ((indirectFieldsAt a).getD []) v
  else if a < 0x2000100 then
    let n := (a - 0x2000000) / 4
    if n = 0 ∨ n = 63 then s else s.writeFields w idxDataOff ((indirectFieldsAt a).getD []) v
  else if a < 0x3002000 then s.writeFlow w a v
  else if a < 0x4000000 then { s with sram := s.sram.setWord 0 (a - 0x3000000) v }
  else s.ignored idxDataOff

/-- Every access to IDX_DATA advances the address; in a program window the second of two does (R73). -/
def State.idxAdvance (s : State) (a : Nat) : State :=
  if inProgram a && !s.flag IDX_STAT.HALF then s.setFlag IDX_STAT.HALF true
  else (s.setFlag IDX_STAT.HALF false).wr IDX_ADDR.ADDR (s.rd IDX_ADDR.ADDR + 1)

/-- An access to IDX_DATA: a read, or a write of a word by a writer (R73, R74). -/
def State.idxAccess (s : State) (shadow : Bool) (wr : Option (Nat × Word)) : Word × State :=
  let a := s.idxAddr
  match idxDomain a with
  | none => (0, (s.setFlag IDX_STAT.AERR true).idxAdvance a)
  | some d =>
    if !s.domOn d then (0, s.addrErr.idxAdvance a)
    else match wr with
      | none => (s.idxWord shadow a, s.idxAdvance a)
      | some (w, v) => (0, (s.idxWrite w a v).idxAdvance a)

/-- The X write queue may drain: outside the passes, or while the Rake is not running (R75). -/
def State.mayDrain (s : State) : Bool :=
  !s.running || decide (s.rd RAKE_OUT.OUT_PHASE ≤ s.cec) || decide (s.cec < s.rd RAKE_TSTART.TSTART)

/-- X_QUEUE_DRAIN (R75): in the next CEC the oldest word is written at its address; who fills the queue enters the mirror as a
word of its own (R190, R448). -/
def xQueueDrain (s : State) : State :=
  match s.sys.xQueue with
  | [] => s
  | (a, v, t) :: r =>
    let s := s.passCec
    if s.mayDrain ∧ t < s.now then
      let s : State := { s.writeX rankQueue a v with sys := { s.sys with xQueue := r } }
      s.setFlag IDX_STAT.QBUSY (!r.isEmpty)
    else s

/-! ### Direct accesses -/

/-- In BOOT and SELFTEST only the blocks MGMT and PWR take writes, but those of the MP (R117). -/
def State.bootHeld (s : State) (w off : Nat) : Bool :=
  (s.half == .boot || s.half == .selftest) && w != 0x80 && decide (off < 0x4000) && !(0x3400 ≤ off && off < 0x3C00)

/-- D3 off: what the SYS block would have kept of an access is lost (R459). -/
def State.keepSys (s : State) (old : State) : State :=
  if s.domOn 3 then s
  else
    let sysKey (p : Nat × Nat) : Bool := p.1 / 32 < 0x400
    { s with regs := (old.regs.filter sysKey) ++ s.regs.filter fun p => !sysKey p }

/-- WR_IGN with the offset, where the writer may not write (R81), or the half boots and the block takes no write (R117). -/
def State.turnedAway (s : State) (w off : Nat) : Bool := !s.permitted w || s.bootHeld w off

/-- What every write meets before its fields: WR_IGN where it is turned away (R81, R117), and ADDR_ERR where its offset is one of
R72, be it turned away or not. -/
def State.meetWrite (s : State) (w off : Nat) : State :=
  let s := if s.turnedAway w off then (s.ignored off).keepSys s else s
  if (s.reach off).isNone then s.addrErr.keepSys s else s

/-- A write of a register that can be reached is taken. -/
def State.takesWrite (s : State) (w off : Nat) : Bool := !s.turnedAway w off && (s.reach off).isSome && !s.deadBrine off

/-- A command that is a write by `w` to `off` with an effect of its own, under the tests of every write (R72, R81, R117, R395). -/
def State.asWriter (s : State) (w off : Nat) (f : State → State) : State :=
  if s.takesWrite w off then f s
  else if s.deadBrine off && (s.reach off).isSome then (s.ignored off).keepSys s
  else s.meetWrite w off

/-- A command that is a write by `w` to a flow descriptor: through IDX_DATA, with D8 on (R72, R74). -/
def State.asFlowWriter (s : State) (w : Nat) (f : State → State) : State :=
  s.asWriter w idxDataOff fun s => if s.domOn 8 then f s else s.addrErr

/-- What a write that R81 turns away still does: a request is refused (R467), and an answer is counted (R351). -/
def State.barredWrite (s : State) (w off : Nat) (v : Word) : State :=
  if s.permitted w || (s.reach off).isNone then s
  else if off = 0x3404 ∧ wbit v 4 then s.requestRow (v.toNat % 16) w
  else if off = 0x2064 then hostAnswer w (v.toNat % 256) (v.toNat / 256 % 8) s
  else s

/-- One software write of a word (R71, R72, R81, R84, R117, R395, R522). A write to IDX_DATA that R81 or R117 turns away is no
access, and does not advance the indirect address (DESIGN CHOICE). -/
def State.swWrite (s : State) (w off : Nat) (v : Word) : State :=
  if s.turnedAway w off then (s.meetWrite w off).barredWrite w off v
  else match s.reach off with
  | none => s.addrErr.keepSys s
  | some fs =>
    if s.deadBrine off then (s.ignored off).keepSys s
    else if off = idxDataOff then (s.idxAccess false (some (w, v))).2
    else if deadReact off then s
    else (((s.keepSchedule off).writeFields w off fs v).afterWrite w off v).keepSys s

/-- One software read of a word. -/
def State.swRead (s : State) (shadow : Bool) (off : Nat) : Word × State :=
  match s.reach off with
  | none => (0, s.addrErr.keepSys s)
  | some fs =>
    if off = idxDataOff then s.idxAccess shadow none
    else if deadReact off then (0, s)
    else if s.deadBrine off then (wordOfFields (fun f => if f = BRINE_STAT.LINK then 4 else if f = BRINE_CTRL.EN then 0 else f.reset) fs, s)
    else if off = 0x3424 then
      let us := s.now / cecPerUs
      (BitVec.ofNat 32 us, { s with pwr := { s.pwr with rtcHi := us / 2 ^ 32 } })
    else if off = 0x3428 then (BitVec.ofNat 32 s.pwr.rtcHi, s)
    else
      let s := fs.foldl State.voteCheck s
      (s.fieldWord shadow fs, s)

/-- Counters that wrap; every other counter stays at its maximum (R84). -/
def wrapping (f : Fld) : Bool :=
  f == RAKE_TICK_COUNT.TICK_COUNT || f == AFE_CAL_CNT.CAL_OK_CNT || f == PWR_WATCH_CNT.CYC_CNT
    || motors.any fun m => f == POS_COMM.COMM_CNT m

/-- Hardware updates, as (low bit, value or increment), of the fields `fs` of a word in the CEC in which software wrote `v` to it;
`rep` is the offset recorded for a lost write, and `taken` says that the software write was taken (R85). -/
def State.coincide (s : State) (rep : Nat) (fs : List Fld) (v : Word) (taken : Bool) (hw : List (Nat × Nat)) : State :=
  hw.foldl (fun (s : State) u =>
    match fs.find? fun f => f.lo == u.1 with
    | none => s
    | some f =>
      match f.cls with
      | .w1c => s.wr f (s.rd f ||| u.2)
      | .w1s => s.wr f ((if taken then fieldBits v f else 0) ||| u.2)
      | .cnt => if wrapping f then s.wr f (s.rd f + u.2) else s.countN f u.2
      | .ro | .roTmr => s.wr f u.2
      | .rw | .live | .tmr =>
        let s := s.wr f u.2
        if taken then (s.setFlag SYS_ACC_STAT.SW_LOST true).wr SYS_ACC_INFO.LOST_OFFSET rep else s
      | _ => s) s

/-- A software write with the hardware updates of the written word that fall into the same CEC (R85, R86). -/
def State.writeWith (s : State) (w off : Nat) (v : Word) (hw : List (Nat × Nat)) : State :=
  let fs := if off = idxDataOff then (indirectFieldsAt s.idxAddr).getD [] else (s.reach off).getD []
  (s.swWrite w off v).coincide off fs v (!s.turnedAway w off) hw

/-- REGISTER_WRITE (R84 to R86, R522): writer `w` writes a word, with the hardware updates that fall into the same CEC. -/
def registerWrite (w off : Nat) (v : Word) (hw : List (Nat × Nat)) (s : State) : State := s.writeWith w off v hw

/-- IDX_ADDR_WRITE (R73). -/
def idxAddrWrite (w : Nat) (v : Word) (s : State) : State := s.swWrite w 0x3C00 v

/-- IDX_DATA_ACCESS (R73, R74): a write by `w` of a word, with the hardware updates of its CEC (R85), or a read. -/
def idxDataAccess (w : Nat) (wr : Option Word) (hw : List (Nat × Nat)) (s : State) : State :=
  match wr with
  | some v => s.writeWith w idxDataOff v hw
  | none =>
    let (x, s) := s.swRead false idxDataOff
    { s with sys := { s.sys with rdata := x } }

/-! ### Host SPI frames (R76 to R79) -/

/-- ADDR_ERR, SW_LOST and WR_IGN of SYS_ACC_STAT as STATUS bits [6:4] carry them (R76). -/
def State.accFlags (s : State) : Nat :=
  64 * s.rd SYS_ACC_STAT.ADDR_ERR + 32 * s.rd SYS_ACC_STAT.WR_IGN + 16 * s.rd SYS_ACC_STAT.SW_LOST

/-- Set the flags that STATUS bits name. -/
def State.orFlags (s : State) (m : Nat) : State :=
  let s := if m.testBit 6 then s.setFlag SYS_ACC_STAT.ADDR_ERR true else s
  let s := if m.testBit 5 then s.setFlag SYS_ACC_STAT.WR_IGN true else s
  if m.testBit 4 then s.setFlag SYS_ACC_STAT.SW_LOST true else s

/-- The flags cleared, to see what an access raises. -/
def State.noFlags (s : State) : State :=
  ((s.setFlag SYS_ACC_STAT.ADDR_ERR false).setFlag SYS_ACC_STAT.WR_IGN false).setFlag SYS_ACC_STAT.SW_LOST false

/-- An access with the STATUS bits it raises, added to those already raised. -/
def State.traced {α : Type} (s : State) (off st : Nat) (f : State → α × State) : α × Nat × State :=
  if off = 0x18 then
    let (x, t) := f s
    (x, st ||| (t.accFlags &&& (112 ^^^ s.accFlags)), t)
  else
    let old := s.accFlags
    let (x, t) := f s.noFlags
    let new := t.accFlags
    (x, st ||| new, (t.orFlags old).keepSys s)

/-- By how much the offset advances from word to word of a burst to an offset (R79). Past 0xFFFC the words of a burst go on to
offsets that no register has: nothing is accessed, and ADDR_ERR is set (DESIGN CHOICE). -/
def burstStep (off : Nat) : Nat := if off = idxDataOff then 0 else 4

/-- What stands beside word `i` of a frame. -/
def hwOf (bs : List Beside) (i : Nat) : List (Nat × Nat) := (bs.filter fun b => b.word == i).flatMap Beside.hw
def othersOf (bs : List Beside) (i : Nat) : List Access := (bs.filter fun b => b.word == i).flatMap Beside.others

/-- Serve one access of another path, in a CEC of its own. -/
def State.serveAccess (s : State) (a : Access) : State :=
  match a.2.2 with
  | some v => (s.swWrite a.1 a.2.1 v).passCec
  | none => (s.swRead false a.2.1).2.passCec

/-- The path of a writer in the round-robin of R83: 0 host SPI, 1 fabric with the CAN FD ports, 2 MP. -/
def pathOf (w : Nat) : Nat := if w = 0 then 0 else if w = 0x80 then 2 else 1

/-- Serve the oldest waiting access of path `k`, where one waits. -/
def State.servePath (s : State) (k : Nat) : State :=
  match s.sys.waiting.find? fun a => pathOf a.1 == k with
  | none => s
  | some a => State.serveAccess { s with sys := { s.sys with waiting := s.sys.waiting.erase a } } a

/-- After a word of path `p` the round-robin serves one waiting access of each of the two other paths, in the order host SPI, fabric,
MP from `p` on (R83). -/
def State.serveRound (s : State) (p : Nat) : State := (s.servePath ((p + 1) % 3)).servePath ((p + 2) % 3)

/-- Accesses of other paths arrive with a word, and the round-robin serves them after it (R83). -/
def State.serveOthers (s : State) (p : Nat) (as_ : List Access) : State :=
  State.serveRound { s with sys := { s.sys with waiting := s.sys.waiting ++ as_ } } p

/-- The frame of path `p` is over: the round-robin serves every access that still waits, `n` rounds at most. -/
def State.serveRest (s : State) (p : Nat) : Nat → State
  | 0 => s
  | n + 1 => if s.sys.waiting = [] then s else ((s.serveRound p).servePath p).serveRest p n

/-- Write the words of a burst, a word in a CEC, collecting STATUS bits; `i` is the number of the first word in its frame. -/
def State.writeWords (s : State) (w off step st i : Nat) (bs : List Beside) : List Word → Nat × State
  | [] => (st, s)
  | v :: r =>
    let (_, st, s) := s.traced off st fun s => ((), s.writeWith w off v (hwOf bs i))
    (s.passCec.serveOthers (pathOf w) (othersOf bs i)).writeWords w (off + step) step st (i + 1) bs r

/-- Read `n` words of a burst of path `p`, collecting STATUS bits. -/
def State.readWords (s : State) (p : Nat) (shadow : Bool) (off step st i : Nat) (bs : List Beside) : Nat → List Word × Nat × State
  | 0 => ([], st, s)
  | n + 1 =>
    let (x, st, s) := s.traced off st fun s => s.swRead shadow off
    let (xs, st, s) := (s.passCec.serveOthers p (othersOf bs i)).readWords p shadow (off + step) step st (i + 1) bs n
    (x :: xs, st, s)

/-- A burst of writes, and a burst of reads, from an offset (R79). -/
def State.writeBurst (s : State) (w off i : Nat) (bs : List Beside) (vs : List Word) : Nat × State :=
  s.writeWords w off (burstStep off) 0 i bs vs
def State.readBurst (s : State) (p : Nat) (shadow : Bool) (off i : Nat) (bs : List Beside) (n : Nat) : List Word × Nat × State :=
  s.readWords p shadow off (burstStep off) 0 i bs n

/-- Words of a byte string, most significant byte first. -/
def wordsBe : Nat → List Byte → List Word
  | 0, _ => []
  | n + 1, b => BitVec.ofNat 32 (beNat (b.take 4)) :: wordsBe n (b.drop 4)

/-- A word as four bytes, most significant first (R76). -/
def bytesBe (x : Word) : List Byte := (leBytes 4 x.toNat).reverse

/-- Zero bytes. -/
def zeros (n : Nat) : List Byte := List.replicate n 0

/-- Put the MISO bytes of a frame. -/
def State.sendMiso (s : State) (b : List Byte) : State := { s with sys := { s.sys with miso := b } }

/-- STATUS and CRC after the data (R76, R77). -/
def trailer (data : List Byte) (st : Nat) : List Byte := data ++ [BitVec.ofNat 8 st, crc8 (data ++ [BitVec.ofNat 8 st])]

/-- A frame with a wrong CRC (R78). -/
def State.crcFail (s : State) : State := ((s.count SYS_SPI_CNT.CRC_ERR_CNT).setFlag SYS_ACC_STAT.CRC_ERR true).keepSys s

/-- A frame with a wrong clock count (R78). -/
def State.frameFail (s : State) : State := (s.count SYS_SPI_CNT.FRAME_ERR_CNT).keepSys s

/-- The MOSI CRC after the first `k` bytes is wrong, in a frame whose clocks have carried it (R77, R78). -/
def badMosi (mosi : List Byte) (clocks k : Nat) : Bool := decide (8 * (k + 1) ≤ clocks) && mosi.getD k 0 != crc8 (mosi.take k)

/-- A write frame of `n` words (R76, R78). -/
def State.spiWrite (s : State) (mosi : List Byte) (clocks n off seq : Nat) (bs : List Beside) : State :=
  let bad := badMosi mosi clocks (4 + 4 * n)
  let s := if bad then s.crcFail else s
  if clocks ≠ 8 * (7 + 4 * n) then (s.frameFail).sendMiso (zeros (clocks / 8))
  else if bad then s.sendMiso (zeros (5 + 4 * n) ++ trailer [] (128 + seq))
  else if off % 4 ≠ 0 then (s.addrErr.keepSys s).sendMiso (zeros (5 + 4 * n) ++ trailer [] (64 + seq))
  else
    let (st, s) := s.writeBurst 0 off 0 bs (wordsBe n (mosi.drop 4))
    s.sendMiso (zeros (5 + 4 * n) ++ trailer [] (st + seq))

/-- A read frame of `n` words (R76, R78): each word is read before its first bit leaves. -/
def State.spiRead (s : State) (mosi : List Byte) (clocks n off seq : Nat) (shadow : Bool) (bs : List Beside) : State :=
  let whole := clocks = 8 * (7 + 4 * n)
  let s := if whole then s else s.frameFail
  let k := min n ((clocks - 40 + 31) / 32)
  let (data, st, s) : List Byte × Nat × State :=
    if badMosi mosi clocks 4 then (zeros (4 * n), 128, s.crcFail)
    else if k = 0 then ([], 0, s)
    else if off % 4 ≠ 0 then (zeros (4 * n), 64, s.addrErr.keepSys s)
    else
      let (xs, st, s) := s.readBurst 0 shadow off 0 bs k
      (xs.flatMap bytesBe, st, s)
  if clocks ≤ 40 then s.sendMiso (zeros (clocks / 8))
  else s.sendMiso (zeros 5 ++ if whole then trailer data (st + seq) else data.take (clocks / 8 - 5))

/-- A host SPI frame: its MOSI bytes and its clocks at the release of chip select; CMD byte 0 says what it is (R76). -/
def State.spiFrame (s : State) (mosi : List Byte) (clocks : Nat) (bs : List Beside) : State :=
  if s.half = .off then s
  else if clocks < 32 ∨ mosi.length < 4 then s.frameFail.sendMiso (zeros (clocks / 8))
  else
    let cmd := (mosi.getD 0 0).toNat
    let n := cmd % 32 + 1
    let off := (mosi.getD 1 0).toNat * 256 + (mosi.getD 2 0).toNat
    let seq := (mosi.getD 3 0).toNat % 16
    let s := if cmd.testBit 7 then s.spiWrite mosi clocks n off seq bs else s.spiRead mosi clocks n off seq (cmd.testBit 6) bs
    s.serveRest 0 s.sys.waiting.length

/-- HOST_SPI_WRITE (R76 to R79, R83, R85), with what happens beside its words. -/
def hostSpiWrite (mosi : List Byte) (clocks : Nat) (bs : List Beside) (s : State) : State := s.spiFrame mosi clocks bs

/-- HOST_SPI_READ (R76 to R79, R83, R88), with what happens beside its words and the upsets that the read meets. -/
def hostSpiRead (mosi : List Byte) (clocks : Nat) (bs : List Beside) (upsets : List (Nat × Nat × Nat × Nat)) (s : State) : State :=
  (upsets.foldl State.upset s).spiFrame mosi clocks bs

/-! ### Delivery to X (R448) -/

/-- CECs left before TSTART in which the queue may still drain. -/
def State.drainLeft (s : State) : Nat :=
  let ts := s.rd RAKE_TSTART.TSTART
  if s.cec < ts then ts - 1 - s.cec
  else if s.rd RAKE_OUT.OUT_PHASE ≤ s.cec then s.rake.tickLen - s.cec + ts - 1
  else 0

/-- Enter words for consecutive X addresses, each at its address and at its mirror (R448). -/
def State.queueWords (s : State) (a : Nat) : List Word → State
  | [] => s
  | v :: r => ((s.queueX a v).queueX (mirrorOf a) v).queueWords (a + 4) r

/-- Words of a record, least significant byte first. -/
def wordsLe : Nat → List Byte → List Word
  | 0, _ => []
  | n + 1, b => BitVec.ofNat 32 (leNat (b.take 4)) :: wordsLe n (b.drop 4)

/-- X_DELIVERY of flow `f` (R448): a whole record enters the X write queue when it can drain before TSTART, and its entry is
popped. -/
def xDelivery (f : Nat) (s : State) : State :=
  if s.flowOn f && s.kindOf f == 0 && s.flag (FLOW_W0.XDLV f) && s.fill f != 0 then
    let rec_ := s.entryRecord f (s.rd (FLOW_W5.RPTR f))
    let n := min (rec_.length / 4) (s.rd (FLOW_W3.XLEN f))
    let q := s.sys.xQueue.length
    if q + 2 * n ≤ 64 && (!s.running || (s.mayDrain && decide (q + 2 * n ≤ s.drainLeft))) then
      (s.queueWords (4 * s.rd (FLOW_W3.XIDX f)) (wordsLe n rec_)).removeHead f
    else s
  else s

end Sys2Proof.Machine
end

