-- ==== Sys2Proof/Machine/Ecdsa.lean ====
section
/-! DEFINITION. ECDSA verification on the curve P-256 (R110): y² = x³ − 3x + b over a prime field. -/

namespace Sys2Proof.Machine

/-- The field prime, the group order and the coefficient b of the curve. -/
def curveP : Nat := 2 ^ 256 - 2 ^ 224 + 2 ^ 192 + 2 ^ 96 - 1
def curveN : Nat := 0xFFFFFFFF00000000FFFFFFFFFFFFFFFFBCE6FAADA7179E84F3B9CAC2FC632551
def curveB : Nat := 0x5AC635D8AA3A93E7B3EBBD55769886BC651D06B0CC53B0F63BCE3C3E27D2604B

/-- The base point. -/
def curveG : Nat × Nat × Nat :=
  (0x6B17D1F2E12C4247F8BCE6E563A440F277037D812DEB33A0F4A13945D898C296,
   0x4FE342E2FE1A7F9B8EE7EB4A7C0F9E162BCE33576B315ECECBB6406837BF51F5, 1)

/-- x to a power modulo m, with the low `n` bits of the exponent. -/
def powMod (m : Nat) : Nat → Nat → Nat → Nat
  | 0, _, _ => 1
  | n + 1, x, e => (if e % 2 = 1 then x else 1) * powMod m n (x * x % m) (e / 2) % m

/-- The inverse modulo a prime of 256 bits. -/
def invMod (m x : Nat) : Nat := powMod m 256 (x % m) (m - 2)

/-- A difference modulo m. -/
def subMod (m a b : Nat) : Nat := (a % m + (m - b % m)) % m

/-- A point of the curve, in coordinates with x = X / Z² and y = Y / Z³: with Z = 0 the point at infinity. -/
abbrev CurvePoint := Nat × Nat × Nat

/-- The double of a point. -/
def curveDouble : CurvePoint → CurvePoint
  | (x, y, z) =>
    let g := y * y % curveP
    let m := 3 * (subMod curveP x (z * z) * (x + z * z)) % curveP
    let b := 4 * x * g % curveP
    let x' := subMod curveP (m * m) (2 * b)
    (x', subMod curveP (m * subMod curveP b x') (8 * g * g), 2 * y * z % curveP)

/-- The sum of two points. -/
def curveAdd : CurvePoint → CurvePoint → CurvePoint
  | (x1, y1, z1), (x2, y2, z2) =>
    if z1 = 0 then (x2, y2, z2)
    else if z2 = 0 then (x1, y1, z1)
    else
      let u := x1 * (z2 * z2) % curveP
      let v := y1 * (z2 * z2 % curveP * z2) % curveP
      let h := subMod curveP (x2 * (z1 * z1)) u
      let r := subMod curveP (y2 * (z1 * z1 % curveP * z1)) v
      if h = 0 then (if r = 0 then curveDouble (x1, y1, z1) else (1, 1, 0))
      else
        let hh := h * h % curveP
        let x := subMod curveP (r * r) (hh * h + 2 * u * hh)
        (x, subMod curveP (r * subMod curveP (u * hh) x) (v * (hh * h % curveP)), z1 * z2 % curveP * h % curveP)

/-- The multiple of a point by the low `n` bits of k. -/
def curveMul : Nat → Nat → CurvePoint → CurvePoint
  | 0, _, _ => (1, 1, 0)
  | n + 1, k, p => let q := curveMul n (k / 2) (curveDouble p); if k % 2 = 1 then curveAdd p q else q

/-- The affine point lies on the curve. -/
def onCurve (x y : Nat) : Bool :=
  x < curveP && y < curveP && y * y % curveP == (x * x * x + curveB + (curveP - 3) * x) % curveP

/-- ECDSA P-256 verification of a hash: public key X followed by Y, signature r followed by s, all big-endian (R104, R110). -/
def ecdsaVerify (pub hash sig : List Byte) : Bool :=
  let x := beNat (pub.take 32)
  let y := beNat (pub.drop 32)
  let r := beNat (sig.take 32)
  let s := beNat (sig.drop 32)
  onCurve x y && 1 ≤ r && r < curveN && 1 ≤ s && s < curveN &&
    (let w := invMod curveN s
     let u := curveMul 256 (beNat hash * w % curveN) curveG
     let v := curveMul 256 (r * w % curveN) (x, y, 1)
     match curveAdd u v with
     | (px, _, pz) => pz != 0 && px * invMod curveP (pz * pz) % curveP % curveN == r)

end Sys2Proof.Machine
end

