-- ==== Sys2Proof/Machine/Image.lean ====
section
/-! DEFINITION. The configuration image: validity of a copy, the comparison of the two copies, firmware slots, and the staging of
the sections (R100 to R115, R118, R388, R416). -/

namespace Sys2Proof.Machine

/-! ### Flash regions -/

/-- Flash offset of a region of R490: 0 copy 0, 1 copy 1, 2 slot A, 3 slot B (R100). -/
def regionBase (r : Nat) : Nat :=
  match r with
  | 0 => 0
  | 1 => 0x400000
  | 2 => 0x200000
  | _ => 0x600000

/-- Bytes in a region. -/
def regionSize : Nat := 0x200000

/-- `n` bytes of a region from an offset. -/
def State.regionBytes (s : State) (r o n : Nat) : List Byte := s.flash.bytes 0xFF (regionBase r + o) n

/-- A little-endian number in a region. -/
def State.regionNat (s : State) (r o n : Nat) : Nat := leNat (s.regionBytes r o n)

/-- The listed bytes of a region, by offset in it. -/
def State.regionCells (s : State) (r : Nat) : Mem :=
  (s.flash.filter fun c => regionBase r ≤ c.1 && c.1 < regionBase r + regionSize).map fun c => (c.1 - regionBase r, c.2)

/-- The lowest address at which two memories in canonical form differ. -/
def firstDiff : Nat → Mem → Mem → Option Nat
  | 0, _, _ => none
  | _ + 1, [], [] => none
  | _ + 1, (a, _) :: _, [] => some a
  | _ + 1, [], (b, _) :: _ => some b
  | n + 1, (a, x) :: r, (b, y) :: q =>
    if a < b then some a else if b < a then some b else if x ≠ y then some a else firstDiff n r q

/-- The lowest offset at which the two copy regions differ (R112). -/
def State.copyDiff (s : State) : Option Nat :=
  let a := s.regionCells 0
  let b := s.regionCells 1
  firstDiff (a.length + b.length + 1) a b

/-- A JEDEC ID whose bytes are all 0x00 or all 0xFF is a read error (R102). -/
def flashReadable (jedec : List Byte) : Bool := !(jedec.all (· == 0) || jedec.all (· == 0xFF))

/-! ### Section table (R106, R107) -/

/-- One section of an image. -/
structure Section where
  kind : Nat
  off : Nat
  len : Nat
  crc : Nat
  deriving DecidableEq, Repr

/-- The section table of a copy. -/
def State.sections (s : State) (r : Nat) : List Section :=
  let tab := s.regionNat r 0x14 4
  (List.range (s.regionNat r 0x13 1)).map fun i =>
    let o := tab + 16 * i
    ⟨s.regionNat r o 2, s.regionNat r (o + 4) 4, s.regionNat r (o + 8) 4, s.regionNat r (o + 12) 4⟩

/-- Two byte ranges do not meet. -/
def apart (a n b m : Nat) : Bool := a + n ≤ b || b + m ≤ a || n == 0 || m == 0

/-- No section overlaps a later one. -/
def sectionsApart : List Section → Bool
  | [] => true
  | x :: r => r.all (fun y => apart x.off x.len y.off y.len) && sectionsApart r

/-- NSECT and every entry meet R106. -/
def State.tableOk (s : State) (r : Nat) : Bool :=
  let n := s.regionNat r 0x13 1
  let tab := s.regionNat r 0x14 4
  let top := s.regionNat r 8 4 - 132
  let ss := s.sections r
  1 ≤ n && n ≤ 32 && 64 ≤ tab && tab + 16 * n ≤ top
    && ss.all (fun x => x.off % 4 == 0 && x.len % 4 == 0 && 64 ≤ x.off && x.off + x.len ≤ top && apart x.off x.len tab (16 * n))
    && sectionsApart ss

/-- Section kinds of R107: all, and those a native image must contain. -/
def sectionKinds : List Nat := [1, 2, 3, 4, 5, 6, 7, 8, 9, 0xF0]
def neededKinds : List Nat := [1, 3, 4, 5, 6, 9]

/-- The kinds of a copy meet R107; in HX940 format CHAN may be absent (R122). -/
def State.kindsOk (s : State) (r : Nat) : Bool :=
  let ks := (s.sections r).map (·.kind)
  let hx940 := s.regionNat r 4 2 == 1
  ks.all sectionKinds.contains && neededKinds.all (fun k => ks.contains k || (hx940 && k == 6))
    && sectionKinds.all fun k => k == 0xF0 || (ks.filter (· == k)).length ≤ 1

/-! ### Validity (R111) -/

/-- COPY_CHECK: the error code of a copy, that of the first check of R111 that fails, and 0 when all pass. -/
def State.copyError (s : State) (r : Nat) (readable : Bool) : Nat :=
  let len := s.regionNat r 8 4
  let part := s.regionNat r 0x10 2
  let hf := s.regionNat r 0x12 1
  if !readable then 0x01
  else if s.regionNat r 0 4 ≠ 0x4F524853 then 0x02
  else if crc32c (s.regionBytes r 0 0x3C) ≠ s.regionNat r 0x3C 4 then 0x03
  else if !(s.regionNat r 4 2 == 2 || (s.regionNat r 4 2 == 1 && s.regionNat r 6 2 % 2 == 1)) then 0x04
  else if !(len % 4 == 0 && 256 ≤ len && len ≤ 2097152) then 0x05
  else if !((part == 0 || part == (match s.part with | .hx962d => 0x962 | .hx961s => 0x961))
      && (hf == 0xFF || hf == (match s.halfId with | .a => 0 | .b => 1))) then 0x06
  else if !s.tableOk r then 0x07
  else if !s.kindsOk r then 0x08
  else if !(s.sections r).all (fun x => crc32c (s.regionBytes r x.off x.len) == x.crc) then 0x09
  else if crc32c (s.regionBytes r 0 (len - 132)) ≠ s.regionNat r (len - 132) 4 then 0x0A
  else
    let key := s.fuse.keyHash.getD (List.replicate 32 0)
    let pub := s.regionBytes r (len - 128) 64
    if !key.any (· != 0) then 0x0B
    else if sha256 pub ≠ key then 0x0C
    else if !ecdsaVerify pub (sha256 (s.regionBytes r 0 (len - 64))) (s.regionBytes r (len - 64) 64) then 0x0D
    else 0

/-- COPY_RESOLVE: BOOT_CASE of the two error codes (R113). -/
def bootCase (c0 c1 : Nat) (differ : Bool) : Nat :=
  if c0 = 0 then (if c1 = 0 then (if differ then 4 else 1) else 2) else if c1 = 0 then 3 else 5

/-! ### Firmware slots (R103) -/

/-- The bytes of a firmware slot, 512 KiB at most. -/
def State.slotBytes (s : State) (slot : Nat) : List Byte := s.regionBytes (2 + slot) 0 0x80000

/-- The listed bytes of a firmware slot, by offset in it. -/
def State.slotCells (s : State) (slot : Nat) : Mem := (s.regionCells (2 + slot)).filter fun c => c.1 < 0x80000

/-- FIRMWARE_SLOT_SELECT (R103): the slot that starts, and whether it was the first checked. -/
def State.firmwareSlot (s : State) (readable : Bool) : Option (Nat × Bool) :=
  let a := s.slotBytes 0
  let b := s.slotBytes 1
  let (one, two) := if Config.firmwareSeq a < Config.firmwareSeq b then (1, 0) else (0, 1)
  let passes (n : Nat) : Bool := readable && Config.firmwareVerify (if n = 0 then a else b)
  if passes one then some (one, true) else if passes two then some (two, false) else none

/-! ### Staging (R108, R118); none stands for a layout error -/

/-- Sections of a kind. -/
def State.sectionBytes (s : State) (r kind : Nat) : Option (List Byte) :=
  ((s.sections r).find? fun x => x.kind == kind).map fun x => s.regionBytes r x.off x.len

/-- A number in a section. -/
def secNat (b : List Byte) (o n : Nat) : Nat := leNat ((b.drop o).take n)

/-- CHAN: use and shared mark of each motor; in its absence M0 alone is used (R108, R122). -/
def State.stageChan (s : State) (b : Option (List Byte)) : Option State :=
  match b with
  | none => some { s with img := { s.img with used := [0], shared := [] } }
  | some b =>
    let v (m : Nat) : Nat := secNat b m 1
    if b.length ≠ 4 ∨ v 3 ≠ 0 ∨ motors.any (fun m => 3 < v m || v m == 2) then none
    else some { s with img := { s.img with used := motors.filter fun m => (v m).testBit 0, shared := motors.filter fun m => (v m).testBit 1 } }

/-- Register records of 8 bytes: offset, 0, value; `member` admits an offset (R107, R108). -/
def stageRecords (member : Nat → Bool) : Nat → List Byte → State → Option State
  | 0, _, s => some s
  | n + 1, b, s =>
    let off := secNat b 0 2
    if (fieldsAt off).isNone ∨ off % 4 ≠ 0 ∨ secNat b 2 2 ≠ 0 ∨ !member off then none
    else stageRecords member n (b.drop 8) (s.swWrite 0x80 off (BitVec.ofNat 32 (secNat b 4 4)))

/-- REGS. -/
def State.stageRegs (s : State) (b : List Byte) : Option State :=
  if b.length % 8 ≠ 0 then none else stageRecords (fun _ => true) (b.length / 8) b s

/-- PROG: LENGTH is 8 × (LAST + 1), LAST as the header gives it (R108, R223). -/
def State.stageProg (s : State) (b : List Byte) : Option State :=
  if b.length % 8 ≠ 0 ∨ b.length < 24 ∨ 0x20000 < b.length ∨ b.length ≠ 8 * (secNat b 8 8 / 2 ^ 16 % 2 ^ 14 + 1) then none
  else some { s with pm0 := s.pm0.setBytes 0 0 b }

/-- Records of ADDR, COUNT and COUNT words below a limit, each word put where `put` says. -/
def stageWords (limit : Nat) (put : Nat → Word → State → State) : Nat → List Byte → State → Option State
  | 0, b, s => if b.isEmpty then some s else none
  | fuel + 1, b, s =>
    if b.isEmpty then some s
    else
      let a := secNat b 0 2
      let n := secNat b 2 2
      if b.length < 4 + 4 * n ∨ a % 4 ≠ 0 ∨ n = 0 ∨ 4096 < n ∨ limit < a + 4 * n then none
      else
        let ws := wordsLe n (b.drop 4)
        let s := ((List.range n).zip ws).foldl (fun s p => put (a + 4 * p.1) p.2 s) s
        stageWords limit put fuel (b.drop (4 + 4 * n)) s

/-- XINIT: each word with its mirror (R108, R255). -/
def State.stageX (s : State) (b : List Byte) : Option State := stageWords 0x4000 (fun a v s => s.setXPair a v) b.length b s

/-- YCOEF: words of Y bank 0. -/
def State.stageY (s : State) (b : List Byte) : Option State :=
  stageWords 0x8000 (fun a v s => { s with ymem0 := s.ymem0.setWord 0 a v }) b.length b s

/-- CTX: entries of 12 bytes, no context twice (R108). -/
def stageContexts : Nat → List Byte → List Nat → State → Option State
  | 0, _, _, s => some s
  | k + 1, b, seen, s =>
    let n := secNat b 0 1
    if 127 < n ∨ seen.contains n ∨ secNat b 1 3 ≠ 0 then none
    else
      let put (s : State) (a o : Nat) : State :=
        s.writeFields 0x80 idxDataOff ((indirectFieldsAt a).getD []) (BitVec.ofNat 32 (secNat b o 4))
      let s := put (put s (0x1300000 + 64 * n) 4) (0x1300004 + 64 * n) 8
      let f := CE_CTX_MASK.MASK (n / 32)
      stageContexts k (b.drop 12) (n :: seen) (s.writeShadow f (s.shadow f ||| 2 ^ (n % 32)) 0x80)

/-- The CTX section. -/
def State.stageCtx (s : State) (b : List Byte) : Option State :=
  if b.length % 12 ≠ 0 ∨ b.isEmpty then none else stageContexts (b.length / 12) b [] s

/-- The own address begins its claim (R416, R418). -/
def State.claim (s : State) (addr : Nat) : State :=
  let s := (s.wr NET_ADDR.ADDR addr).wr NET_ADDR.CLAIM (if addr = 0 then 0 else 1)
  { s with net := { s.net with claimLeft := if addr = 0 then 0 else max 1 (s.rd NET_TIM.CLAIM_N) } }

/-- An entry above 62 is taken as 0 (R416). -/
def roleEntry (a : Nat) : Nat := if 62 < a then 0 else a

/-- ROLE: addresses, write masks, route preferences; without it the address is 0 and every node may write (R81, R108, R122, R416). -/
def State.stageRole (s : State) (b : Option (List Byte)) : Option State :=
  match b with
  | none => some ({ s with img := { s.img with maskA := 2 ^ 64 - 1, maskB := 2 ^ 64 - 1, partner := 0 } } : State)
  | some b =>
    if b.length ≠ 176 then none
    else
      let own := if s.onRingB then 1 else 0
      let s : State := { s with img := { s.img with
        maskA := secNat b 32 8, maskB := secNat b 40 8, partner := roleEntry (secNat b (2 * s.strap + 1 - own) 1) } }
      let s := s.claim (roleEntry (secNat b (2 * s.strap + own) 1))
      some (((List.range 62).map (· + 1)).foldl (fun (s : State) n => s.wr (ROUTE.PREF n) (secNat b (48 + 64 * own + n) 1 % 4)) s)

/-- Descriptor words W0 to W6 of a flow, with EN = 0. W7 holds only counters, which the record does not set (R108). -/
def State.putFlow (s : State) (f : Nat) (b : List Byte) : State :=
  (List.range 7).foldl (fun (s : State) i =>
    let w := secNat b (4 + 4 * i) 4
    s.writeFlow 0x80 (0x3000000 + 32 * f + 4 * i) (BitVec.ofNat 32 (if i = 0 then w % 2 ^ 31 else w))) s

/-- Flow records: numbers whose record holds EN = 1 are kept. -/
def stageFlows : Nat → List Byte → List Nat → State → Option (List Nat × State)
  | 0, _, on, s => some (on, s)
  | k + 1, b, on, s =>
    let f := secNat b 0 1
    if f = 0 ∨ secNat b 1 3 ≠ 0 then none
    else stageFlows k (b.drop 36) (if secNat b 4 4 < 2 ^ 31 then on else f :: on) (s.putFlow f b)

/-- Window records. -/
def stageWindows : Nat → List Byte → State → Option State
  | 0, _, s => some s
  | n + 1, b, s =>
    let k := secNat b 0 1
    if 15 < k ∨ secNat b 1 3 ≠ 0 then none
    else
      let s := (s.swWrite 0x80 (0x2C40 + 8 * k) (BitVec.ofNat 32 (secNat b 4 4))).swWrite 0x80 (0x2C44 + 8 * k)
        (BitVec.ofNat 32 (secNat b 8 4))
      stageWindows n (b.drop 12) s

/-- Enable flows in flow order; a refusal is a layout error (R108, R441). -/
def enableFlows (on : List Nat) : Nat → State → Option State
  | 0, s => some s
  | n + 1, s =>
    let f := 255 - n
    if on.contains f then
      let s := flowEnable f s
      if s.flag (FLOW_W0.EN f) then enableFlows on n s else none
    else enableFlows on n s

/-- SCHED (R108); its flows and windows lie in D8. -/
def State.stageSched (s : State) (b : List Byte) : Option State :=
  let nf := secNat b 0 2
  let nw := secNat b 2 2
  if b.length ≠ 4 + 36 * nf + 12 * nw then none
  else if !s.domOn 8 then some s
  else
    match stageFlows nf (b.drop 4) [] s with
    | none => none
    | some (on, s) =>
      match stageWindows nw (b.drop (4 + 36 * nf)) s with
      | none => none
      | some s => enableFlows on 255 s

/-- The password hash at boot (R388): the image's replaces a blank or older one in the MRAM. -/
def State.takePassword (s : State) (gen : Nat) (salt hash : List Byte) : State :=
  let s := if s.keepArea.pwHash.isNone ∨ s.keepArea.pwGen < gen then
      { s with keepArea := { s.keepArea with pwHash := some hash, pwSalt := salt, pwGen := gen } } else s
  s.wr SAFE_UNL.PW_GEN s.keepArea.pwGen

/-- SAFETY: the password and the members of the set (R108, R382, R388). -/
def State.stageSafety (s : State) (b : List Byte) : Option State :=
  let n := secNat b 52 2
  if b.length ≠ 56 + 8 * n ∨ b.length < 56 ∨ secNat b 1 3 ≠ 0 ∨ secNat b 54 2 ≠ 0 then none
  else
    let s := s.takePassword (secNat b 0 1) ((b.drop 4).take 16) ((b.drop 20).take 32)
    (stageRecords isSetOffset n (b.drop 56) s).map State.renewSetCrc

/-- Stage an optional section. -/
def stageIf (b : Option (List Byte)) (f : List Byte → State → Option State) (s : State) : Option State :=
  match b with
  | none => some s
  | some b => f b s

/-- CONFIG_APPLY: the sections in the order of R118. -/
def State.stageImage (s : State) (r : Nat) : Option State :=
  let sec := s.sectionBytes r
  ((s.stageChan (sec 6)).map State.applyDomains)
    |>.bind (stageIf (sec 5) fun b s => s.stageRegs b)
    |>.bind (stageIf (sec 1) fun b s => s.stageProg b)
    |>.bind (stageIf (sec 2) fun b s => s.stageX b)
    |>.bind (stageIf (sec 3) fun b s => s.stageY b)
    |>.bind (stageIf (sec 4) fun b s => s.stageCtx b)
    |>.bind (fun s => s.stageRole (sec 7))
    |>.bind (stageIf (sec 8) fun b s => s.stageSched b)
    |>.bind (stageIf (sec 9) fun b s => s.stageSafety b)

end Sys2Proof.Machine
end

