-- ==== Sys2Proof/Machine/Boot.lean ====
section
/-! DEFINITION. The boot sequence with its self-tests, and BOOT_FAIL (R116 to R124, R489); the lines of the Bittern log. -/

namespace Sys2Proof.Machine

/-! ### Log ring (R485, R487, R489) -/

/-- Lines of the ring. -/
def logLines : Nat := 8192

/-- The 32 bytes of a line. -/
def State.logLine (s : State) (i : Nat) : List Byte := s.mram.bytes 0 (32 * i) 32

/-- A line has a valid CRC. -/
def lineValid (b : List Byte) : Bool := crc32c (b.take 28) == leNat ((b.drop 28).take 4)

/-- ESEQ of a line. -/
def lineSeq (b : List Byte) : Nat := leNat (b.take 4)

/-- The line after a line, skipping the lines in the bad-line map (R488). -/
def State.nextLine (s : State) (i : Nat) : Nat :=
  (((List.range logLines).map fun k => (i + 1 + k) % logLines).find? fun j => !s.keepArea.badLines.contains j).getD ((i + 1) % logLines)

/-- The newest entry at boot (R489). -/
def State.newestLine (s : State) : Option Nat :=
  (List.range logLines).find? fun i =>
    let b := s.logLine i
    let n := s.logLine (s.nextLine i)
    lineValid b && !s.keepArea.badLines.contains i && !(lineValid n && lineSeq n == (lineSeq b + 1) % 2 ^ 32)

/-- The log registers as the MRAM gives them; an empty ring gives ESEQ 0 and the last line. -/
def State.showLog (s : State) : State :=
  let s := s.wr MGMT_LOG_STAT.BAD_LINES s.keepArea.badLines.length
  match s.newestLine with
  | some i => (s.wr MGMT_LOG_SEQ.NEWEST (lineSeq (s.logLine i))).wr MGMT_LOG_STAT.HEAD i
  | none => (s.wr MGMT_LOG_SEQ.NEWEST 0).wr MGMT_LOG_STAT.HEAD (logLines - 1)

/-! ### BOOT_FAIL (R123) -/

/-- Registers of switched-off domains are lost (R459). -/
def State.loseRegs (s : State) (ds : List Nat) : State :=
  { s with regs := s.regs.filter fun p => !(p.1 / 32 < 0x4000 && ds.contains (domainOf (p.1 / 32))) }

/-- BOOT_FAIL_ENTRY (R123): D0 to D3 and D8 are on, in the ROM form without D8; the half answers with address 0. -/
def State.enterBootFail (s : State) (rom : Bool) : State :=
  let d8 := !rom
  let s := ((s.endTransition.setHalf .bootFail).wr MGMT_BOOT_STAT.BOOT_PHASE 15).loseRegs
    ([4, 5, 6, 7, 10, 11] ++ if d8 then [] else [8])
  let s := s.setDomains (0x0F + if d8 then 0x100 else 0)
  let s := (if d8 then s.claim 0 else s).setFlag SAFE_RSTAT.LINK_UP false
  let s : State := { s with gd := Gd.init, brine := Brine.init, afe := Afe.init, posPort := [], posHall := [],
                            mgmt := { s.mgmt with romForm := rom }, fc := { s.fc with alive := false, faultN := true } }
  if s.domOn 3 then s.fcRefresh else s

/-- Log entry of the boot outcome (TYPE 0x06, R113). -/
def State.logBoot (s : State) : State :=
  let st := wordOfFields s.rd ((fieldsAt 0x3808).getD [])
  s.logEvent 0x06 deviceWriter (s.rd MGMT_BOOT_STAT.BOOT_CASE)
    (dataOf [(1, s.rd MGMT_BOOT_STAT.C0_ERR), (1, s.rd MGMT_BOOT_STAT.C1_ERR), (4, st.toNat), (4, s.rd MGMT_BOOT_DIFF.DIFF_OFFSET),
      (2, 0)])

/-- The time of a step after the start of the boot, in ms (R116). -/
def State.atMs (s : State) (ms : Nat) : State := { s with now := max s.now (s.pwr.bootAt + ms * cecPerMs) }

/-! ### Self-tests (R120) -/

/-- Outcome bits of the series-switch test: high side and low side (R330). -/
def sluiceOutcome (res : Nat) (x : SluiceMeas) : Bool × Bool :=
  match res with
  | 1 => (false, true)
  | 2 => (false, true)
  | 3 => (true, false)
  | 4 => (true, false)
  | 5 => (!x.hsOff, !x.lsOff)
  | _ => (false, false)

/-- The series-switch test of SELFTEST (R381). -/
def State.sluiceSelfTest (s : State) (e : BootEnv) : State :=
  let s := s.startSluiceTest 0
  let s := sluiceTestEnd (if e.aborted then e.sluice else { e.sluice with stop := 6 }) { s with gd := { s.gd with test := some ⟨false, e.aborted, 1⟩ } }
  let (hs, ls) := sluiceOutcome (s.rd SAFE_SLT.RESULT) e.sluice
  (s.setFlag MGMT_BOOT_ST.SLUICE_HS hs).setFlag MGMT_BOOT_ST.SLUICE_LS ls

/-- The test CMP (R120): in four runs of the known-answer test CMP1 and CMP2 both report agreement. -/
def cmpPasses (runs : List (Bool × Bool)) : Bool := runs == List.replicate 4 (true, true)

/-- A run of the test INJ (R10, R268): the known-answer test with bits of one pass-B writeback inverted at the input of CMP1, of CMP2 or of
both, and what else strikes it. What the comparators report: a mismatch of CMP1 and of CMP2 in the writeback that differs first, and a
disagreement in any. The half is left as it was: no fault source is raised and no count changes. -/
def State.injRun (s : State) (e : BootEnv) (r : Nat) : Bool × Bool × Bool :=
  let flip (at_ : HitAt) : KatHit := ⟨at_, e.injAt.1, e.injAt.2.1, e.injAt.2.2⟩
  let hits := match r with
    | 0 => [flip .cmp1]
    | 1 => [flip .cmp2]
    | _ => [flip .cmp1, flip .cmp2]
  let u : State := { s with ce := { s.ce with tStart := s.rd RAKE_TSTART.TSTART, bufA := [], bufB := [], mism := false } }
  let t := ((u.setFlag CE_TR_STAT.CMPDIS false).beginKat (hits ++ e.inj.getD r [])).katDone
  let cmp := (t.ce.katBad.map (·.1)).getD 0
  (cmp.testBit 0, cmp.testBit 1, t.flag CE_TR_STAT.CMPDIS)

/-- The test INJ passes: a bit inverted at the input of CMP1 only, of CMP2 only, and of both, is reported as mismatch of CMP1, mismatch of
CMP2 and disagreement like this; any other result fails. -/
def injPasses (runs : List (Bool × Bool × Bool)) : Bool :=
  runs == [(true, false, true), (false, true, true), (true, true, false)]

/-- The bit of a test that ends the boot: none where all of the first four pass. -/
def State.fatalTest (s : State) (e : BootEnv) : Option Fld :=
  if !e.lbist then some MGMT_BOOT_ST.CE_LBIST
  else if !e.mbist then some MGMT_BOOT_ST.MBIST
  else if !cmpPasses e.cmp then some MGMT_BOOT_ST.CMP
  else if s.flag MGMT_BOOT_STAT.COMPAT && !injPasses ([0, 1, 2].map (s.injRun e)) then some MGMT_BOOT_ST.INJ
  else none

/-- SELF_TEST, step 6: the tests in order; a channel that is not used is skipped. -/
def State.selfTests (s : State) (e : BootEnv) (ms : Nat) : State :=
  match s.fatalTest e with
  | some f => (((s.setFlag f true).setFlag MGMT_BOOT_STAT.ST_FAIL true).atMs ms).logBoot.enterBootFail false
  | none =>
    let gd := (s.usedMotors.filter e.gd.testBit).foldl (fun m k => m + 2 ^ k) 0
    let s := ((s.wr MGMT_BOOT_ST.GD gd).sluiceSelfTest e).wr MGMT_BOOT_ST.SSUP e.ssup
    let fails := gd != 0 || s.flag MGMT_BOOT_ST.SLUICE_HS || s.flag MGMT_BOOT_ST.SLUICE_LS || s.rd MGMT_BOOT_ST.SSUP != 0
    let s := ((s.setFlag MGMT_BOOT_STAT.ST_FAIL fails).wr MGMT_BOOT_STAT.BOOT_PHASE 6).atMs ms
    s.logBoot.enterStandby true

/-! ### Boot (R116) -/

/-- The normal column of R116 holds: the first slot checked and copy 0 are valid. -/
def State.bootFast (s : State) : Bool :=
  (match s.firmwareSlot s.pwr.flashOk with
   | some (_, first) => first
   | none => false) && s.copyError 0 s.pwr.flashOk == 0

/-- A step ends at its normal or its worst time. -/
def State.stepEnd (s : State) (normal worst : Nat) : State := s.atMs (if s.bootFast then normal else worst)

/-- The staged configuration could not be applied (R108, R119). -/
def State.applyFails (s : State) : State :=
  ((s.setFlag MGMT_BOOT_STAT.APPLY_ERR true).stepEnd 106 160).logBoot.enterBootFail false

/-- Step 1: the flash is reset and gives its JEDEC ID (R102); the newest log entry is found (R489). -/
def State.bootRom (s : State) (e : BootEnv) : State :=
  let s := s.applyPart.showIdentity.wr SYS_ID.DIE_STEP Config.dieStep
  let s : State := { s with keepArea := { s.keepArea with bootCount := (s.keepArea.bootCount + 1) % 65536 },
                            pwr := { s.pwr with flashOk := flashReadable e.jedec } }
  (s.showLog.atMs 2).wr MGMT_BOOT_STAT.BOOT_PHASE 1

/-- Step 2: a firmware slot is chosen and started, and the domains of the operating set switch on (R103, R459). The firmware that
runs is held in MP SRAM from its first byte on (DESIGN CHOICE). -/
def State.bootFirmware (s : State) : State :=
  match s.firmwareSlot s.pwr.flashOk with
  | none => (((s.wr MGMT_BOOT_STAT.BOOT_CASE 6).atMs 27).logBoot).enterBootFail true
  | some (slot, _) =>
    let s := s.wr MGMT_BOOT_STAT.FW_SLOT slot
    let s : State := { s with mpSram := s.slotCells slot }
    let s : State := { s with mgmt := { s.mgmt with fwVersion := Config.firmwareVersion (s.mpSram.bytes 0xFF 0 0x80000) } }
    ((s.stepEnd 15 27).applyDomains).wr MGMT_BOOT_STAT.BOOT_PHASE 2

/-- Step 3: both copies are read and compared (R112). -/
def State.bootRead (s : State) : State :=
  let diff := s.copyDiff
  let s := (s.setFlag MGMT_BOOT_DIFF.DIFF_VALID diff.isSome).wr MGMT_BOOT_DIFF.DIFF_OFFSET (diff.getD 0)
  (s.stepEnd 99 111).wr MGMT_BOOT_STAT.BOOT_PHASE 3

/-- Step 4: both copies are checked and resolved (R111, R113). IMG_VER shows the copy that applies from here on, and keeps it where the
apply of step 5 then fails (DESIGN CHOICE). -/
def State.bootCopies (s : State) : State :=
  let c0 := s.copyError 0 s.pwr.flashOk
  let c1 := s.copyError 1 s.pwr.flashOk
  let case_ := bootCase c0 c1 s.copyDiff.isSome
  let s := ((s.wr MGMT_BOOT_STAT.C0_ERR c0).wr MGMT_BOOT_STAT.C1_ERR c1).wr MGMT_BOOT_STAT.BOOT_CASE case_
  let s := s.stepEnd 105 117
  if case_ = 5 then s.logBoot.enterBootFail false
  else
    let r := if case_ = 3 then 1 else 0
    let flags := s.regionNat r 6 2
    let s := (s.setFlag MGMT_BOOT_STAT.COMPAT (flags.testBit 0)).wr MGMT_IMG_INFO.IMG_VER (s.regionNat r 0x0C 4)
    ({ s with autoArm := flags.testBit 1 } : State).wr MGMT_BOOT_STAT.BOOT_PHASE 4

/-- The wake pattern of an exit from WATCH (R407): it leaves in the boot that follows, once the image has set AUTO_WAKE and D11 is on
(DEDUCED). -/
def State.exitWake (s : State) : State :=
  if s.rd PWR_STATE.PREV = HalfState.watch.code ∧ s.flag BRINE_CTRL.AUTO_WAKE then s.sendWake else s

/-- Step 5: the copy that applies is staged, and the MP commits all groups while the Rake does not run; the Rake starts (R118,
R119). Nothing of a copy stays staged where the image has a layout error: the half enters BOOT_FAIL from the state before staging
(DESIGN CHOICE). -/
def State.bootApply (s : State) : State :=
  match s.stageImage (if s.rd MGMT_BOOT_STAT.BOOT_CASE = 3 then 1 else 0) with
  | none => s.applyFails
  | some t =>
    let t := commitApply (commitSnapshot (commit 0x80 0xFF t))
    if t.flag SYS_COMMIT_REJ.COMMIT_REJ then t.applyFails
    else (((t.exitWake.stepEnd 106 160).setHalf .selftest).rakeStart).wr MGMT_BOOT_STAT.BOOT_PHASE 5

/-- The step that BOOT_PHASE names (R127). -/
def State.bootStep (s : State) (e : BootEnv) : State :=
  match s.rd MGMT_BOOT_STAT.BOOT_PHASE with
  | 0 => s.bootRom e
  | 1 => s.bootFirmware
  | 2 => s.bootRead
  | 3 => s.bootCopies
  | 4 => s.bootApply
  | 5 => s.selfTests e (if s.bootFast then 126 else 180)
  | _ => s

/-- The next steps of the boot sequence, `n` at most, until the step in which the command ends or the boot does. -/
def State.runBoot (s : State) (e : BootEnv) : Nat → State
  | 0 => s
  | n + 1 =>
    if (s.half = .boot ∨ s.half = .selftest) ∧ s.rd MGMT_BOOT_STAT.BOOT_PHASE + 1 < e.upTo then (s.bootStep e).runBoot e n else s

/-- POR_RELEASE (R116, R117, R462, R463, R476), from which time counts: a half in OFF is powered; the boot sequence of a half in BOOT or SELFTEST goes on, after
POR release, after a wake and after a half reset, to its end or into the step that the command names. -/
def porRelease (e : BootEnv) (s : State) : State :=
  (if s.half = .off then State.beginBoot { s with now := 0, cec := 0 } else s).runBoot e 6

/-- BOOT_TMO (R116, R340): neither STANDBY nor BOOT_FAIL 180 ms after the start of the boot. An outcome of R113 that has been resolved
is entered in the log. -/
def bootTmo (s : State) : State :=
  if s.half = .boot ∨ s.half = .selftest then
    let s := s.atMs 180
    let s := if s.rd MGMT_BOOT_STAT.BOOT_PHASE = 4 ∨ s.rd MGMT_BOOT_STAT.BOOT_PHASE = 5 then s.logBoot else s
    let s := if s.domOn 3 then
        ((s.keepOccur srcBootTmo 0).markEvent srcBootTmo).logOccur srcBootTmo 0 (Config.logCode 0x01 srcBootTmo)
      else s
    s.enterBootFail false
  else s

end Sys2Proof.Machine
end

