-- ==== Sys2Proof/Machine/Mgmt.lean ====
section
/-! DEFINITION. Mailbox services, sensors and monitors, the Bittern log, flash update and key provisioning (R477 to R493). -/

namespace Sys2Proof.Machine

/-! ### Serving a request (R478 to R480) -/

/-- Service numbers of R480. -/
def services : List Nat :=
  [0x01, 0x02, 0x10, 0x11, 0x20, 0x30, 0x31, 0x32, 0x33, 0x34, 0x35, 0x40, 0x41, 0x42, 0x50, 0x60]

/-- Requests at the head of the queue that name no service are answered with BAD_SVC. -/
def State.dropUnknown (s : State) : List MboxReq → State
  | [] => { s with mgmt := { s.mgmt with queue := [] } }
  | m :: r =>
    if services.contains (svcOf m.bytes) then { s with mgmt := { s.mgmt with queue := m :: r } }
    else (s.answer m.reply (svcOf m.bytes) mbBadSvc 0 []).dropUnknown r

/-- LEN fits the service and the request (R477, R480). -/
def lenOk (svc : Nat) (b : List Byte) : Bool :=
  let n := lenOf b
  4 + n ≤ b.length && 4 + n ≤ 512 &&
    (match svc with
     | 0x10 => n == 4
     | 0x11 => n == 12
     | 0x30 => n == 4
     | 0x31 => 9 ≤ n && n ≤ 264
     | 0x32 => n == 10
     | 0x33 => n == 1
     | 0x50 => n == 2
     | 0x60 => n == 32
     | _ => n == 0)

/-- The states that R480 abbreviates svc. -/
def svcState (h : HalfState) : Bool :=
  h == .standby || h == .armed || h == .limp || h == .safe || h == .lockout || h == .update || h == .bootFail

/-- The half state admits the service (R480, R492). -/
def State.stateOk (s : State) (svc : Nat) (args : List Byte) : Bool :=
  let h := s.half
  if s.mgmt.romForm && h == .bootFail then
    svc == 0x40 || ((svc == 0x30 || svc == 0x31) && 2 ≤ secNat args 0 1 && secNat args 0 1 ≤ 3)
  else if h == .boot || h == .selftest then svc == 1 || svc == 2
  else if 0x30 ≤ svc ∧ svc ≤ 0x34 then svcState h
  else if svc = 0x35 then h == .standby || h == .armed || h == .limp || h == .safe
  else if svc = 0x40 then h != .lockout
  else if svc = 0x41 then h == .standby
  else if svc = 0x42 then h == .update
  else if svc = 0x50 then h == .armed
  else if svc = 0x60 then h == .standby || h == .bootFail
  else true

/-- The writer may use the service (R480): PROVISION_KEY only host SPI, whichever way its request came (R498). -/
def State.writerOk (s : State) (svc : Nat) (r : Reply) : Bool :=
  if svc = 0x60 then r.path == 4 && r.writer == 0
  else if svc = 1 ∨ svc = 2 ∨ svc = 0x10 ∨ svc = 0x20 then true
  else s.permitted r.writer

/-- Serve the request at the head of the queue if it is for the service: a failed check is answered without acting. -/
def State.serve (s : State) (svc : Nat) (act : Reply → List Byte → State → State) : State :=
  let s := s.dropUnknown s.mgmt.queue
  match s.mgmt.queue with
  | [] => s
  | m :: r =>
    if svcOf m.bytes ≠ svc then s
    else
      let s : State := { s with mgmt := { s.mgmt with queue := r } }
      let args := argsOf m.bytes
      if !lenOk svc m.bytes then s.answer m.reply svc mbBadLen 0 []
      else if !s.stateOk svc args then s.answer m.reply svc mbState s.half.code []
      else if !s.writerOk svc m.reply then s.answer m.reply svc mbWriter 0 []
      else act m.reply args s

/-- Answer OK with data. -/
def State.ok (s : State) (r : Reply) (svc : Nat) (data : List Byte) : State := s.answer r svc mbOk 0 data

/-- The word of a direct register. -/
def State.regWord (s : State) (off : Nat) : Word := s.fieldWord false ((fieldsAt off).getD [])

/-- Words as bytes, least significant first. -/
def State.regBytes (s : State) (offs : List Nat) : List Byte := offs.flatMap fun o => leBytes 4 (s.regWord o).toNat

/-- IDENT. -/
def ident (s : State) : State := s.serve 1 fun r _ s => s.ok r 1 s.identityBlock

/-- STATUS. -/
def status (s : State) : State :=
  s.serve 2 fun r _ s => s.ok r 2 (s.regBytes [0x3400, 0x3800, 0x380C, 0x2000, 0x2400, 0x3850, 0x3858])

/-- SENSORS. -/
def sensors (s : State) : State :=
  s.serve 0x20 fun r _ s =>
    s.ok r 0x20 (s.regBytes ((List.range 3).map (0x3860 + 4 * ·) ++ (List.range 12).map (0x3870 + 4 * ·)))

/-! ### Bittern log (R487 to R489) -/

/-- The bytes of an entry (R487). -/
def State.entryBytes (s : State) (seq : Nat) (e : LogEvent) : List Byte :=
  let b := dataOf [(4, seq), (2, s.keepArea.bootCount), (6, s.now / cecPerUs), (1, e.typ), (1, e.writer), (2, e.aux)] ++ fitBytes 12 e.data
  b ++ leBytes 4 (crc32c b)

/-- An entry is lost. -/
def State.loseEntry (s : State) : State := { s.count MGMT_LOG_STAT.LOST_CNT with logQueue := s.logQueue.drop 1 }

/-- LOG_WRITE (R488): the MP writes the oldest event to the next line and reads it back; `held` is what the line holds when the
read-back differs. -/
def logWrite (held : Option (List Byte)) (s : State) : State :=
  match s.logQueue with
  | [] => s
  | e :: _ =>
    if !(svcState s.half) then s
    else
      let recent := s.mgmt.logTimes.filter fun t => s.now - t < 1000 * cecPerMs
      if 2000 ≤ recent.length then s.loseEntry
      else
        let line := s.nextLine (s.rd MGMT_LOG_STAT.HEAD)
        let seq := (s.rd MGMT_LOG_SEQ.NEWEST + 1) % 2 ^ 32
        let want := s.entryBytes seq e
        let got := fitBytes 32 (held.getD want)
        let s : State := { s with mram := s.mram.setBytes 0 (32 * line) got, mgmt := { s.mgmt with logTimes := s.now :: recent } }
        if got = want then
          { (s.wr MGMT_LOG_SEQ.NEWEST seq).wr MGMT_LOG_STAT.HEAD line with logQueue := s.logQueue.drop 1 }
        else
          let s := s.report srcLogFail 0
          if 64 ≤ s.keepArea.badLines.length then s.loseEntry
          else
            let s : State := { s with keepArea := { s.keepArea with badLines := s.keepArea.badLines ++ [line] } }
            s.wr MGMT_LOG_STAT.BAD_LINES s.keepArea.badLines.length

/-- The retained entries at or after an ESEQ, in ESEQ order (R489); a line of the bad-line map holds none (R488). -/
def State.entriesFrom (s : State) (seq : Nat) : List (List Byte) :=
  let head := s.rd MGMT_LOG_STAT.HEAD
  let used := ((List.range logLines).map fun k => (head + 1 + k) % logLines).filter fun i => !s.keepArea.badLines.contains i
  (used.map s.logLine).filter fun b => lineValid b && decide ((lineSeq b + 2 ^ 32 - seq) % 2 ^ 32 < 2 ^ 31)

/-- LOG_READ. -/
def logRead (s : State) : State :=
  s.serve 0x10 fun r a s =>
    let es := (s.entriesFrom (secNat a 0 4)).take 11
    s.ok r 0x10 (dataOf [(4, s.rd MGMT_LOG_SEQ.NEWEST), (1, es.length), (3, 0)] ++ es.flatten)

/-- LOG_MARK. -/
def logMark (s : State) : State := s.serve 0x11 fun r a s => (s.logEvent 0x0F r.writer 0 a).ok r 0x11 []

/-! ### Flash services (R490, R491) -/

/-- Result of a flash service in the log (TYPE 0x0A). -/
def State.logFlash (s : State) (svc status region bytes writer : Nat) : State :=
  s.logEvent 0x0A writer svc (dataOf [(1, status), (1, s.rd MGMT_UPD.CHECK), (1, region), (1, 0), (4, bytes), (4, 0)])

/-- The region is the firmware slot that runs. -/
def State.runningSlot (s : State) (region : Nat) : Bool := !s.mgmt.romForm && region == 2 + s.rd MGMT_BOOT_STAT.FW_SLOT

/-- IMG_COMMIT or IMG_REPAIR runs. -/
def State.copying (s : State) : Bool :=
  match s.mgmt.long with
  | some l => l.svc == 0x34 || l.svc == 0x35
  | none => false

/-- A long service starts (R480): STARTED is answered, and its start is logged. -/
def State.startLong (s : State) (r : Reply) (l : LongSvc) : State :=
  let s := ((((s.wr MGMT_UPD.SVC l.svc).wr MGMT_UPD.STATUS 0).wr MGMT_UPD.CHECK 0).setFlag MGMT_UPD.BUSY true).wr MGMT_UPD_PROG.BYTES 0
  let s := s.logFlash l.svc mbStarted l.region 0 l.writer
  ({ s with mgmt := { s.mgmt with long := some l } } : State).answer r l.svc mbStarted 0 []

/-- FLASH_ERASE: the blocks are erased from its start on; what R490 refuses with BAD_ARG is refused while another service runs too. -/
def flashErase (s : State) : State :=
  s.serve 0x30 fun r a s =>
    let region := secNat a 0 1
    let block := secNat a 2 1
    let count := secNat a 3 1
    if 3 < region ∨ secNat a 1 1 ≠ 0 ∨ count = 0 ∨ 32 < block + count ∨ s.runningSlot region ∨ (region ≤ 1 ∧ s.copying) then
      s.answer r 0x30 mbBadArg 0 []
    else if s.mgmt.long.isSome then s.answer r 0x30 mbBusy 0 []
    else
      let s : State := { s with flash := s.flash.clear (regionBase region + 0x10000 * block) (0x10000 * count) }
      s.startLong r ⟨0x30, region, block, count, r.writer⟩

/-- What a page holds after programming bytes over the bytes it held: programming clears bits only. -/
def programmed (old new : List Byte) : List Byte := (old.zip new).map fun p => p.1 &&& p.2

/-- FLASH_WRITE: `held` is what the flash holds when it has not programmed the bytes as it should; a read-back that differs gives
FLASH (R490). -/
def flashWrite (held : Option (List Byte)) (s : State) : State :=
  s.serve 0x31 fun r a s =>
    let region := secNat a 0 1
    let off := secNat a 4 4
    let data := a.drop 8
    let n := data.length
    if 3 < region ∨ secNat a 1 3 ≠ 0 ∨ regionSize < off + n ∨ 256 < off % 256 + n ∨ s.runningSlot region
        ∨ (region ≤ 1 ∧ s.copying) then s.answer r 0x31 mbBadArg 0 []
    else
      let got := fitBytes n (held.getD (programmed (s.regionBytes region off n) data))
      let s : State := { s with flash := s.flash.setBytes 0xFF (regionBase region + off) got }
      let st := if got = data then mbOk else mbFlash
      (s.logFlash 0x31 st region n r.writer).answer r 0x31 st 0 []

/-- FLASH_READ. -/
def flashRead (s : State) : State :=
  s.serve 0x32 fun r a s =>
    let region := secNat a 0 1
    let off := secNat a 4 4
    let n := secNat a 8 2
    if 3 < region ∨ secNat a 1 3 ≠ 0 ∨ 256 < n ∨ regionSize < off + n then s.answer r 0x32 mbBadArg 0 []
    else s.ok r 0x32 (s.regionBytes region off n)

/-- VERIFY starts. -/
def verify (s : State) : State :=
  s.serve 0x33 fun r a s =>
    if s.mgmt.long.isSome then s.answer r 0x33 mbBusy 0 []
    else if 3 < secNat a 0 1 then s.answer r 0x33 mbBadArg 0 []
    else s.startLong r ⟨0x33, secNat a 0 1, 0, 0, r.writer⟩

/-- IMG_COMMIT starts: copy 1 is verified, and a good one has block 0 of copy 0 erased at once (R491). -/
def imgCommit (s : State) : State :=
  s.serve 0x34 fun r _ s =>
    if s.mgmt.long.isSome then s.answer r 0x34 mbBusy 0 []
    else
      let code := s.copyError 1 true
      let s := s.startLong r ⟨0x34, 0, 0, 0, r.writer⟩
      let s := s.wr MGMT_UPD.CHECK code
      if code = 0 then { s with flash := s.flash.clear 0 0x10000 } else s

/-- IMG_REPAIR starts: the valid copy is to replace the invalid one (R115). -/
def imgRepair (s : State) : State :=
  s.serve 0x35 fun r _ s =>
    let c := s.rd MGMT_BOOT_STAT.BOOT_CASE
    if s.mgmt.long.isSome then s.answer r 0x35 mbBusy 0 []
    else if c = 4 then s.answer r 0x35 mbCase4 0 []
    else if c = 2 ∨ c = 3 then s.startLong r ⟨0x35, if c = 2 then 1 else 0, 0, 0, r.writer⟩
    else s.answer r 0x35 mbBadArg 0 []

/-- Region `dst` (a copy) holds what the other copy holds. -/
def State.copyRegion (s : State) (dst : Nat) : State :=
  let base := regionBase dst
  let below := s.flash.filter fun c => c.1 < base
  let above := s.flash.filter fun c => base + regionSize ≤ c.1
  { s with flash := below ++ ((s.regionCells (1 - dst)).map fun c => (base + c.1, c.2)) ++ above }

/-- What VERIFY finds (R491). -/
def State.verifyCode (s : State) (region : Nat) : Nat :=
  if region ≤ 1 then s.copyError region true
  else if Config.firmwareVerify (s.slotBytes (region - 2)) then 0 else 0x0D

/-- A long service ends with its outcome. -/
def State.endLong (s : State) (l : LongSvc) (status bytes : Nat) : State :=
  let s := ((s.wr MGMT_UPD.STATUS status).setFlag MGMT_UPD.BUSY false).wr MGMT_UPD_PROG.BYTES bytes
  ({ s with mgmt := { s.mgmt with long := none } } : State).logFlash l.svc status l.region bytes l.writer

/-- LONG_SERVICE_DONE (R480, R491): the running service ends; `fails` says that a program or an erase did not complete. The status
of an IMG_COMMIT that stops at its check is a free value. -/
def longServiceDone (fails : Bool) (s : State) : State :=
  match s.mgmt.long with
  | none => s
  | some l =>
    if l.svc = 0x30 then s.endLong l (if fails then mbFlash else mbOk) (0x10000 * l.count)
    else if l.svc = 0x33 then (s.wr MGMT_UPD.CHECK (s.verifyCode l.region)).endLong l mbOk regionSize
    else if l.svc = 0x34 ∧ s.rd MGMT_UPD.CHECK ≠ 0 then
      let (v, s) := s.draw
      s.endLong l (v % 256) 0
    else
      let s := if fails then s else s.copyRegion l.region
      s.endLong l (if fails ∨ s.copyDiff.isSome then mbFlash else mbOk) regionSize

/-! ### Reset, update, handover and key services (R484, R492, R493) -/

/-- HALF_RESET. -/
def halfReset (s : State) : State := s.serve 0x40 fun r _ s => (s.ok r 0x40 []).halfResetDue

/-- UPDATE_ENTER: the half enters UPDATE at the next tick boundary. -/
def updateEnter (s : State) : State :=
  s.serve 0x41 fun r _ s => ({ s with ho := { s.ho with toUpdate := true } } : State).ok r 0x41 []

/-- UPDATE_END (R492, R497): the boot begins; after an update under R495 the flag in D0 is set. -/
def updateEnd (s : State) : State :=
  s.serve 0x42 fun r _ s =>
    let s := s.ok r 0x42 []
    ({ s with ho := { s.ho with flag := s.ho.flag || s.ho.inUpdate } } : State).halfResetDue

/-- HANDOVER (R493, R496): a request that meets every condition starts a handover; one with no motor aborts a ramp. -/
def handover (s : State) : State :=
  s.serve 0x50 fun r a s =>
    let mask := secNat a 0 1
    let shares (m : Nat) : Bool := !mask.testBit m || (s.img.shared.contains m && s.rd (FIELD_SHARE.SRC m) == 1)
    if mask = 0 ∧ s.inRamp then (s.abortHo 8).ok r 0x50 (leBytes 2 (s.rd MGMT_HO.HO_ID))
    else if mask = 0 ∨ 8 ≤ mask ∨ secNat a 1 1 ≠ 1 ∨ !motors.all shares then s.answer r 0x50 mbBadArg 0 []
    else if s.copy ≠ 0 ∨ s.hstate ≠ hoIdle then s.answer r 0x50 mbState s.half.code []
    else
      let id := (s.rd MGMT_HO.HO_ID + 1) % 65536
      let s := (s.wr MGMT_HO.HO_ID id).wr MGMT_HO.REASON 0
      let s : State := { s with ho := { s.ho with mask := mask, ramp := false, since := s.now, out := false } }
      let s := s.sendHo 0x10 (dataOf [(2, id), (1, mask), (1, 0), (4, s.nextImgVer)])
      (s.enterHo hoAsk).ok r 0x50 (leBytes 2 id)

/-- A hash of all zeros is blank (R110). -/
def blankHash (h : Option (List Byte)) : Bool := (h.getD []).all (· == 0)

/-- PROVISION_KEY (R484): `held` is what the OTP holds when the read-back differs. -/
def provisionKey (held : Option (List Byte)) (s : State) : State :=
  s.serve 0x60 fun r a s =>
    if !blankHash s.fuse.keyHash then s.answer r 0x60 mbOtpUsed 0 []
    else
      let got := fitBytes 32 (held.getD a)
      let s : State := { s with fuse := { s.fuse with keyHash := some got } }
      s.answer r 0x60 (if got = a then mbOk else mbFlash) 0 []

/-! ### Sensors and monitors (R481, R482) -/

/-- Keep the time since which a condition holds, by key. -/
def since (holds : Bool) (now k : Nat) (m : List (Nat × Nat)) : List (Nat × Nat) :=
  if !holds then erase m k else if m.any fun p => p.1 == k then m else place m k now

/-- A condition has held for 1 ms. -/
def heldMs (m : List (Nat × Nat)) (now k : Nat) : Bool :=
  match m.find? fun p => p.1 == k with
  | some p => decide (cecPerMs ≤ now - p.2)
  | none => false

/-- Sensors 0 to 5. -/
def tempSensors : List Nat := [0, 1, 2, 3, 4, 5]

/-- Judge one threshold over all sensors: `base` separates the two thresholds' records. -/
def State.judgeTemp (s : State) (temps : List Int) (limit src base : Nat) : State :=
  let t (k : Nat) : Int := temps.getD k 0
  let hot := tempSensors.foldl (fun m k => since (decide ((limit : Int) * 16 ≤ t k)) s.now (base + k) m) s.mgmt.hotSince
  let cool := tempSensors.foldl (fun m k => since (decide (t k ≤ ((limit : Int) - 5) * 16)) s.now (base + k) m) s.mgmt.coolSince
  let s : State := { s with mgmt := { s.mgmt with hotSince := hot, coolSince := cool } }
  let s := tempSensors.foldl (fun (s : State) k => if heldMs hot s.now (base + k) then s.raise src k else s) s
  if tempSensors.all fun k => heldMs cool s.now (base + k) then tempSensors.foldl (fun (s : State) k => s.lower src k) s else s

/-- SENSOR_POLL (R481): the six readings, signed, in steps of 0.0625 °C. -/
def sensorPoll (temps : List Int) (s : State) : State :=
  if s.half = .off ∨ s.half = .watch then s
  else
    let t (k : Nat) : Int := temps.getD k 0
    let s := [0, 1, 2].foldl (fun (s : State) k => (s.wrInt (MGMT_TEMP.T_EVEN k) (t (2 * k))).wrInt (MGMT_TEMP.T_ODD k) (t (2 * k + 1))) s
    (s.judgeTemp temps (s.rd MGMT_TLIM.WARN) srcTempWarn 0).judgeTemp temps (s.rd MGMT_TLIM.CRIT) srcTempCrit 8

/-- Windows of the supply monitors in their LSB (R482); none for VCPO − VSUP and VBR. -/
def supWindow (k : Nat) : Option (Nat × Nat) :=
  [(600, 6000), (10000, 15000), (3000, 3600), (760, 840), (740, 860), (760, 840), (1710, 1890), (1584, 1616), (1710, 1890),
   (4750, 5250)][k]?

/-- SUPPLY_POLL (R482): the twelve readings in the LSB of R482. -/
def supplyPoll (vals : List Nat) (s : State) : State :=
  if s.half = .off ∨ s.half = .watch then s
  else
    (List.range 12).foldl (fun (s : State) k =>
      let v := vals.getD k 0
      let s := s.wr (MGMT_SUP.VALUE k) v
      match supWindow k with
      | none => s
      | some (lo, hi) =>
        let out := v < lo || hi < v
        let m := since (!out) s.now (k + 16) (since out s.now k s.mgmt.supSince)
        let s : State := { s.setFlag (MGMT_SUP.OUT k) out with mgmt := { s.mgmt with supSince := m } }
        let s := if heldMs m s.now k then s.raise srcSupRange k else s
        if heldMs m s.now (k + 16) then s.lower srcSupRange k else s) s

/-- MP_LOCKSTEP (R340, R479, R492): the MP restarts; a long service ends without a result. -/
def mpLockstep (s : State) : State := ((s.report srcMpLockstep 0).setFlag MGMT_UPD.BUSY false).restartAnswers

end Sys2Proof.Machine
end

