-- ==== Sys2Proof/Machine/Requests.lean ====
section
/-! DEFINITION. Requests from the fabric and the CAN FD ports (R80, R81, R436, R456) and the bulk units received over the Brine
link (R405, R427, R453). -/

namespace Sys2Proof.Machine

/-! ### Register records (R80) -/

/-- Execute the records of a register frame in order, with `budget` data words left: each gives a STATUS byte and any read data. A
record that is cut short, or that would pass 64 data words, ends the frame. A record carries no SEQ, and bits [3:0] of its
STATUS are 0 (DESIGN CHOICE). -/
def State.runRecords (s : State) (w : Nat) (bs : List Beside) : Nat → Nat → List Byte → List Byte × State
  | 0, _, _ => ([], s)
  | fuel + 1, budget, b =>
    if b.length < 4 then ([], s)
    else
      let op := (b.getD 0 0).toNat
      let n := (b.getD 1 0).toNat + 1
      let off := leNat ((b.drop 2).take 2)
      let write := op.testBit 7
      let size := if write then 4 + 4 * n else 4
      if budget < n ∨ b.length < size then ([], s)
      else
        let (out, s) : List Byte × State :=
          if off % 4 ≠ 0 then
            let (_, st, s) := s.traced off 0 fun s => ((), if write && s.turnedAway w off then (s.ignored off).addrErr else s.addrErr)
            (BitVec.ofNat 8 st :: (if write then [] else zeros (4 * n)), s.keepSys s)
          else if write then
            let (st, s) := s.writeBurst w off (64 - budget) bs (wordsLe n (b.drop 4))
            ([BitVec.ofNat 8 st], s)
          else
            let (xs, st, s) := s.readBurst 1 (op.testBit 6) off (64 - budget) bs n
            (BitVec.ofNat 8 st :: xs.flatMap fun x => leBytes 4 x.toNat, s)
        let (rest, s) := s.runRecords w bs fuel (budget - n) (b.drop size)
        (out ++ rest, s)

/-- A REG_REQ that has been delivered: executed unless it is a duplicate, and answered with a REG_RSP. -/
def State.registerRequest (s : State) (r : Reply) (payload : List Byte) (bs : List Beside) : State :=
  match s.admitRequest r with
  | (false, s) => s
  | (true, s) =>
    let (out, s) := s.runRecords r.writer bs 64 64 payload
    (s.serveRest 1 s.sys.waiting.length).respond r 2 out

/-- A MBOX_REQ that has been delivered: entered into the mailbox unless it is a duplicate. -/
def State.mailboxRequest (s : State) (r : Reply) (payload : List Byte) : State :=
  match s.admitRequest r with
  | (false, s) => s
  | (true, s) => s.mboxPost r payload

/-! ### From the fabric -/

/-- Where a fabric request came from (R93, R413, R455): the ring is SRC[6]. -/
def State.fabricReply (s : State) (q : Nat) (f : FabFrame) : Reply :=
  let ring := f.src / 64 % 2
  { path := ring, port := q, linkLocal := f.dst % 64 == 0, node := f.src % 64, flow := f.flow, reqId := f.reqId,
    writer := (if ring = s.ring then 0x40 else 0xC0) + f.src % 64 }

/-- A half with address 0 answers requests only in link-local frames (R122, R419). -/
def State.takesRequest (s : State) (f : FabFrame) : Bool := s.heldAddr != 0 || f.dst % 64 == 0

/-- REG_REQ (R80, R81, R83, R85, R122, R419, R425, R456), with what happens beside the words of its records. -/
def regReq (q : Nat) (idle : Bool) (f : FabFrame) (bs : List Beside) (s : State) : State :=
  match s.arrive q idle f with
  | (true, s) => if s.takesRequest f then s.registerRequest (s.fabricReply q f) f.payload bs else s
  | (false, s) => s

/-- MBOX_REQ (R419, R425, R456, R478). -/
def mboxReq (q : Nat) (idle : Bool) (f : FabFrame) (s : State) : State :=
  match s.arrive q idle f with
  | (true, s) => if s.takesRequest f then s.mailboxRequest (s.fabricReply q f) f.payload else s
  | (false, s) => s

/-! ### From a CAN FD port (R436) -/

/-- The receive entry of controller `c` that maps a frame. -/
def State.canEntry (s : State) (c : Nat) (f : CanFrame) : Option Nat :=
  (List.range 8).find? fun k =>
    let (en, dir, ide, id) := canId s c k
    en && !dir && ide == f.ide && id % (if ide then 2 ^ 29 else 2 ^ 11) == f.id

/-- DISC_CNT of a controller. -/
def canDisc (c : Nat) : Fld := NET_CAN_STAT.DISC_CNT c

/-- A mapped frame is whole: CAN FD, 12 to 64 bytes, and its CRC-32C right. -/
def canWhole (f : CanFrame) : Bool :=
  let n := f.data.length
  f.fd && 12 ≤ n && n ≤ 64
    && leNat (f.data.drop (n - 4)) == crc32c (leBytes 4 (canIdWord f.ide f.id) ++ f.data.take (n - 4))

/-- Store a record received on CAN FD in its flow (R440, R442, R444). -/
def State.canRecord (s : State) (c flow seq : Nat) (record : List Byte) : State :=
  if s.flowOn flow && (s.kindOf flow == 0 || s.kindOf flow == 1) then
    (s.wr (FLOW_W6.SEQ flow) seq).receiveRecord flow ⟨s.rd (NET_CAN_CFG.NODE c), 17, seq, s.gptpNow⟩ record
  else s.count PAN_CNT0.NOFLOW_CNT

/-- CAN_FRAME_RX (R81, R83, R85, R435, R436): a frame on controller `c`, after what else happened on its bus, with what happens beside the words
of its records. A frame of an unmapped identifier is received, and the spec gives it no place to go. With FD = 0 the controller takes no CAN
FD frame: one on the bus is a receive error (DESIGN CHOICE). -/
def canFrameRx (c : Nat) (evs : List CanEvent) (f : CanFrame) (bs : List Beside) (s : State) : State :=
  let s := evs.foldl (State.canEvent c) s
  if !s.flag (NET_CAN_CFG.EN c) || !s.domOn 9 || s.busOff c then s
  else if f.fd && !s.canOn c then State.canEvent c s .rxError
  else
    let s := s.canHeard c
    match s.canEntry c f with
    | none => s
    | some k =>
      if !canWhole f then s.count (canDisc c)
      else
        let flow := canFlow s c k
        let payload := (f.data.take (f.data.length - 4)).drop 4
        let r : Reply := { path := 2 + c, port := 0, linkLocal := false, node := s.rd (NET_CAN_CFG.NODE c), flow := flow,
                           reqId := leNat ((f.data.drop 2).take 2), writer := 0x20 + c }
        match (f.data.getD 1 0).toNat with
        | 1 => s.registerRequest r payload bs
        | 3 => s.mailboxRequest r payload
        | 0 | 2 | 4 => s.canRecord c flow (f.data.getD 0 0).toNat payload
        | _ => s

/-! ### From the Brine link -/

/-- Deliver a frame that has crossed from the other ring and is for this half (R425). -/
def State.deliverCrossed (s : State) (f : FabFrame) (bs : List Beside) : State :=
  match s.takeNew f with
  | (false, s) => s
  | (true, s) =>
    match f.typ with
    | 0 => s.deliverData f
    | 1 => if s.takesRequest f then s.registerRequest (s.fabricReply 0 f) f.payload bs else s
    | 2 | 4 => s.deliverRecord f
    | 3 => if s.takesRequest f then s.mailboxRequest (s.fabricReply 0 f) f.payload else s
    | _ => s

/-- A frame is whole in the transit pool (R427): XRING is set, and it goes into the own ring by R422, one forwarding node further (R413), or is
delivered here. -/
def State.crossIn (s : State) (f : FabFrame) (bs : List Beside) : State :=
  let f := { f with flags := if f.flags.testBit 1 then f.flags else f.flags + 2 }
  let mine := f.dst % 64 ≠ 0 ∧ s.forMe f
  let on := f.dst % 64 ≠ 0 ∧ (f.dst % 64 = 63 ∨ ¬ mine)
  let s := if on then
      if 62 < f.hops + 1 then s.count NET_CNT0.HOP_DROP
      else match s.routePorts (f.dst % 64) with
        | [] => s.routeMiss f
        | ps => s.toTransit ⟨false, ps, { f with hops := f.hops + 1 }⟩
    else s
  if mine then s.deliverCrossed f bs else s

/-- Bytes of the frame being received, once a unit has joined it; a first unit begins anew (R405). -/
def State.grown (s : State) (u : Nat × List Byte) : List Byte :=
  if u.1.testBit 0 then u.2 else s.brine.rxBytes ++ u.2

/-- The transit pool has room for a unit beside the frames it holds (R452, R453). -/
def State.unitRoom (s : State) (u : Nat × List Byte) : Bool :=
  let b := s.grown u
  let need := if u.1.testBit 1 then frameUnits (frameOfBytes b) else (b.length + 63) / 64
  decide (s.transitFrames + s.otherUnits + need ≤ s.rd PAN_CTRL.XBUF)

/-- Return credits of a class (R405). -/
def State.giveCredit (s : State) (cls n : Nat) : State := s.launch (.credit (creditSlots cls n)) 2

/-- Move a class 0 unit into the transit pool and return its credit (R453). -/
def State.moveUnit (s : State) (u : Nat × List Byte) (bs : List Beside) : State :=
  let b := s.grown u
  let s := (s.wr BRINE_BULK.RX_USED0 (s.rd BRINE_BULK.RX_USED0 - 1)).giveCredit 0 1
  if u.1.testBit 1 then
    (State.showTransit { s with brine := { s.brine with rxBytes := [] } }).crossIn (frameOfBytes b) bs
  else State.showTransit { s with brine := { s.brine with rxBytes := b } }

/-- Move the waiting units in order while the pool has room; `bs` is what happens beside the words of a request they complete. -/
def State.moveUnits (s : State) (bs : List Beside) : List (Nat × List Byte) → State
  | [] => { s with brine := { s.brine with rxWait := [] } }
  | u :: r => if s.unitRoom u then (s.moveUnit u bs).moveUnits bs r else { s with brine := { s.brine with rxWait := u :: r } }

/-- Units withheld for want of room move as soon as the pool has it (R453). -/
def State.drainUnits (s : State) (bs : List Beside) : State := if s.brine.rxWait = [] then s else s.moveUnits bs s.brine.rxWait

/-- A discarded unit: its credit is returned (R405). -/
def State.discardUnit (s : State) (cls : Nat) : State :=
  ((s.setFlag BRINE_EVT.BULK_DISC true).count BRINE_CNT1.BULK_DISC_CNT).giveCredit cls 1

/-- The class of a unit, of its slots where its bytes cannot be trusted: a free value where the symbol is no data. -/
def State.unitClass (s : State) (slots : List LaneSlot) : Nat × State :=
  match (laneBytes ((frameIn .k283 slots).drop 1))[1]? with
  | some (some c) => (c.toNat % 2, s)
  | _ =>
    let (x, s) := s.draw
    (x % 2, s)

/-- A unit of valid symbols and framing (R405, R427, R446, R452, R453). -/
def State.takeUnit (s : State) (b : List Byte) (bs : List Beside) : State :=
  let cls := frameNat b 1 1
  let len := frameNat b 2 1
  if frameNat b 0x44 4 ≠ crc32c (b.take 0x44) ∨ frameNat b 0 1 ≠ 3 ∨ 1 < cls ∨ len = 0 ∨ 64 < len then
    s.crcError.discardUnit (cls % 2)
  else
    let data := (b.drop 4).take len
    if cls = 1 then (s.produce (s.rd PAN_CTRL.TRACE_FLOW) 0 data).giveCredit 1 1
    else
      let s := s.wr BRINE_BULK.RX_USED0 (s.rd BRINE_BULK.RX_USED0 + 1)
      s.moveUnits bs (s.brine.rxWait ++ [(frameNat b 3 1, data)])

/-- BULK_UNIT_RX (R83, R394, R405), with what happens beside the words of a register request that it completes. -/
def bulkUnitRx (slots : List LaneSlot) (bs : List Beside) (s : State) : State :=
  let s := s.hear .k283 72 slots
  if s.link ≠ linkUp then s
  else match heardFrame .k283 72 slots with
    | some b => s.takeUnit b bs
    | none =>
      let (cls, s) := s.unitClass slots
      s.discardUnit cls

end Sys2Proof.Machine
end

