-- ==== Sys2Proof/Machine/AccessRows.lean ====
section
/-! DEFINITION. The meanings of the commands of register accesses, commits and the vote of triplicated fields: each lets its effect on the blocks stand and leaves the queue. -/

namespace Sys2Proof.Machine

/-- HOST_SPI_WRITE (R78): A host SPI write frame is checked by its CRC and its words are written in order. -/
def execHostSpiWrite (mosi : List Byte) (clocks : Nat) (bs : List Beside) (s : State) : Host.Outcome State Fault Refusal :=
  completes s (hostSpiWrite mosi clocks bs s)

/-- HOST_SPI_READ (R78): A host SPI read frame is checked by its CRC and its words are read and returned with STATUS and
CRC. -/
def execHostSpiRead (mosi : List Byte) (clocks : Nat) (bs : List Beside) (ups : List (Nat × Nat × Nat × Nat))
    (s : State) : Host.Outcome State Fault Refusal :=
  completes s (hostSpiRead mosi clocks bs ups s)

/-- REGISTER_WRITE (R84): A write to a register with no row of its own is applied field by field under its field classes. -/
def execRegisterWrite (w off : Nat) (v : Word) (hw : List (Nat × Nat)) (s : State) : Host.Outcome State Fault Refusal :=
  completes s (registerWrite w off v hw s)

/-- IDX_ADDR_WRITE (R73): A write to IDX_ADDR sets the indirect address and clears HALF. -/
def execIdxAddrWrite (w : Nat) (v : Word) (s : State) : Host.Outcome State Fault Refusal :=
  completes s (idxAddrWrite w v s)

/-- IDX_DATA_ACCESS (R73): An access to IDX_DATA transfers a word or bundle half of the indirect space and advances the
address. -/
def execIdxDataAccess (w : Nat) (wr : Option Word) (hw : List (Nat × Nat)) (s : State) : Host.Outcome State Fault Refusal :=
  completes s (idxDataAccess w wr hw s)

/-- X_QUEUE_DRAIN (R75): The X write queue drains one word per CEC while draining is allowed. -/
def execXQueueDrain (s : State) : Host.Outcome State Fault Refusal :=
  completes s (xQueueDrain s)

/-- COMMIT (R90): A write of SYS_COMMIT.GROUPS makes groups pending for the next snapshot. -/
def execCommit (w mask : Nat) (s : State) : Host.Outcome State Fault Refusal :=
  completes s (s.asWriter w 0x0008 (commit w mask))

/-- COMMIT_SNAPSHOT (R90): At TICK_PERIOD − 48 the shadows of pending groups are snapshotted and checked. -/
def execCommitSnapshot (s : State) : Host.Outcome State Fault Refusal :=
  completes s (commitSnapshot s)

/-- COMMIT_APPLY (R90): Accepted groups become live at once at the tick boundary, or 48 CEC after the snapshot while the
Rake stops. -/
def execCommitApply (s : State) : Host.Outcome State Fault Refusal :=
  completes s (commitApply s)

/-- DISCARD (R94): A write of SYS_DISCARD.GROUPS reloads shadows from live values and cancels a pending commit. -/
def execDiscard (w : Nat) (mask : Nat) (s : State) : Host.Outcome State Fault Refusal :=
  completes s (s.asWriter w 0x000C (Sys2Proof.Machine.discard mask))

/-- TMR_REWRITE (R87): All copies of every TMR field are rewritten with their majority value. -/
def execTmrRewrite (ups : List (Nat × Nat × Nat × Nat)) (s : State) : Host.Outcome State Fault Refusal :=
  completes s (tmrRewrite ups s)

end Sys2Proof.Machine
end

