-- ==== Sys2Proof/Machine/AfeRows.lean ====
section
/-! DEFINITION. The meanings of the commands of the analog front end: each lets its effect on the blocks stand and leaves the queue. -/

namespace Sys2Proof.Machine

/-- AFE_CTRL_STOP (R131): A write of 1 to STOP stops the conversions when the half is out of service. -/
def execAfeCtrlStop (w : Nat) (s : State) : Host.Outcome State Fault Refusal :=
  completes s (s.asWriter w 0x0800 afeCtrlStop)

/-- AFE_CTRL_RUN (R130): A write of 0 to STOP checks the sequence and restarts the conversions or leaves the AFE stopped
with SEQ_ERR. -/
def execAfeCtrlRun (w : Nat) (s : State) : Host.Outcome State Fault Refusal :=
  completes s (s.asWriter w 0x0800 afeCtrlRun)

/-- AFE_OC (R136): A shunt window comparator trip latches OC and reports AFE_OC to the FC while OC_EN is 1. -/
def execAfeOc (k : Nat) (out : Int) (s : State) : Host.Outcome State Fault Refusal :=
  completes s (afeOc k out s)

/-- CALIBRATION_WINDOW (R137): Every CAL_EVERY ticks a calibration window measures one amplifier and the cores. -/
def execCalibrationWindow (x : CalMeas) (s : State) : Host.Outcome State Fault Refusal :=
  completes s (calibrationWindow x s)

/-- HOSTCAL_TIMEOUT (R140): A host offset not written for HOSTCAL_TMO ticks falls back to the hardware offset. -/
def execHostcalTimeout (k : Nat) (s : State) : Host.Outcome State Fault Refusal :=
  completes s (hostcalTimeout k s)

end Sys2Proof.Machine
end

