-- ==== Sys2Proof/Machine/DriveRows.lean ====
section
/-! DEFINITION. The meanings of the commands of the power stage: each lets its effect on the blocks stand and leaves the queue. -/

namespace Sys2Proof.Machine

/-- PWM_EDGE (R308): At an ideal PWM edge the outgoing switch turns off and the incoming one turns on after the handshake
and dead time. -/
def execPwmEdge (g t : Nat) (sensed : Option Nat) (s : State) : Host.Outcome State Fault Refusal :=
  completes s (pwmEdge g t sensed s)

/-- GD_HS (R310): A handshake not confirmed by HS_TMO withholds the turn-on and reports GD_HS. -/
def execGdHs (g : Nat) (s : State) : Host.Outcome State Fault Refusal :=
  completes s (gdHs g s)

/-- GD_XCMD (R312): Both switches of a leg commanded on are refused and GD_XCMD is reported. -/
def execGdXcmd (p : Nat) (s : State) : Host.Outcome State Fault Refusal :=
  completes s (gdXcmd p s)

/-- GD_VDS (R313): A VDS above VDS_TH beyond blanking and filter reports GD_VDS. -/
def execGdVds (g : Nat) (above : Bool) (s : State) : Host.Outcome State Fault Refusal :=
  completes s (gdVds g above s)

/-- GD_BSUV (R307): A bootstrap undervoltage reports GD_BSUV and blocks the high side. -/
def execGdBsuv (g : Nat) (low : Bool) (s : State) : Host.Outcome State Fault Refusal :=
  completes s (gdBsuv g low s)

/-- BSUV_STAGE (R315): An undervoltage still present at two boundaries takes the phase off and the motor to its safe
state. -/
def execBsuvStage (s : State) : Host.Outcome State Fault Refusal :=
  completes s (bsuvStage s)

/-- GD_CP (R307): A charge pump below range reports GD_CP. -/
def execGdCp (low : Bool) (s : State) : Host.Outcome State Fault Refusal :=
  completes s (gdCp low s)

/-- GD_CUT (R317): A cut-off gate that does not follow its command within 50 µs reports GD_CUT. -/
def execGdCut (p : Nat) (bad : Bool) (s : State) : Host.Outcome State Fault Refusal :=
  completes s (gdCut p bad s)

/-- CUTOFF_FORCED_OPEN (R318): After CUT_DLY ticks a waiting cut-off opens regardless and sets CUT_FORCED. -/
def execCutoffForcedOpen (p : Nat) (s : State) : Host.Outcome State Fault Refusal :=
  completes s (cutoffForcedOpen p s)

/-- CHOPPER_ON (R319): VBR at OV_CHOP or above turns the chopper on. -/
def execChopperOn (s : State) : Host.Outcome State Fault Refusal :=
  completes s (chopperOn s)

/-- CHOPPER_OFF (R319): VBR below OV_CHOP − CHOP_HYST turns the chopper off. -/
def execChopperOff (s : State) : Host.Outcome State Fault Refusal :=
  completes s (chopperOff s)

/-- GD_CHOT (R319): A chopper on for CHOP_TMAX turns off for 4 × CHOP_TMAX and reports GD_CHOT. -/
def execGdChot (s : State) : Host.Outcome State Fault Refusal :=
  completes s (gdChot s)

/-- CHOPPER_REST_END (R319): The forced off time of 4 × CHOP_TMAX ends and the chopper follows OV_CHOP again. -/
def execChopperRestEnd (s : State) : Host.Outcome State Fault Refusal :=
  completes s (chopperRestEnd s)

/-- GD_CHO (R320): No chopper current 2 µs after a turn-on reports an open chopper. -/
def execGdCho (s : State) : Host.Outcome State Fault Refusal :=
  completes s (gdCho s)

/-- GD_CHS (R320): Chopper current while off reports a shorted chopper and opens the high-side series switch. -/
def execGdChs (current : Bool) (s : State) : Host.Outcome State Fault Refusal :=
  completes s (gdChs current s)

/-- GD_OVS (R324): OV_SHORT_N consecutive CH18 results at OV_SHORT raise GD_OVS and short every applicable motor. -/
def execGdOvs (s : State) : Host.Outcome State Fault Refusal :=
  completes s (gdOvs s)

/-- GD_OVS_RELEASE (R324): OV_REL consecutive results below OV_LIM end GD_OVS. -/
def execGdOvsRelease (s : State) : Host.Outcome State Fault Refusal :=
  completes s (gdOvsRelease s)

/-- GD_OVABS (R325): VBR at OV_ABS opens the high-side series switch and shorts every applicable motor. -/
def execGdOvabs (s : State) : Host.Outcome State Fault Refusal :=
  completes s (gdOvabs s)

/-- GD_OVABS_RELEASE (R325): VBR below OV_LIM ends GD_OVABS. -/
def execGdOvabsRelease (s : State) : Host.Outcome State Fault Refusal :=
  completes s (gdOvabsRelease s)

/-- GD_SLVDS (R329): A closed series switch with VDS above SL_VDS_ON for 1 µs reports GD_SLVDS. -/
def execGdSlvds (hs above : Bool) (s : State) : Host.Outcome State Fault Refusal :=
  completes s (gdSlvds hs above s)

/-- SLUICE_TEST_END (R330): A series-switch test completes with its result and the switches closed or open. -/
def execSluiceTestEnd (x : SluiceMeas) (s : State) : Host.Outcome State Fault Refusal :=
  completes s (sluiceTestEnd x s)

end Sys2Proof.Machine
end

