-- ==== Sys2Proof/Machine/EngineRows.lean ====
section
/-! DEFINITION. The meanings of the commands of control-engine bundles, writeback comparison and known-answer test: each lets its effect on the blocks stand and leaves the queue. -/

namespace Sys2Proof.Machine

/-- NOP (R219): Control code NOP issues a bundle whose control field has no effect. -/
def execNop (e : Issue) (ctl : BitVec 4) (ms as_ ls : BitVec 20) (s : State) : Host.Outcome State Fault Refusal :=
  completes s (s.issue e (fetched (nopCode ctl) ms as_ ls))

/-- REP (R221): REP issues once and then repeats the next bundle n times from the loop cache. -/
def execRep (e : Issue) (ms as_ ls : BitVec 20) (s : State) : Host.Outcome State Fault Refusal :=
  completes s (s.issue e (fetched .rep ms as_ ls))

/-- LS (R219): Loop start LS0 or LS1 writes the PC of its bundle to LSA0 or LSA1. -/
def execLs (e : Issue) (k : Bool) (ms as_ ls : BitVec 20) (s : State) : Host.Outcome State Fault Refusal :=
  completes s (s.issue e (fetched (.free (.ls k)) ms as_ ls))

/-- LE (R219): Loop end LE0 or LE1 decrements its counter and branches to the loop start while the counter is non-zero. -/
def execLe (e : Issue) (k : Bool) (ms as_ ls : BitVec 20) (s : State) : Host.Outcome State Fault Refusal :=
  completes s (s.issue e (fetched (.free (.le k)) ms as_ ls))

/-- LER (R219): LE0R or LE1R acts as loop end and also rotates RRB in every execution. -/
def execLer (e : Issue) (k : Bool) (ms as_ ls : BitVec 20) (s : State) : Host.Outcome State Fault Refusal :=
  completes s (s.issue e (fetched (.free (.ler k)) ms as_ ls))

/-- ROT (R219): ROT rotates RRB by decrementing it modulo 16. -/
def execRot (e : Issue) (ms as_ ls : BitVec 20) (s : State) : Host.Outcome State Fault Refusal :=
  completes s (s.issue e (fetched (.free .rot) ms as_ ls))

/-- PP (R226): A preemption point stops the B-program when it issues within PP_WIN before PREEMPT_PHASE. -/
def execPp (e : Issue) (ms as_ ls : BitVec 20) (s : State) : Host.Outcome State Fault Refusal :=
  completes s (s.issue e (fetched (.free .pp) ms as_ ls))

/-- CTXRUN (R176): CTXRUN evaluates the law of one loop context in 16 bundles per pass and writes its state words. -/
def execCtxrun (e : Issue) (ms as_ ls : BitVec 20) (s : State) : Host.Outcome State Fault Refusal :=
  completes s (s.issue e (fetched .ctxrun ms as_ ls))

/-- COMPETE (R186): COMPETE forms the torque request of one motor from its primary and bound members, corrects the members
and forms the winner code. -/
def execCompete (e : Issue) (ms as_ ls : BitVec 20) (s : State) : Host.Outcome State Fault Refusal :=
  completes s (s.issue e (fetched .compete ms as_ ls))

/-- HALT (R48): The halt-to-tick bundle ends a pass of the T-program or idles the B-program until the next tick boundary. -/
def execHalt (e : Issue) (ms as_ ls : BitVec 20) (s : State) : Host.Outcome State Fault Refusal :=
  completes s (s.issue e (fetched .halt ms as_ ls))

/-- MPY (R239): MPY writes the rounded, saturated product of two D registers to a D register. -/
def execMpy (e : Issue) (sat : Bool) (dd da db : BitVec 5) (s : State) : Host.Outcome State Fault Refusal :=
  completes s (s.issue e (fetchedOps (.mpy sat dd da db) .nop .nop))

/-- MPA (R239): MPA loads an accumulator with the exact product of two D registers. -/
def execMpa (e : Issue) (sat : Bool) (n : BitVec 2) (da db : BitVec 5) (s : State) : Host.Outcome State Fault Refusal :=
  completes s (s.issue e (fetchedOps (.mpa sat n da db) .nop .nop))

/-- MAC (R239): MAC adds the exact product of two D registers to an accumulator. -/
def execMac (e : Issue) (sat : Bool) (n : BitVec 2) (da db : BitVec 5) (s : State) : Host.Outcome State Fault Refusal :=
  completes s (s.issue e (fetchedOps (.mac sat n da db) .nop .nop))

/-- MSU (R239): MSU subtracts the exact product of two D registers from an accumulator. -/
def execMsu (e : Issue) (sat : Bool) (n : BitVec 2) (da db : BitVec 5) (s : State) : Host.Outcome State Fault Refusal :=
  completes s (s.issue e (fetchedOps (.msu sat n da db) .nop .nop))

/-- MVA (R239): MVA moves an accumulator, shifted and rounded, into a D register. -/
def execMva (e : Issue) (sat : Bool) (dd : BitVec 5) (n sh : BitVec 2) (s : State) : Host.Outcome State Fault Refusal :=
  completes s (s.issue e (fetchedOps (.mva sat dd n sh) .nop .nop))

/-- LDA (R239): LDA loads an accumulator from a D register. -/
def execLda (e : Issue) (sat : Bool) (n : BitVec 2) (da : BitVec 5) (s : State) : Host.Outcome State Fault Refusal :=
  completes s (s.issue e (fetchedOps (.lda sat n da) .nop .nop))

/-- CLRA (R239): CLRA clears an accumulator and sets its tag from T. -/
def execClra (e : Issue) (n : BitVec 2) (t : Bool) (s : State) : Host.Outcome State Fault Refusal :=
  completes s (s.issue e (fetchedOps (.clra n t) .nop .nop))

/-- ADDA (R239): ADDA adds one accumulator to another with saturation. -/
def execAdda (e : Issue) (sat : Bool) (n m : BitVec 2) (s : State) : Host.Outcome State Fault Refusal :=
  completes s (s.issue e (fetchedOps (.adda sat n m) .nop .nop))

/-- SUBA (R239): SUBA subtracts one accumulator from another with saturation. -/
def execSuba (e : Issue) (sat : Bool) (n m : BitVec 2) (s : State) : Host.Outcome State Fault Refusal :=
  completes s (s.issue e (fetchedOps (.suba sat n m) .nop .nop))

/-- NEGA (R239): NEGA writes the saturated negation of one accumulator to another. -/
def execNega (e : Issue) (sat : Bool) (n m : BitVec 2) (s : State) : Host.Outcome State Fault Refusal :=
  completes s (s.issue e (fetchedOps (.nega sat n m) .nop .nop))

/-- MULI (R239): MULI writes the saturated integer product of two C-tagged registers. -/
def execMuli (e : Issue) (sat : Bool) (dd da db : BitVec 5) (s : State) : Host.Outcome State Fault Refusal :=
  completes s (s.issue e (fetchedOps (.muli sat dd da db) .nop .nop))

/-- ADD (R241): ADD writes the saturated sum of two D registers. -/
def execAdd (e : Issue) (sat : Bool) (dd da db : BitVec 5) (s : State) : Host.Outcome State Fault Refusal :=
  completes s (s.issue e (fetchedOps .nop (.add sat dd da db) .nop))

/-- SUB (R241): SUB writes the saturated difference of two D registers. -/
def execSub (e : Issue) (sat : Bool) (dd da db : BitVec 5) (s : State) : Host.Outcome State Fault Refusal :=
  completes s (s.issue e (fetchedOps .nop (.sub sat dd da db) .nop))

/-- MIN (R241): MIN writes the smaller operand, executing as MAX in pass B for S operands. -/
def execMin (e : Issue) (sat : Bool) (dd da db : BitVec 5) (s : State) : Host.Outcome State Fault Refusal :=
  completes s (s.issue e (fetchedOps .nop (.min sat dd da db) .nop))

/-- MAX (R241): MAX writes the larger operand, executing as MIN in pass B for S operands. -/
def execMax (e : Issue) (sat : Bool) (dd da db : BitVec 5) (s : State) : Host.Outcome State Fault Refusal :=
  completes s (s.issue e (fetchedOps .nop (.max sat dd da db) .nop))

/-- SEL (R241): SEL writes one of two operands according to TC. -/
def execSel (e : Issue) (sat : Bool) (dd da db : BitVec 5) (s : State) : Host.Outcome State Fault Refusal :=
  completes s (s.issue e (fetchedOps .nop (.sel sat dd da db) .nop))

/-- CMP (R243): CMP sets TC from a signed comparison, with the condition mirrored in pass B for S operands. -/
def execCmp (e : Issue) (sat : Bool) (c : Cond) (da db : BitVec 5) (s : State) : Host.Outcome State Fault Refusal :=
  completes s (s.issue e (fetchedOps .nop (.cmp sat c da db) .nop))

/-- DIV (R244): DIV writes the rounded Q1.31 quotient of two D registers with a latency of 6. -/
def execDiv (e : Issue) (dd da db : BitVec 5) (s : State) : Host.Outcome State Fault Refusal :=
  completes s (s.issue e (fetchedOps .nop (.div dd da db) .nop))

/-- ASR (R242): ASR shifts a D register right by an immediate with rounding to nearest even. -/
def execAsr (e : Issue) (sat : Bool) (dd da n5 : BitVec 5) (s : State) : Host.Outcome State Fault Refusal :=
  completes s (s.issue e (fetchedOps .nop (.asr sat dd da n5) .nop))

/-- ASL (R241): ASL shifts a D register left by an immediate with saturation. -/
def execAsl (e : Issue) (sat : Bool) (dd da n5 : BitVec 5) (s : State) : Host.Outcome State Fault Refusal :=
  completes s (s.issue e (fetchedOps .nop (.asl sat dd da n5) .nop))

/-- AND (R241): AND writes the bitwise AND of two C-tagged registers. -/
def execAnd (e : Issue) (sat : Bool) (dd da db : BitVec 5) (s : State) : Host.Outcome State Fault Refusal :=
  completes s (s.issue e (fetchedOps .nop (.and sat dd da db) .nop))

/-- OR (R241): OR writes the bitwise OR of two C-tagged registers. -/
def execOr (e : Issue) (sat : Bool) (dd da db : BitVec 5) (s : State) : Host.Outcome State Fault Refusal :=
  completes s (s.issue e (fetchedOps .nop (.or sat dd da db) .nop))

/-- XOR (R241): XOR writes the bitwise XOR of two C-tagged registers. -/
def execXor (e : Issue) (sat : Bool) (dd da db : BitVec 5) (s : State) : Host.Outcome State Fault Refusal :=
  completes s (s.issue e (fetchedOps .nop (.xor sat dd da db) .nop))

/-- ADDI (R241): ADDI adds a signed immediate to a C-tagged register with saturation. -/
def execAddi (e : Issue) (sat : Bool) (dd da imm5 : BitVec 5) (s : State) : Host.Outcome State Fault Refusal :=
  completes s (s.issue e (fetchedOps .nop (.addi sat dd da imm5) .nop))

/-- MOV (R241): MOV copies a D register with its tag. -/
def execMov (e : Issue) (sat : Bool) (dd da : BitVec 5) (s : State) : Host.Outcome State Fault Refusal :=
  completes s (s.issue e (fetchedOps .nop (.mov sat dd da) .nop))

/-- NEG (R241): NEG writes the saturated negation of a D register. -/
def execNeg (e : Issue) (sat : Bool) (dd da : BitVec 5) (s : State) : Host.Outcome State Fault Refusal :=
  completes s (s.issue e (fetchedOps .nop (.neg sat dd da) .nop))

/-- ABS (R241): ABS writes the saturated magnitude of a D register, negated in pass B for S operands. -/
def execAbs (e : Issue) (sat : Bool) (dd da : BitVec 5) (s : State) : Host.Outcome State Fault Refusal :=
  completes s (s.issue e (fetchedOps .nop (.abs sat dd da) .nop))

/-- SIN (R246): SIN writes the interpolated sine of an angle. -/
def execSin (e : Issue) (sat : Bool) (dd da : BitVec 5) (s : State) : Host.Outcome State Fault Refusal :=
  completes s (s.issue e (fetchedOps .nop (.sin sat dd da) .nop))

/-- COS (R246): COS writes the interpolated cosine of an angle, negated in pass B for S operands. -/
def execCos (e : Issue) (sat : Bool) (dd da : BitVec 5) (s : State) : Host.Outcome State Fault Refusal :=
  completes s (s.issue e (fetchedOps .nop (.cos sat dd da) .nop))

/-- RSQRT (R245): RSQRT writes 2^-8 divided by the square root of the operand with a latency of 6. -/
def execRsqrt (e : Issue) (dd da : BitVec 5) (s : State) : Host.Outcome State Fault Refusal :=
  completes s (s.issue e (fetchedOps .nop (.rsqrt dd da) .nop))

/-- NOT (R241): NOT writes the bitwise complement of a C-tagged register. -/
def execNot (e : Issue) (sat : Bool) (dd da : BitVec 5) (s : State) : Host.Outcome State Fault Refusal :=
  completes s (s.issue e (fetchedOps .nop (.not sat dd da) .nop))

/-- LDXY (R248): LDXY loads one X word and one Y word and post-modifies both address registers. -/
def execLdxy (e : Issue) (dx dy : BitVec 5) (px py : BitVec 2) (mx my : PMod2) (s : State) : Host.Outcome State Fault Refusal :=
  completes s (s.issue e (fetchedOps .nop .nop (.ldxy dx dy px py mx my)))

/-- LDX (R248): LDX loads an S-tagged X word, mirrored and negated in pass B. -/
def execLdx (e : Issue) (dd : BitVec 5) (p : BitVec 3) (md : PMod) (s : State) : Host.Outcome State Fault Refusal :=
  completes s (s.issue e (fetchedOps .nop .nop (.ldx dd p md)))

/-- LDY (R248): LDY loads a C-tagged Y word. -/
def execLdy (e : Issue) (dd : BitVec 5) (p : BitVec 3) (md : PMod) (s : State) : Host.Outcome State Fault Refusal :=
  completes s (s.issue e (fetchedOps .nop .nop (.ldy dd p md)))

/-- STX (R248): STX stores a D register to X, mirrored and negated in pass B, written after comparator agreement. -/
def execStx (e : Issue) (ds : BitVec 5) (p : BitVec 3) (md : PMod) (s : State) : Host.Outcome State Fault Refusal :=
  completes s (s.issue e (fetchedOps .nop .nop (.stx ds p md)))

/-- STY (R198): STY stores a value to Y once after both comparators agree, in a T-program only. -/
def execSty (e : Issue) (ds : BitVec 5) (p : BitVec 3) (md : PMod) (s : State) : Host.Outcome State Fault Refusal :=
  completes s (s.issue e (fetchedOps .nop .nop (.sty ds p md)))

/-- LDI (R248): LDI loads a C-tagged immediate into a D register. -/
def execLdi (e : Issue) (dd : BitVec 5) (h : Bool) (imm11 : BitVec 11) (s : State) : Host.Outcome State Fault Refusal :=
  completes s (s.issue e (fetchedOps .nop .nop (.ldi dd h imm11)))

/-- LDIP (R248): LDIP loads an address register with an immediate word index. -/
def execLdip (e : Issue) (p : BitVec 3) (imm13 : BitVec 13) (s : State) : Host.Outcome State Fault Refusal :=
  completes s (s.issue e (fetchedOps .nop .nop (.ldip p imm13)))

/-- LDIM (R248): LDIM loads a modifier, length, loop counter or RRB with an immediate. -/
def execLdim (e : Issue) (k : ImmDst) (s : State) : Host.Outcome State Fault Refusal :=
  completes s (s.issue e (fetchedOps .nop .nop (.ldim k)))

/-- MVTS (R248): MVTS moves a C-tagged D register into a special register. -/
def execMvts (e : Issue) (ds : BitVec 5) (r : SReg) (s : State) : Host.Outcome State Fault Refusal :=
  completes s (s.issue e (fetchedOps .nop .nop (.mvts ds r)))

/-- MVFS (R248): MVFS moves a special register into a D register as a C-tagged integer. -/
def execMvfs (e : Issue) (dd : BitVec 5) (r : SReg) (s : State) : Host.Outcome State Fault Refusal :=
  completes s (s.issue e (fetchedOps .nop .nop (.mvfs dd r)))

/-- WRITEBACK_COMPARE (R260): When a pass-B writeback lands, CMP1 and CMP2 compare it with its pass-A twin and decide any
store. -/
def execWritebackCompare (f1 f2 : Word) (s : State) : Host.Outcome State Fault Refusal :=
  completes s (writebackCompare f1 f2 s)

/-- KAT_VERDICT (R265): At TSTART + 520 the known-answer test is judged and a transient is counted or the datapath
declared broken. -/
def execKatVerdict (s : State) : Host.Outcome State Fault Refusal :=
  completes s (katVerdict s)

end Sys2Proof.Machine
end

