-- ==== Sys2Proof/Machine/FabricRows.lean ====
section
/-! DEFINITION. The meanings of the commands of the Horbiud fabric and the CAN FD ports: each lets its effect on the blocks stand and leaves the queue. -/

namespace Sys2Proof.Machine

/-- FRAME_FORWARD (R425): A fabric frame not for this half is forwarded or dropped by hop limits. -/
def execFrameForward (q : Nat) (idle : Bool) (f : FabFrame) (s : State) : Host.Outcome State Fault Refusal :=
  completes s (frameForward q idle f s)

/-- DATA (R443): A delivered DATA frame is matched to a receive flow and stored. -/
def execData (q : Nat) (idle : Bool) (f : FabFrame) (s : State) : Host.Outcome State Fault Refusal :=
  completes s (dataFrame q idle f s)

/-- REG_REQ (R80): A fabric register request executes its records and returns a response. -/
def execRegReq (q : Nat) (idle : Bool) (f : FabFrame) (bs : List Beside) (s : State) : Host.Outcome State Fault Refusal :=
  completes s (regReq q idle f bs s)

/-- REG_RSP (R415): A register response frame is delivered to its flow. -/
def execRegRsp (q : Nat) (idle : Bool) (f : FabFrame) (s : State) : Host.Outcome State Fault Refusal :=
  completes s (regRsp q idle f s)

/-- MBOX_REQ (R478): A mailbox request frame is queued to the MP. -/
def execMboxReq (q : Nat) (idle : Bool) (f : FabFrame) (s : State) : Host.Outcome State Fault Refusal :=
  completes s (mboxReq q idle f s)

/-- MBOX_RSP (R415): A mailbox response frame is delivered to its flow. -/
def execMboxRsp (q : Nat) (idle : Bool) (f : FabFrame) (s : State) : Host.Outcome State Fault Refusal :=
  completes s (mboxRsp q idle f s)

/-- ANNOUNCE (R418): A received ANNOUNCE updates routes, claims and kept identities. -/
def execAnnounce (q : Nat) (idle : Bool) (f : FabFrame) (s : State) : Host.Outcome State Fault Refusal :=
  completes s (announce q idle f s)

/-- RING_EVT (R423): A received RING_EVT clears route directions beyond the reporter. -/
def execRingEvt (q : Nat) (idle : Bool) (f : FabFrame) (s : State) : Host.Outcome State Fault Refusal :=
  completes s (ringEvt q idle f s)

/-- NEIGHBOR (R423): A link-local NEIGHBOR frame shows the neighbour's presence. -/
def execNeighbor (q : Nat) (f : FabFrame) (s : State) : Host.Outcome State Fault Refusal :=
  completes s (neighbor q f s)

/-- GPTP_FRAME (R428): A gPTP frame is handled by the half's time-aware system. -/
def execGptpFrame (q : Nat) (domain : Nat) (m : PtpMsg) (s : State) : Host.Outcome State Fault Refusal :=
  completes s (gptpFrame q domain m s)

/-- OTHER_ETHERTYPE (R412): A frame of another EtherType is forwarded or dropped. -/
def execOtherEthertype (q : Nat) (frame : List Byte) (s : State) : Host.Outcome State Fault Refusal :=
  completes s (otherEthertype q frame s)

/-- NEIGHBOR_LOSS (R423): A lost neighbour raises NET_RING, clears its direction and sends a RING_EVT. -/
def execNeighborLoss (p : Nat) (down : Bool) (s : State) : Host.Outcome State Fault Refusal :=
  completes s (neighborLoss p down s)

/-- ADDRESS_HOLD (R418): After CLAIM_N cycles unopposed the half holds its address. -/
def execAddressHold (s : State) : Host.Outcome State Fault Refusal :=
  completes s (addressHold s)

/-- ROUTE_AGEING (R422): A direction not confirmed for AGE announce periods loses its SEEN bit. -/
def execRouteAgeing (s : State) : Host.Outcome State Fault Refusal :=
  completes s (routeAgeing s)

/-- FABRIC_CYCLE_START (R429): At each fabric cycle start windows are checked, credits refilled and lane shares
recomputed. -/
def execFabricCycleStart (s : State) : Host.Outcome State Fault Refusal :=
  completes s (fabricCycleStart s)

/-- SCHEDULED_WINDOW (R431): A window sends one DATA frame of its flow at its offset. -/
def execScheduledWindow (k : Nat) (s : State) : Host.Outcome State Fault Refusal :=
  completes s (scheduledWindow k s)

/-- BULK_PHASE_START (R432): At the bulk phase start NEIGHBOR, ANNOUNCE and RING_EVT frames leave. -/
def execBulkPhaseStart (s : State) : Host.Outcome State Fault Refusal :=
  completes s (bulkPhaseStart s)

/-- BULK_FRAME_SEND (R450): A transmit flow with credit and a waiting record sends a frame in the bulk phase. -/
def execBulkFrameSend (p : Nat) (s : State) : Host.Outcome State Fault Refusal :=
  completes s ((bulkFrameSend p s).drainUnits [])

/-- E2E_CHECK (R433): At the end of the scheduled phase each scheduled receive flow is checked and NET_E2E raised after
E2E_N bad cycles. -/
def execE2eCheck (s : State) : Host.Outcome State Fault Refusal :=
  completes s (e2eCheck s)

/-- CAN_FRAME_RX (R436): A mapped CAN FD frame is checked and entered in its flow. -/
def execCanFrameRx (c : Nat) (evs : List CanEvent) (f : CanFrame) (bs : List Beside)
    (s : State) : Host.Outcome State Fault Refusal :=
  completes s (canFrameRx c evs f bs s)

end Sys2Proof.Machine
end

