-- ==== Sys2Proof/Machine/FaultRows.lean ====
section
/-! DEFINITION. The meanings of the commands of fault collection and the monitors of the MP: each lets its effect on the blocks stand and leaves the queue. -/

namespace Sys2Proof.Machine

/-- REACTION_RELEASE (R354): A reaction is released after FC_QUIET with no occurrence in its reach and no source active. -/
def execReactionRelease (s : State) : Host.Outcome State Fault Refusal :=
  completes s s.releaseBoundary

/-- FC_SELF (R353): A disagreement among the FC copies turns every gate off, opens the series switches and enters LOCKOUT. -/
def execFcSelf (lost : Nat) (s : State) : Host.Outcome State Fault Refusal :=
  completes s (Sys2Proof.Machine.fcSelf lost s)

/-- HOST_ANSWER (R351): A write of FC_HANS answers the pending request and may replace its reaction. -/
def execHostAnswer (w : Nat) (seq : Nat) (react : Nat) (s : State) : Host.Outcome State Fault Refusal :=
  completes s (s.swWrite w 0x2064 (BitVec.ofNat 32 (256 * (react % 8) + seq % 256)))

/-- GRACE_EXPIRY (R352): No accepted answer within GRACE applies the table reaction at the next boundary. -/
def execGraceExpiry (answered : Bool) (s : State) : Host.Outcome State Fault Refusal :=
  completes s (graceExpiry answered s)

/-- FIRST_CLR (R348): A write of FIRST_CLR clears the first-source latch. -/
def execFirstClr (w : Nat) (s : State) : Host.Outcome State Fault Refusal :=
  completes s (s.asWriter w 0x2010 Sys2Proof.Machine.firstClr)

/-- RESTART_EDGE (R358): An accepted RESTART edge leaves LOCKOUT or resets a half in BOOT_FAIL, and is only logged
otherwise. -/
def execRestartEdge (us : Nat) (either : Bool) (s : State) : Host.Outcome State Fault Refusal :=
  completes s (restartEdge us either s)

/-- ALIVE_TOGGLE (R359): Every 40,000 CEC ALIVE toggles while the half is in service and ticking. -/
def execAliveToggle (s : State) : Host.Outcome State Fault Refusal :=
  completes s (aliveToggle s)

/-- CLK_MON (R341): A reference or PLL clock outside ±5 % for 500 ns raises CLK_MON. -/
def execClkMon (k : Nat) (bad : Bool) (s : State) : Host.Outcome State Fault Refusal :=
  completes s (clkMon k bad s)

/-- MP_WDOG (R340): No MP heartbeat for 5 ms raises MP_WDOG. -/
def execMpWdog (silent : Bool) (s : State) : Host.Outcome State Fault Refusal :=
  completes s (mpWdog silent s)

/-- MP_LOCKSTEP (R340): Disagreeing MP cores raise MP_LOCKSTEP and the MP restarts, answering queued requests with
RESTART. -/
def execMpLockstep (s : State) : Host.Outcome State Fault Refusal :=
  completes s (mpLockstep s)

/-- SENSOR_POLL (R481): Every 1 ms the MP reads the temperature sensors and raises TEMP_WARN or TEMP_CRIT. -/
def execSensorPoll (temps : List Int) (s : State) : Host.Outcome State Fault Refusal :=
  completes s (sensorPoll temps s)

/-- SUPPLY_POLL (R482): Every 1 ms the MP reads the supply monitors and raises SUP_RANGE. -/
def execSupplyPoll (vals : List Nat) (s : State) : Host.Outcome State Fault Refusal :=
  completes s (supplyPoll vals s)

end Sys2Proof.Machine
end

