-- ==== Sys2Proof/Machine/FieldRows.lean ====
section
/-! DEFINITION. The meanings of the commands of motor channels: each lets its effect on the blocks stand and leaves the queue. -/

namespace Sys2Proof.Machine

/-- CATCH_DECISION (R287): At the end of the catch window the unit decides REFUSE, start, RUN with SYNC or BRAKE. -/
def execCatchDecision (m : Nat) (s : State) : Host.Outcome State Fault Refusal :=
  completes s (catchDecision m s)

/-- BRAKE_SEGMENT_END (R283): A sensorless BRAKE segment ends after BRK_SEG and the channel returns to CATCH. -/
def execBrakeSegmentEnd (m : Nat) (s : State) : Host.Outcome State Fault Refusal :=
  completes s (brakeSegmentEnd m s)

/-- REFUSE_SHORT_END (R288): The REFUSE winding short ends after BRK_SEG and the unit observes again. -/
def execRefuseShortEnd (m : Nat) (s : State) : Host.Outcome State Fault Refusal :=
  completes s (refuseShortEnd m s)

/-- ALIGN_END (R293): ALIGN_T elapses and the channel enters RAMP. -/
def execAlignEnd (m : Nat) (s : State) : Host.Outcome State Fault Refusal :=
  completes s (alignEnd m s)

/-- PAUSE_END (R283): After 50 ms in PAUSE the channel returns to CATCH or to IDLE. -/
def execPauseEnd (m : Nat) (s : State) : Host.Outcome State Fault Refusal :=
  completes s (pauseEnd m s)

/-- START_TIMEOUT (R295): START_TMO without handover fails the start and counts a retry. -/
def execStartTimeout (m : Nat) (s : State) : Host.Outcome State Fault Refusal :=
  completes s (startTimeout m s)

/-- START_HANDOVER (R294): After 16 consecutive good ticks the channel enters RUN and the speed context is preloaded. -/
def execStartHandover (m : Nat) (s : State) : Host.Outcome State Fault Refusal :=
  completes s (startHandover m s)

/-- HSTEP_WRITE (R296): A write of FIELD_Mm_HSTEP queues or replaces a host start step. -/
def execHstepWrite (w : Nat) (m : Nat) (kind : Nat) (dur : Nat) (param : Nat)
    (s : State) : Host.Outcome State Fault Refusal :=
  completes s (s.asWriter w (0x1840 + 0x100 * m) (Sys2Proof.Machine.hstepWrite m kind dur param))

/-- HSTEP_STEP_END (R296): A host step ends after DUR ticks and the queued step begins, or HSTEP_MISS is set. -/
def execHstepStepEnd (m : Nat) (s : State) : Host.Outcome State Fault Refusal :=
  completes s (hstepStepEnd m s)

/-- FIELD_LOCK (R297): The locked-rotor timer reaching LOCK_T raises FIELD_LOCK. -/
def execFieldLock (m : Nat) (s : State) : Host.Outcome State Fault Refusal :=
  completes s (fieldLock m s)

/-- FIELD_LOCK_HOLD (R297): The locked-rotor timer reaching 2 × LOCK_T raises FIELD_LOCK_HOLD. -/
def execFieldLockHold (m : Nat) (s : State) : Host.Outcome State Fault Refusal :=
  completes s (fieldLockHold m s)

end Sys2Proof.Machine
end

