-- ==== Sys2Proof/Machine/FlowRows.lean ====
section
/-! DEFINITION. The meanings of the commands of flows and pans: each lets its effect on the blocks stand and leaves the queue. -/

namespace Sys2Proof.Machine

/-- FLOW_ENABLE (R441): A write of EN = 1 enables a flow after its checks. -/
def execFlowEnable (w : Nat) (f : Nat) (s : State) : Host.Outcome State Fault Refusal :=
  completes s (s.asFlowWriter w (Sys2Proof.Machine.flowEnable f))

/-- FLOW_DISABLE (R441): A write of EN = 0 empties and disables a flow. -/
def execFlowDisable (w : Nat) (f : Nat) (s : State) : Host.Outcome State Fault Refusal :=
  completes s (s.asFlowWriter w (Sys2Proof.Machine.flowDisable f))

/-- PLEN_WRITE (R454): A write of PLEN to an enabled flow requests a new pan length. -/
def execPlenWrite (w : Nat) (f : Nat) (len : Nat) (s : State) : Host.Outcome State Fault Refusal :=
  completes s (s.asFlowWriter w (Sys2Proof.Machine.plenWrite f len))

/-- PUSH (R445): PAN_OP PUSH adds the entry at WPTR to a queue. -/
def execPush (w : Nat) (f : Nat) (s : State) : Host.Outcome State Fault Refusal :=
  completes s (s.asWriter w 0x3004 (panPush f))

/-- POP (R445): PAN_OP POP removes the entry at RPTR. -/
def execPop (w : Nat) (f : Nat) (s : State) : Host.Outcome State Fault Refusal :=
  completes s (s.asWriter w 0x3004 (panPop f))

/-- FLUSH (R445): PAN_OP FLUSH removes every entry or slot. -/
def execFlush (w : Nat) (f : Nat) (s : State) : Host.Outcome State Fault Refusal :=
  completes s (s.asWriter w 0x3004 (panFlush f))

/-- CLEAR (R445): PAN_OP CLEAR clears one RX_LATEST slot. -/
def execClear (w : Nat) (f : Nat) (slot : Nat) (s : State) : Host.Outcome State Fault Refusal :=
  completes s (s.asWriter w 0x3004 (panClear f slot))

/-- X_DELIVERY (R448): An RX_QUEUE flow with XDLV enqueues a whole record to X when it can drain before TSTART. -/
def execXDelivery (f : Nat) (s : State) : Host.Outcome State Fault Refusal :=
  completes s (xDelivery f s)

end Sys2Proof.Machine
end

