-- ==== Sys2Proof/Machine/LinkRows.lean ====
section
/-! DEFINITION. The meanings of the commands of the Brine link: each lets its effect on the blocks stand and leaves the queue. -/

namespace Sys2Proof.Machine

/-- BRINE_EXCHANGE (R400): At BRINE_PHASE the per-tick frame is sent on the Brine link. -/
def execBrineExchange (s : State) : Host.Outcome State Fault Refusal :=
  completes s (Sys2Proof.Machine.brineExchange s)

/-- PER_TICK_FRAME_RX (R398): A received per-tick frame is checked and accepted or counted as lost. -/
def execPerTickFrameRx (slots : List LaneSlot) (at_ : Nat) (s : State) : Host.Outcome State Fault Refusal :=
  completes s (Sys2Proof.Machine.perTickFrameRx slots at_ s)

/-- BRINE_RX_XWRITE (R403): An accepted frame is written to the receive block in X from OUT_PHASE, or judged late. -/
def execBrineRxXwrite (s : State) : Host.Outcome State Fault Refusal :=
  completes s (brineRxXwrite s)

/-- BRINE_FRAME_MISSING (R403): At TSTART − 1 without a written frame, word 0 is cleared and the frame counts as lost. -/
def execBrineFrameMissing (s : State) : Host.Outcome State Fault Refusal :=
  completes s (brineFrameMissing s)

/-- BRINE_ENABLE (R396): A write of BRINE_CTRL.EN enables or disables the link. -/
def execBrineEnable (w : Nat) (en : Bool) (s : State) : Host.Outcome State Fault Refusal :=
  completes s (s.asWriter w 0x2800 (Sys2Proof.Machine.brineEnable en))

/-- BEACON (R396): In DOWN the half sends training sets for 2 µs every 1 ms. -/
def execBeacon (s : State) : Host.Outcome State Fault Refusal :=
  completes s (beacon s)

/-- TRAINING_SET_RX (R397): Training sets received on both lanes move the link to TRAIN. -/
def execTrainingSetRx (lane0 : Option TrainSet) (lane1 : Option TrainSet) (trip : Nat) (wrong : Nat)
    (s : State) : Host.Outcome State Fault Refusal :=
  completes s (Sys2Proof.Machine.trainingSetRx lane0 lane1 trip wrong s)

/-- TRAIN_DONE (R397): Lanes aligned and delay measured move the link to CONFIRM. -/
def execTrainDone (s : State) : Host.Outcome State Fault Refusal :=
  completes s (Sys2Proof.Machine.trainDone s)

/-- TRAIN_TIMEOUT (R396): 1 ms in TRAIN without completion returns the link to DOWN. -/
def execTrainTimeout (s : State) : Host.Outcome State Fault Refusal :=
  completes s (trainTimeout s)

/-- RETRAIN (R397): A write of RETRAIN moves the link to DOWN. -/
def execRetrain (w : Nat) (s : State) : Host.Outcome State Fault Refusal :=
  completes s (s.asWriter w 0x2800 Sys2Proof.Machine.retrain)

/-- COMMAND_FRAME_TX (R404): The MP posts a command frame on the Brine link. -/
def execCommandFrameTx (code : Nat) (payload : List Byte) (s : State) : Host.Outcome State Fault Refusal :=
  completes s (commandFrameTx code payload s)

/-- COMMAND_FRAME_RX (R404): A received command frame is queued to the MP and answered with ACK or NAK. -/
def execCommandFrameRx (slots : List LaneSlot) (s : State) : Host.Outcome State Fault Refusal :=
  completes s (Sys2Proof.Machine.commandFrameRx slots s)

/-- COMMAND_ACK (R404): An ACK or NAK ends or repeats the outstanding command frame. -/
def execCommandAck (slots : List LaneSlot) (s : State) : Host.Outcome State Fault Refusal :=
  completes s (Sys2Proof.Machine.commandAck slots s)

/-- COMMAND_RETRY_TIMEOUT (R404): No ACK within 4 ticks repeats the frame or fails it after three repeats. -/
def execCommandRetryTimeout (s : State) : Host.Outcome State Fault Refusal :=
  completes s (commandRetryTimeout s)

/-- BULK_UNIT_TX (R405): A bulk unit is sent when a credit of its class is held. -/
def execBulkUnitTx (trace : Bool) (bytes : List Byte) (s : State) : Host.Outcome State Fault Refusal :=
  completes s ((bulkUnitTx trace bytes s).drainUnits [])

/-- BULK_UNIT_RX (R405): A received bulk unit is checked and delivered or discarded. -/
def execBulkUnitRx (slots : List LaneSlot) (bs : List Beside) (s : State) : Host.Outcome State Fault Refusal :=
  completes s (Sys2Proof.Machine.bulkUnitRx slots bs s)

/-- CREDIT_SET (R405): A received credit set returns bulk credits to the sender. -/
def execCreditSet (slots : List LaneSlot) (s : State) : Host.Outcome State Fault Refusal :=
  completes s (Sys2Proof.Machine.creditSet slots s)

/-- WAKE_TX (R407): A write of WAKE_TX sends the wake pattern for 40 µs. -/
def execWakeTx (w : Nat) (s : State) : Host.Outcome State Fault Refusal :=
  completes s (s.asWriter w 0x2800 Sys2Proof.Machine.wakeTx)

end Sys2Proof.Machine
end

