-- ==== Sys2Proof/Machine/PortRows.lean ====
section
/-! DEFINITION. The meanings of the commands of CAN FD sending, port links and gPTP loss: each lets its effect on the blocks stand and leaves the queue. -/

namespace Sys2Proof.Machine

/-- CAN_FRAME_TX (R451): A CAN FD controller completes the transmission of a mapped frame from a flow record, after which
a TX_PAN entry may be removed once its other paths are done. -/
def execCanFrameTx (c : Nat) (k : Nat) (evs : List CanEvent) (s : State) : Host.Outcome State Fault Refusal :=
  completes s (canFrameTx c k evs s)

/-- PORT_LINK_UP (R410): RGMII in-band status of a port reports link up with its speed, setting LINK and SPEED and the
forwarding mode of the port. -/
def execPortLinkUp (p speed : Nat) (s : State) : Host.Outcome State Fault Refusal :=
  completes s (portLinkUp p speed s)

/-- GPTP_SYNC_LOSS (R428): The time-aware system stops being synchronised to a grandmaster, so NET_STAT.GPTP leaves 2 and
windows are no longer sent. -/
def execGptpSyncLoss (s : State) : Host.Outcome State Fault Refusal :=
  completes s (gptpSyncLoss s)

end Sys2Proof.Machine
end

