-- ==== Sys2Proof/Machine/PosRows.lean ====
section
/-! DEFINITION. The meanings of the commands of position and speed: each lets its effect on the blocks stand and leaves the queue. -/

namespace Sys2Proof.Machine

/-- ENCODER_REQUEST (R143): At ENC_REQ_PHASE each enabled port starts an encoder frame. -/
def execEncoderRequest (s : State) : Host.Outcome State Fault Refusal :=
  completes s (encoderRequest s)

/-- ENCODER_WORD_RELEASE (R144): At request plus ENC_SPAN POS releases the word and checks it. -/
def execEncoderWordRelease (p : Nat) (x : EncWord) (s : State) : Host.Outcome State Fault Refusal :=
  completes s (encoderWordRelease p x s)

/-- HALL_CODE_TAKEN (R148): A Hall code stable for 4 × HFILT CEC is taken and judged. -/
def execHallCodeTaken (h code : Nat) (s : State) : Host.Outcome State Fault Refusal :=
  completes s (hallCodeTaken h code s)

/-- POSITION_VOTE (R154): At TSTART − 16 POS votes each motor's sources and writes angle, speed and position. -/
def execPositionVote (s : State) : Host.Outcome State Fault Refusal :=
  completes s (positionVote s)

/-- SOURCE_DROP (R155): A drop counter that reaches VOTE_M drops its source and raises POS_DROP. -/
def execSourceDrop (m src : Nat) (s : State) : Host.Outcome State Fault Refusal :=
  completes s (sourceDrop m src s)

/-- POS_DIS (R157): DIS_N consecutive V3N or V2D ticks raise POS_DIS. -/
def execPosDis (m : Nat) (s : State) : Host.Outcome State Fault Refusal :=
  completes s (posDis m s)

/-- POS_ONE (R157): VOTE_M consecutive V1 ticks raise POS_ONE. -/
def execPosOne (m : Nat) (s : State) : Host.Outcome State Fault Refusal :=
  completes s (posOne m s)

/-- POS_NONE (R157): DIS_N consecutive V0 ticks raise POS_NONE. -/
def execPosNone (m : Nat) (s : State) : Host.Outcome State Fault Refusal :=
  completes s (posNone m s)

/-- READMIT (R156): A write of READMIT marks a dropped source pending readmission. -/
def execReadmit (w : Nat) (m : Nat) (mask : Nat) (s : State) : Host.Outcome State Fault Refusal :=
  completes s (s.asWriter w (0x0CB4 + 0x40 * m) (Sys2Proof.Machine.readmit m mask))

/-- SOURCE_READMITTED (R156): After 64 consecutive good ticks a pending source is readmitted. -/
def execSourceReadmitted (m src : Nat) (s : State) : Host.Outcome State Fault Refusal :=
  completes s (sourceReadmitted m src s)

/-- LOAD (R160): A write of LOAD sets the multi-turn position from POS_Mm_LOAD at the next vote and logs it. -/
def execLoad (m w : Nat) (s : State) : Host.Outcome State Fault Refusal :=
  completes s (s.asWriter w (0x0CB4 + 0x40 * m) (loadPosition m w))

end Sys2Proof.Machine
end

