-- ==== Sys2Proof/Machine/PowerRows.lean ====
section
/-! DEFINITION. The meanings of the commands of start-up, state requests and wake: each lets its effect on the blocks stand and leaves the queue. -/

namespace Sys2Proof.Machine

/-- POR_RELEASE (R116): Release of POR starts the boot sequence through firmware, image check, apply and self-tests to
STANDBY. -/
def execPorRelease (env : BootEnv) (s : State) : Host.Outcome State Fault Refusal :=
  completes s (porRelease env s)

/-- BOOT_TMO (R340): A half that reaches neither STANDBY nor BOOT_FAIL by 180 ms enters BOOT_FAIL. -/
def execBootTmo (s : State) : Host.Outcome State Fault Refusal :=
  completes s (bootTmo s)

/-- REQ_ARMED (R125): A request to ARMED starts the series-switch test and is judged against the arming conditions. -/
def execReqArmed (w : Nat) (s : State) : Host.Outcome State Fault Refusal :=
  completes s (s.swWrite w 0x3404 0x15#32)

/-- REQ_STANDBY (R464): A request to STANDBY disarms the half, leaves SAFE, or wakes it from WATCH. -/
def execReqStandby (w : Nat) (s : State) : Host.Outcome State Fault Refusal :=
  completes s (s.swWrite w 0x3404 0x14#32)

/-- REQ_SAFE (R464): A request to SAFE takes the half to SAFE as HALF_SAFE would, aborting a running transition. -/
def execReqSafe (w : Nat) (s : State) : Host.Outcome State Fault Refusal :=
  completes s (s.swWrite w 0x3404 0x17#32)

/-- REQ_WATCH (R468): A request to WATCH runs the sleep vote of phase 1 and the domain shutdown of phase 2. -/
def execReqWatch (w : Nat) (s : State) : Host.Outcome State Fault Refusal :=
  completes s (s.swWrite w 0x3404 0x11#32)

/-- PENDING_REQUEST (R465): A pending request is judged as a new request at the tick boundary after the running transition
ends. -/
def execPendingRequest (s : State) : Host.Outcome State Fault Refusal :=
  completes s (pendingRequest s)

/-- SERIES_SWITCH_OPEN_DELAY (R464): One millisecond after a disarm the series switches open and the transition ends. -/
def execSeriesSwitchOpenDelay (s : State) : Host.Outcome State Fault Refusal :=
  completes s (seriesSwitchOpenDelay s)

end Sys2Proof.Machine
end

