-- ==== Sys2Proof/Machine/SafeRows.lean ====
section
/-! DEFINITION. The meanings of the commands of safety functions: each lets its effect on the blocks stand and leaves the queue. -/

namespace Sys2Proof.Machine

/-- PEER_ALIVE_EDGE (R363): An edge on PEER_ALIVE keeps the peer ALIVE evidence running. -/
def execPeerAliveEdge (s : State) : Host.Outcome State Fault Refusal :=
  completes s (peerAliveEdge s)

/-- PEER_ALIVE_TIMEOUT (R363): No PEER_ALIVE edge within PA_TMO stops the peer ALIVE evidence. -/
def execPeerAliveTimeout (s : State) : Host.Outcome State Fault Refusal :=
  completes s (peerAliveTimeout s)

/-- STATUS_FLOW_SILENT (R363): No status record for FAB_N fabric cycles makes the status flow silent. -/
def execStatusFlowSilent (s : State) : Host.Outcome State Fault Refusal :=
  completes s (statusFlowSilent s)

/-- LIMP_RESTART (R370): A write of RESTART sets the limp timer back to LIMP_TMAX once per episode. -/
def execLimpRestart (w : Nat) (s : State) : Host.Outcome State Fault Refusal :=
  completes s (s.asWriter w 0x2410 (limpRestart w))

/-- LIMP_EXPIRY (R371): The limp timer expires and the half derates or ramps its shared motors to stop. -/
def execLimpExpiry (restarted : Bool) (s : State) : Host.Outcome State Fault Refusal :=
  completes s (limpExpiry restarted s)

/-- LIMP_RAMP_END (R371): The STOP ramp reaches zero and the half enters SAFE. -/
def execLimpRampEnd (s : State) : Host.Outcome State Fault Refusal :=
  completes s (limpRampEnd s)

/-- TEST_PULSE (R377): A sensor supply is switched off for TP_WIDTH at its slot of TP_PERIOD. -/
def execTestPulse (k : Nat) (s : State) : Host.Outcome State Fault Refusal :=
  completes s (testPulse k s)

/-- TEST_PULSE_SAMPLE (R378): At TP_WIDTH − 5 µs SAFE samples the inputs and raises SSUP_SHORT on a finding. -/
def execTestPulseSample (k : Nat) (low : List Bool) (ain : List Nat) (mv : Nat)
    (s : State) : Host.Outcome State Fault Refusal :=
  completes s (testPulseSample k low ain mv s)

/-- SSUP_RANGE (R379): A supply readback outside its window for 1 ms raises SSUP_RANGE. -/
def execSsupRange (k mv : Nat) (s : State) : Host.Outcome State Fault Refusal :=
  completes s (ssupRange k mv s)

/-- SLUICE_TEST_RUN (R381): A write of SAFE_SLT.RUN in STANDBY runs a series-switch test. -/
def execSluiceTestRun (w : Nat) (s : State) : Host.Outcome State Fault Refusal :=
  completes s (s.asWriter w 0x2434 Sys2Proof.Machine.sluiceTestRun)

/-- KEY_WRITE (R383): A write of SAFE_KEY enters one word of the password. -/
def execKeyWrite (w : Nat) (v : Word) (s : State) : Host.Outcome State Fault Refusal :=
  completes s (s.asWriter w 0x2428 (keyWrite w v))

/-- KEY_TIMEOUT (R383): 100 ms without the second key word discard the first. -/
def execKeyTimeout (s : State) : Host.Outcome State Fault Refusal :=
  completes s (keyTimeout s)

/-- KEY_CHECK (R383): SAFE compares the password hash and opens the unlock or counts a wrong attempt. -/
def execKeyCheck (s : State) : Host.Outcome State Fault Refusal :=
  completes s (keyCheck s)

/-- UNLOCK_LOCK (R386): A write of SAFE_UNL.LOCK closes the unlock. -/
def execUnlockLock (w : Nat) (s : State) : Host.Outcome State Fault Refusal :=
  completes s (s.asWriter w 0x242C Sys2Proof.Machine.unlockLock)

/-- UNLOCK_TIMEOUT (R386): 60 s without a member write close the unlock. -/
def execUnlockTimeout (s : State) : Host.Outcome State Fault Refusal :=
  completes s (unlockTimeout s)

/-- PW_SET (R388): A write of PW_SET stores the new hash with the next generation. -/
def execPwSet (w : Nat) (s : State) : Host.Outcome State Fault Refusal :=
  completes s (s.asWriter w 0x242C (pwSet w))

end Sys2Proof.Machine
end

