-- ==== Sys2Proof/Machine/ServiceRows.lean ====
section
/-! DEFINITION. The meanings of the commands of mailbox services, the log and handover: each lets its effect on the blocks stand and leaves the queue. -/

namespace Sys2Proof.Machine

/-- IDENT (R480): Service IDENT returns the identity block. -/
def execIdent (s : State) : Host.Outcome State Fault Refusal :=
  completes s (ident s)

/-- STATUS (R480): Service STATUS returns the state registers. -/
def execStatus (s : State) : Host.Outcome State Fault Refusal :=
  completes s (status s)

/-- LOG_READ (R489): Service LOG_READ returns log entries from a requested ESEQ. -/
def execLogRead (s : State) : Host.Outcome State Fault Refusal :=
  completes s (logRead s)

/-- LOG_MARK (R480): Service LOG_MARK enters a mark in the log. -/
def execLogMark (s : State) : Host.Outcome State Fault Refusal :=
  completes s (logMark s)

/-- SENSORS (R480): Service SENSORS returns the temperature and supply readings. -/
def execSensors (s : State) : Host.Outcome State Fault Refusal :=
  completes s (sensors s)

/-- FLASH_ERASE (R490): Service FLASH_ERASE erases 64 KiB blocks of a region. -/
def execFlashErase (s : State) : Host.Outcome State Fault Refusal :=
  completes s (flashErase s)

/-- FLASH_WRITE (R490): Service FLASH_WRITE programs bytes within one page. -/
def execFlashWrite (held : Option (List Byte)) (s : State) : Host.Outcome State Fault Refusal :=
  completes s (flashWrite held s)

/-- FLASH_READ (R480): Service FLASH_READ returns up to 256 bytes of a region. -/
def execFlashRead (s : State) : Host.Outcome State Fault Refusal :=
  completes s (flashRead s)

/-- VERIFY (R491): Service VERIFY checks an image copy or firmware slot. -/
def execVerify (s : State) : Host.Outcome State Fault Refusal :=
  completes s (verify s)

/-- IMG_COMMIT (R491): Service IMG_COMMIT verifies copy 1 and copies it over copy 0. -/
def execImgCommit (s : State) : Host.Outcome State Fault Refusal :=
  completes s (imgCommit s)

/-- IMG_REPAIR (R115): Service IMG_REPAIR writes the valid copy over the invalid one. -/
def execImgRepair (s : State) : Host.Outcome State Fault Refusal :=
  completes s (imgRepair s)

/-- LONG_SERVICE_DONE (R480): A long service completes and reports its outcome in MGMT_UPD. -/
def execLongServiceDone (fails : Bool) (s : State) : Host.Outcome State Fault Refusal :=
  completes s (longServiceDone fails s)

/-- HALF_RESET (R492): Service HALF_RESET resets the half and repeats the boot. -/
def execHalfReset (s : State) : Host.Outcome State Fault Refusal :=
  completes s (halfReset s)

/-- UPDATE_ENTER (R492): Service UPDATE_ENTER takes the half from STANDBY to UPDATE. -/
def execUpdateEnter (s : State) : Host.Outcome State Fault Refusal :=
  completes s (updateEnter s)

/-- UPDATE_END (R492): Service UPDATE_END starts the boot. -/
def execUpdateEnd (s : State) : Host.Outcome State Fault Refusal :=
  completes s (updateEnd s)

/-- HANDOVER (R493): Service HANDOVER starts a handover by sending HO_REQ. -/
def execHandover (s : State) : Host.Outcome State Fault Refusal :=
  completes s (handover s)

/-- PROVISION_KEY (R484): Service PROVISION_KEY writes the image-key hash into blank OTP. -/
def execProvisionKey (held : Option (List Byte)) (s : State) : Host.Outcome State Fault Refusal :=
  completes s (provisionKey held s)

/-- LOG_WRITE (R488): The MP writes a log entry to the next line and reads it back. -/
def execLogWrite (held : Option (List Byte)) (s : State) : Host.Outcome State Fault Refusal :=
  completes s (logWrite held s)

/-- HO_REQ (R494): A received HO_REQ is answered with HO_ACK or HO_NAK. -/
def execHoReq (s : State) : Host.Outcome State Fault Refusal :=
  completes s (hoReq s)

/-- HO_ACK (R494): A received HO_ACK starts the split ramp. -/
def execHoAck (s : State) : Host.Outcome State Fault Refusal :=
  completes s (hoAck s)

/-- HO_NAK (R494): A received HO_NAK puts the leaving half in FAIL. -/
def execHoNak (s : State) : Host.Outcome State Fault Refusal :=
  completes s (hoNak s)

/-- HO_RAMP_DONE (R495): The split reaching its target sends HO_OUT and takes the leaving half out of service. -/
def execHoRampDone (s : State) : Host.Outcome State Fault Refusal :=
  completes s (hoRampDone s)

/-- HO_OUT (R495): A received HO_OUT marks the partner as leaving. -/
def execHoOut (s : State) : Host.Outcome State Fault Refusal :=
  completes s (hoOutRx s)

/-- HO_TIMEOUT (R496): Targets not reached within HO_TMO abort the ramp. -/
def execHoTimeout (s : State) : Host.Outcome State Fault Refusal :=
  completes s (hoTimeout s)

/-- HO_ABORT (R496): A received HO_ABORT ends the handover in FAIL. -/
def execHoAbort (s : State) : Host.Outcome State Fault Refusal :=
  completes s (hoAbort s)

/-- HO_BACK (R497): A received HO_BACK returns the partner to IDLE. -/
def execHoBack (s : State) : Host.Outcome State Fault Refusal :=
  completes s (hoBack s)

/-- UPD_NEXT (R497): A received UPD_NEXT sets MGMT_HO.NEXT. -/
def execUpdNext (s : State) : Host.Outcome State Fault Refusal :=
  completes s (updNext s)

end Sys2Proof.Machine
end

