-- ==== Sys2Proof/Machine/TickRows.lean ====
section
/-! DEFINITION. The meanings of the commands of the tick and the Rake: each lets its effect on the blocks stand and leaves the queue. -/

namespace Sys2Proof.Machine

/-- TICK_BOUNDARY (R39): At each tick boundary the Rake starts a new tick, reloads the PWM and applies the per-boundary
updates of every block. -/
def execTickBoundary (s : State) : Host.Outcome State Fault Refusal :=
  completes s (tickBoundary s)

/-- SAMPLE (R129): At SAMPLE_PHASE the sample-and-holds capture their channels simultaneously. -/
def execSample (codes : List Nat) (s : State) : Host.Outcome State Fault Refusal :=
  completes s (sample codes s)

/-- CONVERSION_COMPLETE (R133): A conversion slot ends and its corrected result is written to X and its mirror. -/
def execConversionComplete (c j raw : Nat) (s : State) : Host.Outcome State Fault Refusal :=
  completes s (conversionComplete c j raw s)

/-- PREEMPTION_REQUEST (R45): At PREEMPT_PHASE a running B-program is asked to stop. -/
def execPreemptionRequest (s : State) : Host.Outcome State Fault Refusal :=
  completes s (preemptionRequest s)

/-- B_PROGRAM_STOP (R227): The B-program stops at the next bundle boundary outside a REP and its PC, flags and pending
results are held. -/
def execBProgramStop (s : State) : Host.Outcome State Fault Refusal :=
  completes s (bProgramStop s)

/-- T_PROGRAM_START (R252): At TSTART pass A and pass B of the T-program, or of the known-answer test, begin to issue. -/
def execTProgramStart (hits : List KatHit) (s : State) : Host.Outcome State Fault Refusal :=
  completes s (tProgramStart hits s)

/-- OUTPUT_COMMIT (R24): At OUT_PHASE the compare values, Sluice requests and transmit words of an agreed T-program are
committed. -/
def execOutputCommit (s : State) : Host.Outcome State Fault Refusal :=
  completes s (outputCommit s)

/-- B_PROGRAM_RESUME (R46): The B-program resumes from its saved PC and flags in the CEC after the pass-B halt. -/
def execBProgramResume (s : State) : Host.Outcome State Fault Refusal :=
  completes s (bProgramResume s)

/-- ANGLE_RESOLVE (R191): At TSTART − 3 the CE resolves each motor's commutation angle and writes it with its mirror. -/
def execAngleResolve (s : State) : Host.Outcome State Fault Refusal :=
  completes s (angleResolve s)

/-- LOCK_STEP (R64): At a step slot the Rake inserts or deletes one count to reduce the phase error. -/
def execLockStep (k : Nat) (s : State) : Host.Outcome State Fault Refusal :=
  completes s (lockStep k s)

/-- PHASE_MEASUREMENT (R63): Once per tick the phase error against the lock reference is measured and the lock state
updated. -/
def execPhaseMeasurement (instant : Int) (s : State) : Host.Outcome State Fault Refusal :=
  completes s (phaseMeasurement instant s)

/-- HOLDOVER_ENTRY (R68): Four ticks without a measurement move the lock state to HOLDOVER. -/
def execHoldoverEntry (s : State) : Host.Outcome State Fault Refusal :=
  completes s (holdoverEntry s)

/-- HOLDOVER_TIMEOUT (R68): One second in HOLDOVER moves the lock state to FREE. -/
def execHoldoverTimeout (s : State) : Host.Outcome State Fault Refusal :=
  completes s (holdoverTimeout s)

end Sys2Proof.Machine
end

