-- ==== Sys2Proof/Machine/WakeRows.lean ====
section
/-! DEFINITION. The meanings of the commands of the WATCH sequencer and wake sources: each lets its effect on the blocks stand and leaves the queue. -/

namespace Sys2Proof.Machine

/-- WATCH_CYCLE (R471): Every PERIOD ms the WATCH sequencer samples its source and wakes the half on a change. -/
def execWatchCycle (enc : EncWord) (hall : Nat) (raw : Nat) (wake : Option (Nat × Nat))
    (s : State) : Host.Outcome State Fault Refusal :=
  completes s (Sys2Proof.Machine.watchCycle enc hall raw wake s)

/-- WAKE_PIN (R470): WAKE at its active level for 50 µs wakes the half. -/
def execWakePin (high : Bool) (s : State) : Host.Outcome State Fault Refusal :=
  completes s (wakePin high s)

/-- CAN_WAKE (R470): A CAN wake-up pattern on CANRX wakes the half. -/
def execCanWake (c dom1 rec1 dom2 : Nat) (s : State) : Host.Outcome State Fault Refusal :=
  completes s (canWake c dom1 rec1 dom2 s)

/-- ETH_WAKE (R470): ETHWAKE raised by a PHY wakes the half. -/
def execEthWake (p : Nat) (s : State) : Host.Outcome State Fault Refusal :=
  completes s (ethWake p s)

/-- BRINE_WAKE (R470): The Brine wake pattern on lane 0 for 20 µs wakes the half. -/
def execBrineWake (us : Nat) (s : State) : Host.Outcome State Fault Refusal :=
  completes s (brineWake us s)

/-- POR_ASSERT (R508): A rail below its assert level for 2 µs takes the half to OFF. -/
def execPorAssert (s : State) : Host.Outcome State Fault Refusal :=
  completes s (porAssert s)

end Sys2Proof.Machine
end

