-- ==== Sys2Proof/Machine/Dispatch.lean ====
section
/-! DEFINITION. One arm per command: a direct call of its meaning. -/

namespace Sys2Proof.Machine

/-- The effect of a command on everything but the queue. -/
def exec (i : Instr) (s : State) : Host.Outcome State Fault Refusal :=
  match i with
  -- control-engine bundles, writeback comparison and known-answer test
  | .nop e ctl ms as_ ls => Sys2Proof.Machine.execNop e ctl ms as_ ls s
  | .rep e ms as_ ls => Sys2Proof.Machine.execRep e ms as_ ls s
  | .ls e k ms as_ ls => Sys2Proof.Machine.execLs e k ms as_ ls s
  | .le e k ms as_ ls => Sys2Proof.Machine.execLe e k ms as_ ls s
  | .ler e k ms as_ ls => Sys2Proof.Machine.execLer e k ms as_ ls s
  | .rot e ms as_ ls => Sys2Proof.Machine.execRot e ms as_ ls s
  | .pp e ms as_ ls => Sys2Proof.Machine.execPp e ms as_ ls s
  | .ctxrun e ms as_ ls => Sys2Proof.Machine.execCtxrun e ms as_ ls s
  | .compete e ms as_ ls => Sys2Proof.Machine.execCompete e ms as_ ls s
  | .halt e ms as_ ls => Sys2Proof.Machine.execHalt e ms as_ ls s
  | .mpy e sat dd da db => Sys2Proof.Machine.execMpy e sat dd da db s
  | .mpa e sat n da db => Sys2Proof.Machine.execMpa e sat n da db s
  | .mac e sat n da db => Sys2Proof.Machine.execMac e sat n da db s
  | .msu e sat n da db => Sys2Proof.Machine.execMsu e sat n da db s
  | .mva e sat dd n sh => Sys2Proof.Machine.execMva e sat dd n sh s
  | .lda e sat n da => Sys2Proof.Machine.execLda e sat n da s
  | .clra e n t => Sys2Proof.Machine.execClra e n t s
  | .adda e sat n m => Sys2Proof.Machine.execAdda e sat n m s
  | .suba e sat n m => Sys2Proof.Machine.execSuba e sat n m s
  | .nega e sat n m => Sys2Proof.Machine.execNega e sat n m s
  | .muli e sat dd da db => Sys2Proof.Machine.execMuli e sat dd da db s
  | .add e sat dd da db => Sys2Proof.Machine.execAdd e sat dd da db s
  | .sub e sat dd da db => Sys2Proof.Machine.execSub e sat dd da db s
  | .min e sat dd da db => Sys2Proof.Machine.execMin e sat dd da db s
  | .max e sat dd da db => Sys2Proof.Machine.execMax e sat dd da db s
  | .sel e sat dd da db => Sys2Proof.Machine.execSel e sat dd da db s
  | .cmp e sat c da db => Sys2Proof.Machine.execCmp e sat c da db s
  | .div e dd da db => Sys2Proof.Machine.execDiv e dd da db s
  | .asr e sat dd da n5 => Sys2Proof.Machine.execAsr e sat dd da n5 s
  | .asl e sat dd da n5 => Sys2Proof.Machine.execAsl e sat dd da n5 s
  | .and e sat dd da db => Sys2Proof.Machine.execAnd e sat dd da db s
  | .or e sat dd da db => Sys2Proof.Machine.execOr e sat dd da db s
  | .xor e sat dd da db => Sys2Proof.Machine.execXor e sat dd da db s
  | .addi e sat dd da imm5 => Sys2Proof.Machine.execAddi e sat dd da imm5 s
  | .mov e sat dd da => Sys2Proof.Machine.execMov e sat dd da s
  | .neg e sat dd da => Sys2Proof.Machine.execNeg e sat dd da s
  | .abs e sat dd da => Sys2Proof.Machine.execAbs e sat dd da s
  | .sin e sat dd da => Sys2Proof.Machine.execSin e sat dd da s
  | .cos e sat dd da => Sys2Proof.Machine.execCos e sat dd da s
  | .rsqrt e dd da => Sys2Proof.Machine.execRsqrt e dd da s
  | .not e sat dd da => Sys2Proof.Machine.execNot e sat dd da s
  | .ldxy e dx dy px py mx my => Sys2Proof.Machine.execLdxy e dx dy px py mx my s
  | .ldx e dd p md => Sys2Proof.Machine.execLdx e dd p md s
  | .ldy e dd p md => Sys2Proof.Machine.execLdy e dd p md s
  | .stx e ds p md => Sys2Proof.Machine.execStx e ds p md s
  | .sty e ds p md => Sys2Proof.Machine.execSty e ds p md s
  | .ldi e dd h imm11 => Sys2Proof.Machine.execLdi e dd h imm11 s
  | .ldip e p imm13 => Sys2Proof.Machine.execLdip e p imm13 s
  | .ldim e k => Sys2Proof.Machine.execLdim e k s
  | .mvts e ds r => Sys2Proof.Machine.execMvts e ds r s
  | .mvfs e dd r => Sys2Proof.Machine.execMvfs e dd r s
  | .writebackCompare f1 f2 => Sys2Proof.Machine.execWritebackCompare f1 f2 s
  | .katVerdict => Sys2Proof.Machine.execKatVerdict s
  -- the tick and the Rake
  | .tickBoundary => Sys2Proof.Machine.execTickBoundary s
  | .sample codes => Sys2Proof.Machine.execSample codes s
  | .conversionComplete c j raw => Sys2Proof.Machine.execConversionComplete c j raw s
  | .preemptionRequest => Sys2Proof.Machine.execPreemptionRequest s
  | .bProgramStop => Sys2Proof.Machine.execBProgramStop s
  | .tProgramStart hits => Sys2Proof.Machine.execTProgramStart hits s
  | .outputCommit => Sys2Proof.Machine.execOutputCommit s
  | .bProgramResume => Sys2Proof.Machine.execBProgramResume s
  | .angleResolve => Sys2Proof.Machine.execAngleResolve s
  | .lockStep k => Sys2Proof.Machine.execLockStep k s
  | .phaseMeasurement instant => Sys2Proof.Machine.execPhaseMeasurement instant s
  | .holdoverEntry => Sys2Proof.Machine.execHoldoverEntry s
  | .holdoverTimeout => Sys2Proof.Machine.execHoldoverTimeout s
  -- register accesses, commits and the vote of triplicated fields
  | .hostSpiWrite mosi clocks bs => Sys2Proof.Machine.execHostSpiWrite mosi clocks bs s
  | .hostSpiRead mosi clocks bs ups => Sys2Proof.Machine.execHostSpiRead mosi clocks bs ups s
  | .registerWrite w off v hw => Sys2Proof.Machine.execRegisterWrite w off v hw s
  | .idxAddrWrite w v => Sys2Proof.Machine.execIdxAddrWrite w v s
  | .idxDataAccess w wr hw => Sys2Proof.Machine.execIdxDataAccess w wr hw s
  | .xQueueDrain => Sys2Proof.Machine.execXQueueDrain s
  | .commit w mask => Sys2Proof.Machine.execCommit w mask s
  | .commitSnapshot => Sys2Proof.Machine.execCommitSnapshot s
  | .commitApply => Sys2Proof.Machine.execCommitApply s
  | .discard w mask => Sys2Proof.Machine.execDiscard w mask s
  | .tmrRewrite ups => Sys2Proof.Machine.execTmrRewrite ups s
  -- start-up, state requests and wake
  | .porRelease env => Sys2Proof.Machine.execPorRelease env s
  | .bootTmo => Sys2Proof.Machine.execBootTmo s
  | .reqArmed w => Sys2Proof.Machine.execReqArmed w s
  | .reqStandby w => Sys2Proof.Machine.execReqStandby w s
  | .reqSafe w => Sys2Proof.Machine.execReqSafe w s
  | .reqWatch w => Sys2Proof.Machine.execReqWatch w s
  | .pendingRequest => Sys2Proof.Machine.execPendingRequest s
  | .seriesSwitchOpenDelay => Sys2Proof.Machine.execSeriesSwitchOpenDelay s
  -- the analog front end
  | .afeCtrlStop w => Sys2Proof.Machine.execAfeCtrlStop w s
  | .afeCtrlRun w => Sys2Proof.Machine.execAfeCtrlRun w s
  | .afeOc k out => Sys2Proof.Machine.execAfeOc k out s
  | .calibrationWindow x => Sys2Proof.Machine.execCalibrationWindow x s
  | .hostcalTimeout k => Sys2Proof.Machine.execHostcalTimeout k s
  -- position and speed
  | .encoderRequest => Sys2Proof.Machine.execEncoderRequest s
  | .encoderWordRelease p x => Sys2Proof.Machine.execEncoderWordRelease p x s
  | .hallCodeTaken h code => Sys2Proof.Machine.execHallCodeTaken h code s
  | .positionVote => Sys2Proof.Machine.execPositionVote s
  | .sourceDrop m src => Sys2Proof.Machine.execSourceDrop m src s
  | .posDis m => Sys2Proof.Machine.execPosDis m s
  | .posOne m => Sys2Proof.Machine.execPosOne m s
  | .posNone m => Sys2Proof.Machine.execPosNone m s
  | .readmit w m mask => Sys2Proof.Machine.execReadmit w m mask s
  | .sourceReadmitted m src => Sys2Proof.Machine.execSourceReadmitted m src s
  | .load m w => Sys2Proof.Machine.execLoad m w s
  -- motor channels
  | .catchDecision m => Sys2Proof.Machine.execCatchDecision m s
  | .brakeSegmentEnd m => Sys2Proof.Machine.execBrakeSegmentEnd m s
  | .refuseShortEnd m => Sys2Proof.Machine.execRefuseShortEnd m s
  | .alignEnd m => Sys2Proof.Machine.execAlignEnd m s
  | .pauseEnd m => Sys2Proof.Machine.execPauseEnd m s
  | .startTimeout m => Sys2Proof.Machine.execStartTimeout m s
  | .startHandover m => Sys2Proof.Machine.execStartHandover m s
  | .hstepWrite w m kind dur param => Sys2Proof.Machine.execHstepWrite w m kind dur param s
  | .hstepStepEnd m => Sys2Proof.Machine.execHstepStepEnd m s
  | .fieldLock m => Sys2Proof.Machine.execFieldLock m s
  | .fieldLockHold m => Sys2Proof.Machine.execFieldLockHold m s
  -- the power stage
  | .pwmEdge g t sensed => Sys2Proof.Machine.execPwmEdge g t sensed s
  | .gdHs g => Sys2Proof.Machine.execGdHs g s
  | .gdXcmd p => Sys2Proof.Machine.execGdXcmd p s
  | .gdVds g above => Sys2Proof.Machine.execGdVds g above s
  | .gdBsuv g low => Sys2Proof.Machine.execGdBsuv g low s
  | .bsuvStage => Sys2Proof.Machine.execBsuvStage s
  | .gdCp low => Sys2Proof.Machine.execGdCp low s
  | .gdCut p bad => Sys2Proof.Machine.execGdCut p bad s
  | .cutoffForcedOpen p => Sys2Proof.Machine.execCutoffForcedOpen p s
  | .chopperOn => Sys2Proof.Machine.execChopperOn s
  | .chopperOff => Sys2Proof.Machine.execChopperOff s
  | .gdChot => Sys2Proof.Machine.execGdChot s
  | .chopperRestEnd => Sys2Proof.Machine.execChopperRestEnd s
  | .gdCho => Sys2Proof.Machine.execGdCho s
  | .gdChs current => Sys2Proof.Machine.execGdChs current s
  | .gdOvs => Sys2Proof.Machine.execGdOvs s
  | .gdOvsRelease => Sys2Proof.Machine.execGdOvsRelease s
  | .gdOvabs => Sys2Proof.Machine.execGdOvabs s
  | .gdOvabsRelease => Sys2Proof.Machine.execGdOvabsRelease s
  | .gdSlvds hs above => Sys2Proof.Machine.execGdSlvds hs above s
  | .sluiceTestEnd x => Sys2Proof.Machine.execSluiceTestEnd x s
  -- fault collection and the monitors of the MP
  | .reactionRelease => Sys2Proof.Machine.execReactionRelease s
  | .fcSelf lost => Sys2Proof.Machine.execFcSelf lost s
  | .hostAnswer w seq react => Sys2Proof.Machine.execHostAnswer w seq react s
  | .graceExpiry answered => Sys2Proof.Machine.execGraceExpiry answered s
  | .firstClr w => Sys2Proof.Machine.execFirstClr w s
  | .restartEdge us either => Sys2Proof.Machine.execRestartEdge us either s
  | .aliveToggle => Sys2Proof.Machine.execAliveToggle s
  | .clkMon k bad => Sys2Proof.Machine.execClkMon k bad s
  | .mpWdog silent => Sys2Proof.Machine.execMpWdog silent s
  | .mpLockstep => Sys2Proof.Machine.execMpLockstep s
  | .sensorPoll temps => Sys2Proof.Machine.execSensorPoll temps s
  | .supplyPoll vals => Sys2Proof.Machine.execSupplyPoll vals s
  -- safety functions
  | .peerAliveEdge => Sys2Proof.Machine.execPeerAliveEdge s
  | .peerAliveTimeout => Sys2Proof.Machine.execPeerAliveTimeout s
  | .statusFlowSilent => Sys2Proof.Machine.execStatusFlowSilent s
  | .limpRestart w => Sys2Proof.Machine.execLimpRestart w s
  | .limpExpiry restarted => Sys2Proof.Machine.execLimpExpiry restarted s
  | .limpRampEnd => Sys2Proof.Machine.execLimpRampEnd s
  | .testPulse k => Sys2Proof.Machine.execTestPulse k s
  | .testPulseSample k low ain mv => Sys2Proof.Machine.execTestPulseSample k low ain mv s
  | .ssupRange k mv => Sys2Proof.Machine.execSsupRange k mv s
  | .sluiceTestRun w => Sys2Proof.Machine.execSluiceTestRun w s
  | .keyWrite w v => Sys2Proof.Machine.execKeyWrite w v s
  | .keyTimeout => Sys2Proof.Machine.execKeyTimeout s
  | .keyCheck => Sys2Proof.Machine.execKeyCheck s
  | .unlockLock w => Sys2Proof.Machine.execUnlockLock w s
  | .unlockTimeout => Sys2Proof.Machine.execUnlockTimeout s
  | .pwSet w => Sys2Proof.Machine.execPwSet w s
  -- the Brine link
  | .brineExchange => Sys2Proof.Machine.execBrineExchange s
  | .perTickFrameRx slots at_ => Sys2Proof.Machine.execPerTickFrameRx slots at_ s
  | .brineRxXwrite => Sys2Proof.Machine.execBrineRxXwrite s
  | .brineFrameMissing => Sys2Proof.Machine.execBrineFrameMissing s
  | .brineEnable w en => Sys2Proof.Machine.execBrineEnable w en s
  | .beacon => Sys2Proof.Machine.execBeacon s
  | .trainingSetRx lane0 lane1 trip wrong => Sys2Proof.Machine.execTrainingSetRx lane0 lane1 trip wrong s
  | .trainDone => Sys2Proof.Machine.execTrainDone s
  | .trainTimeout => Sys2Proof.Machine.execTrainTimeout s
  | .retrain w => Sys2Proof.Machine.execRetrain w s
  | .commandFrameTx code payload => Sys2Proof.Machine.execCommandFrameTx code payload s
  | .commandFrameRx slots => Sys2Proof.Machine.execCommandFrameRx slots s
  | .commandAck slots => Sys2Proof.Machine.execCommandAck slots s
  | .commandRetryTimeout => Sys2Proof.Machine.execCommandRetryTimeout s
  | .bulkUnitTx trace bytes => Sys2Proof.Machine.execBulkUnitTx trace bytes s
  | .bulkUnitRx slots bs => Sys2Proof.Machine.execBulkUnitRx slots bs s
  | .creditSet slots => Sys2Proof.Machine.execCreditSet slots s
  | .wakeTx w => Sys2Proof.Machine.execWakeTx w s
  -- the Horbiud fabric and the CAN FD ports
  | .frameForward q idle f => Sys2Proof.Machine.execFrameForward q idle f s
  | .data q idle f => Sys2Proof.Machine.execData q idle f s
  | .regReq q idle f bs => Sys2Proof.Machine.execRegReq q idle f bs s
  | .regRsp q idle f => Sys2Proof.Machine.execRegRsp q idle f s
  | .mboxReq q idle f => Sys2Proof.Machine.execMboxReq q idle f s
  | .mboxRsp q idle f => Sys2Proof.Machine.execMboxRsp q idle f s
  | .announce q idle f => Sys2Proof.Machine.execAnnounce q idle f s
  | .ringEvt q idle f => Sys2Proof.Machine.execRingEvt q idle f s
  | .neighbor q f => Sys2Proof.Machine.execNeighbor q f s
  | .gptpFrame q domain m => Sys2Proof.Machine.execGptpFrame q domain m s
  | .otherEthertype q frame => Sys2Proof.Machine.execOtherEthertype q frame s
  | .neighborLoss p down => Sys2Proof.Machine.execNeighborLoss p down s
  | .addressHold => Sys2Proof.Machine.execAddressHold s
  | .routeAgeing => Sys2Proof.Machine.execRouteAgeing s
  | .fabricCycleStart => Sys2Proof.Machine.execFabricCycleStart s
  | .scheduledWindow k => Sys2Proof.Machine.execScheduledWindow k s
  | .bulkPhaseStart => Sys2Proof.Machine.execBulkPhaseStart s
  | .bulkFrameSend p => Sys2Proof.Machine.execBulkFrameSend p s
  | .e2eCheck => Sys2Proof.Machine.execE2eCheck s
  | .canFrameRx c evs f bs => Sys2Proof.Machine.execCanFrameRx c evs f bs s
  -- flows and pans
  | .flowEnable w f => Sys2Proof.Machine.execFlowEnable w f s
  | .flowDisable w f => Sys2Proof.Machine.execFlowDisable w f s
  | .plenWrite w f len => Sys2Proof.Machine.execPlenWrite w f len s
  | .push w f => Sys2Proof.Machine.execPush w f s
  | .pop w f => Sys2Proof.Machine.execPop w f s
  | .flush w f => Sys2Proof.Machine.execFlush w f s
  | .clear w f slot => Sys2Proof.Machine.execClear w f slot s
  | .xDelivery f => Sys2Proof.Machine.execXDelivery f s
  -- the WATCH sequencer and wake sources
  | .watchCycle enc hall raw wake => Sys2Proof.Machine.execWatchCycle enc hall raw wake s
  | .wakePin high => Sys2Proof.Machine.execWakePin high s
  | .canWake c dom1 rec1 dom2 => Sys2Proof.Machine.execCanWake c dom1 rec1 dom2 s
  | .ethWake p => Sys2Proof.Machine.execEthWake p s
  | .brineWake us => Sys2Proof.Machine.execBrineWake us s
  | .porAssert => Sys2Proof.Machine.execPorAssert s
  -- mailbox services, the log and handover
  | .ident => Sys2Proof.Machine.execIdent s
  | .status => Sys2Proof.Machine.execStatus s
  | .logRead => Sys2Proof.Machine.execLogRead s
  | .logMark => Sys2Proof.Machine.execLogMark s
  | .sensors => Sys2Proof.Machine.execSensors s
  | .flashErase => Sys2Proof.Machine.execFlashErase s
  | .flashWrite held => Sys2Proof.Machine.execFlashWrite held s
  | .flashRead => Sys2Proof.Machine.execFlashRead s
  | .verify => Sys2Proof.Machine.execVerify s
  | .imgCommit => Sys2Proof.Machine.execImgCommit s
  | .imgRepair => Sys2Proof.Machine.execImgRepair s
  | .longServiceDone fails => Sys2Proof.Machine.execLongServiceDone fails s
  | .halfReset => Sys2Proof.Machine.execHalfReset s
  | .updateEnter => Sys2Proof.Machine.execUpdateEnter s
  | .updateEnd => Sys2Proof.Machine.execUpdateEnd s
  | .handover => Sys2Proof.Machine.execHandover s
  | .provisionKey held => Sys2Proof.Machine.execProvisionKey held s
  | .logWrite held => Sys2Proof.Machine.execLogWrite held s
  | .hoReq => Sys2Proof.Machine.execHoReq s
  | .hoAck => Sys2Proof.Machine.execHoAck s
  | .hoNak => Sys2Proof.Machine.execHoNak s
  | .hoRampDone => Sys2Proof.Machine.execHoRampDone s
  | .hoOut => Sys2Proof.Machine.execHoOut s
  | .hoTimeout => Sys2Proof.Machine.execHoTimeout s
  | .hoAbort => Sys2Proof.Machine.execHoAbort s
  | .hoBack => Sys2Proof.Machine.execHoBack s
  | .updNext => Sys2Proof.Machine.execUpdNext s
  -- CAN FD sending, port links and gPTP loss
  | .canFrameTx c k evs => Sys2Proof.Machine.execCanFrameTx c k evs s
  | .portLinkUp p speed => Sys2Proof.Machine.execPortLinkUp p speed s
  | .gptpSyncLoss => Sys2Proof.Machine.execGptpSyncLoss s

end Sys2Proof.Machine
end

