-- ==== Sys2Proof/Safety.lean ====
section
/-! DEFINITION. What counts as a safe state and a safe step, and the states that bundles of the control engine leave, in the
terms the statements use. -/

namespace Sys2Proof.Safety

open Sys2Proof.Machine

/-! ### Safe states -/

/-- The gates of a leg are not both on (R312): `g` and its complement. -/
def legSafe (s : State) (g : Nat) : Bool := !(s.gateOn g && s.gateOn (g ^^^ 1))

/-- Every byte memory is in its canonical form. -/
def memoriesWf (s : State) : Bool :=
  s.xmem.wf 0 && s.ymem0.wf 0 && s.ymem1.wf 0 && s.pm0.wf 0 && s.pm1.wf 0 && s.mpSram.wf 0xFF && s.sram.wf 0 && s.mram.wf 0 && s.otp.wf 0
    && s.flash.wf 0xFF

/-- A step that goes on. -/
def goesOn (s : State) : Prop := ∃ t, step s = .next t

/-! ### What a bundle leaves -/

/-- The state in which a bundle may issue: one of the T-program comes after the known-answer test of its tick (R50, R252). -/
def ready (e : Issue) (s : State) : State := if e.strm.isT then s.katDone else s

/-- The stream as a bundle of it issues: the clock stands at its slot (R252), the errors that have struck stored words are in them
(R199), what is due in its stream cycle has landed (R214, R215), and the fetch is noted (R195). -/
def atIssue (e : Issue) (s : State) : State :=
  ((e.strikes.foldl State.strike ((ready e s).toSlot e.strm)).landDue e.strm).fetchBundle e.strm

/-- The end of an issue: what a pass of the T-program has due lands, and pass A's count is checked (R225); a B-program stops where it has been
asked to (R169, R170), and its bundle takes a CEC. -/
def closed (x : Strm) (s : State) : State := if x.isT then (s.landNext x).checkIssue x else s.boundaryB.showB.passCec

/-- One stream cycle on, to the next bundle or to the one a REP repeats (R221). -/
def nextBundle (x : Strm) (s : State) : State := closed x (s.goOn x 1 ((s.strm x).pc + 1))

/-- The twin of a writeback: in the passes of the T-program only (R259). -/
def twinOf (s : State) (x : Strm) (slot kind num : Nat) (conf : Bool) : Option Twin :=
  if x.isT then some ⟨(s.strm x).t, slot, kind, num, conf⟩ else none

/-- A result for the D register of name `dd`, held until stream cycle t + `lat`. -/
def dHeld (s : State) (x : Strm) (slot : Nat) (dd : BitVec 5) (r : Int) (tag conf : Bool) (lat : Nat) : Held :=
  ⟨(s.strm x).t + lat, .d (x.dIdx (s.dName x dd)), fieldOf 32 r, tag, twinOf s x slot 0 (s.dName x dd) conf⟩

/-- A tag conflict, where there is one (R258). -/
def conflict (x : Strm) (conf : Bool) (s : State) : State := if conf then s.tagConflict x (s.strm x).pc else s

/-- A bundle whose one operation writes a D register and flags: the D result visible from t + `lat`, the flags from t + 3. -/
def afterD (e : Issue) (s : State) (slot : Nat) (dd : BitVec 5) (r : Int) (tag conf : Bool) (lat : Nat) (fl : FlagWrite) : State :=
  let s := atIssue e s
  nextBundle e.strm (conflict e.strm conf
    ((s.hold e.strm (dHeld s e.strm slot dd r tag conf lat)).holdFlags e.strm (s.strm e.strm).t slot fl conf))

/-- A bundle whose one operation writes an accumulator and flags: a later accumulate reads the result from t + 1, every other
read from t + 3 (R214). -/
def afterAcc (e : Issue) (s : State) (n : BitVec 2) (r : Int) (tag conf : Bool) (fl : FlagWrite) : State :=
  let s := atIssue e s
  let x := e.strm
  let t := (s.strm x).t
  let near : Held := ⟨t + 1, .accNear (x.accIdx n.toNat), fieldOf 72 r, tag, none⟩
  let far : Held := ⟨t + 3, .accFar (x.accIdx n.toNat), fieldOf 72 r, tag, twinOf s x 0 1 n.toNat conf⟩
  nextBundle x (conflict x conf (((s.hold x near).hold x far).holdFlags x t 0 fl conf))

/-- A bundle whose one operation writes a special register. -/
def afterSpecial (e : Issue) (s : State) (r : SReg) (v : Nat) (conf : Bool) : State :=
  let s := atIssue e s
  let x := e.strm
  let t := (s.strm x).t
  nextBundle x (conflict x conf (match r with
    | .flags => s.holdFlags x t 2 ⟨31, v % 32⟩ conf
    | _ => s.hold x ⟨t + 3, r.dest.1.of x, v % 2 ^ r.width, false, twinOf s x 2 r.dest.2.1 r.dest.2.2 conf⟩))

/-! ### The two passes -/

/-- Words of the two passes that stand for one value: equal tags, equal words where the tag is C, and exact negations where it is
S (R257, R259); the S word without a negation stands for none. -/
def twinWords {w : Nat} (a b : BitVec w) (sa sb : Bool) : Prop :=
  sa = sb ∧ (sa = false → a = b) ∧ (sa = true → b.toInt = -a.toInt)

/-- Pass A and pass B hold the same values under the mirrors of R254, and see the same words of X and Y. -/
def passesTwin (s : State) : Prop :=
  s.ce.rrb1 = s.ce.rrb2 ∧ s.ce.flags = s.ce.flagsB ∧ (∀ k, lookup s.ce.lc1 0 k = lookup s.ce.lc2 0 k)
    ∧ (∀ n, n < 32 → twinWords (lookup s.ce.a.d ⟨0, false⟩ n).v (lookup s.ce.b.d ⟨0, false⟩ (31 - n)).v
        (lookup s.ce.a.d ⟨0, false⟩ n).s (lookup s.ce.b.d ⟨0, false⟩ (31 - n)).s)
    ∧ (∀ n, n < 4 → twinWords (lookup s.ce.a.accNear ⟨0, false⟩ n).v (lookup s.ce.b.accNear ⟨0, false⟩ (3 - n)).v
        (lookup s.ce.a.accNear ⟨0, false⟩ n).s (lookup s.ce.b.accNear ⟨0, false⟩ (3 - n)).s)
    ∧ (∀ n, n < 4 → twinWords (lookup s.ce.a.accFar ⟨0, false⟩ n).v (lookup s.ce.b.accFar ⟨0, false⟩ (3 - n)).v
        (lookup s.ce.a.accFar ⟨0, false⟩ n).s (lookup s.ce.b.accFar ⟨0, false⟩ (3 - n)).s)
    ∧ (∀ n, n < 8 → lookup s.ce.a.p 0 n = lookup s.ce.b.p 0 (7 - n) ∧ lookup s.ce.a.pm 0 n = lookup s.ce.b.pm 0 (7 - n)
        ∧ lookup s.ce.a.pl 0 n = lookup s.ce.b.pl 0 (7 - n))
    ∧ (∀ a, s.xSeen .passA a = s.xSeen .passB a) ∧ (∀ a, s.ySeen .passA a = s.ySeen .passB a)

/-- A result as the comparators are shown it. -/
def shown (e : Effect) : Landed := ⟨0, ⟨0, e.slot, e.kind, e.num, false⟩, e.val, shownTag e.kind e.tag, 0, none⟩

/-- Results of the two passes that go to one destination at one time and that the comparators find in agreement. -/
def resultsAgree (a b : Effect) : Prop := a.dst = b.dst ∧ a.lat = b.lat ∧ a.tag = b.tag ∧ agrees (shown a) (shown b) = true

/-- A result that has a negation in its register: not the S-tagged word 0x8000_0000, or −2⁷¹ in an accumulator (R259). -/
def negatable (e : Effect) : Prop := e.tag = true → e.val ≠ 2 ^ (if e.kind = 1 then 71 else 31)

/-- What one slot does in the two passes: conflicts alike; and without one, where every result has a negation, the same flags,
address registers and store, and results in agreement. -/
def slotsAgree (a b : SlotOut) : Prop :=
  a.conf = b.conf ∧ (a.conf = false → (∀ e ∈ a.effs, negatable e) →
    a.fl = b.fl ∧ a.posts = b.posts ∧ a.stored = b.stored ∧ a.xmin = b.xmin ∧ List.Forall₂ resultsAgree a.effs b.effs)

end Sys2Proof.Safety
end

