-- ==== Sys2Proof/Certificates/Slice0/Obligations.lean ====
section
/-! DEFINITION. The statements for the provers, in the terms of the model and of Safety. -/

open Sys2Proof Sys2Proof.Machine Sys2Proof.Safety

/-! ### The block -/

/-- The block serves its commands first in, first out: the command at the front of the queue acts with the queue's rest. -/
def Obligations.front_command_runs : Prop :=
  ∀ (c : Instr) (r : List Instr) (s : State), s.pending = c :: r → step s = exec c { s with pending := r }

/-- With no command waiting one CEC passes and nothing else happens (log entry 5, a choice of the model). -/
def Obligations.idle_block_lets_a_cec_pass : Prop :=
  ∀ s : State, s.pending = [] → step s = .next { s with now := s.now + 1, cec := s.cec + 1 }

/-- Every command of every state goes on and leaves the queue as it was (log entries 4 and 12, choices of the model). -/
def Obligations.every_command_goes_on_and_keeps_the_queue : Prop :=
  ∀ (c : Instr) (s : State), ∃ t, exec c s = .next t ∧ t.pending = s.pending

/-- The reset state: every field of every register reads its reset value (the spec's, or the one log entry 2 names), every
memory lists nothing, no command waits, every memory is canonical and no leg has both its gates on (log entries 2, 9 and 10).
-/
def Obligations.reset_state : Prop :=
  (∀ f : Fld, State.reset.rd f = f.reset) ∧ State.reset.pending = [] ∧ memoriesWf State.reset = true
  ∧ (∀ a : Nat, State.reset.xmem.byte 0 a = 0 ∧ State.reset.ymem0.byte 0 a = 0 ∧ State.reset.ymem1.byte 0 a = 0
      ∧ State.reset.pm0.byte 0 a = 0 ∧ State.reset.pm1.byte 0 a = 0 ∧ State.reset.otp.byte 0 a = 0
      ∧ State.reset.mpSram.byte 0xFF a = 0xFF ∧ State.reset.sram.byte 0 a = 0 ∧ State.reset.mram.byte 0 a = 0
      ∧ State.reset.flash.byte 0xFF a = 0xFF)
  ∧ (∀ g : Nat, legSafe State.reset g = true) ∧ State.reset.running = false ∧ State.reset.half = .boot

/-! ### Registers and memories -/

/-- A field of the register file reads what was last stored in it, cut to its width, in every class; no other field changes,
and a stored field of any class leaves memories and blocks alone. A counter counts to its maximum and stays there. -/
def Obligations.register_fields_read_back : Prop :=
  ∀ (s : State) (f : Fld) (v : Nat),
    (s.wr f v).rd f = v % 2 ^ f.width
    ∧ (∀ g : Fld, g.key ≠ f.key → (s.wr f v).rd g = s.rd g)
    ∧ (∃ (r a b : List (Nat × Nat)), s.wr f v = { s with regs := r, tmr1 := a, tmr2 := b })
    ∧ (f.reset < 2 ^ f.width → s.rd f < 2 ^ f.width → (s.count f).rd f = min (s.rd f + 1) (2 ^ f.width - 1))

/-- A triplicated field is read by majority (R87, R88): one copy that differs changes nothing, three that differ read as the
reset value. The rewrite stores the majority in all copies, whichever copy differs, counts it and records the offset; where
all three differ it stores the reset value, and no correction is counted: that it is none is the model's choice (log entry
48). -/
def Obligations.triplicated_fields_vote : Prop :=
  ∀ (s : State) (f : Fld) (a b c : Nat), f.triple = true →
    let u := s.putCopies f a b c
    (a = b ∨ a = c → u.rd f = a) ∧ (b = c → u.rd f = b) ∧ (a ≠ b → a ≠ c → b ≠ c → u.rd f = f.reset)
    ∧ (a ≠ b → a < 2 ^ f.width → f.key ≠ SYS_VOTE.VOTE_ERR.key → f.key ≠ SYS_VOTE.VOTE_LAST.key →
        ∀ p ∈ [(b, a, a), (a, b, a), (a, a, b)],
          let v := (s.putCopies f p.1 p.2.1 p.2.2).rewriteField f
          v.copies f = (a, a, a) ∧ v.rd f = a ∧ v.rd SYS_VOTE.VOTE_ERR = min (s.rd SYS_VOTE.VOTE_ERR + 1) 65535
          ∧ v.rd SYS_VOTE.VOTE_LAST = f.off % 2 ^ SYS_VOTE.VOTE_LAST.width)
    ∧ (a ≠ b → a ≠ c → b ≠ c → f.reset < 2 ^ f.width → f.key ≠ SAFE_SET_CRC.SET_CRC.key →
        let v := u.rewriteField f
        v.copies f = (f.reset, f.reset, f.reset) ∧ v.rd f = f.reset
        ∧ (s.sys.voteSeen.contains f.key = true → f.key ≠ SYS_VOTE.VOTE_ERR.key → v.rd SYS_VOTE.VOTE_ERR = s.rd SYS_VOTE.VOTE_ERR))

/-- A byte of a memory reads what was last written to it, every other byte as before, and a write keeps the canonical form:
the laws all memories share, for bytes, words and bundles. -/
def Obligations.memories_read_back : Prop :=
  ∀ (m : Mem) (d : Byte) (a b : Nat) (v : Byte) (w : Word) (q : Bundle),
    (m.setByte d a v).byte d b = (if b = a then v else m.byte d b)
    ∧ (m.setWord d a w).word d a = w ∧ (b < a ∨ a + 4 ≤ b → (m.setWord d a w).byte d b = m.byte d b)
    ∧ (m.setBundle d a q).bundle d a = q ∧ (b < a ∨ a + 8 ≤ b → (m.setBundle d a q).byte d b = m.byte d b)
    ∧ (m.wf d = true → (m.setByte d a v).wf d = true ∧ (m.setWord d a w).wf d = true ∧ (m.setBundle d a q).wf d = true
        ∧ (∀ n, (m.clear a n).wf d = true))

/-- The two copies of an X word: a pair write stores one value at an address and at its mirror, in the other array, and no
other word of X changes (R196, R254, R255). -/
def Obligations.x_words_are_written_with_their_mirrors : Prop :=
  ∀ (s : State) (a b : Nat) (w : Word), a % 4 = 0 → b % 4 = 0 → a < 32768 → b < 32768 →
    let u := s.setXPair a w
    u.xWord a = w ∧ u.xWord (mirrorOf a) = w ∧ (b ≠ a → b ≠ mirrorOf a → u.xWord b = s.xWord b)
    ∧ mirrorOf (mirrorOf a) = a ∧ (mirrorOf a).testBit 14 = !a.testBit 14

/-- Every step keeps every memory in its canonical form, whatever command is taken. -/
def Obligations.steps_keep_memories_canonical : Prop :=
  ∀ s t : State, memoriesWf s = true → step s = .next t → memoriesWf t = true

/-- The identity is what no command changes (R484): the part, the half and its straps, the one-time memory and the fused
identity but for the image-key hash stay in every step; and the hash, once it is not blank, stays in every step too. -/
def Obligations.identity_and_key_are_permanent : Prop :=
  ∀ s t : State, step s = .next t →
    t.part = s.part ∧ t.halfId = s.halfId ∧ t.strap = s.strap ∧ t.otp = s.otp
    ∧ { t.fuse with keyHash := none } = { s.fuse with keyHash := none }
    ∧ (blankHash s.fuse.keyHash = false → t.fuse.keyHash = s.fuse.keyHash)

/-- Host SPI frames (R76 to R79, R83), whatever happens beside their words and whatever upsets a read meets: a half that is
off answers nothing; a frame with fewer clocks than its command is counted. A whole write frame with a good CRC and an aligned
offset writes its words in order and answers STATUS with the sequence number; a wrong CRC writes nothing and is counted; a
wrong number of clocks writes nothing and is counted, beside a wrong CRC that it has carried. A whole read frame with a good
CRC answers its words, STATUS and CRC, a wrong CRC zeros; one that is cut short has read each word whose first bit leaves.
When the frame is over, the round-robin serves the accesses that still wait, in the order host SPI, fabric, MP: one of each
path in turn. Frames that fail twice, and this order, are the model's choice (log 86, 149). -/
def Obligations.host_spi_frames : Prop :=
  ∀ (mosi : List Byte) (clocks : Nat) (bs : List Beside) (s : State),
    let answers (t : State) : Prop :=
      exec (.hostSpiWrite mosi clocks bs) s = completes s t
      ∧ ∀ ups q, ups.foldl State.upset q = s → exec (.hostSpiRead mosi clocks bs ups) q = completes q t;
    let ends (t : State) : Prop := answers (t.serveRest 0 t.sys.waiting.length)
    let wait (l : List Access) : State := { s with sys := { s.sys with waiting := l } }
    let first (k : Nat) := s.sys.waiting.find? fun a => pathOf a.1 == k;
    (∀ k, first k = none → s.servePath k = s)
    ∧ (∀ k a, first k = some a → s.servePath k = (wait (s.sys.waiting.erase a)).serveAccess a)
    ∧ (∀ p n, s.serveRest p 0 = s ∧ (s.sys.waiting = [] → s.serveRest p n = s)
      ∧ (s.sys.waiting ≠ [] → s.serveRest p (n + 1) = (((s.servePath ((p + 1) % 3)).servePath ((p + 2) % 3)).servePath p).serveRest p n))
    ∧ (s.half = .off → answers s)
    ∧ (s.half ≠ .off → clocks < 32 ∨ mosi.length < 4 → answers (s.frameFail.sendMiso (zeros (clocks / 8))))
    ∧ (s.half ≠ .off → 4 ≤ mosi.length → 32 ≤ clocks →
      let cmd := (mosi.getD 0 0).toNat
      let n := cmd % 32 + 1
      let off := (mosi.getD 1 0).toNat * 256 + (mosi.getD 2 0).toNat
      let seq := (mosi.getD 3 0).toNat % 16
      let write := cmd.testBit 7 = true
      let whole := clocks = 8 * (7 + 4 * n)
      let carried (k : Nat) : Prop := 8 * (k + 1) ≤ clocks
      let good (k : Nat) : Prop := mosi.getD k 0 = crc8 (mosi.take k)
      let wrote := s.writeBurst 0 off 0 bs (wordsBe n (mosi.drop 4))
      let read (s : State) (k : Nat) := s.readBurst 0 (cmd.testBit 6) off 0 bs k
      let cut := min n ((clocks - 40 + 31) / 32);
      (write → whole → good (4 + 4 * n) → off % 4 = 0 → ends (wrote.2.sendMiso (zeros (5 + 4 * n) ++ trailer [] (wrote.1 + seq))))
      ∧ (write → whole → good (4 + 4 * n) → off % 4 ≠ 0 →
          ends ((s.addrErr.keepSys s).sendMiso (zeros (5 + 4 * n) ++ trailer [] (64 + seq))))
      ∧ (write → whole → ¬good (4 + 4 * n) → ends (s.crcFail.sendMiso (zeros (5 + 4 * n) ++ trailer [] (128 + seq))))
      ∧ (write → ¬whole → ¬carried (4 + 4 * n) ∨ good (4 + 4 * n) → ends (s.frameFail.sendMiso (zeros (clocks / 8))))
      ∧ (write → ¬whole → carried (4 + 4 * n) → ¬good (4 + 4 * n) → ends (s.crcFail.frameFail.sendMiso (zeros (clocks / 8))))
      ∧ (¬write → whole → good 4 → off % 4 = 0 →
          ends ((read s n).2.2.sendMiso (zeros 5 ++ trailer ((read s n).1.flatMap bytesBe) ((read s n).2.1 + seq))))
      ∧ (¬write → whole → good 4 → off % 4 ≠ 0 → ends ((s.addrErr.keepSys s).sendMiso (zeros 5 ++ trailer (zeros (4 * n)) (64 + seq))))
      ∧ (¬write → whole → ¬good 4 → ends (s.crcFail.sendMiso (zeros 5 ++ trailer (zeros (4 * n)) (128 + seq))))
      ∧ (¬write → ¬whole → clocks ≤ 40 → ¬carried 4 ∨ good 4 → ends (s.frameFail.sendMiso (zeros (clocks / 8))))
      ∧ (¬write → ¬whole → clocks = 40 → ¬good 4 → ends (s.frameFail.crcFail.sendMiso (zeros (clocks / 8))))
      ∧ (¬write → ¬whole → 40 < clocks → good 4 → off % 4 = 0 → ends ((read s.frameFail cut).2.2.sendMiso
          (zeros 5 ++ ((read s.frameFail cut).1.flatMap bytesBe).take (clocks / 8 - 5))))
      ∧ (¬write → ¬whole → 40 < clocks → good 4 → off % 4 ≠ 0 →
          ends ((s.frameFail.addrErr.keepSys s.frameFail).sendMiso (zeros 5 ++ (zeros (4 * n)).take (clocks / 8 - 5))))
      ∧ (¬write → ¬whole → 40 < clocks → ¬good 4 → ends (s.frameFail.crcFail.sendMiso
          (zeros 5 ++ (zeros (4 * n)).take (clocks / 8 - 5)))))

/-- Software writes of a word (R71, R72, R81, R84 to R86, R117, R395, R522), with the hardware updates of the word that fall
into the same CEC. Where the offset can be reached, the writer is permitted and no rule turns the write away, the fields take
what their classes admit and the effects of the write follow; outside the reachable offsets ADDR_ERR is set. A write that is
turned away, for its writer or in BOOT and SELFTEST for its block, is ignored and its offset recorded, ADDR_ERR joining where
the offset cannot be reached (log 148); a request or an answer of a writer without permission is still judged. What a hardware
update of a field does in the CEC in which software writes the word (R85): events join in a W1C field after the write, a W1S
field takes both, a counter counts from the written value, a read-only field takes the hardware's value, and of a
software-writable field the hardware's value stands, SW_LOST recording the software write that it replaces. In a GO field what
the write has started stands against the self-clear, and hardware writes no SHD field. The indirect windows (R73, R74):
IDX_ADDR_WRITE sets the address and clears HALF; an access to IDX_DATA moves the word at the address, with AERR outside the
windows and ADDR_ERR where the window's domain is off, and advances the address; a write that is turned away does neither (log
82, 107: the model's choice). -/
def Obligations.software_accesses : Prop :=
  (∀ (w off : Nat) (v : Word) (hw : List (Nat × Nat)) (fs : List Fld) (s : State),
    let writes (taken : Bool) (fs : List Fld) (t : State) : Prop :=
      exec (.registerWrite w off v hw) s = completes s (t.coincide off fs v taken hw)
    let held := (s.half = .boot ∨ s.half = .selftest) ∧ w ≠ 0x80 ∧ off < 0x4000 ∧ ¬(0x3400 ≤ off ∧ off < 0x3C00)
    let open_ := s.permitted w = true ∧ ¬held
    let passed := (s.ignored off).keepSys s
    let all := (s.reach off).getD [];
    (s.takesWrite w off = true ↔ open_ ∧ s.reach off ≠ none ∧ s.deadBrine off = false)
    ∧ (open_ → s.reach off = none → s.meetWrite w off = s.addrErr.keepSys s) ∧ (open_ → s.reach off = some fs → s.meetWrite w off = s)
    ∧ (¬open_ → passed.reach off = none → s.meetWrite w off = passed.addrErr.keepSys passed)
    ∧ (¬open_ → passed.reach off = some fs → s.meetWrite w off = passed)
    ∧ (off ≠ idxDataOff →
      (open_ → s.reach off = some fs → s.deadBrine off = false → deadReact off = false →
        writes true fs ((((s.keepSchedule off).writeFields w off fs v).afterWrite w off v).keepSys s))
      ∧ (open_ → s.reach off = some fs → s.deadBrine off = false → deadReact off = true → writes true fs s)
      ∧ (open_ → s.reach off = some fs → s.deadBrine off = true → writes true fs passed)
      ∧ (open_ → s.reach off = none → writes true [] (s.addrErr.keepSys s))
      ∧ (¬open_ → passed.reach off = none → (passed.addrErr.keepSys passed).reach off = none →
          writes false all (passed.addrErr.keepSys passed))
      ∧ (¬open_ → passed.reach off = some fs →
        (passed.permitted w = true → writes false all passed)
        ∧ (passed.permitted w = false → off = 0x3404 → v.toNat.testBit 4 = true → writes false all (passed.requestRow (v.toNat % 16) w))
        ∧ (passed.permitted w = false → off = 0x2064 → writes false all (hostAnswer w (v.toNat % 256) (v.toNat / 256 % 8) passed))
        ∧ (¬(off = 0x3404 ∧ v.toNat.testBit 4 = true) → off ≠ 0x2064 → writes false all passed))))
  ∧ (∀ (rep : Nat) (f : Fld) (fs : List Fld) (v : Word) (taken : Bool) (x : Nat) (s : State), (fs.find? fun g => g.lo == f.lo) = some f →
    let t := s.coincide rep fs v taken [(f.lo, x)];
    (f.cls = .w1c → t = s.wr f (s.rd f ||| x))
    ∧ (f.cls = .w1s → t = s.wr f ((if taken then fieldBits v f else 0) ||| x))
    ∧ (f.cls = .cnt → wrapping f = true → t = s.wr f (s.rd f + x))
    ∧ (f.cls = .cnt → wrapping f = false → t = s.wr f (min (s.rd f + x) (2 ^ f.width - 1)))
    ∧ (f.cls = .ro ∨ f.cls = .roTmr → t = s.wr f x)
    ∧ (f.cls = .go ∨ f.cls = .shd → t = s)
    ∧ (f.cls = .rw ∨ f.cls = .live ∨ f.cls = .tmr →
      t = if taken then ((s.wr f x).setFlag SYS_ACC_STAT.SW_LOST true).wr SYS_ACC_INFO.LOST_OFFSET rep else s.wr f x))
  ∧ (∀ (w : Nat) (v : Word) (hw : List (Nat × Nat)) (fs : List Fld) (d : Nat) (s : State),
    let held := (s.half = .boot ∨ s.half = .selftest) ∧ w ≠ 0x80
    let open_ := s.permitted w = true ∧ ¬held
    let passed (off : Nat) : State := (s.ignored off).keepSys s
    let fields := (indirectFieldsAt s.idxAddr).getD []
    let stores (taken : Bool) (t : State) : Prop :=
      exec (.idxDataAccess w (some v) hw) s = completes s (t.coincide idxDataOff fields v taken hw)
    let loads (x : Word) (t : State) : Prop :=
      exec (.idxDataAccess w none hw) s = completes s { t with sys := { t.sys with rdata := x } };
    (open_ → s.reach 0x3C00 = some fs →
      exec (.idxAddrWrite w v) s = completes s (((s.writeFields w 0x3C00 fs v).setFlag IDX_STAT.HALF false).keepSys s))
    ∧ (open_ → s.reach 0x3C00 = none → exec (.idxAddrWrite w v) s = completes s (s.addrErr.keepSys s))
    ∧ (¬open_ → (passed 0x3C00).reach 0x3C00 = some fs → exec (.idxAddrWrite w v) s = completes s (passed 0x3C00))
    ∧ (¬open_ → (passed 0x3C00).reach 0x3C00 = none →
      exec (.idxAddrWrite w v) s = completes s ((passed 0x3C00).addrErr.keepSys (passed 0x3C00)))
    ∧ (open_ → s.reach idxDataOff = some fs →
      (idxDomain s.idxAddr = none → stores true ((s.setFlag IDX_STAT.AERR true).idxAdvance s.idxAddr))
      ∧ (idxDomain s.idxAddr = some d → s.domOn d = false → stores true (s.addrErr.idxAdvance s.idxAddr))
      ∧ (idxDomain s.idxAddr = some d → s.domOn d = true → stores true ((s.idxWrite w s.idxAddr v).idxAdvance s.idxAddr)))
    ∧ (open_ → s.reach idxDataOff = none → stores true (s.addrErr.keepSys s))
    ∧ (¬open_ → (passed idxDataOff).reach idxDataOff = some fs → stores false (passed idxDataOff))
    ∧ (¬open_ → (passed idxDataOff).reach idxDataOff = none →
      stores false ((passed idxDataOff).addrErr.keepSys (passed idxDataOff)))
    ∧ (s.reach idxDataOff = none → loads 0 (s.addrErr.keepSys s))
    ∧ (s.reach idxDataOff = some fs →
      (idxDomain s.idxAddr = none → loads 0 ((s.setFlag IDX_STAT.AERR true).idxAdvance s.idxAddr))
      ∧ (idxDomain s.idxAddr = some d → s.domOn d = false → loads 0 (s.addrErr.idxAdvance s.idxAddr))
      ∧ (idxDomain s.idxAddr = some d → s.domOn d = true → loads (s.idxWord false s.idxAddr) (s.idxAdvance s.idxAddr))))

/-- The X write queue drains its oldest word, one per CEC, once a CEC has passed since it entered and while draining is
allowed; at other times it waits (R75). A word that another writer of the CEC outranks is not written (R196). TMR_REWRITE
(R87, R88): after the upsets that have come, every triplicated field whose copies may disagree is rewritten, in turn: a second
or third copy that differs from the first has an entry of its own; nothing happens where none has. -/
def Obligations.x_queue_and_vote_rewrite : Prop :=
  (∀ (a : Nat) (v : Word) (t : Nat) (r : List (Nat × Word × Nat)) (s : State),
    (s.sys.xQueue = [] → exec .xQueueDrain s = completes s s)
    ∧ (s.sys.xQueue = (a, v, t) :: r →
      let u := s.passCec;
      (u.mayDrain = true → t < u.now →
        exec .xQueueDrain s = completes s (({ u.writeX rankQueue a v with sys := { u.sys with xQueue := r } } : State).setFlag
          IDX_STAT.QBUSY (!r.isEmpty)))
      ∧ (u.mayDrain = false ∨ u.now ≤ t → exec .xQueueDrain s = completes s u)))
  ∧ (∀ (ups : List (Nat × Nat × Nat × Nat)) (f : Fld) (x : Nat) (s : State),
    let u := ups.foldl State.upset s
    let keys := u.tmr1.map (·.1) ++ (u.tmr2.map (·.1)).filter fun k => !(u.tmr1.map (·.1)).contains k
    let heal (z : State) (k : Nat) : State := ((tripleOf k).map z.rewriteField).getD z;
    exec (.tmrRewrite ups) s = completes s (keys.foldl heal u)
    ∧ (u.tmr1 = [] → u.tmr2 = [] → exec (.tmrRewrite ups) s = completes s u)
    ∧ (u.tmr1 = [(f.key, x)] → u.tmr2 = [] → tripleOf f.key = some f → exec (.tmrRewrite ups) s = completes s (u.rewriteField f)))

/-- Commit groups (R90 to R94): COMMIT makes groups pending with their writer, where the write is taken; DISCARD reloads their
shadows and cancels the pending commit; COMMIT_SNAPSHOT takes and checks the shadows of the pending groups, 48 CEC before the
end of a tick or at once while no tick is counted; COMMIT_APPLY makes accepted groups live at once and LAST_OK shows them.
That a rejection is seen with the snapshot, and LAST_OK 0 for it, are the model's choice (log 88, 108, 109). What the check of
a snapshot rejects, group by group (R59, R93, R184, R189, R224, R253, R277, R309): every group of the mask earns the code of a
rule that its values break, 0 where they keep all, and MIXED_WRITER before any other. A G_CTX of all contexts is checked by
its own conditions; the budget and the dead-time quarter reject both groups they span. Of several broken rules the lowest code
is reported (logs 108, 109). -/
def Obligations.commit_groups : Prop :=
  (∀ (w mask : Nat) (s : State),
    (let u := s.wr SYS_COMMIT.GROUPS (s.rd SYS_COMMIT.GROUPS ||| mask)
      let new := ((groupsOf mask).map fun g => (g, w)).filter fun p => !u.sys.commitWriters.contains p
      let sys := { u.sys with commitWriters := u.sys.commitWriters ++ new }
      (s.takesWrite w 0x0008 = true → exec (.commit w mask) s = completes s ({ u with sys := sys } : State).showCommit)
      ∧ (s.takesWrite w 0x0008 = false → exec (.commit w mask) s = completes s (s.meetWrite w 0x0008)))
    ∧ (s.takesWrite w 0x000C = true → exec (.discard w mask) s = completes s (State.showCommit ((groupsOf mask).foldl
        (fun (s : State) g => (((groupFields g).foldl State.dropShadow s).clearWriter g).dropCommit g) s)))
    ∧ (s.takesWrite w 0x000C = false → exec (.discard w mask) s = completes s (s.meetWrite w 0x000C))
    ∧ (let u := if s.running = true then s.advanceTo (s.rake.tickLen - 48) else { s with now := s.now + 1 }
      let pending := u.rd SYS_COMMIT.GROUPS
      let snap := (groupsOf pending).flatMap fun g => (groupFields g).map fun f => (f.key, u.shadow f)
      let taken : State := { u with sys := { u.sys with snapshot := snap } }
      let codes := taken.groupCodes pending
      let ok := ((codes.filter fun p => p.2 == 0).map fun p => 2 ^ p.1).foldl (· + ·) 0
      let judged := (taken.rejectGroups (codes.filter fun p => p.2 != 0)).wr SYS_COMMIT.GROUPS 0
      let sys := { judged.sys with accepted := ok, commitWriters := [] }
      (pending = 0 → exec .commitSnapshot s = completes s u)
      ∧ (pending ≠ 0 → exec .commitSnapshot s = completes s ({ judged with sys := sys } : State).showCommit))
    ∧ (s.sys.snapshot = [] → exec .commitApply s = completes s s)
    ∧ (s.sys.snapshot ≠ [] →
      let q : State := if s.running = true then s else { s with now := s.now + 48 }
      let u := ((groupsOf s.sys.accepted).foldl (State.applyGroup s.sys.accepted) q).wr SYS_COMMIT_STAT.LAST_OK s.sys.accepted
      exec .commitApply s
        = completes s ({ u with sys := { u.sys with accepted := 0, snapshot := [] } } : State).showCommit))
  ∧ (∀ (mask : Nat) (s : State),
    let c := s.cand mask
    let first (l : List (Nat × Bool)) : Nat := ((l.find? fun r => !r.2).map (·.1)).getD 0
    let code (g k : Nat) : Prop := mask.testBit g = true → (g, k) ∈ s.groupCodes mask
    let mixed (g : Nat) : Prop := s.bit SYS_COMMIT_STAT.MIXED g = true
      ∨ s.groupWriter g ≠ 0xFF ∧ ∃ p ∈ s.sys.commitWriters, p.1 = g ∧ p.2 ≠ s.groupWriter g
    let per := c RAKE_TICK.TICK_PERIOD
    let pwm := c RAKE_TICK.PWM_TICKS
    let smp := c RAKE_SAMPLE.SAMPLE_PHASE
    let ts := c RAKE_TSTART.TSTART
    let out := c RAKE_OUT.OUT_PHASE
    let bri := c RAKE_BRINE.BRINE_PHASE
    let enc := c RAKE_ENC.ENC_REQ_PHASE
    let dual := s.part = .hx962d
    let ports := [0, 1, 2].filter fun p => s.bit POS_CTRL.PORT_EN p
    let span := (ports.map s.encSpan).foldl max 0
    let bank := c CE_PROG.PBANK
    let bits (i lo n : Nat) : Nat := ((s.bundleAt bank i).extractLsb' lo n).toNat
    let pm := if bank = 0 then s.pm0 else s.pm1
    let empty := bits 0 32 32 ≠ 0x50524743
    let entry (n : Nat) : Prop := 3 ≤ n ∧ n ≤ bits 1 16 14
    let good := crc32c (pm.bytes 0 0 16 ++ pm.bytes 0 20 4) = bits 2 0 32 ∧ bits 1 8 8 = 1 ∧ entry (bits 0 16 14) ∧ entry (bits 0 0 14)
      ∧ 3 ≤ bits 1 48 16 ∧ bits 1 48 16 % 2 = 0
      ∧ bits 0 30 2 = 0 ∧ bits 0 14 2 = 0 ∧ bits 1 30 18 = 0 ∧ bits 1 0 8 = 0 ∧ bits 2 32 32 = 0
    let issues := if mask.testBit 7 = true ∧ ¬empty ∧ good then bits 1 48 16 else s.rd RAKE_BUDGET.T_ISSUE
    let budget := decide (issues = 0 ∨ 2 * issues + 512 + ts ≤ out)
    let quarter := ([0, 1, 2].filter s.motorUsed).all fun m => decide (4 * c (GDM_DEAD.DT m) < per * (1 + pwm))
    let used (ok : Nat → Bool) : Bool := ([0, 1, 2].filter s.motorUsed).all ok
    let host := c CE_MODE.ANG_H ≠ 0 ∨ ((List.range 4).any fun k => c (CE_MODE_SPH.SPH k) != 0) = true;
    (∀ g < 8, mixed g → code g 1)
    ∧ (¬mixed 0 → code 0 (first [(0x02, decide (1000 ≤ per ∧ per ≤ 40000)),
        (0x03, decide (2000 ≤ per * (1 + pwm) ∧ per * (1 + pwm) ≤ 40000)), (0x04, decide (pwm ≠ 0 ∨ per % 2 = 0)),
        (0x05, decide (s.inService = false ∨ per = s.rd RAKE_TICK.TICK_PERIOD ∧ pwm = s.rd RAKE_TICK.PWM_TICKS)),
        (0x06, decide (smp < per ∧ ts < per ∧ out < per ∧ enc < per ∧ (¬dual ∨ bri < per))), (0x07, decide (smp < ts ∧ ts < out)),
        (0x08, decide (smp + 40 * s.nconv + 16 + 64 ≤ ts)), (0x09, budget), (0x0A, decide (out + 32 ≤ per)),
        (0x0B, decide (¬(dual ∧ s.flag BRINE_CTRL.EN = true) ∨ out + 16 ≤ bri ∧ bri + 380 ≤ per + ts)),
        (0x0C, decide (s.rd POS_CTRL.PORT_EN = 0 ∨ enc + span + 16 ≤ per + ts ∧ span ≤ per)), (0x0D, quarter),
        (0x0E, decide (c RAKE_FAB.FAB_LOCK_EN = 0 ∨ s.rd NET_CYC.FAB_CYCLE * 4 % per = 0 ∧ c RAKE_FAB.FAB_OFFSET < per))]))
    ∧ (¬mixed 1 → code 1 (first [(0x0D, quarter), (0x10, used fun m => decide (10 ≤ c (GDM_DEAD.DT m))),
        (0x11, used fun m => decide (c (GDM_DEAD.HS_VTH m) ≤ 8)),
        (0x12, used fun m => decide (1 ≤ c (GDM_DEAD.HS_TMO m) ∧ c (GDM_DEAD.HS_TMO m) ≤ 100
          ∧ c (GDM_DEAD.DT m) < 40 * c (GDM_DEAD.HS_TMO m)))]))
    ∧ (∀ m < 3, ¬mixed (2 + m) → code (2 + m) (first [(0x18, decide (c (FIELD_LIM0.IQ_MAX m) ≤ 0x7FFF
        ∧ (c (FIELD_LIM0.ID_MIN m) = 0 ∨ 0x8001 ≤ c (FIELD_LIM0.ID_MIN m)) ∧ 0x2000 ≤ c (FIELD_LIM1.VLIM m)
        ∧ c (FIELD_LIM1.VLIM m) ≤ 0x7FFF ∧ 1 ≤ c (FIELD_LIM1.SPD_MAX m) ∧ c (FIELD_LIM1.SPD_MAX m) ≤ 0x7FFF))]))
    ∧ (¬mixed 5 → code 5 (first [(0x20, (List.range 4).any fun k => c (CE_CTX_MASK.MASK k) != 0),
        (0x21, (List.range 128).all fun n =>
          let k (i : Nat) : Int := (s.yWord (c (CTX_W0.BANK n)) (0x7000 + 32 * n + 4 * i)).toInt
          let law := s.rd (CTX_W0.LAW n)
          let role := s.rd (CTX_W0.CROLE n)
          let m := s.rd (CTX_W0.CMOT n)
          let would (j : Nat) := if (c (CE_CTX_MASK.MASK (j / 32))).testBit (j % 32) = true then c (CTX_W0.STATE j) else s.rd (CTX_W0.STATE j)
          let leads (j : Nat) := decide (j ≠ n ∧ would j ≠ 2 ∧ s.rd (CTX_W0.CROLE j) = 1 ∧ s.rd (CTX_W0.CMOT j) = m)
          decide ((c (CE_CTX_MASK.MASK (n / 32))).testBit (n % 32) = false ∨ c (CTX_W0.STATE n) = 1
            ∨ (1 ≤ law ∧ law ≤ 6 ∧ k 7 ≤ k 6 ∧ (law = 6 → 0 ≤ k 0 ∧ 0 ≤ k 1) ∧ (law = 4 ∨ law = 5 → 0 ≤ k 5 ∧ k 5 ≤ 3)
              ∧ (role = 0 ∨ role ≤ 5 ∧ (law = 1 ∨ law = 2) ∧ m < 3 ∧ s.motorUsed m = true ∧ s.flag (CE_COMP.CEN m) = true
                ∧ (role = 1 → s.flag (CE_COMP.PRI_X m) = false ∧ (List.range 128).any leads = false))
              ∧ (c (CTX_W0.STATE n) = 3 → s.flag CE_XMAP.HEN = true))))]))
    ∧ (¬mixed 6 → code 6 (first [(0x28, decide (¬(host ∧ s.flag CE_XMAP.HEN = false)
          ∧ ¬((c CE_MODE.FR_F1_H ≠ 0 ∨ c CE_MODE.FR_F2_H ≠ 0) ∧ c CE_MODE.GRACE = 0) ∧ ¬(c CE_MODE.ROUTE_H ≠ 0 ∧ s.hostFlowOk = false))),
        (0x29, decide (c CE_MODE.GRACE ≤ 1000))]))
    ∧ (¬mixed 7 → empty → code 7 0x30) ∧ (¬mixed 7 → ¬empty → ¬good → code 7 0x31)
    ∧ (¬mixed 7 → ¬empty → good → code 7 (first [(0x09, budget)])))

/-! ### Bundle words -/

/-- Decoding and encoding a bundle agree (R230 to R232, R238, R240, R247): a word holds a legal bundle exactly when it is that
bundle's word, so that no bit of an encoding is dropped and no word with a reserved bit or value set is taken for a legal one.
-/
def Obligations.bundle_words_and_bundles_correspond : Prop :=
  ∀ (w : Bundle) (b : LegalBundle), decodeBundle w = .op b ↔ encodeBundle b = w

/-- Bundle words written out from the encoding tables (R230, R232, R238, R240, R247): the RSQRT bundle of the worked example,
operations of the three slots beside control codes, REP, CTXRUN and COMPETE; and words of a reserved opcode, a nonzero
reserved bit and a broken form. No row of the table of operations has bits of its own. The CRCs of the register ports, the
image and the frames give the check values of the spec over the ASCII string "123456789". -/
def Obligations.bundle_words_and_check_values : Prop :=
  (decodeBundle 0x000000D148500000 = .op (.ops .nop .nop (.rsqrt 5 4) .nop)
  ∧ decodeBundle 0x0194440000000000 = .op (.ops .nop (.mpy true 5 2 4) .nop .nop)
  ∧ decodeBundle 0x400000B120062124 = .op (.ops (.le false) .nop (.cmp true .gt 16 0) (.ldip 1 0x124))
  ∧ decodeBundle 0x700000000009193F = .ill 0x02
  ∧ decodeBundle 0x7000000000091920 = .op (.ops (.ler true) .nop .nop (.ldy 3 1 .inc))
  ∧ decodeBundle 0x100000000000003F = .op (.rep 63)
  ∧ decodeBundle 0xA000000000000055 = .op (.ctxrun 0x55)
  ∧ decodeBundle 0xB000000000000003 = .ill 0x02
  ∧ decodeBundle 0xF000000000000000 = .op .halt
  ∧ decodeBundle 0xF000000000000001 = .ill 0x02
  ∧ decodeBundle 0x1000001000000000 = .ill 0x06
  ∧ decodeBundle 0xC000000000000000 = .ill 0x01
  ∧ decodeBundle 0x0F00000000000000 = .ill 0x01
  ∧ ∀ n w, decodeTableWord n w = none)
  ∧ (crc8 [0x31, 0x32, 0x33, 0x34, 0x35, 0x36, 0x37, 0x38, 0x39] = 0xDF
  ∧ crc32c [0x31, 0x32, 0x33, 0x34, 0x35, 0x36, 0x37, 0x38, 0x39] = 0xE3069283)

/-! ### The control engine -/

/-- The M slot: each multiply or accumulator operation completes in every stream that may issue, with the result its rule
gives, rounded to nearest even and saturated by SAT, its tag, V and SV, and a tag conflict where the operands' tags are one.
-/
def Obligations.m_slot_results : Prop :=
  ∀ (e : Issue) (sat : Bool) (dd da db : BitVec 5) (n m sh : BitVec 2) (s : State), (ready e s).mayIssue e.strm = true →
    let x := e.strm
    let u := atIssue e s
    let a := u.dRead x da
    let b := u.dRead x db
    let near := u.accNear x n
    let far := u.accFar x m
    let second := if n = m then near else far
    let prod : Int := if x.isB && a.s && b.s then -(a.v.toInt * b.v.toInt) else a.v.toInt * b.v.toInt;
    (let r := satW 32 sat (rne prod 31);
      exec (.mpy e sat dd da db) s = completes s (afterD e s 0 dd r.1 (a.s || b.s) false 3 (flagsV r.2)))
    ∧ (let r := satW 72 sat (2 * prod);
      exec (.mpa e sat n da db) s = completes s (afterAcc e s n r.1 (a.s || b.s) false (flagsV r.2)))
    ∧ (let r := satW 72 sat (near.v.toInt + 2 * prod);
      exec (.mac e sat n da db) s = completes s (afterAcc e s n r.1 (near.s || (a.s || b.s)) (near.s != (a.s || b.s)) (flagsV r.2)))
    ∧ (let r := satW 72 sat (near.v.toInt - 2 * prod);
      exec (.msu e sat n da db) s = completes s (afterAcc e s n r.1 (near.s || (a.s || b.s)) (near.s != (a.s || b.s)) (flagsV r.2)))
    ∧ (let r := satW 32 sat (rne (far.v.toInt * 2 ^ sh.toNat) 32);
      exec (.mva e sat dd m sh) s = completes s (afterD e s 0 dd r.1 far.s false 3 (flagsV r.2)))
    ∧ exec (.lda e sat n da) s = completes s (afterAcc e s n (a.v.toInt * 2 ^ 32) a.s false ⟨0, 0⟩)
    ∧ exec (.clra e n sat) s = completes s (afterAcc e s n 0 sat false ⟨0, 0⟩)
    ∧ (let r := satW 72 sat (near.v.toInt + second.v.toInt);
      exec (.adda e sat n m) s = completes s (afterAcc e s n r.1 (near.s || second.s) (near.s != second.s) (flagsV r.2)))
    ∧ (let r := satW 72 sat (near.v.toInt - second.v.toInt);
      exec (.suba e sat n m) s = completes s (afterAcc e s n r.1 (near.s || second.s) (near.s != second.s) (flagsV r.2)))
    ∧ (let r := satW 72 sat (-far.v.toInt);
      exec (.nega e sat n m) s = completes s (afterAcc e s n r.1 far.s false (flagsV r.2)))
    ∧ (let r := satW 32 sat (a.v.toInt * b.v.toInt);
      exec (.muli e sat dd da db) s = completes s (afterD e s 0 dd r.1 (a.s || b.s) (a.s || b.s) 3 (flagsV r.2)))

/-- The A slot, sums and extremes: each completes in every stream that may issue, with the result its rule gives, its flags,
and a tag conflict where the tags of the operands differ; pass B swaps MIN and MAX for S operands. -/
def Obligations.a_slot_additive_results : Prop :=
  ∀ (e : Issue) (sat : Bool) (dd da db : BitVec 5) (s : State), (ready e s).mayIssue e.strm = true →
    let x := e.strm
    let u := atIssue e s
    let a := u.dRead x da
    let b := u.dRead x db
    let mirrored := x.isB && a.s && b.s
    let least := min a.v.toInt b.v.toInt
    let most := max a.v.toInt b.v.toInt
    let done (r : Int) (f : FlagWrite) := afterD e s 1 dd r (a.s || b.s) (a.s != b.s) 3 ((flagsNZ x.isB (a.s || b.s) r).or f)
    let sum := satW 32 sat (a.v.toInt + b.v.toInt)
    let difference := satW 32 sat (a.v.toInt - b.v.toInt)
    exec (.add e sat dd da db) s = completes s (done sum.1 (flagsV sum.2))
    ∧ exec (.sub e sat dd da db) s = completes s (done difference.1 (flagsV difference.2))
    ∧ exec (.min e sat dd da db) s = completes s (done (if mirrored then most else least) ⟨0, 0⟩)
    ∧ exec (.max e sat dd da db) s = completes s (done (if mirrored then least else most) ⟨0, 0⟩)

/-- The A slot, operations on one operand, shifts to the left, bitwise operations and the immediate sum: each completes in
every stream that may issue, with the result its rule gives and its flags; pass B negates the magnitude and the cosine of an S
operand; operands that must be C-tagged are in conflict otherwise. The values of SIN and COS (R246), for every signed angle
word of 2^32 to the turn: F interpolates the table T between its entries with rounding to nearest even; the sine folds the
half turn and negates for a negative angle, the cosine takes the complement. T rises, every 32nd entry is round(2^31 × sin(k ×
π / 2,048)) as computed from the formula, the last is 2^31 − 1, and the squares of complementary entries sum to 2^62 within
2^32. -/
def Obligations.a_slot_unary_and_integer_results : Prop :=
  (∀ (e : Issue) (sat : Bool) (dd da db k : BitVec 5) (s : State), (ready e s).mayIssue e.strm = true →
    let x := e.strm
    let u := atIssue e s
    let a := u.dRead x da
    let b := u.dRead x db
    let nz := flagsNZ x.isB a.s
    let logic (w : Word) := afterD e s 1 dd w.toInt (a.s || b.s) (a.s || b.s) 3 (flagsNZ x.isB (a.s || b.s) w.toInt);
    (let r := satW 32 sat (a.v.toInt * 2 ^ k.toNat);
      exec (.asl e sat dd da k) s = completes s (afterD e s 1 dd r.1 a.s false 3 ((nz r.1).or (flagsV r.2))))
    ∧ exec (.mov e sat dd da) s = completes s (afterD e s 1 dd a.v.toInt a.s false 3 (nz a.v.toInt))
    ∧ (let r := satW 32 sat (-a.v.toInt);
      exec (.neg e sat dd da) s = completes s (afterD e s 1 dd r.1 a.s false 3 ((nz r.1).or (flagsV r.2))))
    ∧ (let r := satW 32 sat (a.v.toInt.natAbs : Int);
      let q := if x.isB && a.s then -r.1 else r.1;
      exec (.abs e sat dd da) s = completes s (afterD e s 1 dd q a.s false 3 ((nz q).or (flagsV r.2))))
    ∧ (let r := sinWord a.v.toInt;
      exec (.sin e sat dd da) s = completes s (afterD e s 1 dd r a.s false 3 (nz r)))
    ∧ (let r := if x.isB && a.s then -cosWord a.v.toInt else cosWord a.v.toInt;
      exec (.cos e sat dd da) s = completes s (afterD e s 1 dd r a.s false 3 (nz r)))
    ∧ exec (.and e sat dd da db) s = completes s (logic (a.v &&& b.v))
    ∧ exec (.or e sat dd da db) s = completes s (logic (a.v ||| b.v))
    ∧ exec (.xor e sat dd da db) s = completes s (logic (a.v ^^^ b.v))
    ∧ exec (.not e sat dd da) s = completes s (afterD e s 1 dd (~~~a.v).toInt a.s a.s 3 (nz (~~~a.v).toInt))
    ∧ (let r := satW 32 sat (a.v.toInt + db.toInt);
      exec (.addi e sat dd da db) s = completes s (afterD e s 1 dd r.1 a.s a.s 3 ((nz r.1).or (flagsV r.2)))))
  ∧ (let T := sinEntry
  let F (u : Nat) : Int := if u = 1073741824 then T 1024
    else T (u / 1048576) + roundDiv ((T (u / 1048576 + 1) - T (u / 1048576)) * (u % 1048576 : Nat)) 1048576;
  (∀ a : Int, a.natAbs ≤ 2147483648 →
    let u := a.natAbs;
    (0 ≤ a → u ≤ 1073741824 → sinWord a = F u) ∧ (0 ≤ a → 1073741824 < u → sinWord a = F (2147483648 - u))
    ∧ (a < 0 → sinWord a = -sinWord (-a))
    ∧ (u ≤ 1073741824 → cosWord a = F (1073741824 - u)) ∧ (1073741824 < u → cosWord a = -F (u - 1073741824)))
  ∧ sinWord (-2147483648) = 0 ∧ cosWord (-2147483648) = -2147483647
  ∧ ((List.range 33).map fun i => T (32 * i)) = [0, 105372028, 210490206, 315101295, 418953276, 521795963, 623381598, 723465451, 821806413, 918167572,
      1012316784, 1104027237, 1193077991, 1279254516, 1362349204, 1442161874, 1518500250, 1591180426, 1660027308, 1724875040,
      1785567396, 1841958164, 1893911494, 1941302225, 1984016189, 2021950484, 2055013723, 2083126254, 2106220352, 2124240380,
      2137142927, 2144896910, 2147483647]
  ∧ ∀ k < 1024, T k < T (k + 1) ∧ (T k * T k + T (1024 - k) * T (1024 - k) - 4611686018427387904).natAbs ≤ 4294967296)

/-- R242: ASR never overflows, because RNE of a shifted word stays within the word; a C-tagged integer is rounded in the same
way; and with its low bits masked off by AND the shift of an integer truncates. -/
def Obligations.asr_rounds_within_the_word : Prop :=
  ∀ (e : Issue) (sat : Bool) (dd da k : BitVec 5) (w : Word) (s : State), (ready e s).mayIssue e.strm = true →
    let a := (atIssue e s).dRead e.strm da
    let r := rne a.v.toInt k.toNat;
    exec (.asr e sat dd da k) s = completes s (afterD e s 1 dd r a.s false 3 (flagsNZ e.strm.isB a.s r))
    ∧ -2 ^ 31 ≤ r ∧ r < 2 ^ 31
    ∧ (flagsNZ e.strm.isB a.s r).mask = flagZ + flagN
    ∧ rne (w &&& (BitVec.allOnes 32 <<< k.toNat)).toInt k.toNat = w.toInt / 2 ^ k.toNat

/-- R243: the codes of the CMP conditions, with 6 to 31 reserved; the condition compares the words as signed numbers, mirrored
in pass B for S operands; and the new TC lands in stream cycle t + 3, from where SEL picks by it. -/
def Obligations.compare_conditions : Prop :=
  (Cond.eq.code = 0 ∧ Cond.ne.code = 1 ∧ Cond.lt.code = 2 ∧ Cond.le.code = 3 ∧ Cond.gt.code = 4 ∧ Cond.ge.code = 5)
  ∧ (∀ c : Cond, condOf c.code = some c) ∧ (∀ v : BitVec 5, 6 ≤ v.toNat → condOf v = none)
  ∧ (∀ a b : Int, (condHolds .eq a b = true ↔ a = b) ∧ (condHolds .ne a b = true ↔ a ≠ b) ∧ (condHolds .lt a b = true ↔ a < b)
      ∧ (condHolds .le a b = true ↔ a ≤ b) ∧ (condHolds .gt a b = true ↔ a > b) ∧ (condHolds .ge a b = true ↔ a ≥ b))
  ∧ (condMirror .lt = .gt ∧ condMirror .gt = .lt ∧ condMirror .le = .ge ∧ condMirror .ge = .le ∧ condMirror .eq = .eq
      ∧ condMirror .ne = .ne)
  ∧ ∀ (e : Issue) (sat : Bool) (c : Cond) (dd da db : BitVec 5) (s : State), (ready e s).mayIssue e.strm = true →
    let x := e.strm
    let u := atIssue e s
    let a := u.dRead x da
    let b := u.dRead x db
    let used := if x.isB && a.s && b.s then condMirror c else c
    let tc : Held := ⟨(u.strm x).t + 3, .flags flagTC, (condHolds used a.v.toInt b.v.toInt).toNat, false,
      twinOf u x 1 4 27 (a.s != b.s)⟩
    exec (.cmp e sat c da db) s = completes s (nextBundle x (conflict x (a.s != b.s) (u.hold x tc)))
    ∧ ((u.landOne x tc).flagsOf x).testBit 0 = condHolds used a.v.toInt b.v.toInt
    ∧ exec (.sel e sat dd da db) s = completes s (afterD e s 1 dd (if (u.flagsOf x).testBit 0 then a.v.toInt else b.v.toInt)
        (a.s || b.s) (a.s != b.s) 3 ⟨0, 0⟩)

/-- R244: DIV, the quotient of a by b as a Q1.31 fraction rounded to nearest with ties to even and saturated; by zero it is 0
or the largest magnitude of the dividend's sign, with V for a dividend other than 0. In pass B an S-tagged divisor is negated,
and then the quotient of a C-tagged dividend, which gives the exact negation of pass A. That the flags land before the result,
as those of other operations do, is the model's choice (log 17). -/
def Obligations.quotients : Prop :=
  (∀ (e : Issue) (dd da db : BitVec 5) (s : State), (ready e s).mayIssue e.strm = true →
    let x := e.strm
    let u := atIssue e s
    let a := u.dRead x da
    let b := u.dRead x db
    let q := divQ31 a.v.toInt (if x.isB && b.s then -b.v.toInt else b.v.toInt)
    let r := if (x.isB && b.s) && !a.s then -q.1 else q.1
    exec (.div e dd da db) s
      = completes s (afterD e s 1 dd r (a.s || b.s) false 6 ((flagsNZ x.isB (a.s || b.s) r).or (flagsV q.2))))
  ∧ ∀ a b : Int,
    (b = 0 → a = 0 → divQ31 a b = (0, false)) ∧ (b = 0 → 0 < a → divQ31 a b = (2 ^ 31 - 1, true))
    ∧ (b = 0 → a < 0 → divQ31 a b = (-(2 ^ 31 - 1), true))
    ∧ (b ≠ 0 → ∃ q : Int, divQ31 a b = satW 32 true q ∧ 2 * (q * b - a * 2 ^ 31).natAbs ≤ b.natAbs
        ∧ (2 * (q * b - a * 2 ^ 31).natAbs = b.natAbs → q % 2 = 0))
    ∧ divQ31 (-a) b = (-(divQ31 a b).1, (divQ31 a b).2)

/-- R245: RSQRT, 2⁻⁸ over the square root of a as a Q1.31 fraction, rounded to nearest with ties to even and saturated, exact
to the rounding; an operand of 0 or below gives the largest fraction with V; operands above 2⁻¹⁶ do not saturate, and 2⁻¹⁶ and
every smaller positive operand do. Pass B negates an S-tagged operand before and the result after. That the flags land before
the result is the model's choice (log 17). -/
def Obligations.reciprocal_square_roots : Prop :=
  (∀ (e : Issue) (dd da : BitVec 5) (s : State), (ready e s).mayIssue e.strm = true →
    let x := e.strm
    let a := (atIssue e s).dRead x da
    let q := rsqrtQ31 (if x.isB && a.s then -a.v.toInt else a.v.toInt)
    let r := if x.isB && a.s then -q.1 else q.1
    exec (.rsqrt e dd da) s = completes s (afterD e s 1 dd r a.s false 6 ((flagsNZ x.isB a.s r).or (flagsV q.2))))
  ∧ ∀ a : Int, a < 2 ^ 31 →
    (a ≤ 0 → rsqrtQ31 a = (2 ^ 31 - 1, true))
    ∧ (0 < a → ∃ r : Nat, 0 < r ∧ rsqrtQ31 a = satW 32 true r ∧ (2 * r - 1) ^ 2 * a.toNat ≤ 2 ^ 79 ∧ 2 ^ 79 ≤ (2 * r + 1) ^ 2 * a.toNat
        ∧ ((2 * r - 1) ^ 2 * a.toNat = 2 ^ 79 ∨ (2 * r + 1) ^ 2 * a.toNat = 2 ^ 79 → r % 2 = 0))
    ∧ (2 ^ 15 < a → (rsqrtQ31 a).2 = false) ∧ (0 < a → a ≤ 2 ^ 15 → rsqrtQ31 a = (2 ^ 31 - 1, true))

/-- Rounding to nearest with ties to even and symmetric saturation commute with negation (the prose after R213); a result that
wraps does so unless it is the word without a negation. -/
def Obligations.rounding_and_saturation_commute_with_negation : Prop :=
  ∀ (v : Int) (k : Nat),
    rne (-v) k = -rne v k
    ∧ satW 32 true (-v) = (-(satW 32 true v).1, (satW 32 true v).2) ∧ satW 72 true (-v) = (-(satW 72 true v).1, (satW 72 true v).2)
    ∧ ((satW 32 false v).1 ≠ -2 ^ 31 → satW 32 false (-v) = (-(satW 32 false v).1, (satW 32 false v).2))
    ∧ 2 * (rne v k * 2 ^ k - v).natAbs ≤ 2 ^ k ∧ (2 * (rne v k * 2 ^ k - v).natAbs = 2 ^ k → rne v k % 2 = 0)

/-- R206: how an access modifies its address register, with the circular form wrapping inside a buffer of PLn bytes that
begins at a multiple of the smallest power of two that is no shorter; which forms read PMn and PLn; what a circular access
must hold; and which registers LDXY uses. -/
def Obligations.address_modification : Prop :=
  ∀ (p pm pl : Nat), p < 65536 → pm < 65536 →
    (∀ pm' pl', modAddr p pm' pl' .stay = p ∧ modAddr p pm' pl' .inc = (p + 4) % 65536 ∧ modAddr p pm' pl' .dec = (p + 65532) % 65536)
    ∧ (∀ pl', (modAddr p pm pl' .pm : Int) = (p + signedOf 16 pm) % 65536)
    ∧ (∀ k, 4 ≤ pl → pl ≤ 32768 → pl ≤ 2 ^ k → (∀ j, j < k → 2 ^ j < pl) → (signedOf 16 pm).natAbs ≤ pl →
      let base : Int := (p / 2 ^ k * 2 ^ k : Nat)
      let a := p + signedOf 16 pm
      let a := if base + pl ≤ a then a - pl else a
      let a := if a < base then a + pl else a
      (modAddr p pm pl .circ : Int) = a % 65536
      ∧ (p < p / 2 ^ k * 2 ^ k + pl → p / 2 ^ k * 2 ^ k + pl ≤ 65536 →
          base ≤ modAddr p pm pl .circ ∧ (modAddr p pm pl .circ : Int) < base + pl))
    ∧ (∀ (s : State) (x : Strm) (n : Nat), s.plBad x n .circ = false ↔
        4 ≤ s.plRead x n ∧ s.plRead x n ≤ 32768 ∧ s.plRead x n % 4 = 0 ∧ (signedOf 16 (s.pmRead x n)).natAbs ≤ s.plRead x n)
    ∧ (∀ (dx dy : BitVec 5) (px py : BitVec 2) (mx my : PMod2),
        accesses (.ldxy dx dy px py mx my) = [(px.toNat, mx.full), (4 + py.toNat, my.full)] ∧ px.toNat < 4 ∧ py.toNat < 4)
    ∧ (∀ (d : BitVec 5) (n : BitVec 3) (m : PMod), accesses (.ldx d n m) = [(n.toNat, m)] ∧ accesses (.ldy d n m) = [(n.toNat, m)]
        ∧ accesses (.stx d n m) = [(n.toNat, m)] ∧ accesses (.sty d n m) = [(n.toNat, m)])

/-- R208: the names D16 to D31 rotate with RRB as it is visible at the bundle's issue; a write lands in the register resolved
at issue; a rotation takes one from RRB modulo 16, and then a value written under the name Dk is named Dk+1, and one written
under D31 is named D16. -/
def Obligations.rotating_names : Prop :=
  (∀ (s : State) (x : Strm) (k : BitVec 5), 16 ≤ k.toNat → s.dName x k = 16 + (k.toNat - 16 + s.rrbOf x) % 16)
  ∧ (∀ (s : State) (x : Strm) (k : BitVec 5), k.toNat < 16 → s.dName x k = k.toNat)
  ∧ (∀ (s : State) (x : Strm) (h : Held) (n : Nat), h.dst = .d n →
      lookup ((State.landOne x s h).strm x).d ⟨0, false⟩ n = ⟨BitVec.ofNat 32 h.val, h.tag⟩)
  ∧ (∀ (e : Issue) (s : State), (ready e s).mayIssue e.strm = true → (atIssue e s).illCode e.strm (fetched (.free .rot) 0 0 0) = 0 →
      let x := e.strm
      let u := atIssue e s
      exec (.rot e 0 0 0) s = completes s (nextBundle x (u.hold x ⟨(u.strm x).t + 1, .rrb, (u.rrbOf x + 15) % 16, false,
        twinOf u x 4 3 26 false⟩)))
  ∧ ∀ r k : Nat, (16 ≤ k → k < 31 → dPhys ((r + 15) % 16) (k + 1) = dPhys r k) ∧ dPhys ((r + 15) % 16) 16 = dPhys r 31

/-- Loads: each completes in every stream that may issue when its circular modifiers are admitted and, for LDXY, its two
destinations differ; pass B reads the mirror and negates, a T-program replaces 0x8000_0000 and sets XMIN, and the address
registers are modified. -/
def Obligations.loads_complete : Prop :=
  ∀ (e : Issue) (dd dy : BitVec 5) (p : BitVec 3) (m : PMod) (px py : BitVec 2) (mx my : PMod2) (s : State),
    (ready e s).mayIssue e.strm = true →
    let x := e.strm
    let u := atIssue e s
    let t := (u.strm x).t
    let mark (s : State) (w : Word) := if x.isT && w == 0x80000000#32 then s.setFlag CE_TR_STAT.XMIN true else s;
    (u.plBad x p.toNat m = false →
      (let w := u.xSeen x (u.pRead x p.toNat);
        exec (.ldx e dd p m) s = completes s (nextBundle x (mark (State.postModify x t ((u.noteEcc 1 (placeOf .x (x.xAddr (u.pRead x p.toNat)))).hold x
          (dHeld u x 2 dd (loadValue x w) true false 3)) (p.toNat, modAddr (u.pRead x p.toNat) (u.pmRead x p.toNat)
            (u.plRead x p.toNat) m, 2)) w)))
      ∧ (let w := u.ySeen x (u.pRead x p.toNat)
        let place := yPlace (u.yBank x (u.pRead x p.toNat)) (wordAddr (u.pRead x p.toNat));
        exec (.ldy e dd p m) s = completes s (nextBundle x (State.postModify x t ((u.noteEcc 2 place).hold x
          (dHeld u x 2 dd w.toInt false false 3)) (p.toNat, modAddr (u.pRead x p.toNat) (u.pmRead x p.toNat)
            (u.plRead x p.toNat) m, 2)))))
    ∧ (u.plBad x px.toNat mx.full = false → u.plBad x (4 + py.toNat) my.full = false → u.dName x dd ≠ u.dName x dy →
      let w := u.xSeen x (u.pRead x px.toNat)
      let v := u.ySeen x (u.pRead x (4 + py.toNat))
      let xp := placeOf .x (x.xAddr (u.pRead x px.toNat))
      let yp := yPlace (u.yBank x (u.pRead x (4 + py.toNat))) (wordAddr (u.pRead x (4 + py.toNat)))
      let nx := modAddr (u.pRead x px.toNat) (u.pmRead x px.toNat) (u.plRead x px.toNat) mx.full
      let ny := modAddr (u.pRead x (4 + py.toNat)) (u.pmRead x (4 + py.toNat)) (u.plRead x (4 + py.toNat)) my.full
      exec (.ldxy e dd dy px py mx my) s = completes s (nextBundle x (mark (State.postModify x t (State.postModify x t
        ((((u.noteEcc 1 xp).noteEcc 2 yp).hold x (dHeld u x 2 dd (loadValue x w) true false 3)).hold x
          (dHeld u x 3 dy v.toInt false false 3)) (px.toNat, nx, 2)) (4 + py.toNat, ny, 3)) w)))

/-- Stores, immediates and special registers: each completes in every stream that may issue (a store when its circular
modifier is admitted). In a pass the store goes to the comparators at its address, pass B negating an S-tagged X value; a
B-program stores into the B window only and is marked otherwise; a Y store of an S-tagged value is a conflict and stores
nothing. -/
def Obligations.stores_and_moves_complete : Prop :=
  ∀ (e : Issue) (ds dd : BitVec 5) (p : BitVec 3) (m : PMod) (h : Bool) (imm : BitVec 11) (imm13 : BitVec 13) (n : BitVec 3)
    (k : Bool) (i4 : BitVec 4) (r : SReg) (s : State), (ready e s).mayIssue e.strm = true →
    let x := e.strm
    let u := atIssue e s
    let t := (u.strm x).t
    let a := u.pRead x p.toNat
    let d := u.dRead x ds
    let post := State.postModify x t u (p.toNat, modAddr a (u.pmRead x p.toNat) (u.plRead x p.toNat) m, 2)
    let bad := x.isT && d.s;
    (u.plBad x p.toNat m = false →
      exec (.stx e ds p m) s = completes s (nextBundle x (post.issueStore x t ⟨5, wordAddr a, if x.isB && d.s then -d.v else d.v⟩))
      ∧ exec (.sty e ds p m) s = completes s (nextBundle x (conflict x bad
          (if bad then post else post.issueStore x t ⟨6, wordAddr a, d.v⟩))))
    ∧ exec (.ldi e dd h imm) s = completes s (afterD e s 2 dd (if h then imm.toInt * 2 ^ 21 else imm.toInt) false false 3 ⟨0, 0⟩)
    ∧ exec (.ldip e p imm13) s = completes s (afterSpecial e s (.p p) (imm13.toNat * 4) false)
    ∧ exec (.ldim e (.pm n imm)) s = completes s (afterSpecial e s (.pm n) (fieldOf 16 (imm.toInt * 4)) false)
    ∧ exec (.ldim e (.pl n imm)) s = completes s (afterSpecial e s (.pl n) (imm.toNat * 4) false)
    ∧ exec (.ldim e (.lc k imm)) s = completes s (afterSpecial e s (.lc k) imm.toNat false)
    ∧ exec (.ldim e (.rrb i4)) s = completes s (afterSpecial e s .rrb i4.toNat false)
    ∧ exec (.mvts e ds r) s = completes s (afterSpecial e s r d.v.toNat d.s)
    ∧ exec (.mvfs e dd r) s = completes s (afterD e s 2 dd (u.specialRead x r) false false 3 ⟨0, 0⟩)

/-- Control codes beside operations: a legal bundle runs its three slots and then NOP goes on; LS keeps the PC as loop start;
LE counts its loop counter down and goes back while it is not zero; LER also rotates RRB, ROT rotates it alone; and PP stops a
B-program inside its window. Which bundles the loop cache serves is the model's choice (log 103). -/
def Obligations.control_codes_beside_operations : Prop :=
  ∀ (e : Issue) (k : Bool) (ms as_ ls : BitVec 20) (s : State), (ready e s).mayIssue e.strm = true →
    let x := e.strm
    let u := atIssue e s
    let ran := u.runSlots x (Slot.getOp .nop (decodeM ms)) (Slot.getOp .nop (decodeA as_)) (Slot.getOp .nop (decodeL ls))
    let st := ran.strm x
    let legal (c : Ctl) : Prop := u.illCode x (fetched (.free c) ms as_ ls) = 0
    let left := (ran.lcOf x k.toNat + 65535) % 65536
    let first := lookup st.lsa 0 k.toNat
    let rest := st.cache.filter fun b => b.2 != st.pc
    let cache := if left ≠ 0 ∧ first ≤ st.pc ∧ st.pc < first + 32 then (first, st.pc) :: rest else rest
    let ended := ran.setStrm x { st with cache := cache }
    let counted := ended.hold x ⟨st.t + 1, .lc k.toNat, left, false, twinOf ran x 4 3 (24 + k.toNat) false⟩
    let goal := if left ≠ 0 then first else st.pc + 1
    let turn (q : State) := q.hold x ⟨(q.strm x).t + 1, .rrb, (q.rrbOf x + 15) % 16, false, twinOf q x 4 3 26 false⟩;
    (legal .nop → exec (.nop e 0 ms as_ ls) s = completes s (nextBundle x ran))
    ∧ (legal (.ls k) → exec (.ls e k ms as_ ls) s = completes s (nextBundle x
        ((ran.setStrm x { st with lsa := store st.lsa 0 k.toNat st.pc }).present x
          ⟨st.t + 1, ⟨st.t, 4, 3, 28 + k.toNat, false⟩, st.pc, none, 0, none⟩)))
    ∧ (legal (.le k) → exec (.le e k ms as_ ls) s = completes s (closed x (counted.goOn x 1 goal)))
    ∧ (legal (.ler k) → exec (.ler e k ms as_ ls) s = completes s (closed x ((turn counted).goOn x 1 goal)))
    ∧ (legal .rot → exec (.rot e ms as_ ls) s = completes s (nextBundle x (turn ran)))
    ∧ (legal .pp → exec (.pp e ms as_ ls) s = completes s (closed x
        (let q := ran.goOn x 1 (st.pc + 1)
          if x.isT = false ∧ q.ppDue = true then q.stopB true else q)))

/-- Control codes that take the bundle: REP repeats the next bundle n times; CTXRUN and COMPETE take 16 and 24 bundles of a
pass for the law of a context and the competition of a motor, and are illegal in a B-program, which goes on; HALT ends its
stream. -/
def Obligations.control_codes_that_take_the_bundle : Prop :=
  ∀ (e : Issue) (n6 : BitVec 6) (n7 : BitVec 7) (mo : Motor) (s : State), (ready e s).mayIssue e.strm = true →
    ((atIssue e s).strm e.strm).rep = 0 →
    let x := e.strm
    let u := atIssue e s
    let pc := (u.strm x).pc
    let next := u.goOn x 1 (pc + 1)
    let bill := closed x ((u.setFlag CE_STAT.BILL true).goOn x 1 (pc + 1))
    exec (.rep e 0 0 (n6.setWidth 20)) s = completes s (closed x (next.setStrm x { next.strm x with rep := n6.toNat + 1, repNew := true }))
    ∧ exec (.ctxrun e 0 0 (n7.setWidth 20)) s = completes s (if x.isT
        then closed x ((u.ctxRun x n7.toNat).goOn x 16 (pc + 1)) else bill)
    ∧ exec (.compete e 0 0 (BitVec.ofNat 20 mo.val)) s = completes s (if x.isT
        then closed x ((u.compete x mo.val).goOn x 24 (pc + 1)) else bill)
    ∧ exec (.halt e 0 0 0) s = completes s (closed x (u.haltStream x))

/-- An illegal bundle of any row issues as NOP: it is recorded and counted with the lowest code it earns, and its stream goes
on (R250). A stream that may not issue lets every bundle pass without effect. Which bundles the loop cache serves is the
model's choice (log 103). -/
def Obligations.illegal_bundles_and_idle_streams : Prop :=
  (∀ (e : Issue) (k : Bool) (ctl : BitVec 4) (ms as_ ls : BitVec 20) (s : State), (ready e s).mayIssue e.strm = true →
    let x := e.strm
    let u := atIssue e s
    let st := u.strm x
    let uncached := { st with cache := st.cache.filter fun b => !(b.1 ≤ st.pc && st.pc ≤ b.2) }
    let skip (f : Fetched) : State := closed x (((u.illegal x st.pc (u.illCode x f)).setStrm x uncached).goOn x 1 (st.pc + 1))
    (u.illCode x (fetched (nopCode ctl) ms as_ ls) ≠ 0 →
      exec (.nop e ctl ms as_ ls) s = completes s (skip (fetched (nopCode ctl) ms as_ ls)))
    ∧ (u.illCode x (fetched (.free (.ls k)) ms as_ ls) ≠ 0 →
      exec (.ls e k ms as_ ls) s = completes s (skip (fetched (.free (.ls k)) ms as_ ls)))
    ∧ (u.illCode x (fetched (.free (.le k)) ms as_ ls) ≠ 0 →
      exec (.le e k ms as_ ls) s = completes s (skip (fetched (.free (.le k)) ms as_ ls)))
    ∧ (u.illCode x (fetched (.free (.ler k)) ms as_ ls) ≠ 0 →
      exec (.ler e k ms as_ ls) s = completes s (skip (fetched (.free (.ler k)) ms as_ ls)))
    ∧ (u.illCode x (fetched (.free .rot) ms as_ ls) ≠ 0 →
      exec (.rot e ms as_ ls) s = completes s (skip (fetched (.free .rot) ms as_ ls)))
    ∧ (u.illCode x (fetched (.free .pp) ms as_ ls) ≠ 0 →
      exec (.pp e ms as_ ls) s = completes s (skip (fetched (.free .pp) ms as_ ls)))
    ∧ (u.illCode x (fetched .rep ms as_ ls) ≠ 0 →
      exec (.rep e ms as_ ls) s = completes s (skip (fetched .rep ms as_ ls)))
    ∧ (u.illCode x (fetched .ctxrun ms as_ ls) ≠ 0 →
      exec (.ctxrun e ms as_ ls) s = completes s (skip (fetched .ctxrun ms as_ ls)))
    ∧ (u.illCode x (fetched .compete ms as_ ls) ≠ 0 →
      exec (.compete e ms as_ ls) s = completes s (skip (fetched .compete ms as_ ls)))
    ∧ (u.illCode x (fetched .halt ms as_ ls) ≠ 0 →
      exec (.halt e ms as_ ls) s = completes s (skip (fetched .halt ms as_ ls)))
    ∧ (st.rep ≠ 0 → u.illCode x (fetched .halt 0 0 0) = 0x07))
  ∧ (∀ (e : Issue) (f : Fetched) (s : State), (ready e s).mayIssue e.strm = false → s.issue e f = ready e s)

/-- The slots of a bundle touch what is their stream's own (R200, R201, R210, R254): the slots of a pass that find no error in
the words they read and no tags in conflict, and store to no context word (nor, in pass B, a word that would become visible
after the halt of pass A), change nothing but the pass's register set and its comparator entries; and those of the B-program
that store nothing, or an X word of its window, nothing but the B-program's register set, whichever operations stand in them.
-/
def Obligations.slots_touch_their_own_stream : Prop :=
  ∀ (x : Strm) (m : MOp) (a : AOp) (l : LOp) (s : State),
    (s.mSlot x m).conf = false → (s.aSlot x a).conf = false → (s.lSlot x l).conf = false → (s.lSlot x l).xmin = false →
    (∀ r ∈ (s.lSlot x l).reads, s.errAt r.2 = none) →
    let stores (q : StoreOut → Prop) : Prop := ∀ o, (s.lSlot x l).stored = some o → q o
    (x = .passA → stores (fun o => o.kind = 6 → o.addr < 0x7000) →
        ∃ st buf, s.runSlots x m a l = { s with ce := { s.ce with a := st, bufA := buf } })
    ∧ (x = .passB → stores (fun o => (o.kind = 6 → o.addr < 0x7000) ∧ s.tooLate s.ce.b.t = false) →
        ∃ st buf, s.runSlots x m a l = { s with ce := { s.ce with b := st, bufB := buf } })
    ∧ (x = .bprog → stores (fun o => o.kind = 5 ∧ s.inBWindow o.addr = true) →
        ∃ st, s.runSlots x m a l = { s with ce := { s.ce with p := st } })

/-- Pass B reaches exactly the negation of pass A (the prose after R213, R235, R237, R257): from register sets that are twins,
every operation of every slot finds the same tag conflicts in both passes, and without a conflict, where no S-tagged result is
the word without a negation, both passes form the same flags, address registers and stores, and results that the comparators
find in agreement. -/
def Obligations.passes_stay_exact_negations : Prop :=
  ∀ (m : MOp) (a : AOp) (l : LOp) (s : State), passesTwin s →
    slotsAgree (s.mSlot .passA m) (s.mSlot .passB m) ∧ slotsAgree (s.aSlot .passA a) (s.aSlot .passB a)
    ∧ slotsAgree (s.lSlot .passA l) (s.lSlot .passB l)

/-- R205: every start of the Rake sets every resource of the three register sets to 0, with both copies of LC0, LC1 and RRB,
and every domain tag to C. -/
def Obligations.rake_start_clears_the_engine : Prop :=
  ∀ (s : State) (x : Strm) (n : Nat),
    let u := s.rakeStart
    let st := u.strm x
    lookup st.d ⟨0, false⟩ n = ⟨0, false⟩ ∧ lookup st.accNear ⟨0, false⟩ n = ⟨0, false⟩ ∧ lookup st.accFar ⟨0, false⟩ n = ⟨0, false⟩
    ∧ lookup st.p 0 n = 0 ∧ lookup st.pm 0 n = 0 ∧ lookup st.pl 0 n = 0 ∧ lookup st.lsa 0 n = 0 ∧ st.rep = 0 ∧ st.held = []
    ∧ u.flagsOf x = 0 ∧ u.lcOf x n = 0 ∧ u.rrbOf x = 0

/-! ### Time redundancy and the tick -/

/-- WRITEBACK_COMPARE decides the next open writeback in its CEC, whatever bits a disturbance inverts at the inputs of the
comparators (R259 to R262); a known-answer test first issues its bundles up to it. Nothing happens without one, or before the
bundle the passes still issue (log 182). Where both find agreement the writeback is accepted: unless a mismatch of the tick or
the known-answer test suppresses it, an X store goes to its address and mirror, a Y store below word 0x7000 to the bank of
PBANK, and an evaluation leaves its effects. Where one finds a mismatch, or a writeback has no twin, it is recorded: TR_MM
where both do, and else the comparators disagree and the datapath is broken. KAT_VERDICT judges a known-answer test of the
tick at TSTART + 520, when its bundles have ended (R265, R266): with no mismatch and both signatures equal to the stored one
it passes and a transient is counted; otherwise KAT_FAIL is set with the reason of the table and the first failing bundle, and
the datapath is declared broken, once in the tick. In a tick without a test nothing happens. -/
def Obligations.writebacks_and_known_answer_test : Prop :=
  (∀ (f1 f2 : Word) (s : State),
    let noted (c1 c2 : Bool) (z : State) : State :=
      if c1 = true ∧ c2 = true then (z.setFlag CE_TR_STAT.MM true).onceInTick 4 fun s => s.report srcTrMm 0
      else (z.setFlag CE_TR_STAT.CMPDIS true).declareBroken srcTrCmpdis
    let shownDest (l : Landed) := if 5 ≤ l.twin.kind then 0 else l.twin.dest
    let k : State := if s.ce.katRun = true then s.katFeed katEvents else s;
    (k.nextPair = none → exec (.writebackCompare f1 f2) s = completes s k)
    ∧ ∀ c a b, k.nextPair = some (c, a, b) →
      (k.ce.katRun = false → k.timely c = false → exec (.writebackCompare f1 f2) s = completes s k)
      ∧ (k.ce.katRun = true ∨ k.timely c = true →
        let bits (at_ : HitAt) (b : Landed) : Nat := if k.ce.katRun = true then hitBits k.ce.katHits at_ b else 0
        (∀ x, a = some x → b = none →
          let u := ({ k with ce := { k.ce with bufA := k.ce.bufA.erase x } } : State).advanceTo c;
          exec (.writebackCompare f1 f2) s = completes s ((noted true true u).recordMismatch 3 x.twin.idx x.twin.slot
            (shownKind x.twin.kind) (shownDest x) x.val 0))
        ∧ (∀ y, a = none → b = some y →
          let u := ({ k with ce := { k.ce with bufB := k.ce.bufB.erase y } } : State).advanceTo c;
          exec (.writebackCompare f1 f2) s = completes s ((noted true true u).recordMismatch 3 y.twin.idx y.twin.slot
            (shownKind y.twin.kind) (shownDest y) 0 y.val))
        ∧ ∀ x y, a = some x → b = some y →
          let u := ({ k with ce := { k.ce with bufA := k.ce.bufA.erase x, bufB := k.ce.bufB.erase y } } : State).advanceTo c
          let g1 := f1.toNat ^^^ bits .cmp1 y
          let g2 := f2.toNat ^^^ bits .cmp2 y
          let c1 := agrees x { y with val := y.val ^^^ g1 }
          let c2 := agrees x { y with val := y.val ^^^ g2 };
          (c1 = true → c2 = true →
            (k.ce.mism = true ∨ k.ce.katRun = true → exec (.writebackCompare f1 f2) s = completes s u)
            ∧ (k.ce.mism = false → k.ce.katRun = false →
              let w := BitVec.ofNat 32 y.val
              let due := y.twin.idx + 3
              let bank := k.rd CE_PROG.PBANK
              let seen := if y.twin.slot = 5 then u else
                (u.keepOld 2 y.addr due (k.xWord y.addr) w).keepOld 2 (mirrorOf y.addr) due (k.xWord (mirrorOf y.addr)) w
              let stored := if y.twin.kind = 5 then seen.writeXPair rankCe y.addr w
                else if y.twin.kind = 6 ∧ y.addr < 0x7000 then (u.keepOld bank y.addr due (k.yWord bank y.addr) w).setYWord bank y.addr w
                else u
              (x.eff = none → exec (.writebackCompare f1 f2) s = completes s stored)
              ∧ ∀ e, x.eff = some e → exec (.writebackCompare f1 f2) s = completes s (stored.ctxAccept e)))
          ∧ (c1 = false ∨ c2 = false →
            exec (.writebackCompare f1 f2) s = completes s ((noted (!c1) (!c2) u).recordMismatch ((!c1).toNat + 2 * (!c2).toNat)
              x.twin.idx x.twin.slot (if g1 = 0 ∧ g2 = 0 ∧ tagOnly x y = true then 7 else shownKind x.twin.kind) (shownDest x) x.val
              (y.val ^^^ (g1 &&& g2))))))
  ∧ (∀ s : State,
    let u := (s.advanceTo (s.rd RAKE_TSTART.TSTART + 520)).katDone
    let v : State := { u with ce := { u.ce with katOpen := false } }
    let good (n : Nat) : Prop := n = Config.katSignature
    let fails (reason bundle : Nat) : Prop := exec .katVerdict s = completes s
      (((((v.wr CE_TR_KAT.KAT_BIDX bundle).wr CE_TR_STAT.KAT_LAST 2).setFlag CE_TR_STAT.KAT_FAIL true).wr CE_TR_KAT.KAT_REASON
        reason).onceInTick 3 fun s => s.declareBroken srcTrKat);
    (s.ce.katOpen = false → s.ce.katRun = false → exec .katVerdict s = completes s s)
    ∧ (s.ce.katOpen = true ∨ s.ce.katRun = true →
      (u.ce.katBad = none → good u.ce.katSigA → good u.ce.katSigB →
        exec .katVerdict s = completes s (((v.wr CE_TR_STAT.KAT_LAST 1).count CE_TR_CNT.KAT_PASS_CNT).countTransient))
      ∧ (u.ce.katBad = none → ¬good u.ce.katSigA → good u.ce.katSigB → fails 3 0)
      ∧ (u.ce.katBad = none → good u.ce.katSigA → ¬good u.ce.katSigB → fails 4 0)
      ∧ (u.ce.katBad = none → ¬good u.ce.katSigA → ¬good u.ce.katSigB → fails 5 0)
      ∧ ∀ cmp bundle, u.ce.katBad = some (cmp, bundle) → fails (if cmp = 3 then 1 else 2) (bundle % 256)))

/-- T_PROGRAM_START in a running half (R45, R50, R202, R252): at TSTART a B-program that still runs stops. A known-answer test
that is due begins at its first bundle in both passes, with the disturbances that strike it; without one the passes of an
active T-program begin at T_ENTRY, with clear flags and the loop state of copy 1, and a tick without a T-program leaves the
interval to the B-program. A test ends 512 CEC after TSTART: its verdict is due, flags and buffers are clear, the loop state
is the one before it, and the passes begin as without a test. The B-program in the tick (R45, R46, R52, R227):
PREEMPTION_REQUEST comes at PREEMPT_PHASE and asks a running B-program to stop; B_PROGRAM_STOP stops an asked one at a bundle
boundary outside a REP, keeping its flags; B_PROGRAM_RESUME lets a stopped one go on with them once the T-program of the tick,
and a known-answer test before it, are over. Each does nothing more otherwise. -/
def Obligations.passes_start_and_the_b_program_yields : Prop :=
  (∀ (hits : List KatHit) (s : State),
    let go (pc : Nat) (st : Stream) : Stream :=
      { st with run := true, pc := pc, t := 0, issued := 0, rep := 0, repNew := false, cache := [], held := [] }
    let begun (z : State) : State := State.setFlag { z with ce := { z.ce with
      a := go z.tEntry z.ce.a, b := go z.tEntry z.ce.b, flags := 0, flagsB := 0, lc2 := z.ce.lc1, rrb2 := z.ce.rrb1, tOver := false } }
      CE_STAT.T_RUN true;
    (s.running = false → exec (.tProgramStart hits) s = completes s s)
    ∧ (s.running = true →
      let start := s.rd RAKE_TSTART.TSTART
      let u := s.advanceTo start
      let v := if s.ce.p.run = true ∧ s.ce.bStopped = false then u.stopB false else u
      let clear : State := { v with ce := { v.ce with
        bufA := [], bufB := [], old := [], katOpen := false, flags := 0, flagsB := 0, lc2 := v.ce.lc1, rrb2 := v.ce.rrb1, tStart := start } }
      let test : State := { clear with ce := { clear.ce with
        katRun := true, katBad := none, katHits := hits, katLogA := [], katLogB := [], katLc := v.ce.lc1, katRrb := v.ce.rrb1,
        a := go 0 v.ce.a, b := go 0 v.ce.b, tOver := false } };
      (v.flag RAKE_STAT.KAT_DUE = false → s.rd RAKE_BUDGET.T_ISSUE = 0 →
        exec (.tProgramStart hits) s = completes s { clear with ce := { clear.ce with tOver := true } })
      ∧ (v.flag RAKE_STAT.KAT_DUE = false → s.rd RAKE_BUDGET.T_ISSUE ≠ 0 → exec (.tProgramStart hits) s = completes s (begun clear))
      ∧ (v.flag RAKE_STAT.KAT_DUE = true → exec (.tProgramStart hits) s = completes s test))
    ∧ (s.ce.katRun = false → s.katDone = s)
    ∧ (s.ce.katRun = true →
      let e := (State.katTo (s.ce.tStart + 511) katEvents s).endKat
      let z : State := { e with ce := { e.ce with tStart := e.ce.tStart + 512 } };
      (e.ce.katOpen = true ∧ e.ce.katRun = false ∧ e.ce.flags = 0 ∧ e.ce.flagsB = 0 ∧ e.ce.lc2 = e.ce.lc1 ∧ e.ce.rrb2 = e.ce.rrb1
        ∧ e.ce.bufA = [] ∧ e.ce.bufB = [])
      ∧ (e.rd RAKE_BUDGET.T_ISSUE = 0 → s.katDone = { z with ce := { z.ce with tOver := true } })
      ∧ (e.rd RAKE_BUDGET.T_ISSUE ≠ 0 → s.katDone = begun z)))
  ∧ (∀ s : State,
    let pre := s.advanceTo (s.rd RAKE_DERIVED.PREEMPT_PHASE)
    let runs := s.ce.p.run = true ∧ s.ce.bStopped = false
    let asked := s.ce.bStop = true ∧ runs ∧ s.ce.p.rep = 0
    let z := if s.ce.tStart + 512 ≤ s.cec then s.katDone else s;
    (runs → exec .preemptionRequest s = completes s { pre with ce := { pre.ce with bStop := true } })
    ∧ (¬runs → exec .preemptionRequest s = completes s pre)
    ∧ (asked →
      let stopped := { s.ce with bStopped := true, bStop := false, tOver := false, flagsKept := s.ce.flags }
      exec .bProgramStop s = completes s ((({ s with ce := stopped } : State).setFlag CE_PSTAT.PPSTOP false).showB))
    ∧ (¬asked → exec .bProgramStop s = completes s s)
    ∧ (z.ce.tOver = true → z.ce.bStopped = true →
      exec .bProgramResume s = completes s (({ z with ce := { z.ce with bStopped := false, flags := z.ce.flagsKept } } : State).showB))
    ∧ (z.ce.tOver = false ∨ z.ce.bStopped = false → exec .bProgramResume s = completes s z))

/-- TICK_BOUNDARY of a running half: the tick ends at its length, CEC 0 begins, TICK_COUNT counts and wraps, accepted commits
apply, waiting cut-offs and shorts follow, then waiting reactions and the transition take effect; while the Rake still runs
every block updates, the reference of the lock is judged and the next tick begins with its outputs open. While no tick is
counted the row has no effect. -/
def Obligations.tick_boundary_order : Prop :=
  ∀ s : State,
    (s.running = false → exec .tickBoundary s = completes s s)
    ∧ (s.running = true →
      let even := decide (s.rake.tickLen = s.rd RAKE_TICK.TICK_PERIOD)
      let u := s.advanceTo s.rake.tickLen
      let v := ({ u with cec := 0 } : State).countWrap RAKE_TICK_COUNT.TICK_COUNT
      let w := (commitApply ((v.lower srcRegVote 0).lower srcFcSelf 0)).lockBoundaryCounts.cutBoundary.ovsBoundary
      let x := w.reactionBoundary.transitionBoundary
      (x.running = true →
        let z := (x.blocksBoundary s.rake.tickLen s.out.held (!even)).referenceBoundary.beginTick even
        let rake := { z.rake with lastBoundary := z.now, boundaryBefore := z.rake.lastBoundary, measured := false, firstTick := false }
        exec .tickBoundary s = completes s { z with rake := rake, out := { z.out with held := false, done := false } })
      ∧ (x.running = false → exec .tickBoundary s = completes s x))

/-- OUTPUT_COMMIT (R24, R51, R218, R262, R335, R524) of a running half whose outputs are still open: at OUT_PHASE passes that
still run are an overrun, and otherwise the open comparisons are closed. The outputs are held when the passes run late, when
no T-program is active, by a mismatch, another fault of the passes, a broken datapath, or a HOLD reaction raised before
OUT_PHASE; else they are committed. The Brine frame leaves at once or waits, and the row always completes; a second one in a
tick, and one while no tick is counted, do nothing. With the passes ended, no comparison open, a T-program and none of these
causes the outputs are committed. -/
def Obligations.output_commit_holds_or_commits : Prop :=
  ∀ s : State,
    let at_ := s.advanceTo (s.rd RAKE_OUT.OUT_PHASE)
    let done (z : State) (h : Bool) : State := { z with out := { z.out with held := h, done := true } };
    (s.running = false ∨ s.out.done = true → exec .outputCommit s = completes s s)
    ∧ (s.running = true → s.out.done = false →
      let u := at_.katDone.compareTo (s.rd RAKE_OUT.OUT_PHASE)
      let late := u.ce.a.run = true ∨ u.ce.b.run = true
      let closed := if late then u else u.closeCompare
      let open_ : State := { closed with fc := { closed.fc with hold := false } }
      let v := if late then open_.overrun else open_
      let holds := late ∨ v.rd RAKE_BUDGET.T_ISSUE = 0 ∨ v.ce.mism = true ∨ v.ce.seen ≠ 0 ∨ v.flag CE_TR_STAT.BROKEN = true
        ∨ closed.fc.hold = true;
      (holds → exec .outputCommit s = completes s (done (v.brineOut false) true))
      ∧ (¬holds → exec .outputCommit s = completes s (done (v.commitOutputs.brineOut true) false)))
    ∧ (s.running = true → s.out.done = false → s.ce.katRun = false → s.ce.a.run = false → s.ce.b.run = false →
      s.ce.bufA = [] → s.ce.bufB = [] → s.rd RAKE_BUDGET.T_ISSUE ≠ 0 → s.ce.mism = false → s.ce.seen = 0 →
      s.flag CE_TR_STAT.BROKEN = false → s.fc.hold = false →
      exec .outputCommit s = completes s (done (at_.commitOutputs.brineOut true) false))

/-- The lock of the tick (R62 to R64, R68, R69): PHASE_MEASUREMENT forms the phase error once in a tick, from the partner
frame or from the gPTP time of the boundary, shows it and judges the lock state; HOLDOVER_ENTRY after four ticks without a
measurement and HOLDOVER_TIMEOUT after one second move it; LOCK_STEP in an open slot lengthens the tick of an early half by
one count or shortens that of a late one. Each does nothing more otherwise. An error that PHASE_ERR cannot show, the steps
that HOLDOVER repeats, no steps in ACQUIRE, ties of the rounding and the one measurement before two are the model's choice
(log 44, 45, 46, 150, 151). -/
def Obligations.lock_events_move_the_lock : Prop :=
  ∀ (instant : Int) (k : Nat) (s : State),
    let judged (err : Int) (u : State) : State := State.judgeLock { u with
      rake := { u.rake with noMeas := 0, lastErr := (err, u.now) :: u.rake.lastErr.take 1, measured := true },
      brine := { u.brine with peer := none } } err
    let measures (err : Int) : Prop :=
      (-32768 ≤ err → err < 32768 → exec (.phaseMeasurement instant) s = completes s (judged err (s.wrInt RAKE_STAT.PHASE_ERR err)))
      ∧ (err < -32768 ∨ 32768 ≤ err → exec (.phaseMeasurement instant) s
          = completes s (judged err (s.draw.2.wr RAKE_STAT.PHASE_ERR s.draw.1)))
    let open_ := s.running = true ∧ s.rd RAKE_STAT.LOCK_REF ≠ 0 ∧ s.rake.measured = false
    let period := 8 * s.rd RAKE_TICK.TICK_PERIOD
    let silent := 4 ≤ s.rake.noMeas ∧ (s.rd RAKE_STAT.LOCK_STATE = 1 ∨ s.rd RAKE_STAT.LOCK_STATE = 2)
    let ended := s.rd RAKE_STAT.LOCK_STATE = 3 ∧ s.rake.holdSince + 400000000 ≤ s.now
    let state (n : Nat) : State := { s.wr RAKE_STAT.LOCK_STATE n with rake := { s.rake with inLimit := 0, beyond := 0 } };
    (open_ → s.rd RAKE_STAT.LOCK_REF = 1 → s.brine.peer = none → exec (.phaseMeasurement instant) s = completes s s)
    ∧ (∀ phase lofs, open_ → s.rd RAKE_STAT.LOCK_REF = 1 → s.brine.peer = some (phase, lofs) →
        measures (wrapPeriod period (8 * (phase : Int) - (instant - s.rd BRINE_DLY.LINK_DLY - lofs))))
    ∧ (open_ → s.rd RAKE_STAT.LOCK_REF ≠ 1 →
        measures (wrapPeriod period (instant % (32 * s.net.fabCycle : Nat) - 8 * (s.rd RAKE_FAB.FAB_OFFSET : Int))))
    ∧ (¬open_ → exec (.phaseMeasurement instant) s = completes s s)
    ∧ (silent → exec .holdoverEntry s
        = completes s (({ state 3 with rake := { (state 3).rake with holdSince := s.now } } : State).loseLock))
    ∧ (¬silent → exec .holdoverEntry s = completes s s)
    ∧ (ended → exec .holdoverTimeout s = completes s (state 0)) ∧ (¬ended → exec .holdoverTimeout s = completes s s)
    ∧ (s.running = true → s.slotOpen (1000 * k + 500) = true →
      let u := s.advanceTo (1000 * k + 500)
      let moved (d : Int) : Rake := { u.rake with stepNow := u.rake.stepNow + d, lastErr := u.rake.lastErr.map fun p => (p.1 + 8 * d, p.2) }
      (u.stepWanted u.now = 0 → exec (.lockStep k) s = completes s u)
      ∧ (u.stepWanted u.now = 1 →
        exec (.lockStep k) s = completes s { u with now := u.now + 2, cec := u.cec + 1, rake := moved 1 })
      ∧ (u.stepWanted u.now = -1 →
        exec (.lockStep k) s = completes s { u with now := u.now + 1, cec := u.cec + 2, rake := moved (-1) }))
    ∧ (s.running = false ∨ s.slotOpen (1000 * k + 500) = false → exec (.lockStep k) s = completes s s)

/-- The analog front end through the tick: SAMPLE holds the channels of the sample-and-hold slots and lets new calibration
take effect; CONVERSION_COMPLETE of a slot converts its code with the calibration in effect, marks a clipped result, and
writes the result to X and its mirror (channel 18 serves the bus); ANGLE_RESOLVE reads the host pairs asked for, noting what
their check bits show (R199), writes the resolved angle of every motor and its mirror, and marks and counts a tick in which a
selected host angle is missing. A stopped front end neither samples nor converts. Commands of the analog front end (R130,
R131, R136, R138, R140). A write of STOP that is not taken is as any (R72, R81, R117); STOP written 1 stops the conversions
out of service and is refused in service, where STOP was 0; STOP written 0 checks the sequence, runs a valid one and stops
with SEQ_ERR on an invalid one. An amplifier output outside its window trips the comparator once, sets OC and raises AFE_OC
while OC_EN holds; inside, it ends the trip; a comparator that is blanked or without D4 shows nothing. A due calibration
window that fits serves the next amplifier, a host offset too old is stale. What OC_EN does to a tripped comparator, from when
CAL_EVERY counts, and a window with no amplifier to serve are the model's choice (log 112, 113, 153). -/
def Obligations.samples_and_front_end : Prop :=
  (∀ (codes : List Nat) (c j raw : Nat) (s : State),
    let at_ := s.advanceTo (s.rd RAKE_SAMPLE.SAMPLE_PHASE)
    let ran := s.advanceTo (s.rd RAKE_TSTART.TSTART - 3)
    let asked := [0, 1, 2].filter fun m => ran.flag CE_XMAP.HEN && ran.bit CE_MODE.ANG_H m
    let read := ran.noteReads (asked.flatMap fun m => ran.pairReads (0x400 + 8 * m))
    let resolved := [0, 1, 2].foldl (fun (s : State) m => s.writeXPair rankCe (s.hostAddr (0x418 + 4 * m)) (s.resolvedAngle m)) read
    let missing := [0, 1, 2].filter ran.angleMissing;
    (s.flag AFE_STAT.RUNNING = true →
      let chs := [0, 1, 2, 3].flatMap fun c => (at_.coreChannels c).take 4
      let afe := { at_.afe with
        held := chs.foldl (fun l n => place l n (codes.getD n 0 % 16384)) [], effect := (List.range 13).map fun i => (i, at_.calNow i) }
      exec (.sample codes) s = completes s { at_ with afe := afe })
    ∧ (s.flag AFE_STAT.RUNNING = false → exec (.sample codes) s = completes s at_)
    ∧ (s.flag AFE_STAT.RUNNING = true → j < s.nslot c →
      let u := s.advanceTo (s.rd RAKE_SAMPLE.SAMPLE_PHASE + 40 * (j + 1))
      let n := u.slotCh c j
      let code := if j < 4 then lookup u.afe.held 0 n else raw % 16384
      let cal := lookup u.afe.effect (u.calNow (calSource n c)) (calSource n c)
      let r := convert (u.isUni n) code cal.1 cal.2
      let v := (u.markClip n r.2).putResult n (BitVec.ofInt 32 (r.1 * 262144))
      exec (.conversionComplete c j raw) s = completes s (if n = 18 then v.busResult r.1 else v))
    ∧ (s.flag AFE_STAT.RUNNING = false ∨ s.nslot c ≤ j → exec (.conversionComplete c j raw) s = completes s s)
    ∧ (missing = [] → exec .angleResolve s = completes s resolved)
    ∧ (missing ≠ [] → exec .angleResolve s = completes s
        ((missing.foldl (fun (s : State) m => s.setBit CE_HOST_STAT.ANG_MISS m true) resolved).count CE_HOST_CNT.ANG_MISS_CNT)))
  ∧ (∀ (k w : Nat) (out : Int) (x : CalMeas) (s : State),
    let wr := s.takesWrite w 0x0800 = true
    let stop := s.flag AFE_CTRL.STOP = true
    let u := (s.setFlag AFE_CTRL.STOP false).showDerived
    let sees := s.domOn 4 = true ∧ s.comparatorBlank k = false
    let outside := out < 512 * (s.ocWindow k).1 ∨ 512 * (s.ocWindow k).2 < out
    let trip := (s.setBit AFE_OC_STAT.OC k true).setBit AFE_OC_STAT.OC_LIVE k true
    let due := s.flag AFE_CTRL.CAL_EN = true ∧ s.flag AFE_STAT.RUNNING = true
      ∧ max 1 (s.rd AFE_CAL_CFG.CAL_EVERY) ≤ s.afe.sinceWindow
    let late := s.flag CE_MODE.AFECAL_H = true ∧ max 1 (s.rd AFE_HOSTCAL_CFG.HOSTCAL_TMO) ≤ lookup s.afe.hostAge 0 k;
    (wr → ¬stop → s.inService = false →
      exec (.afeCtrlStop w) s = completes s ((s.setFlag AFE_CTRL.STOP true).setFlag AFE_STAT.RUNNING false))
    ∧ (wr → ¬stop → s.inService = true → exec (.afeCtrlStop w) s = completes s (s.ignored 0x800))
    ∧ (wr → stop → exec (.afeCtrlStop w) s = completes s s)
    ∧ (wr → u.seqValid = true → exec (.afeCtrlRun w) s
        = completes s (u.setFlag AFE_STAT.RUNNING (u.running && !u.flag AFE_CTRL.STOP)))
    ∧ (wr → u.seqValid = false → exec (.afeCtrlRun w) s
        = completes s (((u.setFlag AFE_CTRL.STOP true).setFlag AFE_STAT.SEQ_ERR true).setFlag AFE_STAT.RUNNING false))
    ∧ (¬wr → exec (.afeCtrlStop w) s = completes s (s.meetWrite w 0x0800) ∧ exec (.afeCtrlRun w) s = completes s (s.meetWrite w 0x0800))
    ∧ (sees → outside → s.bit AFE_OC_STAT.OC_LIVE k = false → trip.afe.ocEn.testBit k = true →
        exec (.afeOc k out) s = completes s (trip.raise srcAfeOc k))
    ∧ (sees → outside → s.bit AFE_OC_STAT.OC_LIVE k = false → trip.afe.ocEn.testBit k = false →
        exec (.afeOc k out) s = completes s trip)
    ∧ (sees → outside → s.bit AFE_OC_STAT.OC_LIVE k = true → exec (.afeOc k out) s = completes s s)
    ∧ (sees → ¬outside → exec (.afeOc k out) s = completes s ((s.setBit AFE_OC_STAT.OC_LIVE k false).lower srcAfeOc k))
    ∧ (¬sees → exec (.afeOc k out) s = completes s s)
    ∧ (due →
      let a := s.advanceTo (s.rd AFE_CAL_CFG.CAL_PHASE)
      let v : State := { a with afe := { a.afe with sinceWindow := 0 } }
      (v.calFits = true → v.calAmp = some k →
        let afe := { v.afe with nextAmp := (k + 1) % 9, window := some (k, v.now) }
        exec (.calibrationWindow x) s = completes s (({ v with afe := afe } : State).takeWindow k x))
      ∧ (v.calFits = true → v.calAmp = none → exec (.calibrationWindow x) s = completes s v)
      ∧ (v.calFits = false → exec (.calibrationWindow x) s = completes s (v.setFlag AFE_STAT.CAL_SKIP true)))
    ∧ (¬due → exec (.calibrationWindow x) s = completes s s)
    ∧ (late →
      let v := s.setFlag AFE_STAT.HOSTCAL_STALE true
      let stale := if s.afe.hostStale.contains k = true then s.afe.hostStale else s.afe.hostStale ++ [k]
      exec (.hostcalTimeout k) s = completes s { v with afe := { s.afe with hostStale := stale } })
    ∧ (¬late → exec (.hostcalTimeout k) s = completes s s))

/-! ### Power states -/

/-- Requests (R464 to R467, R81, R72): each row writes its target to PWR_REQ and is judged; of a writer without permission the
write is ignored and the request refused with code 6, and a half whose register cannot be reached takes none. A request of a
permitted writer to ARMED from STANDBY starts an arming; to STANDBY starts a disarm from ARMED or LIMP and leaves SAFE where
no reaction of level 5 or more stands; to SAFE takes the half to SAFE, ending phase 1 of sleep entry at the next boundary and
any other transition at once; to WATCH from STANDBY starts phase 1 of sleep entry. From another state a request is refused
with code 1, out of SAFE below a reaction with code 4; one during a transition is held, but for SAFE. In WATCH the host wakes
the half with a request to STANDBY. That a request to SAFE ends phase 1 at a boundary, and codes 1 and 6 and REF_BLOCK where
R464 is silent, are the model's choice (log 133, 135). Start-up and the ends of transitions (R116, R340, R463 to R465):
POR_RELEASE powers a half that is off, and runs the boot of a half in BOOT or SELFTEST step by step, as BOOT_PHASE shows, up
to the step that the command names or to the end of the boot; 180 ms without STANDBY or BOOT_FAIL end in BOOT_FAIL, an outcome
already resolved being logged (R113); a pending request is judged as a new one when the transition has ended and dropped where
its target is reached; the series switches open when the delay of a disarm is over. Each has no effect at other times. Codes
of BOOT_TMO and what a sleep leaves are the model's choice (log 92, 95). -/
def Obligations.power_states_and_requests : Prop :=
  (∀ (w : Nat) (fs : List Fld) (s z : State),
    let row (t : Nat) (x : State) : Prop :=
      (t = 5 → exec (.reqArmed w) s = completes s x) ∧ (t = 4 → exec (.reqStandby w) s = completes s x)
      ∧ (t = 7 → exec (.reqSafe w) s = completes s x) ∧ (t = 1 → exec (.reqWatch w) s = completes s x)
    let passed := (s.ignored 0x3404).keepSys s
    let noted := z.wr PWR_REQ_STAT.WRITER w
    let may := z.permitted w = true
    let busy := z.flag PWR_STATE.BUSY = true
    let hostWake := z.half = .watch ∧ w = 0;
    (s.permitted w = true → s.reach 0x3404 = none → ∀ t, row t (s.addrErr.keepSys s))
    ∧ (s.permitted w = true → s.reach 0x3404 = some fs → ∀ t, row t (((s.wr PWR_REQ.TARGET t).requestRow t w).keepSys s))
    ∧ (s.permitted w = false → passed.reach 0x3404 = some fs → passed.permitted w = false → ∀ t, row t (passed.requestRow t w))
    ∧ (s.permitted w = false → passed.reach 0x3404 = none → (passed.addrErr.keepSys passed).reach 0x3404 = none →
      ∀ t, row t (passed.addrErr.keepSys passed))
    ∧ (z.half = .off → ∀ t, z.requestRow t w = z)
    ∧ (z.half ≠ .off →
      (¬may → ∀ t, ¬(hostWake ∧ t = 4) → z.requestRow t w = z.refuse t w 6)
      ∧ (may → busy → ∀ t, t ≠ 7 → ¬(hostWake ∧ t = 4) → z.requestRow t w = z.pend t w)
      ∧ (may → ¬busy →
        (z.half = .standby → z.requestRow 5 w = noted.begin .arming w ∧ z.requestRow 1 w = noted.begin (.sleeping 1) w
          ∧ z.requestRow 4 w = noted.refuse 4 w 1)
        ∧ (z.half ≠ .standby → z.requestRow 5 w = noted.refuse 5 w 1 ∧ z.requestRow 1 w = noted.refuse 1 w 1)
        ∧ (z.half = .armed ∨ z.half = .limp → z.requestRow 4 w = noted.begin .toStandby w)
        ∧ (z.half = .safe → noted.rd FC_STAT.TOP < 5 → z.requestRow 4 w = noted.begin .leaveSafe w)
        ∧ (z.half = .safe → 5 ≤ noted.rd FC_STAT.TOP → z.requestRow 4 w = noted.refuse 4 w 4)
        ∧ (z.half ≠ .standby → z.half ≠ .armed → z.half ≠ .limp → z.half ≠ .safe → ¬hostWake →
          z.requestRow 4 w = noted.refuse 4 w 1))
      ∧ (may → z.half = .standby ∨ z.half = .armed ∨ z.half = .limp →
        (z.pwr.trans.inSleep = true → z.requestRow 7 w = State.logRequest { noted with
          pwr := { noted.pwr with trans := .sleepAborting true (z.pwr.trans.target = none) } } 7 0 w)
        ∧ (z.pwr.trans = .toSafe → z.requestRow 7 w = noted.logRequest 7 0 w)
        ∧ (z.pwr.trans.inSleep = false → z.pwr.trans ≠ .toSafe →
          let u := noted.abortTransition.plainSafe
          z.requestRow 7 w = State.logRequest { u with pwr := { u.pwr with reqWriter := w } } 7 0 w))
      ∧ (may → z.half ≠ .standby → z.half ≠ .armed → z.half ≠ .limp → z.requestRow 7 w = noted.refuse 7 w 1)
      ∧ (hostWake → noted.bit PWR_WAKE_EN.EN 1 = true → z.requestRow 4 w = (noted.logRequest 4 0 w).wakeSource 1)
      ∧ (hostWake → noted.bit PWR_WAKE_EN.EN 1 = false → z.requestRow 4 w = (noted.wakeSource 1).refuse 4 w 1)))
  ∧ (∀ (env : BootEnv) (n t : Nat) (s : State),
    let powered := if s.half = .off then State.beginBoot { s with now := 0, cec := 0 } else s
    let boots (z : State) : Prop := z.half = .boot ∨ z.half = .selftest
    let late := s.atMs 180
    let over_ := if late.rd MGMT_BOOT_STAT.BOOT_PHASE = 4 ∨ late.rd MGMT_BOOT_STAT.BOOT_PHASE = 5 then late.logBoot else late
    let held := s.flag PWR_STATE.PEND = true ∧ s.flag PWR_STATE.BUSY = false
    let target := s.rd PWR_STATE.PEND_TGT;
    exec (.porRelease env) s = completes s (powered.runBoot env 6)
    ∧ (boots s → s.rd MGMT_BOOT_STAT.BOOT_PHASE + 1 < env.upTo → s.runBoot env (n + 1) = (s.bootStep env).runBoot env n)
    ∧ (¬boots s ∨ env.upTo ≤ s.rd MGMT_BOOT_STAT.BOOT_PHASE + 1 → s.runBoot env n = s)
    ∧ (s.half ≠ .off → ¬boots s → exec (.porRelease env) s = completes s s)
    ∧ (boots s → over_.domOn 3 = true → exec .bootTmo s = completes s ((((over_.keepOccur srcBootTmo 0).markEvent srcBootTmo).logOccur
        srcBootTmo 0 (Config.logCode 0x01 srcBootTmo)).enterBootFail false))
    ∧ (boots s → over_.domOn 3 = false → exec .bootTmo s = completes s (over_.enterBootFail false))
    ∧ (¬boots s → exec .bootTmo s = completes s s)
    ∧ (held → target = s.rd PWR_STATE.STATE → exec .pendingRequest s = completes s s.dropPending)
    ∧ (held → target ≠ s.rd PWR_STATE.STATE → exec .pendingRequest s
        = completes s (((s.setFlag PWR_STATE.PEND false).wr PWR_STATE.PEND_TGT 0).judgeNew target s.pwr.pendWriter))
    ∧ (¬held → exec .pendingRequest s = completes s s)
    ∧ (s.pwr.trans = .disarming t → t ≤ s.now → exec .seriesSwitchOpenDelay s = completes s s.openSluice.endTransition)
    ∧ (s.pwr.trans = .disarming t → s.now < t → exec .seriesSwitchOpenDelay s = completes s s)
    ∧ ((∀ t, s.pwr.trans ≠ .disarming t) → exec .seriesSwitchOpenDelay s = completes s s))

/-- Wake sources (R466, R470 to R472, R508): each sets its CAUSE bit when its condition holds; enabled, it wakes a half in
WATCH, which begins a boot, and ends phase 1 of sleep entry; without its condition, and in a half that is off, it does
nothing. A cycle of the sequencer counts, keeps its sample, and wakes where the sample is invalid or lies outside its window;
the first valid one becomes the reference. Another source within the cycle wakes at its time and stops it. Loss of the supply
leaves the identity and what memories without power hold. When a wake ends phase 1, and that the first sample is not judged,
are the model's choice (log 95, 133, 143). -/
def Obligations.wake_sources : Prop :=
  ∀ (c p dom1 rec_ dom2 us hall raw : Nat) (high : Bool) (enc : EncWord) (wake : Option (Nat × Nat)) (s : State),
    let effect (q : State) (b : Nat) (r : State) : Prop :=
      let caused := q.setBit PWR_WAKE_STAT.CAUSE b true
      let on := caused.bit PWR_WAKE_EN.EN b = true;
      (q.half = .off → r = q)
      ∧ (q.half ≠ .off → (¬on → r = caused)
        ∧ (on → caused.half = .watch → r = (caused.count PWR_WATCH_CNT.WAKE_CNT).beginBoot)
        ∧ (∀ k, on → caused.half ≠ .watch → caused.pwr.trans = .sleeping k ∨ caused.pwr.trans = .sleepDown → r = caused.sleepAborted)
        ∧ (on → caused.half ≠ .watch → (∀ k, caused.pwr.trans ≠ .sleeping k) → caused.pwr.trans ≠ .sleepDown → r = caused))
    let canOk := 1000 ≤ dom1 ∧ 1000 ≤ rec_ ∧ 1000 ≤ dom2 ∧ dom1 + rec_ + dom2 ≤ s.rd PWR_WAKE_EN.CAN_TMO * 100000
    let cycles := s.half = .watch ∧ s.rd PWR_WATCH.SRC ≠ 0;
    (high = s.flag PWR_WAKE_EN.WAKE_POL → ∃ r, exec (.wakePin high) s = completes s r ∧ effect s 0 r)
    ∧ (high ≠ s.flag PWR_WAKE_EN.WAKE_POL → exec (.wakePin high) s = completes s s)
    ∧ (canOk → ∃ r, exec (.canWake c dom1 rec_ dom2) s = completes s r ∧ effect s (2 + c) r)
    ∧ (¬canOk → exec (.canWake c dom1 rec_ dom2) s = completes s s)
    ∧ (∃ r, exec (.ethWake p) s = completes s r ∧ effect s (4 + p) r)
    ∧ (s.part = .hx962d → 20 ≤ us → ∃ r, exec (.brineWake us) s = completes s r ∧ effect s 6 r)
    ∧ (s.part = .hx961s ∨ us < 20 → exec (.brineWake us) s = completes s s)
    ∧ (∀ (z : State) (b : Nat), (b = 1 → z.otherWake b = z.requestRow 4 0) ∧ (b ≠ 1 → effect z b (z.otherWake b)))
    ∧ (cycles →
      let start := max s.now s.pwr.watchAt
      let u := ({ s with pwr := { s.pwr with watchAt := start + max 1 (s.rd PWR_WATCH.PERIOD) * 400000 } } : State)
      let x := u.watchSample enc hall raw
      let judged := (32 + 10 * max 1 (u.rd PWR_WATCH.SETTLE)) * 400 + x.1
      let woken (z : State) (b at_ : Nat) : State := State.otherWake { z with now := start + at_ } b
      ∃ q r f, exec (.watchCycle enc hall raw wake) s = completes s f
        ∧ (∀ b at_, wake = some (b, at_) → at_ < judged → q = woken u b at_)
        ∧ ((∀ b at_, wake = some (b, at_) → judged ≤ at_) → q = u)
        ∧ (q.half ≠ .watch → r = q)
        ∧ (q.half = .watch →
          let known := q.pwr.reference
          let pwr := { q.pwr with reference := if x.2.2.2 = true then known else some (known.getD x.2.2.1) }
          let w := ({ q with now := start + (32 + 10 * max 1 (q.rd PWR_WATCH.SETTLE)) * 400 + x.1, pwr := pwr } : State)
          let v := (w.countWrap PWR_WATCH_CNT.CYC_CNT).wr PWR_WAKE_STAT.LAST x.2.1;
          (x.2.2.2 = true → effect (v.setFlag PWR_WAKE_STAT.ERR true) 7 r) ∧ (x.2.2.2 = false → known = none → r = v)
          ∧ (∀ k, x.2.2.2 = false → known = some k → v.watchOutside k x.2.2.1 = true → effect v 7 r)
          ∧ (∀ k, x.2.2.2 = false → known = some k → v.watchOutside k x.2.2.1 = false → r = v))
        ∧ (r.half ≠ .watch → f = r)
        ∧ (r.half = .watch →
          (∀ b at_, wake = some (b, at_) → judged ≤ at_ → at_ < judged + 4800 →
            ((woken r b at_).half = .watch → f = { woken r b at_ with now := start + judged + 4800 })
            ∧ ((woken r b at_).half ≠ .watch → f = woken r b at_))
          ∧ ((∀ b at_, wake = some (b, at_) → at_ < judged ∨ judged + 4800 ≤ at_) → f = { r with now := r.now + 4800 })))
    ∧ (¬cycles → exec (.watchCycle enc hall raw wake) s = completes s s)
    ∧ (∃ r, exec .porAssert s = completes s r ∧ r.half = .off ∧ r.part = s.part ∧ r.halfId = s.halfId ∧ r.strap = s.strap
      ∧ r.mram = s.mram ∧ r.otp = s.otp ∧ r.flash = s.flash ∧ r.fuse = s.fuse)

/-! ### Sensors and motors -/

/-- Encoders and Hall triples (R54, R143 to R149): a request starts a frame on each enabled port with its live settings; the
word is released after ENC_SPAN, discarded where a test pulse met its frame, else checked, counted and kept for the tick it
serves; of a word already timed out the span only ends. A test pulse meets an interval where the supply that the plan gives
the input has pulsed, or settles, in it. A legal Hall code moves the sector to a neighbour in either direction, with its
commutation event; an illegal code and a step over a sector are counted and reported for the motors that use the triple. -/
def Obligations.sensor_words_and_codes : Prop :=
  ∀ (p h code t0 : Nat) (x : EncWord) (s : State),
    (∀ i settle t0, s.pulseMeets i settle t0 = true ↔ s.bit SAFE_TPA1.USE i = true ∧
      ∃ q, (s.safe.pulseAt.find? fun q => q.1 == s.inputSupply i) = some q ∧ t0 ≤ q.2 + (s.rd SAFE_TP.TP_WIDTH + 4 * settle) * 400)
    ∧ (let u := s.advanceTo (s.rd RAKE_ENC.ENC_REQ_PHASE);
      exec .encoderRequest s = completes s ([0, 1, 2].foldl (fun s p =>
        if s.bit POS_CTRL.PORT_EN p = true then
          let asked := { s.port p with
            reqAt := some s.now, reqPhase := s.rd RAKE_ENC.ENC_REQ_PHASE, reqDiv := s.rd (POS_PORT_CFG.CLK_DIV p)
            reqSpan := s.encSpan p, reqNew := true, late := false };
          (s.setBit POS_STAT.BUSY p true).setPort p asked
        else s) u))
    ∧ (s.bit POS_CTRL.PORT_EN p = true → (s.port p).reqAt = some t0 →
      let q := s.port p
      let a : State := { s with now := max s.now (t0 + q.reqSpan), cec := s.cec + (t0 + q.reqSpan - s.now) }
      let b := a.setBit POS_STAT.BUSY p false
      let ended (z : State) : State := z.setPort p { z.port p with reqAt := none, late := false }
      let split := b.encSplit p (b.encWord p x)
      let word (fate : WordFate) : PosWord := ⟨(b.port p).reqPhase, (b.port p).reqDiv, split.1, split.2, fate⟩
      let u := b.setFlag (POS_PORT_LAST.WARN p) (b.flag (POS_PORT_CFG.MODE p) && x.started && !x.nW)
      let met := u.pulseMeets p (u.rd (POS_PORT_TIM.SETTLE p)) t0 = true
      let result := u.encCheck p x (word .good)
      (q.late = true → exec (.encoderWordRelease p x) s = completes s (ended b))
      ∧ (q.late = false → met → exec (.encoderWordRelease p x) s
          = completes s (ended ((u.wr (POS_PORT_LAST.RESULT p) 6).keepWord p (word .discarded))))
      ∧ (q.late = false → ¬met → result = 0 → exec (.encoderWordRelease p x) s
          = completes s (ended (((u.wr (POS_PORT_LAST.RESULT p) result).countEnc p result).keepWord p (word .good))))
      ∧ (q.late = false → ¬met → result ≠ 0 → exec (.encoderWordRelease p x) s
          = completes s (ended (((u.wr (POS_PORT_LAST.RESULT p) result).countEnc p result).keepWord p (word .failed)))))
    ∧ (s.bit POS_CTRL.PORT_EN p = false ∨ (s.port p).reqAt = none → exec (.encoderWordRelease p x) s = completes s s)
    ∧ (let taken := s.flag (POS_HALL_CFG.HEN h) = true
        ∧ s.pulseMeets (3 + h) (s.rd (POS_PORT_TIM.SETTLE h)) s.now = false
      let c := code % 8
      let legal := c ≠ 0 ∧ c ≠ 7
      let old := s.hall h
      let a := s.rd (POS_HALL_STAT.SECTOR h)
      let b := s.hallSector h c
      let u := (s.wr (POS_HALL_STAT.CODE h) c).wr (POS_HALL_STAT.SECTOR h) b
      let failed (z : State) : State :=
        let w := z.setHall h { old with crossed := none, bad := true };
        (w.sensorUsers 2 h).foldl (fun s m => s.report srcPosHall m) w;
      (¬taken → exec (.hallCodeTaken h code) s = completes s s)
      ∧ (taken → ¬legal → exec (.hallCodeTaken h code) s = completes s
          (failed (((s.wr (POS_HALL_STAT.CODE h) c).setFlag (POS_HALL_STAT.ILL h) true).count (POS_HALL_STAT.ILL_CNT h))))
      ∧ (taken → legal → old.known = false → exec (.hallCodeTaken h code) s = completes s (u.setHall h { old with known := true }))
      ∧ (taken → legal → old.known = true →
        (a = b → exec (.hallCodeTaken h code) s = completes s u)
        ∧ (a ≠ b → b = (a + 1) % 6 → exec (.hallCodeTaken h code) s
          = completes s ((u.setHall h { old with crossed := some (sectorStart b, u.now) }).hallComm h b true))
        ∧ (a ≠ b → b ≠ (a + 1) % 6 → a = (b + 1) % 6 → exec (.hallCodeTaken h code) s
          = completes s ((u.setHall h { old with crossed := some (sectorStart a, u.now) }).hallComm h b false))
        ∧ (a ≠ b → b ≠ (a + 1) % 6 → a ≠ (b + 1) % 6 → exec (.hallCodeTaken h code) s
          = completes s (failed ((u.setFlag (POS_HALL_STAT.SEQ h) true).count (POS_HALL_STAT.SEQ_CNT h))))))

/-- The vote and its faults (R54, R154 to R157, R160): at TSTART − 16 late words time out, the words of the tick are delivered
and every motor with an enabled source is voted; a source whose drop count reaches VOTE_M is dropped, the runs of R157 raise
their faults, a dropped source is marked for readmission and returns after 64 good ticks, and a LOAD is kept for the next
vote. Below its count each command does nothing. -/
def Obligations.position_votes : Prop :=
  ∀ (m i mask w : Nat) (s : State),
    let drops := s.sourceOn m i = true ∧ s.bit (POS_VSTAT.DROP m) i = false
      ∧ max 1 (s.rd (POS_VOTE.VOTE_M m)) ≤ lookup (s.pos m).drops 0 i
    let dis := max 1 (s.rd (POS_VOTE.DIS_N m)) ≤ (s.pos m).disRun
    let one := max 1 (s.rd (POS_VOTE.VOTE_M m)) ≤ (s.pos m).oneRun ∨ s.sourcesLeft m = 1
    let none_ := s.voted m = true ∧ (max 1 (s.rd (POS_VOTE.DIS_N m)) ≤ (s.pos m).noneRun ∨ s.sourcesLeft m = 0)
    let back := s.bit (POS_VSTAT.PEND m) i = true ∧ 64 ≤ lookup (s.pos m).goods 0 i;
    (let u := [0, 1, 2].foldl (fun (s : State) p => (s.lateWord p).deliverWord p) (s.advanceTo (s.rd RAKE_TSTART.TSTART - 16))
      let v := ([0, 1, 2].filter u.voted).foldl State.voteMotor u
      exec .positionVote s = completes s ([0, 1, 2].foldl (fun s p =>
        (s.setPort p { s.port p with cur := none }).setHall p { s.hall p with bad := false }) v))
    ∧ (drops → exec (.sourceDrop m i) s = completes s ((s.setBit (POS_VSTAT.DROP m) i true).raise srcPosDrop m))
    ∧ (¬drops → exec (.sourceDrop m i) s = completes s s)
    ∧ (dis → exec (.posDis m) s = completes s (s.raise srcPosDis m)) ∧ (¬dis → exec (.posDis m) s = completes s s)
    ∧ (one → exec (.posOne m) s = completes s (s.raise srcPosOne m)) ∧ (¬one → exec (.posOne m) s = completes s s)
    ∧ (none_ → exec (.posNone m) s = completes s (s.raise srcPosNone m)) ∧ (¬none_ → exec (.posNone m) s = completes s s)
    ∧ (s.takesWrite w (0x0CB4 + 0x40 * m) = true → exec (.readmit w m mask) s = completes s ([0, 1, 2].foldl (fun s i =>
        if mask.testBit i && s.bit (POS_VSTAT.DROP m) i && !s.bit (POS_VSTAT.PEND m) i then
          ((s.setBit (POS_VSTAT.PEND m) i true).setBit (POS_CTL.READMIT m) i true).setPos m
            { s.pos m with goods := erase (s.pos m).goods i }
        else s) s))
    ∧ (back →
      let p := s.pos m
      let v := ((s.setBit (POS_VSTAT.PEND m) i false).setBit (POS_CTL.READMIT m) i false).setBit (POS_VSTAT.DROP m) i false
      let u := v.setPos m { p with drops := erase p.drops i, goods := erase p.goods i }
      (u.rd (POS_VSTAT.DROP m) = 0 → exec (.sourceReadmitted m i) s = completes s (u.lower srcPosDrop m))
      ∧ (u.rd (POS_VSTAT.DROP m) ≠ 0 → exec (.sourceReadmitted m i) s = completes s u))
    ∧ (¬back → exec (.sourceReadmitted m i) s = completes s s)
    ∧ (s.takesWrite w (0x0CB4 + 0x40 * m) = true →
      let u := s.setFlag (POS_CTL.LOAD m) true;
      exec (.load m w) s = completes s (u.setPos m { u.pos m with loadBy := some w, initDue := false }))
    ∧ (m < 3 → s.takesWrite w (0x0CB4 + 0x40 * m) = false → exec (.readmit w m mask) s = completes s (s.meetWrite w (0x0CB4 + 0x40 * m))
      ∧ exec (.load m w) s = completes s (s.meetWrite w (0x0CB4 + 0x40 * m)))

/-- The end of the catch window (R286, R287): a back-EMF above the bus refuses the motor; a rotor at standstill or below
CATCH_LOW starts, or runs where sensored; one that turns in the commanded direction is caught with SYNC, one that turns
against it is braked. Cut-offs, gates, limit record and PWM follow the new state at once. Outside CATCH and before the end of
the window nothing happens. Timed ends of the channel states (R283, R288, R293, R295): a sensorless brake segment, a winding
short of REFUSE and an alignment end after their times; a pause ends in a new catch, and where the retries are exhausted in
IDLE with START_FAIL, counted and reported. Before its time, and in other states, each command does nothing. Starts, host
steps and the locked rotor (R294 to R297): a start that has seen 16 good ticks is handed over and one that has not fails at
START_TMO; a host step is queued or replaced, and at the end of a step the queued one begins, HSTEP_MISS is set with none, and
a HANDOVER step hands over or fails; the locked-rotor timer raises its faults at LOCK_T and at twice LOCK_T. Each command does
nothing where its condition does not hold. A host step of a reserved KIND, and a peak that no measurement gave, are the
model's choice (log 29, 32). -/
def Obligations.motor_starts_and_stops : Prop :=
  (∀ (m : Nat) (s : State),
    let due := s.chState m = chCatch ∧ s.rd (FIELD_CATCH.CATCH_T m) * 40000 ≤ (s.chan m).timer
    let w := s.catchSpeed m
    let slow := s.standstill m = true ∨ (w.natAbs : Int) < (s.rd (FIELD_CATCH.CATCH_LOW m) : Int) * 65536
    let c := s.chan m;
    (due → s.peakAboveBus m = true →
      let u := ((s.wr (FIELD_STAT.CATCH_RES m) 3).setCh m chRefuse).setFlag (FIELD_STAT.REFUSED m) true
      let v := (u.count (FIELD_CNT.REFUSE_CNT m)).setChan m { c with timer := 0, busHist := [], refuseShort := false }
      exec (.catchDecision m) s = completes s ((v.report srcFieldRefuse m).settle m))
    ∧ (due → s.peakAboveBus m = false → slow →
      let u := s.wr (FIELD_STAT.CATCH_RES m) 0
      (u.sensored m = true → exec (.catchDecision m) s = completes s ((u.enterRun m).settle m))
      ∧ (u.sensored m = false → exec (.catchDecision m) s = completes s ((u.enterStart m).settle m)))
    ∧ (due → s.peakAboveBus m = false → ¬slow → (0 < w ↔ c.dir = false) →
      exec (.catchDecision m) s = completes s (((s.wr (FIELD_STAT.CATCH_RES m) 1).enterSync m w).settle m))
    ∧ (due → s.peakAboveBus m = false → ¬slow → ¬(0 < w ↔ c.dir = false) →
      let u := (s.wr (FIELD_STAT.CATCH_RES m) 2).setCh m chBrake
      exec (.catchDecision m) s = completes s ((u.setChan m { c with timer := 0, shortOff := false, shortNext := false }).settle m))
    ∧ (¬due → exec (.catchDecision m) s = completes s s))
  ∧ (∀ (m : Nat) (s : State),
    let c := s.chan m
    let brake := s.chState m = chBrake ∧ s.sensored m = false ∧ s.brkSeg m ≤ c.timer
    let refuse := s.chState m = chRefuse ∧ c.refuseShort = true ∧ s.brkSeg m ≤ c.timer
    let align := s.chState m = chAlign ∧ s.rd (FIELD_ALIGN.ALIGN_T m) * 400000 ≤ c.timer
    let pause := s.chState m = chPause ∧ 50 * 400000 ≤ c.timer;
    (brake → exec (.brakeSegmentEnd m) s = completes s ((s.enterCatch m).settle m))
    ∧ (¬brake → exec (.brakeSegmentEnd m) s = completes s s)
    ∧ (refuse → exec (.refuseShortEnd m) s
        = completes s ((s.setChan m { c with refuseShort := false, busHist := [], timer := 0 }).settle m))
    ∧ (¬refuse → exec (.refuseShortEnd m) s = completes s s)
    ∧ (align →
      let run := { c with
        timer := 0, rampSpd := 0, startTimer := 0, startOn := true, irefCmd := s.rdInt (FIELD_IREF.RAMP_I m) * 65536
        goodTicks := 0 }
      exec (.alignEnd m) s = completes s (((s.setCh m chRamp).setChan m run).settle m))
    ∧ (¬align → exec (.alignEnd m) s = completes s s)
    ∧ (pause → c.blockedEn = false → exec (.pauseEnd m) s = completes s ((s.enterCatch m).settle m))
    ∧ (pause → c.blockedEn = true →
      let u := ((s.enterIdle m).setFlag (FIELD_STAT.START_FAIL m) true).count (FIELD_CNT.START_FAIL_CNT m)
      exec (.pauseEnd m) s = completes s ((u.report srcFieldStart m).settle m))
    ∧ (¬pause → exec (.pauseEnd m) s = completes s s))
  ∧ (∀ (w m kind dur param : Nat) (x y : HStep) (s : State),
    let c := s.chan m
    let timeout := s.starting m = true ∧ c.startOn = true ∧ s.rd (FIELD_HAND.START_TMO m) * 10 * 400000 ≤ c.startTimer
      ∧ s.handoverDue m = false
    let ends := s.chState m = chHstep ∧ max 1 x.dur ≤ c.stepTicks
    let watched := s.chState m = chRun ∧ s.flag (FIELD_CTRL.LOCK_EN m) = true
    let once := watched ∧ c.lockSeen = 0 ∧ s.rd (FIELD_LOCK.LOCK_T m) * 400000 ≤ c.lockTimer
    let twice := watched ∧ c.lockSeen ≤ 1 ∧ 2 * s.rd (FIELD_LOCK.LOCK_T m) * 400000 ≤ c.lockTimer;
    (s.handoverDue m = true → exec (.startHandover m) s = completes s ((s.handover m).settle m))
    ∧ (s.handoverDue m = false → exec (.startHandover m) s = completes s s)
    ∧ (timeout → exec (.startTimeout m) s = completes s ((s.failStart m).settle m))
    ∧ (¬timeout → exec (.startTimeout m) s = completes s s)
    ∧ (s.takesWrite w (0x1840 + 0x100 * m) = true →
      let u := ((s.wr (FIELD_HSTEP.KIND m) kind).wr (FIELD_HSTEP.DUR m) dur).wr (FIELD_HSTEP.PARAM m) param
      let k := u.rd (FIELD_HSTEP.KIND m)
      exec (.hstepWrite w m kind dur param) s = completes s (u.setChan m { u.chan m with
        queued := if 1 ≤ k ∧ k ≤ 4 then some ⟨k, u.rd (FIELD_HSTEP.DUR m), u.rd (FIELD_HSTEP.PARAM m)⟩ else none }))
    ∧ (m < 3 → s.takesWrite w (0x1840 + 0x100 * m) = false →
      exec (.hstepWrite w m kind dur param) s = completes s (s.meetWrite w (0x1840 + 0x100 * m)))
    ∧ (c.step = none → exec (.hstepStepEnd m) s = completes s s)
    ∧ (c.step = some x →
      (¬ends → exec (.hstepStepEnd m) s = completes s s)
      ∧ (ends → x.kind ≠ 4 → c.queued = some y → exec (.hstepStepEnd m) s = completes s ((s.beginStep m y).settle m))
      ∧ (ends → x.kind ≠ 4 → c.queued = none → exec (.hstepStepEnd m) s
        = completes s (((s.setChan m { c with step := none }).setFlag (FIELD_STAT.HSTEP_MISS m) true).settle m))
      ∧ (ends → x.kind = 4 → s.handoverDue m = true → exec (.hstepStepEnd m) s = completes s ((s.handover m).settle m))
      ∧ (ends → x.kind = 4 → s.handoverDue m = false → exec (.hstepStepEnd m) s = completes s ((s.failStart m).settle m)))
    ∧ (once →
      let u := (s.setFlag (FIELD_STAT.LOCK m) true).count (FIELD_CNT.LOCK_CNT m)
      exec (.fieldLock m) s = completes s ((u.setChan m { c with lockSeen := 1 }).raise srcFieldLock m))
    ∧ (¬once → exec (.fieldLock m) s = completes s s)
    ∧ (twice → exec (.fieldLockHold m) s = completes s ((s.setChan m { c with lockSeen := 2 }).raise srcFieldLockHold m))
    ∧ (¬twice → exec (.fieldLockHold m) s = completes s s))

/-! ### The power stage -/

/-- The ideal edge toward a gate (R280, R305, R308, R310, R312, R334), t steps after the tick boundary: its complement, where
its ideal state has ended and FORCE does not hold it on, turns off, a refusal of it ending, and its gate shows on until it is
sensed off; the gate turns on once the complement is sensed off within HS_TMO, at once without the handshake, or waits for it,
a late turn-on counted. A gate that may not turn on, or whose complement stays on, stays off. -/
def Obligations.pwm_edges : Prop :=
  ∀ (g step ns : Nat) (sensed : Option Nat) (s : State),
    let out := twinGate g
    let at_ := s.advanceTo (step / 8)
    let kept := at_.forced out = true ∨ at_.asked out step = true
    let a (seen : Option Nat) : State := if kept then at_ else at_.setGate out seen.isNone
    let u (seen : Option Nat) : State :=
      let b := a seen
      let gd := { b.gd with
        withheld := b.gd.withheld.filter (· != g), refused := b.gd.refused.filter (fun x => x != out || b.forced out)
        edgeCode := place (place b.gd.edgeCode out (b.slewOf out)) g (b.slewOf g) };
      { b with gd := gd }
    let stays := (kept ∧ (u sensed).gateOn out = true) ∨ (u sensed).mayTurnOn g step = false
    let waits (v : State) : State := { v with gd := { v.gd with waitingOn := v.gd.waitingOn ++ [g] } }
    let v := u (some ns)
    let plain := (u sensed).handshakeOff (gateMotor g) = true;
    (s.mayTurnOn g step = true ↔ (s.asked g step = true ∨ s.forceAsks g = true) ∧ s.heldOff g = false
      ∧ g ∉ s.gd.refused ∧ g ∉ s.gd.blocked ∧ ¬((s.forced out = true ∨ s.asked out step = true) ∧ s.gateOn out = true))
    ∧ (stays → exec (.pwmEdge g step sensed) s = completes s (u sensed))
    ∧ (¬stays → plain → exec (.pwmEdge g step sensed) s = completes s ((u sensed).setGate g true))
    ∧ (sensed = none → ¬stays → ¬plain → exec (.pwmEdge g step sensed) s = completes s (waits (u none)))
    ∧ (sensed = some ns → ¬stays → ¬plain →
      (100 * v.rd (GDM_DEAD.HS_TMO (gateMotor g)) < ns → exec (.pwmEdge g step sensed) s = completes s (waits v))
      ∧ (ns ≤ 100 * v.rd (GDM_DEAD.HS_TMO (gateMotor g)) → 5 * v.rd (GDM_DEAD.DT (gateMotor g)) < 2 * ns →
        exec (.pwmEdge g step sensed) s = completes s ((v.count (GDM_CNT.HS_LATE_CNT (gateMotor g))).setGate g true))
      ∧ (ns ≤ 100 * v.rd (GDM_DEAD.HS_TMO (gateMotor g)) → 2 * ns ≤ 5 * v.rd (GDM_DEAD.DT (gateMotor g)) →
        exec (.pwmEdge g step sensed) s = completes s (v.setGate g true)))

/-- An ideal edge never leaves both gates of a leg on (R308, R312), whatever FORCE holds on: from a state in which no leg has
both its gates on, PWM_EDGE leads to one again, at every time of the tick; with the handshake switched off (R311), or with the
incoming switch on already, where the complement is sensed off. -/
def Obligations.edges_never_short_a_leg : Prop :=
  ∀ (g at_ : Nat) (sensed : Option Nat) (s : State), g < 18 → (∀ h, h < 18 → legSafe s h = true) →
    (s.handshakeOff (gateMotor g) = true ∨ s.gateOn g = true → sensed.isSome = true) →
    ∃ t, exec (.pwmEdge g at_ sensed) s = .next t ∧ ∀ h, h < 18 → legSafe t h = true

/-- Monitors of the switches and the cut-offs (R307, R310, R312, R313, R315, R317, R318): a handshake timeout withholds the
turn-on, crossed commands are refused and reported once, an overcurrent raises its fault while its gate is on, a bootstrap
undervoltage turns its high side off and blocks it until it ends and at two boundaries takes its phase and motor off, the
charge pump and the cut-offs report, and a waiting cut-off is forced open after CUT_DLY ticks. The chopper (R319, R320):
CHOPPER_ON and CHOPPER_OFF follow the bus, except for a running series-switch test; on for CHOP_TMAX it rests four times as
long and reports; after the rest it follows the bus again; a missing current is reported once for a turn-on, a current while
off opens the high-side series switch. That it follows the bus as last seen after the rest is the model's choice (log 53). -/
def Obligations.gate_monitors_and_chopper : Prop :=
  (∀ (g p n : Nat) (s : State),
    (let u := s.setGate g false
      let gd := { u.gd with waitingOn := u.gd.waitingOn.filter (· != g), withheld := u.gd.withheld ++ [g] }
      exec (.gdHs g) s = completes s ((({ u with gd := gd } : State).setBit (GDM_EVT.HS (g / 6)) (g % 6) true).report srcGdHs g))
    ∧ ((∃ g ∈ phaseGates p, g ∈ s.gd.refused) → exec (.gdXcmd p) s = completes s s)
    ∧ ((∀ g ∈ phaseGates p, g ∉ s.gd.refused) →
      let off := (phaseGates p).filter fun g => !s.gateOn g
      let gd := { s.gd with refused := s.gd.refused ++ off, waitingOn := s.gd.waitingOn.filter (!off.contains ·) }
      exec (.gdXcmd p) s = completes s (((({ s with gd := gd } : State).setBit (GDM_EVT.XCMD (p / 3)) (p % 3) true).count
        (GDM_CNT.XCMD_CNT (p / 3))).report srcGdXcmd p))
    ∧ (s.gateOn g = true →
      let u := (s.setBit (GDM_EVT.VDS (g / 6)) (g % 6) true).setBit (GDM_STAT.VDS_LIVE (g / 6)) (g % 6) true
      exec (.gdVds g true) s = completes s (((u.count (GDM_CNT.VDS_CNT (g / 6))).raise srcGdVds g).vdsFollowsGate g))
    ∧ (s.gateOn g = false → exec (.gdVds g true) s = completes s s)
    ∧ exec (.gdVds g false) s = completes s ((s.setBit (GDM_STAT.VDS_LIVE (g / 6)) (g % 6) false).lower srcGdVds g)
    ∧ (let u := ((s.setBit (GDM_EVT.BSUV (g / 6)) (g % 6 / 2) true).setBit (GDM_STAT.BSUV_LIVE (g / 6)) (g % 6 / 2) true).faultOff [g]
      let gd := { u.gd with
        blocked := if u.gd.blocked.contains g = true then u.gd.blocked else u.gd.blocked ++ [g]
        bsuvStage := place u.gd.bsuvStage g 0 }
      exec (.gdBsuv g true) s = completes s (({ u with gd := gd } : State).raise srcGdBsuv g))
    ∧ (let u := (s.setBit (GDM_STAT.BSUV_LIVE (g / 6)) (g % 6 / 2) false).lower srcGdBsuv g
      let gd := { u.gd with blocked := u.gd.blocked.filter (· != g), bsuvStage := erase u.gd.bsuvStage g }
      exec (.gdBsuv g false) s = completes s (State.fcRefresh { u with gd := gd }))
    ∧ exec .bsuvStage s = completes s ((s.gd.bsuvStage.filter fun p => 2 ≤ p.2 && s.gd.blocked.contains p.1).foldl
        (fun s p => (s.activate (s.reaction srcGdBsuv p.1 3)).activate (s.reaction srcGdBsuv p.1 4)) s)
    ∧ exec (.gdCp true) s = completes s (((s.setFlag GD_EVT.CP true).setFlag GD_STAT.CP_OK false).raise srcGdCp 0)
    ∧ exec (.gdCp false) s = completes s ((s.setFlag GD_STAT.CP_OK true).lower srcGdCp 0)
    ∧ exec (.gdCut p true) s
      = completes s (((s.senseCut p (!(s.cut p).closed)).setBit (GDM_EVT.CUT (p / 3)) (p % 3) true).raise srcGdCut p)
    ∧ exec (.gdCut p false) s = completes s ((s.senseCut p (s.cut p).closed).lower srcGdCut p)
    ∧ ((s.cut p).waiting = some n → max 1 (s.rd (GDM_CUT.CUT_DLY (p / 3))) ≤ n → exec (.cutoffForcedOpen p) s
      = completes s (((s.setCut p ⟨false, none⟩).senseCut p false).setBit (GDM_EVT.CUT_FORCED (p / 3)) (p % 3) true))
    ∧ ((s.cut p).waiting = some n → n < max 1 (s.rd (GDM_CUT.CUT_DLY (p / 3))) → exec (.cutoffForcedOpen p) s = completes s s)
    ∧ ((s.cut p).waiting = none → exec (.cutoffForcedOpen p) s = completes s s))
  ∧ (∀ (t : Nat) (s : State),
    let tmax := max 1 (s.rd GD_CHOP.CHOP_TMAX) * 400000
    let over_ := s.flag GD_STAT.CHOP_ON = true ∧ s.gd.test.isNone = true ∧ tmax ≤ s.now - s.gd.chopOnAt
    let misses := s.flag GD_STAT.CHOP_ON = true ∧ s.gd.test = none ∧ s.gd.choSeen = false
    let leaks := s.flag GD_STAT.CHOP_ON = false ∧ s.gd.test = none
    let low : State := { s with gd := { s.gd with busHigh := false } };
    exec .chopperOn s = completes s (({ s with gd := { s.gd with busHigh := true } } : State).abortTest.chopFollow)
    ∧ ((∀ x, s.gd.test = some x → x.aborted = true) → exec .chopperOff s = completes s low.chopFollow)
    ∧ (∀ x, s.gd.test = some x → x.aborted = false → exec .chopperOff s = completes s low)
    ∧ (over_ →
      let u := s.chopOff
      let gd := { u.gd with chopRestUntil := some (u.now + 4 * tmax) }
      exec .gdChot s = completes s (((({ u with gd := gd } : State).setFlag GD_EVT.CHOT true).count GD_CNT.CHOT_CNT).raise srcGdChot 0))
    ∧ (¬over_ → exec .gdChot s = completes s s)
    ∧ (let u := ({ s with gd := { s.gd with chopRestUntil := none } } : State).lower srcGdChot 0;
      (s.gd.chopRestUntil = some t → t ≤ s.now → u.gd.test.isNone = true → exec .chopperRestEnd s = completes s u.chopFollow)
      ∧ (s.gd.chopRestUntil = some t → t ≤ s.now → u.gd.test.isNone = false → exec .chopperRestEnd s = completes s u)
      ∧ (s.gd.chopRestUntil = some t → s.now < t → exec .chopperRestEnd s = completes s s)
      ∧ (s.gd.chopRestUntil = none → exec .chopperRestEnd s = completes s s))
    ∧ (misses →
      let u : State := { s with gd := { s.gd with choSeen := true } }
      exec .gdCho s
        = completes s ((((u.setFlag GD_EVT.CHO true).count GD_CNT.CHO_CNT).setFlag GD_STAT.CHOP_I false).report srcGdCho 0))
    ∧ (¬misses → exec .gdCho s = completes s s)
    ∧ (leaks → exec (.gdChs true) s
      = completes s (((s.setFlag GD_EVT.CHS true).setFlag GD_STAT.CHOP_I true).openHs.raise srcGdChs 0))
    ∧ (¬leaks → exec (.gdChs true) s = completes s (s.setFlag GD_STAT.CHOP_I true))
    ∧ exec (.gdChs false) s = completes s ((s.setFlag GD_STAT.CHOP_I false).lower srcGdChs 0))

/-- Overvoltage and the series switches (R324 to R330, R381): OV_SHORT_N results short the windings from the next boundary
until OV_REL results below OV_LIM; OV_ABS opens the high-side switch and shorts, once until it ends; a switch commanded closed
whose VDS is too high raises its fault; a series-switch test runs in STANDBY, step by step, ends with its result, and closes
the switches only for an arming it has passed. -/
def Obligations.overvoltage_and_series_switches : Prop :=
  ∀ (w : Nat) (x : SluiceMeas) (hs above : Bool) (y : SluiceTest) (s : State),
    let shorts := max 1 (s.rd GD_OV2.OV_SHORT_N) ≤ s.gd.ovsRun ∧ s.flag GD_STAT.OVS_ACT = false
    let ends := s.flag GD_STAT.OVS_ACT = true ∧ max 1 (s.rd GD_OV2.OV_REL) ≤ s.gd.ovRelRun
    let runs := s.half = .standby ∧ s.gd.test = none
    let cmd := if hs = true then s.flag GD_SLUICE.HS_CMD else s.flag GD_SLUICE.LS_CMD
    let seen := s.setFlag (if hs = true then GD_SLUICE.HS_ON else GD_SLUICE.LS_ON) (!above);
    (shorts →
      let u := ((s.setFlag GD_EVT.OVS true).setFlag GD_STAT.OVS_ACT true).count GD_CNT.OVS_CNT
      exec .gdOvs s = completes s (({ u with gd := { u.gd with ovsDue := true } } : State).raise srcGdOvs 0))
    ∧ (¬shorts → exec .gdOvs s = completes s s)
    ∧ (ends →
      let u := (s.setFlag GD_STAT.OVS_ACT false).lower srcGdOvs 0
      let gd := { u.gd with ovsDue := u.gd.ovsDue && u.reactionHeld srcGdOvs, ovsHeld := u.gd.ovsHeld && u.reactionHeld srcGdOvs }
      exec .gdOvsRelease s = completes s { u with gd := gd })
    ∧ (¬ends → exec .gdOvsRelease s = completes s s)
    ∧ (s.flag GD_STAT.OVABS_ACT = true → exec .gdOvabs s = completes s s)
    ∧ (s.flag GD_STAT.OVABS_ACT = false →
      let u := ((s.setFlag GD_EVT.OVABS true).setFlag GD_STAT.OVABS_ACT true).count GD_CNT.OVABS_CNT
      exec .gdOvabs s
        = completes s ((({ u with gd := { u.gd with ovabsHeld := true } } : State).openHs.abortTest).raise srcGdOvabs 0))
    ∧ (let u := (s.setFlag GD_STAT.OVABS_ACT false).lower srcGdOvabs 0
      exec .gdOvabsRelease s
        = completes s { u with gd := { u.gd with ovabsHeld := u.gd.ovabsHeld && u.reactionHeld srcGdOvabs } })
    ∧ (cmd = true → above = true →
      exec (.gdSlvds hs above) s = completes s ((seen.setFlag GD_EVT.SLVDS true).raise srcGdSlvds 0))
    ∧ (cmd = false ∨ above = false → exec (.gdSlvds hs above) s = completes s seen.slvdsWatch)
    ∧ (s.gd.test = none → exec (.sluiceTestEnd x) s = completes s s)
    ∧ (s.gd.test = some y → sluiceGoesOn y.aborted x = true →
      exec (.sluiceTestEnd x) s = completes s ((s.testStep (max y.step x.stop)).senseSluice x))
    ∧ (s.gd.test = some y → sluiceGoesOn y.aborted x = false →
      let r := sluiceResult y.aborted x
      let u := ((s.wr GD_SLTEST.RESULT r.1).wr GD_SLTEST.STEP r.2).wr SAFE_SLT.RESULT r.1
      let o := ((u.setFlag SAFE_SLT.RUN false).senseSluice x).openSluice
      let v := State.chopFollow { o with gd := { o.gd with test := none } }
      let judged (w : State) : State := { w with pwr := { w.pwr with trans := .armJudge (r.1 == 0) } }
      let forArming := y.arming = true ∧ v.pwr.trans = .armTesting
      (forArming → r.1 = 0 → exec (.sluiceTestEnd x) s = completes s (judged v.closeSluice))
      ∧ (forArming → r.1 ≠ 0 → exec (.sluiceTestEnd x) s = completes s (judged v))
      ∧ (¬forArming → exec (.sluiceTestEnd x) s = completes s v))
    ∧ (s.takesWrite w 0x2434 = true → runs →
      exec (.sluiceTestRun w) s = completes s ((s.setFlag SAFE_SLT.RUN true).startSluiceTest 2))
    ∧ (s.takesWrite w 0x2434 = true → ¬runs → exec (.sluiceTestRun w) s = completes s (s.ignored 0x2434))
    ∧ (s.takesWrite w 0x2434 = false → exec (.sluiceTestRun w) s = completes s (s.meetWrite w 0x2434))

/-! ### Faults and safety functions -/

/-- REACTION_RELEASE (R354 to R356, R475): the due reactions of phases are dropped, those of motors are released one after
another as recoveries, and those of the half are dropped; in SAFE by a reaction, when none would be left and recovery is not
blocked, the half recovers to STANDBY, and goes to LOCKOUT where it is. Where the reactions change, the motors' outputs and
records follow at once. Host answers and the end of grace (R81, R344, R351, R352, R361). An answer is a write of FC_HANS. In
time, with the request's number and a level between the floor and 6, it is stored and its reaction is taken at the next
boundary, with the DFACT of the occurrence; any other is counted as bad and changes nothing else, one of a writer without
permission too, which R81 turns away. Without an answer, and with none in the same CEC, the table reaction is taken; before
that GRACE_EXPIRY does nothing. -/
def Obligations.reactions_and_host_requests : Prop :=
  (∀ s : State,
    let due := s.fc.active.filter s.releaseDue
    let strong := due.filter fun r => 5 ≤ r.level
    let u := (s.quietRefresh.dropReactions (due.filter fun r => r.level != 4 && r.level < 5)).releaseMotors (due.filter (·.level == 4))
    let leaves := u.half = .safe ∧ u.fc.active.all strong.contains = true ∧ u.flag FC_STAT.SAFE = true;
    let kept := u.dropReactions strong
    let back := (((u.dropReactions strong).dropEqual.recover).enterStandby true).freeChannels u.usedMotors
    let done (t : State) := exec .reactionRelease s = completes s (if t.fc.active = s.fc.active then t else t.settleUsed);
    (¬leaves → done kept) ∧ (leaves → u.recoveryBlocked = false → done back) ∧ (leaves → u.recoveryBlocked = true → done u.enterLockout))
  ∧ (∀ (w seq react : Nat) (answered : Bool) (s : State),
    let q := seq % 256
    let r := react % 8
    let good := s.flag FC_HREQ.PEND = true ∧ s.now - s.fc.requestAt ≤ s.rd CE_MODE.GRACE * 400 ∧ s.rd FC_HREQ.SEQ = q
      ∧ srcFloor (s.rd FC_HREQ.SRC) ≤ r ∧ r ≤ 6
    let u := (s.wr FC_HANS.SEQ q).wr FC_HANS.REACT r
    let over_ := s.flag FC_HREQ.PEND = true ∧ answered = false ∧ s.rd CE_MODE.GRACE * 400 ≤ s.now - s.fc.requestAt;
    (s.takesWrite w 0x2064 = true → good → exec (.hostAnswer w seq react) s
      = completes s ((((u.endRequest).count FC_HCNT.ANS).atBoundary ⟨u.rd FC_HREQ.SRC, u.rd FC_HREQ.INST, r, s.fc.requestFact⟩).keepSys s))
    ∧ (s.takesWrite w 0x2064 = true → ¬good → exec (.hostAnswer w seq react) s = completes s ((s.count FC_HCNT.BAD).keepSys s))
    ∧ (s.takesWrite w 0x2064 = false →
      let t := s.meetWrite w 0x2064
      let counts := s.turnedAway w 0x2064 = true ∧ t.permitted w = false ∧ (t.reach 0x2064).isSome = true;
      (counts → exec (.hostAnswer w seq react) s = completes s (t.count FC_HCNT.BAD))
      ∧ (¬counts → exec (.hostAnswer w seq react) s = completes s t))
    ∧ (over_ → exec (.graceExpiry answered) s = completes s (((s.endRequest).count FC_HCNT.TMO).atBoundary
        ⟨s.rd FC_HREQ.SRC, s.rd FC_HREQ.INST, s.rd FC_HREQ.REACT, s.fc.requestFact⟩))
    ∧ (¬over_ → exec (.graceExpiry answered) s = completes s s))

/-- Self-fault, latches and monitors (R340, R341, R348, R349, R353, R359, R361, R481, R482): FC_SELF turns every gate off,
opens both series switches, ends their test, notes the motors whose safe state is lost, and asks for LOCKOUT, from any state
but OFF (BOOT_FAIL too: the model's choice, log 145); FIRST_CLR clears the first-source latch, but latches the first of the
occurrences of its CEC; ALIVE toggles while it may and is low otherwise; the clock monitors, the heartbeat of the MP, its
lockstep and the polls of temperatures and supplies report and are shown. RESTART (R124, R358): the high time is shown; an
edge after 21 ms to 1,980 ms is accepted and logged, and leaves LOCKOUT (at the next boundary while the Rake runs), or asks
for a half reset from BOOT_FAIL, which a boundary takes while the Rake runs; below 19 ms and above 2,020 ms it is rejected and
counted; between the bands either may be. A half that is off sees none. What is cleared with FIRST_CLR, INST of CLK_MON and
when RESTART leaves LOCKOUT are the model's choice (log 55, 57, 58, 99, 146). -/
def Obligations.self_fault_and_monitors : Prop :=
  (∀ (w lost k : Nat) (temps : List Int) (vals : List Nat) (s : State),
    let asleep := s.half = .off ∨ s.half = .watch;
    (s.half = .off → exec (.fcSelf lost) s = completes s s)
    ∧ (s.half ≠ .off →
      let level := 1 + Config.fxReactCode % 7
      let u := ((((s.keepOccur srcFcSelf 0).markEvent srcFcSelf).logOccur srcFcSelf 0 Config.fxReactCode).setFlag FC_STAT.FX
        true).cancelRequest
      let v := ((u.latchFirst srcFcSelf 0 level).keepReact srcFcSelf 0 level).setSource srcFcSelf 0 true
      let x : State := { v with fc := { v.fc with lost := [0, 1, 2].filter fun m => lost.testBit m || v.fc.lost.contains m } }
      exec (.fcSelf lost) s = completes s ((((x.faultOff (List.range 18)).openSluice.abortTest).askHalf 8).fcRefresh))
    ∧ (s.takesWrite w 0x2010 = true →
      let c := (((((s.setFlag FC_FIRST.VALID false).setFlag FC_FIRST.OVF false).wr FC_FIRST.CLASS 0).wr
        FC_FIRST.INST 0).wr FC_FIRST.SRC 0).wr FC_FIRST.REACT 0
      let fresh := s.fc.lastReact.filter fun o => o.time == s.now
      let first := fresh.find? fun o => fresh.all fun p => latchRank o.src o.inst ≤ latchRank p.src p.inst
      (first = none → exec (.firstClr w) s = completes s c)
      ∧ ∀ o, first = some o →
        exec (.firstClr w) s = completes s ((c.writeFirst o.src o.inst o.level).setFlag FC_FIRST.OVF (1 < fresh.length)))
    ∧ (s.takesWrite w 0x2010 = false → exec (.firstClr w) s = completes s (s.meetWrite w 0x2010))
    ∧ (s.mayToggle = true →
      let u := s.setFlag FC_STAT.ALIVE_RUN true
      exec .aliveToggle s = completes s { u with fc := { s.fc with alive := !s.fc.alive, aliveAt := s.now } })
    ∧ (s.mayToggle = false → exec .aliveToggle s = completes s s.aliveLow)
    ∧ (exec (.clkMon k true) s = completes s (s.raise srcClkMon k) ∧ exec (.clkMon k false) s = completes s (s.lower srcClkMon k))
    ∧ (exec (.mpWdog true) s = completes s (s.raise srcMpWdog 0) ∧ exec (.mpWdog false) s = completes s (s.lower srcMpWdog 0))
    ∧ exec .mpLockstep s = completes s ((s.report srcMpLockstep 0).setFlag MGMT_UPD.BUSY false).restartAnswers
    ∧ (asleep → exec (.sensorPoll temps) s = completes s s ∧ exec (.supplyPoll vals) s = completes s s)
    ∧ (¬asleep →
      let t (k : Nat) : Int := temps.getD k 0
      let u := [0, 1, 2].foldl (fun (s : State) k =>
        (s.wrInt (MGMT_TEMP.T_EVEN k) (t (2 * k))).wrInt (MGMT_TEMP.T_ODD k) (t (2 * k + 1))) s
      exec (.sensorPoll temps) s = completes s ((u.judgeTemp temps (u.rd MGMT_TLIM.WARN) srcTempWarn 0).judgeTemp temps
        (u.rd MGMT_TLIM.CRIT) srcTempCrit 8))
    ∧ (¬asleep → exec (.supplyPoll vals) s = completes s ((List.range 12).foldl (fun (s : State) k =>
        let v := vals.getD k 0
        let s := s.wr (MGMT_SUP.VALUE k) v
        match supWindow k with
        | none => s
        | some (lo, hi) =>
          let out := v < lo || hi < v
          let m := since (!out) s.now (k + 16) (since out s.now k s.mgmt.supSince)
          let s : State := { s.setFlag (MGMT_SUP.OUT k) out with mgmt := { s.mgmt with supSince := m } }
          let s := if heldMs m s.now k then s.raise srcSupRange k else s
          if heldMs m s.now (k + 16) then s.lower srcSupRange k else s) s)))
  ∧ (∀ (us : Nat) (either : Bool) (s : State),
    let ms := min 4095 (us / 1000)
    let v := if s.domOn 3 = true then s.wr FC_RESTART.HIGH_MS ms else s
    let u := v.logEvent 0x03 deviceWriter 1 (dataOf [(2, ms), (10, 0)])
    let good := 21000 ≤ us ∧ us ≤ 1980000
    let bad := us < 19000 ∨ 2020000 < us
    let accepts := s.half ≠ .off ∧ (good ∨ (¬bad ∧ either = true))
    let rejects := s.half ≠ .off ∧ ¬good ∧ (bad ∨ either = false);
    (s.half = .off → exec (.restartEdge us either) s = completes s s)
    ∧ (accepts → u.half = .lockout → u.running = false → exec (.restartEdge us either) s = completes s u.leaveLockout.settleUsed)
    ∧ (accepts → u.half = .lockout → u.running = true → u.fc.halfReq = none →
      exec (.restartEdge us either) s = completes s { u with fc := { u.fc with halfReq := some 4 } })
    ∧ (accepts → u.half = .lockout → u.running = true → u.fc.halfReq ≠ none → exec (.restartEdge us either) s = completes s u)
    ∧ (accepts → u.half = .bootFail → exec (.restartEdge us either) s = completes s u.halfResetDue)
    ∧ (accepts → u.half ≠ .lockout → u.half ≠ .bootFail → exec (.restartEdge us either) s = completes s u)
    ∧ (rejects → v.domOn 3 = true → exec (.restartEdge us either) s = completes s (v.count FC_RESTART.REJ_CNT))
    ∧ (rejects → v.domOn 3 = false → exec (.restartEdge us either) s = completes s v))

/-- Evidence about the partner and the limp timer (R88, R363, R370, R371): on an HX962-D an edge of PEER_ALIVE shows life and
PA_TMO without one its loss; FAB_N cycles without a status record lose the fabric's evidence; the limp timer may be restarted
once in an episode and expires with the action of LIMP_END, unless it is restarted in that CEC; the end of its ramp takes the
half to SAFE. What of the timer is TMR stands in LIMP_TIMER. That PA_TMO tells either level, and what a second RESTART and the
end of the ramp meet, are the model's choice (log 60, 62, 63). Sensor supplies (R377 to R379): at the tick boundary of its
slot an enabled pulse switches a supply that is on off; TP_WIDTH less 5 µs into it each used input is judged by its level or
code, a finding is shown and reported, none ends the fault, and a readback still above a tenth of nominal reports its range; a
readback outside ±10 % of nominal raises the fault of a supply that is on, one inside ends it. The input shown of several is
the model's choice (log 124). -/
def Obligations.partner_evidence_and_test_pulses : Prop :=
  (∀ (w : Nat) (restarted : Bool) (s : State),
    let edges := s.part = .hx962d ∧ s.flag SAFE_RCFG.PA_EN = true
    let lost := s.rd SAFE_RCFG.PA_TMO * 10 * 400 ≤ s.now - s.safe.edgeAt
    let silent := max 1 (s.rd SAFE_RCFG.FAB_N) ≤ s.safe.recAge
    let may := s.takesWrite w 0x2410 = true
    let on_ := (s.flag LIMP_TIMER.RUN || s.flag LIMP_TIMER.EXPIRED) = true
    let used := (s.flag LIMP_TIMER.USED || s.flag LIMP_TIMER.EXPIRED) = true
    let expires := ¬(restarted = true ∧ s.flag LIMP_TIMER.USED = false)
      ∧ s.flag LIMP_TIMER.RUN = true ∧ s.rd LIMP_TIMER.LEFT = 0 ∧ s.flag LIMP_TIMER.EXPIRED = false
    let ramped := s.flag LIMP_TIMER.RAMP_ON = true ∧ s.rd LIMP_TIMER.RAMP = 0 ∧ s.inService = true ∧ s.pwr.trans ≠ .toSafe;
    (edges → exec .peerAliveEdge s = completes s (State.checkDisagree
        { s.setFlag SAFE_RSTAT.PA_ALIVE true with safe := { s.safe with edgeAt := s.now } }))
    ∧ (¬edges → exec .peerAliveEdge s = completes s s)
    ∧ (lost → exec .peerAliveTimeout s = completes s (s.setFlag SAFE_RSTAT.PA_ALIVE false).checkDisagree)
    ∧ (¬lost → exec .peerAliveTimeout s = completes s s)
    ∧ (silent → exec .statusFlowSilent s = completes s (s.setFlag SAFE_RSTAT.FAB_ALIVE false))
    ∧ (¬silent → exec .statusFlowSilent s = completes s s)
    ∧ (¬may → exec (.limpRestart w) s = completes s (s.meetWrite w 0x2410))
    ∧ (may → ¬on_ → exec (.limpRestart w) s = completes s (s.ignored 0x2410))
    ∧ (may → on_ → used → exec (.limpRestart w) s = completes s ((s.ignored 0x2410).logRedundancy 2 w))
    ∧ (may → on_ → ¬used →
      let u := (s.setFlag LIMP_TIMER.USED true).setFlag SAFE_LIMP_CTL.RST_USED true
      exec (.limpRestart w) s = completes s (u.setLimp (u.rd SAFE_LIMP.LIMP_TMAX * 1000 * 400000)))
    ∧ (expires →
      let u := (((s.setFlag SAFE_REVT.LIMP_END true).setFlag LIMP_TIMER.RUN false).setFlag SAFE_RSTAT.LIMP_RUN false).logRedundancy 3
        deviceWriter
      let x := u.setFlag LIMP_TIMER.EXPIRED true
      (u.rd SAFE_LIMP.LIMP_END = 1 → exec (.limpExpiry restarted) s = completes s
        ((x.setFlag LIMP_TIMER.RAMP_ON true).wr LIMP_TIMER.RAMP (max 1 (u.rd SAFE_LIMP.LIMP_RAMP) * 10 * 400000)))
      ∧ (u.rd SAFE_LIMP.LIMP_END ≠ 1 → exec (.limpExpiry restarted) s
        = completes s ((x.setFlag LIMP_TIMER.RAMP_ON false).wr LIMP_TIMER.RAMP 0)))
    ∧ (¬expires → exec (.limpExpiry restarted) s = completes s s)
    ∧ (ramped → exec .limpRampEnd s = completes s s.abortTransition.plainSafe)
    ∧ (¬ramped → exec .limpRampEnd s = completes s s))
  ∧ (∀ (k mv : Nat) (low : List Bool) (ain : List Nat) (s : State),
    let isOn := s.bit SAFE_SSUP.EN k = true ∧ s.domOn 10 = true ∧ s.safe.pulsing.contains k = false
    let period := s.rd SAFE_TP.TP_PERIOD * 400000
    let slot (n : Nat) := n * period + k * period / 4
    let due := s.running = true ∧ s.cec = 0 ∧ 0 < period ∧ ∃ n, slot n ≤ s.now ∧ s.rake.boundaryBefore < slot n
    let starts := s.bit SAFE_TP.TP_EN k = true ∧ isOn ∧ due ∧ s.half ≠ .boot ∧ s.half ≠ .selftest ∧ s.pwr.stopped.contains 5 = false
    let at_ := max s.now (lookup s.safe.pulseAt 0 k + (s.rd SAFE_TP.TP_WIDTH - 5) * 400)
    let y : State := { s with now := at_, cec := s.cec + (at_ - s.now) }
    let found := (List.range 18).filter fun i => y.inputFinding k i (atOffLevel low ain i)
    let u := ({ y with safe := { y.safe with pulsing := y.safe.pulsing.filter (· != k) } } : State)
    let v := match found.getLast? with
      | none => u.lower srcSsupShort k
      | some i => ((((u.setBit SAFE_TP_STAT.SHORT k true).count SAFE_TP_STAT.SHORT_CNT).wr SAFE_TP_STAT.INPUT i).report
          srcSsupShort k).setSource srcSsupShort k true
    let outside := 10 * mv < 9 * s.supplyNominal k ∨ 11 * s.supplyNominal k < 10 * mv;
    (starts → exec (.testPulse k) s = completes s
        { s with safe := { s.safe with pulseAt := place s.safe.pulseAt k s.now, pulsing := s.safe.pulsing ++ [k] } })
    ∧ (¬starts → exec (.testPulse k) s = completes s s)
    ∧ (s.safe.pulsing.contains k = true → v.supplyNominal k < 10 * mv →
      exec (.testPulseSample k low ain mv) s = completes s ((v.setBit SAFE_TP_STAT.RANGE k true).raise srcSsupRange k))
    ∧ (s.safe.pulsing.contains k = true → 10 * mv ≤ v.supplyNominal k → exec (.testPulseSample k low ain mv) s = completes s v)
    ∧ (s.safe.pulsing.contains k = false → exec (.testPulseSample k low ain mv) s = completes s s)
    ∧ (isOn → outside → exec (.ssupRange k mv) s = completes s ((s.setBit SAFE_TP_STAT.RANGE k true).raise srcSsupRange k))
    ∧ (isOn → ¬outside → exec (.ssupRange k mv) s = completes s (s.lower srcSsupRange k))
    ∧ (¬isOn → exec (.ssupRange k mv) s = completes s s))

/-- The unlock (R382 to R388): in STANDBY, SAFE or LOCKOUT with no attempt under way the first key word is held for 100 ms,
and the second of the same writer starts the check; the right password opens the unlock for its writer, a wrong one is counted
and the fifth blocks; LOCK and 60 s without a write close it; and a new hash is stored under it. Writes at other times are
ignored; what a write of a writer without permission, or in boot, meets is meetWrite. When SAFE_SET_CRC follows a write is the
model's choice (log 64). -/
def Obligations.unlock_commands : Prop :=
  ∀ (w : Nat) (v hi lo : Word) (w0 t : Nat) (s : State),
    let held (k : Option (Word × Nat × Nat)) : State := { s with safe := { s.safe with keyHi := k } }
    let may := s.takesWrite w 0x2428 = true
    let sets := s.takesWrite w 0x242C = true
    let takes := may ∧ s.keyState = true ∧ s.rd SAFE_UNL.STATE = 0
    let fresh := s.now - t ≤ 100 * 400000
    let shut := 60000 * 400000 ≤ s.now - s.safe.memberAt ∧ s.rd SAFE_UNL.STATE = 2
    let mine := sets ∧ s.rd SAFE_UNL.STATE = 2 ∧ s.rd SAFE_UNL.WRITER = w;
    (takes →
      (s.safe.keyHi = none → exec (.keyWrite w v) s = completes s (held (some (v, w, s.now))))
      ∧ (s.safe.keyHi = some (hi, w0, t) → ¬fresh → exec (.keyWrite w v) s = completes s (held (some (v, w, s.now))))
      ∧ (s.safe.keyHi = some (hi, w0, t) → fresh → w = w0 → exec (.keyWrite w v) s
        = completes s { s.wr SAFE_UNL.STATE 1 with safe := { s.safe with keyLo := some v, keyWriter := w } })
      ∧ (s.safe.keyHi = some (hi, w0, t) → fresh → w ≠ w0 → exec (.keyWrite w v) s = completes s (s.ignored 0x2428)))
    ∧ (may → ¬takes → exec (.keyWrite w v) s = completes s (s.ignored 0x2428))
    ∧ (¬may → exec (.keyWrite w v) s = completes s (s.meetWrite w 0x2428))
    ∧ (s.safe.keyHi = some (hi, w0, t) → s.safe.keyLo = none → 100 * 400000 ≤ s.now - t →
      exec .keyTimeout s = completes s (held none))
    ∧ (s.safe.keyHi = some (hi, w0, t) → s.safe.keyLo = none → s.now - t < 100 * 400000 → exec .keyTimeout s = completes s s)
    ∧ (s.safe.keyHi = none ∨ s.safe.keyLo ≠ none → exec .keyTimeout s = completes s s)
    ∧ (s.safe.keyHi = none ∨ s.safe.keyLo = none → exec .keyCheck s = completes s s)
    ∧ (s.safe.keyHi = some (hi, w0, t) → s.safe.keyLo = some lo →
      let by_ := s.safe.keyWriter
      let u := s.dropKey.wr SAFE_UNL.STATE 0
      let blank := u.activeHash = List.replicate 32 0
      let right := sha256 ((leBytes 4 hi.toNat).reverse ++ (leBytes 4 lo.toNat).reverse ++ u.keepArea.pwSalt) = u.activeHash
      let o := ((u.wr SAFE_UNL.STATE 2).wr SAFE_UNL.WRITER by_).wr SAFE_UNL.WRONG_CNT 0
      let n := u.count SAFE_UNL.WRONG_CNT
      (u.keyState = false → exec .keyCheck s = completes s u)
      ∧ (u.keyState = true → blank → exec .keyCheck s = completes s (u.logUnlock 2 by_))
      ∧ (u.keyState = true → ¬blank → right →
        exec .keyCheck s = completes s { o.logUnlock 0 by_ with safe := { o.safe with memberAt := o.now } })
      ∧ (u.keyState = true → ¬blank → ¬right → n.rd SAFE_UNL.WRONG_CNT < 5 → exec .keyCheck s = completes s (n.logUnlock 1 by_))
      ∧ (u.keyState = true → ¬blank → ¬right → 5 ≤ n.rd SAFE_UNL.WRONG_CNT →
        exec .keyCheck s = completes s ((n.wr SAFE_UNL.STATE 3).logUnlock 1 by_)))
    ∧ (sets → s.rd SAFE_UNL.STATE = 2 → exec (.unlockLock w) s = completes s ((s.wr SAFE_UNL.STATE 0).wr SAFE_UNL.WRITER 0))
    ∧ (sets → s.rd SAFE_UNL.STATE ≠ 2 → exec (.unlockLock w) s = completes s s)
    ∧ (¬sets → exec (.unlockLock w) s = completes s (s.meetWrite w 0x242C))
    ∧ (shut →
      let u := s.closeUnlock
      exec .unlockTimeout s = completes s { u with safe := { s.safe with timedOut := some (s.now, s.rd SAFE_UNL.WRITER) } })
    ∧ (¬shut → exec .unlockTimeout s = completes s s)
    ∧ (mine →
      let u := s.wr SAFE_UNL.PW_GEN (s.keepArea.pwGen + 1)
      let kept := { u.keepArea with
        pwHash := some (s.safe.newHash.flatMap fun x => (leBytes 4 x.toNat).reverse), pwGen := (u.keepArea.pwGen + 1) % 256 }
      let o : State := { u with keepArea := kept, safe := { u.safe with memberAt := u.now } }
      exec (.pwSet w) s = completes s ((o.logUnlock 3 w).renewSetCrc))
    ∧ (sets → ¬mine → exec (.pwSet w) s = completes s (s.ignored 0x242C))
    ∧ (¬sets → exec (.pwSet w) s = completes s (s.meetWrite w 0x242C))

/-! ### The Brine link, the fabric and management -/

/-- The link (R81, R117, R395 to R397, R407, R408): enabling it out of service on an HX962-D takes it from DISABLED to DOWN,
disabling it to DISABLED, and RETRAIN returns it to DOWN; these writes are ignored in service and on an HX961-S; beacons leave
in DOWN. The lanes show activity and count symbol errors; training sets on both lanes begin the training; the same set on both
aligns them and shows the partner's step, a foreign token is echoed after 8 symbols, and the own one come back gives LINK_DLY;
the training ends with all of these, and after 1 ms. The wake pattern leaves outside UP. What a set says beside R397, and the
tokens, are the model's choice (log 67, 162). Half a step of LINK_DLY being cut too (log 125). What a frame is on the lanes,
and that the receiver reads back what a sender put there (R393, R394): the start symbol on both lanes, byte 2k on lane 0 and
byte 2k + 1 on lane 1, and K29.7; idle before it makes no error, and a receiver that waits for a frame of another length has
none. -/
def Obligations.link_states : Prop :=
  (∀ (w trip wrong : Nat) (en : Bool) (lane0 lane1 : Option TrainSet) (s : State),
    let takes := s.takesWrite w 0x2800 = true
    let away := if s.part = .hx961s ∧ (s.reach 0x2800).isSome = true then (s.ignored 0x2800).keepSys s else s.meetWrite w 0x2800
    let may := takes ∧ s.inService = false
    let half := match s.halfId with | .a => 0 | .b => 1
    let heard := if s.link ≠ linkDisabled then s.codeErrors wrong else s
    let seen := (heard.setFlag BRINE_STAT.SIG0 lane0.isSome).setFlag BRINE_STAT.SIG1 lane1.isSome
    let begins := seen.link = linkDown ∧ lane0.isSome = true ∧ lane1.isSome = true
    let meets (x : TrainSet) := lane0 = some x ∧ lane1 = some x ∧ seen.link = linkTrain
    let done := s.link = linkTrain ∧ s.brine.aligned = true ∧ s.brine.measured = true ∧ s.brine.peerDone = true
    let sends (t : State) (m : Sent) : State := { t with wire := t.wire ++ [m] }
    let on := s.setFlag BRINE_CTRL.EN true
    let off := s.setFlag BRINE_CTRL.EN false;
    (may → on.link = linkDisabled → exec (.brineEnable w true) s = completes s (on.enterLink linkDown))
    ∧ (may → on.link ≠ linkDisabled → exec (.brineEnable w true) s = completes s on)
    ∧ (may → off.link ≠ linkDisabled → exec (.brineEnable w false) s = completes s (off.enterLink linkDisabled))
    ∧ (may → off.link = linkDisabled → exec (.brineEnable w false) s = completes s off)
    ∧ (may → s.link ≠ linkDisabled → exec (.retrain w) s = completes s (s.enterLink linkDown))
    ∧ (may → s.link = linkDisabled → exec (.retrain w) s = completes s s)
    ∧ (takes → s.inService = true →
      exec (.brineEnable w en) s = completes s (s.ignored 0x2800) ∧ exec (.retrain w) s = completes s (s.ignored 0x2800))
    ∧ (¬takes → exec (.brineEnable w en) s = completes s away ∧ exec (.retrain w) s = completes s away
      ∧ exec (.wakeTx w) s = completes s away)
    ∧ (s.link = linkDown → s.domOn 11 = true →
      exec .beacon s = completes s (sends s.draw.2 (.beacon ⟨half, s.brine.aligned && s.brine.measured, s.draw.1 % 256⟩)))
    ∧ (s.link ≠ linkDown ∨ s.domOn 11 = false → exec .beacon s = completes s s)
    ∧ (s.domOn 11 = true → begins →
      let v := seen.enterLink linkTrain
      exec (.trainingSetRx lane0 lane1 trip wrong) s = completes s (sends v (.training (v.ownSet v.brine.token) 0)))
    ∧ (∀ x, s.domOn 11 = true → meets x →
      let y : State := { seen with brine := { seen.brine with aligned := true, peerDone := x.done } }
      let z : State := { y.wr BRINE_DLY.LINK_DLY ((trip - 320) / 2) with brine := { y.brine with measured := true } }
      let rx := exec (.trainingSetRx lane0 lane1 trip wrong) s
      (x.token ≠ seen.brine.token → rx = completes s (sends y (.training (y.ownSet x.token) 8)))
      ∧ (x.token = seen.brine.token → seen.brine.measured = true → rx = completes s y)
      ∧ (x.token = seen.brine.token → seen.brine.measured = false → rx = completes s (sends z (.training (z.ownSet x.token) 0))))
    ∧ (s.domOn 11 = true → ¬begins → (¬∃ x, meets x) → exec (.trainingSetRx lane0 lane1 trip wrong) s = completes s seen)
    ∧ (s.domOn 11 = false → exec (.trainingSetRx lane0 lane1 trip wrong) s = completes s s)
    ∧ (done → exec .trainDone s = completes s (s.enterLink linkConfirm)) ∧ (¬done → exec .trainDone s = completes s s)
    ∧ (s.link = linkTrain → 400000 ≤ s.now - s.brine.trainAt → exec .trainTimeout s = completes s (s.enterLink linkDown))
    ∧ (s.link ≠ linkTrain ∨ s.now - s.brine.trainAt < 400000 → exec .trainTimeout s = completes s s)
    ∧ (takes → s.link ≠ linkUp → s.domOn 11 = true → exec (.wakeTx w) s
        = completes s { s with wire := s.wire ++ [.wake], brine := { s.brine with wakeAt := some s.now } })
    ∧ (takes → s.link ≠ linkUp → s.domOn 11 = false → exec (.wakeTx w) s = completes s s)
    ∧ (takes → s.link = linkUp → exec (.wakeTx w) s = completes s (s.ignored 0x2800)))
  ∧ (∀ (start : Sym) (n : Nat) (b : List Byte) (gap : List LaneSlot) (x : List LaneSlot → Sent) (s : State),
    let k := b.length / 2
    let whole := (start, start) :: ((List.range k).map fun i => (Sym.d (b.getD (2 * i) 0), Sym.d (b.getD (2 * i + 1) 0))) ++ [(.k297, .k297)]
    let idle := ∀ p ∈ gap, p = (Sym.k285, Sym.k285);
    b.length % 2 = 0 → start = .k277 ∨ start = .k282 ∨ start = .k283 → idle →
    frameSlots start b = whole
    ∧ s.sendFrame x start b = s.launch (x whole) (k + 2)
    ∧ heardFrame start b.length (gap ++ whole) = some b ∧ symbolErrors start b.length (gap ++ whole) = 0
    ∧ (n ≠ b.length → n % 2 = 0 → heardFrame start n (gap ++ whole) = none))

/-- Sending the per-tick frame (R400, R401, R406): while the link carries frames it leaves with the next ALIVE and its CRC at
the first symbol boundary at or after BRINE_PHASE, and LOFS is the wait for it, in steps of 312.5 ps; a frame being sent is
interrupted after the symbol in progress, its rest following K28.6 67 symbols later (log 127). Where the boundaries lie is
open (log 160). Receiving the per-tick frame (R57, R58, R63, R69, R152, R394, R398, R403): symbol and CRC errors are counted,
a format error, a frame of the own half and a repeated one are shown; one with another period or PWM_TICKS and one whose write
would not end by TSTART is late; a whole, new, matching and timely one is accepted for its tick, but not for the vote where
its write ends after TSTART − 16. An accepted frame is written to X and its mirror from OUT_PHASE or before TSTART, a late one
is not; a tick without a frame zeroes word 0, counts a loss, and is late without a CRC-valid frame (log 66). Command frames on
the Brine link (R404): outside UP one fails at once; one is outstanding at a time; answered ACK it ends, without an answer for
four ticks or answered NAK it is repeated, three times at most; a received one is delivered once and answered by a frame of
its SEQ with FLAGS ACK, or NAK with the queue of four full. CODE and payload of an answer are free values, and a frame with
both FLAGS bits counts as ACK: the model's choice (log 77, 163, 164). Bulk units on an UP link (R83, R405, R453): a unit of
class 1 carries up to 64 bytes of trace, one of class 0 the next part of the crossing frame, and each spends a credit; a
received one is delivered or enters reassembly and returns a credit, a failed one is discarded; credits come back up to 16.
The class of a unit whose class symbol is no data, and a credit set out of range, are the model's choice (log 165, 166). -/
def Obligations.link_frames_and_units : Prop :=
  (∀ s : State,
    let u := s.advanceTo (s.rd RAKE_BRINE.BRINE_PHASE)
    let alive := (u.rd BRINE_STAT.TX_ALIVE + 1) % 256
    let v := (u.wr BRINE_STAT.TX_ALIVE alive).txRun
    let lofs := (v.brine.grid + 40 - 8 * v.now % 40) % 40
    let body := u.frameHeader alive lofs ++ u.brine.txData
    let f : Sent := .perTick (frameSlots .k277 (body ++ leBytes 4 (crc32c body)))
    let at_ := 8 * v.now + lofs
    let spans (b n e : Nat) : Brine := { v.brine with span := some ⟨b, n, e⟩ }
    let alone := completes s { v with brine := spans at_ 66 (at_ + 2640), wire := v.wire ++ [f] };
    (u.linkFrames = false → exec .brineExchange s = completes s u)
    ∧ (u.linkFrames = true → v.brine.span = none → exec .brineExchange s = alone)
    ∧ (∀ sp : TxSpan, u.linkFrames = true → v.brine.span = some sp →
      let sent := (at_ - sp.begin_) / 40
      (sent < sp.symbols → exec .brineExchange s
        = completes s { v with
            brine := spans (sp.begin_ + 2680) sp.symbols (sp.until_ + 2680)
            wire := v.wire ++ [.cut sent, f, .resume] })
      ∧ (sp.symbols ≤ sent → exec .brineExchange s = alone)))
  ∧ (∀ (at_ t : Nat) (b : List Byte) (slots : List LaneSlot) (s : State),
    let hears := s.domOn 11 = true ∧ s.link ≠ linkDisabled
    let h := if hears then (s.showActivity slots).codeErrors (symbolErrors .k277 128 slots) else s
    let judged := h.linkFrames = true ∧ h.running = true
    let u := h.advanceTo (at_ + 8)
    let tstart := u.rd RAKE_TSTART.TSTART
    let now_ := u.cec < tstart
    let tick := if now_ then u.tick else (u.tick + 1) % 2 ^ 32
    let due := if now_ then tstart else u.rake.tickLen + tstart
    let ends := (if now_ then u.cec else max u.cec (u.rd RAKE_OUT.OUT_PHASE)) + 32
    let whole := heardFrame .k277 128 slots = some b
    let sound := whole ∧ frameNat b 0x7C 4 = crc32c (b.take 0x7C)
    let v : State := { u with brine := { u.brine with valid := some tick } }
    let form := sound ∧ frameNat b 0 1 = 1 ∧ frameNat b 0x0C 4 = 0
    let other := form ∧ frameNat b 3 1 = (match v.halfId with | .a => 1 | .b => 0)
    let news := other ∧ (v.brine.heard = true → frameNat b 1 1 ≠ v.rd BRINE_STAT.RX_ALIVE)
    let fits := news ∧ frameNat b 4 2 = v.rd RAKE_TICK.TICK_PERIOD ∧ frameNat b 8 1 % 2 = v.rd RAKE_TICK.PWM_TICKS
    let z : State := { v with brine := { v.brine with peer := some (frameNat b 6 2, frameNat b 9 1) } }
    let rx := exec (.perTickFrameRx slots at_) s;
    (¬judged → rx = completes s h)
    ∧ (judged → heardFrame .k277 128 slots = none → rx = completes s u)
    ∧ (judged → whole → ¬sound → rx = completes s u.crcError)
    ∧ (judged → sound → ¬form → rx = completes s v.crcError)
    ∧ (judged → form → ¬other → rx = completes s (v.setFlag BRINE_EVT.SELF true))
    ∧ (judged → other → ¬news → rx = completes s (v.setFlag BRINE_EVT.STALE true))
    ∧ (judged → news → ¬fits → rx = completes s (v.setFlag RAKE_EVT.PERIOD_MM true).brineLate)
    ∧ (judged → fits → due < ends → rx = completes s z.brineLate)
    ∧ (judged → fits → ends ≤ due → rx = completes s (z.acceptFrame b tick (decide (due < ends + 16))))
    ∧ (s.brine.rx = none → exec .brineRxXwrite s = completes s s)
    ∧ (s.brine.rx = some (b, t) →
      let u : State := { s with brine := { s.brine with rx := none } }
      let start := u.writeStart u.cec
      let tstart := u.rd RAKE_TSTART.TSTART
      let inTime := (t = u.tick ∧ start + 32 ≤ tstart) ∨ (t = (u.tick + 1) % 2 ^ 32 ∧ tstart ≤ start);
      (inTime →
        let v := (u.advanceTo start).writeFrame b
        exec .brineRxXwrite s = completes s { v with brine := { v.brine with written := some t } })
      ∧ (¬inTime →
        let w := u.brineLate
        exec .brineRxXwrite s = completes s ([0, 1, 2].foldl (fun s m => s.undoSplit t m)
          { w with brine := { u.brine with got := none }, partnerAt := none })))
    ∧ (s.running = false ∨ s.domOn 11 = false → exec .brineFrameMissing s = completes s s)
    ∧ (s.running = true → s.domOn 11 = true →
      let u := s.advanceTo (s.rd RAKE_TSTART.TSTART - 1)
      let v := u.setXPair (u.rd BRINE_XMAP.RXBASE * 128) 0
      let lost := v.linkFrames = true ∧ v.brine.got ≠ some v.tick;
      (u.brine.written = some u.tick → exec .brineFrameMissing s = completes s u)
      ∧ (u.brine.written ≠ some u.tick → ¬lost → exec .brineFrameMissing s = completes s v)
      ∧ (u.brine.written ≠ some u.tick → lost → v.brine.valid = some v.tick →
        exec .brineFrameMissing s = completes s ([0, 1, 2].foldl State.holdSplit v).lostFrame)
      ∧ (u.brine.written ≠ some u.tick → lost → v.brine.valid ≠ some v.tick →
        exec .brineFrameMissing s = completes s ([0, 1, 2].foldl State.holdSplit v.brineLate).lostFrame)))
  ∧ (∀ (code : Nat) (payload b : List Byte) (slots : List LaneSlot) (c : CmdOut) (s : State),
    let up := s.link = linkUp
    let busy := s.brine.cmdOut ≠ none ∨ s.pwr.stopped.contains 3 = true
    let next := (s.brine.cmdSeq + 1) % 256
    let f := commandBytes next code 0 payload
    let h := if s.domOn 11 = true ∧ s.link ≠ linkDisabled then (s.showActivity slots).codeErrors (symbolErrors .k282 32 slots) else s
    let whole := heardFrame .k282 32 slots = some b ∧ h.link = linkUp
    let sound := whole ∧ frameNat b 0x1C 4 = crc32c (b.take 0x1C) ∧ frameNat b 0 1 = 2
    let q := frameNat b 1 1
    let flags := frameNat b 3 1
    let news := sound ∧ flags % 4 = 0
    let answer := sound ∧ flags % 4 ≠ 0
    let answered (z : State) (flag : Nat) : State :=
      let (p, y) := z.draw.2.drawBytes 24
      y.sendFrame .command .k282 (commandBytes q (z.draw.1 % 256) flag p)
    let mine := h.brine.cmdOut = some c ∧ frameNat c.bytes 1 1 = q
    let stale := 4 ≤ (s.tick + 2 ^ 32 - c.sentTick) % 2 ^ 32
    let again (z : State) : State := if 3 ≤ c.tries then
        { z.setFlag BRINE_EVT.CMD_FAIL true with brine := { z.brine with cmdOut := none, cmdFailed := true } }
      else
        let y := z.count BRINE_CNT1.CMD_RETRY_CNT
        State.sendFrame { y with brine := { y.brine with cmdOut := some { c with tries := c.tries + 1, sentTick := y.tick } } }
          .command .k282 c.bytes
    let both (t : State) := exec (.commandFrameRx slots) s = completes s t ∧ exec (.commandAck slots) s = completes s t;
    (¬up → exec (.commandFrameTx code payload) s = completes s s.failCommand)
    ∧ (up → busy → exec (.commandFrameTx code payload) s = completes s s)
    ∧ (up → ¬busy →
      let brine := { s.brine with cmdSeq := next, cmdOut := some ⟨f, 0, s.tick⟩, cmdFailed := false }
      exec (.commandFrameTx code payload) s = completes s (({ s with brine := brine } : State).sendFrame .command .k282 f))
    ∧ (heardFrame .k282 32 slots = none ∨ h.link ≠ linkUp → both h)
    ∧ (whole → ¬sound → both h.crcError)
    ∧ (news → h.brine.cmdSeen = some q → both (answered h 1))
    ∧ (news → h.brine.cmdSeen ≠ some q → h.brine.cmdQueue.length < 4 →
      both (answered { h with brine := { h.brine with cmdSeen := some q, cmdQueue := h.brine.cmdQueue ++ [b] } } 1))
    ∧ (news → h.brine.cmdSeen ≠ some q → 4 ≤ h.brine.cmdQueue.length → both (answered h 2))
    ∧ (answer → mine → flags.testBit 0 = true → both { h with brine := { h.brine with cmdOut := none } })
    ∧ (answer → mine → flags.testBit 0 = false → both (again h))
    ∧ (answer → h.brine.cmdOut = none ∨ (h.brine.cmdOut = some c ∧ frameNat c.bytes 1 1 ≠ q) → both h)
    ∧ (s.brine.cmdOut = some c → stale → exec .commandRetryTimeout s = completes s (again s))
    ∧ (s.brine.cmdOut = none ∨ (s.brine.cmdOut = some c ∧ ¬stale) → exec .commandRetryTimeout s = completes s s))
  ∧ (∀ (cls n : Nat) (payload b : List Byte) (slots : List LaneSlot) (bs : List Beside) (s : State),
    let up := s.link = linkUp
    let stopped := s.pwr.stopped.contains 3 = true
    let may0 := up ∧ s.flag BRINE_CTRL.BULK0_EN = true ∧ s.credit false ≠ 0 ∧ ¬stopped
    let may1 := up ∧ s.flag BRINE_CTRL.BULK1_EN = true ∧ s.credit true ≠ 0 ∧ ¬stopped
    let l := s.loadUnits
    let heard (k : Nat) := if s.domOn 11 = true ∧ s.link ≠ linkDisabled then (s.showActivity slots).codeErrors k else s
    let h := heard (symbolErrors .k283 72 slots)
    let whole := heardFrame .k283 72 slots = some b ∧ h.link = linkUp
    let len := frameNat b 2 1
    let sound := whole ∧ frameNat b 0x44 4 = crc32c (b.take 0x44) ∧ frameNat b 0 1 = 3 ∧ frameNat b 1 1 ≤ 1 ∧ len ≠ 0 ∧ len ≤ 64
    let data := (b.drop 4).take len
    let rx := exec (.bulkUnitRx slots bs) s
    let cred := heard (creditErrors slots)
    let back := cred.link = linkUp ∧ creditIn slots = some (cls, n) ∧ cls ≤ 1 ∧ n ≠ 0 ∧ n ≤ 16;
    (may1 → payload ≠ [] → exec (.bulkUnitTx true payload) s
      = completes s (((s.setCredit true (s.credit true - 1)).sendFrame .bulk .k283 (unitBytes 1 3 (payload.take 64))).drainUnits []))
    ∧ (¬may1 ∨ payload = [] → exec (.bulkUnitTx true payload) s = completes s (s.drainUnits []))
    ∧ (¬may0 → exec (.bulkUnitTx false payload) s = completes s (s.drainUnits []))
    ∧ (may0 → l.brine.txUnits = [] → exec (.bulkUnitTx false payload) s = completes s (l.drainUnits []))
    ∧ (∀ k d rest, may0 → l.brine.txUnits = (k, d) :: rest →
      let v := l.setCredit false (l.credit false - 1)
      let w := State.sendFrame { v with brine := { v.brine with txUnits := rest } } .bulk .k283 (unitBytes 0 k d)
      (rest = [] → exec (.bulkUnitTx false payload) s
        = completes s ((State.showTransit { w with pan := { w.pan with transit := dropCrossing w.pan.transit } }).drainUnits []))
      ∧ (rest ≠ [] → exec (.bulkUnitTx false payload) s = completes s (w.drainUnits [])))
    ∧ (h.link ≠ linkUp → rx = completes s h)
    ∧ (h.link = linkUp → heardFrame .k283 72 slots = none → rx = completes s ((h.unitClass slots).2.discardUnit (h.unitClass slots).1))
    ∧ (whole → ¬sound → rx = completes s (h.crcError.discardUnit (frameNat b 1 1 % 2)))
    ∧ (sound → frameNat b 1 1 = 1 →
      rx = completes s ((h.produce (h.rd PAN_CTRL.TRACE_FLOW) 0 data).launch (.credit [(.k280, .k280), (.d 1, .d 1)]) 2))
    ∧ (sound → frameNat b 1 1 ≠ 1 →
      let u := h.wr BRINE_BULK.RX_USED0 (h.rd BRINE_BULK.RX_USED0 + 1)
      rx = completes s (u.moveUnits bs (u.brine.rxWait ++ [(frameNat b 3 1, data)])))
    ∧ (back → exec (.creditSet slots) s = completes s (cred.setCredit (cls == 1) (min 16 (cred.credit (cls == 1) + n))))
    ∧ (cred.link ≠ linkUp ∨ creditIn slots = none ∨ (creditIn slots = some (cls, n) ∧ ¬(cls ≤ 1 ∧ n ≠ 0 ∧ n ≤ 16)) →
      exec (.creditSet slots) s = completes s cred))

/-- Frames (R410, R414, R415, R418 to R420, R423, R425 to R427, R443, R449): a frame on an enabled port that is for this half,
with a new SEQ and a good E2E_CRC, arrives; one that is not for this half is passed on, a returned one is dropped, a stale or
damaged one counted. An arrived one is delivered by its type: DATA to its flow or as the partner's status, answers to their
flow, a register or mailbox request executed once and answered, by a half without an address only in a link-local frame, an
ANNOUNCE kept, a RING_EVT clears the routes beyond its reporter; others change nothing more. That a NEIGHBOR and a claim are
judged before the duplicate rule is the model's choice (log 70, 170). So is what a frame that fails counts against (log 78).
-/
def Obligations.frames_are_delivered : Prop :=
  ∀ (q : Nat) (idle : Bool) (f : FabFrame) (bs : List Beside) (s : State),
    let on := s.portEn q = true ∧ s.domOn 8 = true
    let u := if f.fcs = true then s.heardPort q else s
    let v := u.forward q idle f
    let me := f.fcs = true ∧ v.forMe f = true
    let arrives (ok : Bool) (z : State) : Prop := s.arrive q idle f = (ok, z)
    let done (c : Instr) (z : State) : Prop := exec c s = completes s z;
    (¬on → arrives false s)
    ∧ (on → u.returned f = true → arrives false (u.count NET_CNT0.HOP_DROP))
    ∧ (on → u.returned f = false → ¬me → arrives false v)
    ∧ (on → u.returned f = false → me → v.fresh f = false → arrives false (v.count NET_CNT0.DUP_DROP))
    ∧ (on → u.returned f = false → me → v.fresh f = true → f.crc ≠ e2eCrc f → arrives false (v.count NET_CNT1.E2E_CRC_CNT))
    ∧ (on → u.returned f = false → me → v.fresh f = true → f.crc = e2eCrc f → arrives true (v.noteSeq f))
    ∧ (∀ w, arrives true w →
      let answers := w.heldAddr ≠ 0 ∨ f.dst % 64 = 0
      let from_ := w.fabricReply q f
      let r := w.admitRequest from_
      let out := r.2.runRecords from_.writer bs 64 64 f.payload
      let a := w.setFlag NET_EVT.RING_EVT true
      let far := (List.range 64).filter fun n => a.flag (seenFld n q) && decide (f.hops + 1 < a.rd (hopsFld n q))
      done (.data q idle f) (w.deliverData f)
      ∧ done (.regRsp q idle f) (w.deliverRecord f) ∧ done (.mboxRsp q idle f) (w.deliverRecord f)
      ∧ (answers → r.1 = true → done (.regReq q idle f bs) ((out.2.serveRest 1 out.2.sys.waiting.length).respond from_ 2 out.1)
        ∧ done (.mboxReq q idle f) (r.2.mboxPost from_ f.payload))
      ∧ (answers → r.1 = false → done (.regReq q idle f bs) r.2 ∧ done (.mboxReq q idle f) r.2)
      ∧ (¬answers → done (.regReq q idle f bs) w ∧ done (.mboxReq q idle f) w)
      ∧ done (.ringEvt q idle f) (far.foldl (fun s n => s.clearSeen n q) a).showRing)
    ∧ (∀ w, arrives false w →
      let bad := f.fcs && s.fresh f && f.crc != e2eCrc f && s.forMe f && !s.returned f && s.portEn q
      (bad = true → done (.data q idle f) (w.noteBad f)) ∧ (bad = false → done (.data q idle f) w)
      ∧ done (.regRsp q idle f) w ∧ done (.mboxRsp q idle f) w ∧ done (.regReq q idle f bs) w ∧ done (.mboxReq q idle f) w
      ∧ done (.ringEvt q idle f) w)
    ∧ (8 ≤ f.typ ∨ s.forMe f = false → done (.frameForward q idle f) (s.arrive q idle f).2)
    ∧ (f.typ < 8 → s.forMe f = true →
      (¬on → done (.frameForward q idle f) s) ∧ (on → u.returned f = true → done (.frameForward q idle f) (u.count NET_CNT0.HOP_DROP))
      ∧ (on → u.returned f = false → done (.frameForward q idle f) v))
    ∧ (let mine := s.portEn q && s.domOn 8 && f.fcs && f.crc == e2eCrc f && f.dst / 64 % 2 == s.ring
      let a := if mine = true then s.judgeClaim f else s
      let b := if (mine && !a.returned f) = true then (a.learnRoute q f).showRing else a
      let r := b.arrive q idle f
      (r.1 = true → done (.announce q idle f) (r.2.keepIdentity f)) ∧ (r.1 = false → done (.announce q idle f) r.2))

/-- Ports and neighbours (R410, R412, R414, R418, R422 to R424, R426): a NEIGHBOR frame that is sound sets the neighbour, ends
its fault and shows the ring, and goes the way of every frame; other EtherTypes are passed on whole or counted; a lost
neighbour raises its fault, clears its routes and owes a RING_EVT; a claim that has run its cycles is held; directions not
confirmed are aged. On a disabled port nothing comes. That the duplicate rule does not hide a neighbour is the model's choice
(log 170). So is the pool that others wait in, and how requests are cut (log 77, 131). CAN FD and port events (R410, R428,
R435, R436, R438, R440, R442, R451): after what happened on its bus an enabled controller that is on the bus takes a frame;
one that a receive entry maps and that is whole does what its type says, one that is not whole is counted, others are left;
the controller sends the record of a transmit entry of a TX_TICK or TX_PAN flow with its SEQ, or drops one that is too long; a
port's link comes up with its speed. A CAN FD frame that FD = 0 meets is the model's choice (log 173). The error state of a
CAN FD controller (R435): 8 transmit errors, 1 receive error and 8 of a dominant bit after an error flag at a time; above 127
it is error passive; a transmit counter above 255 takes it off the bus, and after 128 times 11 recessive bits it is back with
both counters 0; a frame sent or received takes 1 away, and from above 127 the receive counter goes to some value of 119 to
127. What TEC and REC read beyond their 8 bits is the model's choice (log 173). -/
def Obligations.ports_and_neighbours : Prop :=
  (∀ (q p : Nat) (f : FabFrame) (frame : List Byte) (down : Bool) (s : State),
    let on := s.portEn q = true
    let u := s.heardPort q
    let sound := on ∧ f.fcs = true ∧ f.crc = e2eCrc f ∧ f.dst % 64 = 0 ∧ s.returned f = false
    let shown := (((s.setFlag (nbFld q) true).lower srcNetRing q).lower srcNetRing 2).showRing
    let claimed := s.rd NET_ADDR.CLAIM = 1 ∧ s.net.claimLeft = 0;
    (¬on → exec (.neighbor q f) s = completes s s ∧ exec (.otherEthertype q frame) s = completes s s)
    ∧ (sound → exec (.neighbor q f) s = completes s (shown.arrive q false f).2)
    ∧ (¬sound → exec (.neighbor q f) s = completes s (s.arrive q false f).2)
    ∧ (on → u.flag NET_CTRL.FWD_OTHER = false → exec (.otherEthertype q frame) s = completes s (u.count NET_CNT2.OTHER_DROP_CNT))
    ∧ (on → u.flag NET_CTRL.FWD_OTHER = true → u.portUp (1 - q) = false → exec (.otherEthertype q frame) s = completes s u)
    ∧ (on → u.flag NET_CTRL.FWD_OTHER = true → u.portUp (1 - q) = true →
      let room := u.transitUsed + (frame.length + 63) / 64 ≤ u.rd PAN_CTRL.XBUF
      (room → exec (.otherEthertype q frame) s = completes s
        (State.showTransit { u with pan := { u.pan with others := u.pan.others ++ [(1 - q, frame)] } }))
      ∧ (¬room → exec (.otherEthertype q frame) s = completes s ((u.count PAN_CNT0.XBUF_DROP_CNT).setFlag PAN_STAT.XBUF_FULL true)))
    ∧ (let z := if down = true then (((s.setFlag (linkFld p) false).setPtp p .init).chooseMaster) else s
      let lost := z.flag (nbFld p) = true ∧ (down = true ∨ max 1 (z.rd NET_TIM.NB_N) ≤ lookup z.net.silent 0 p)
      let a := ((z.setFlag (nbFld p) false).setFlag (if p = 0 then NET_EVT.NB0_LOST else NET_EVT.NB1_LOST) true).raise srcNetRing p
      let b := if a.flag (nbFld (1 - p)) = true then a else a.raise srcNetRing 2
      let c := (List.range 64).foldl (fun s n => if s.flag (seenFld n p) then s.clearSeen n p else s) b;
      (lost → exec (.neighborLoss p down) s
        = completes s ({ c with net := { c.net with ringOwed := c.net.ringOwed ++ [p] } } : State).showRing)
      ∧ (¬lost → exec (.neighborLoss p down) s = completes s z))
    ∧ (claimed →
      let u := s.wr NET_ADDR.CLAIM 2
      exec .addressHold s = completes s { u with net := { s.net with heldAt := s.net.cycles } })
    ∧ (¬claimed → exec .addressHold s = completes s s)
    ∧ (let limit := max 1 (s.rd NET_TIM.AGE) * max 1 s.net.annPeriod
      let old := ((List.range 64).flatMap fun n => [(n, 0), (n, 1)]).filter fun d =>
        s.flag (seenFld d.1 d.2) && decide (limit < s.net.cycles - lookup s.net.seenAt 0 (2 * d.1 + d.2))
      exec .routeAgeing s = completes s (old.foldl (fun s d => s.clearSeen d.1 d.2) s).showRing))
  ∧ (∀ (c k p speed : Nat) (evs : List CanEvent) (x : CanFrame) (bs : List Beside) (s : State),
    let z := evs.foldl (State.canEvent c) s
    let on := z.flag (NET_CAN_CFG.EN c) = true ∧ z.domOn 9 = true ∧ z.rd (NET_CAN_STAT.BUS c) ≠ 2
    let alien := x.fd = true ∧ z.flag (NET_CAN_CFG.FD c) = false
    let u := z.canHeard c
    let flow := canFlow u c k
    let payload := (x.data.take (x.data.length - 4)).drop 4
    let from_ : Reply := ⟨2 + c, 0, false, u.rd (NET_CAN_CFG.NODE c), flow, leNat ((x.data.drop 2).take 2), 0x20 + c⟩
    let typ := (x.data.getD 1 0).toNat
    let rx (t : State) : Prop := exec (.canFrameRx c evs x bs) s = completes s t
    let tx (t : State) : Prop := exec (.canFrameTx c k evs) s = completes s t
    let out := canFlow z c k
    let id := canId z c k
    let sends := on ∧ z.flag (NET_CAN_CFG.FD c) = true ∧ id.1 = true ∧ id.2.1 = true ∧ z.flowOn out = true ∧ z.fill out ≠ 0
    let record := z.entryRecord out 0
    let head := z.entryRecord out (z.rd (FLOW_W5.RPTR out))
    let due := z.kindOf out = 2 ∧ (z.doneFor out).contains (2 + c) = false
    let carries (y : State) (seq : Nat) (r : List Byte) : State :=
      let e := canId y c k
      State.canSent { y with wire := y.wire ++ [.can c ⟨true, y.rd (NET_CAN_CFG.DBR c) != 0, e.2.2.1, e.2.2.2,
        canData e.2.2.1 e.2.2.2 (seq % 256) 0 0 r⟩] } c;
    (¬on → rx z) ∧ (on → alien → rx (z.canEvent c .rxError)) ∧ (on → ¬alien → u.canEntry c x = none → rx u)
    ∧ (on → ¬alien → u.canEntry c x = some k →
      (canWhole x = false → rx (u.count (canDisc c)))
      ∧ (canWhole x = true → typ = 0 ∨ typ = 2 ∨ typ = 4 → rx (u.canRecord c flow (x.data.getD 0 0).toNat payload))
      ∧ (canWhole x = true → typ = 1 → rx (u.registerRequest from_ payload bs))
      ∧ (canWhole x = true → typ = 3 → rx (u.mailboxRequest from_ payload))
      ∧ (canWhole x = true → 4 < typ → rx u))
    ∧ (sends → z.kindOf out = 3 → record.length ≤ 56 → tx (carries (z.stepSeq out) (z.rd (FLOW_W6.SEQ out)) record))
    ∧ (sends → z.kindOf out = 3 → 56 < record.length → tx (z.dropEntry out))
    ∧ (sends → due → head.length ≤ 56 → tx ((carries (z.headSeq out).2 (z.headSeq out).1 head).pathDone out (2 + c)))
    ∧ (sends → due → 56 < head.length → tx ((z.dropHead out).pathDone out (2 + c)))
    ∧ (¬sends ∨ (z.kindOf out ≠ 3 ∧ ¬due) → tx z)
    ∧ (s.domOn 8 = true → exec (.portLinkUp p speed) s
        = completes s ((s.setFlag (linkFld p) true).wr (if p = 0 then NET_STAT.SPEED0 else NET_STAT.SPEED1) speed).chooseMaster)
    ∧ (s.domOn 8 = false → exec (.portLinkUp p speed) s = completes s s))
  ∧ (∀ (c n : Nat) (e : CanEvent) (s : State),
    let on := s.domOn 9 = true ∧ s.flag (NET_CAN_CFG.EN c) = true
    let off := s.rd (NET_CAN_STAT.BUS c) = 2
    let tec := s.rd (NET_CAN_STAT.TEC c)
    let rec_ := s.rd (NET_CAN_STAT.REC c)
    let seen := lookup s.net.canIdle 0 c + n
    let state (t : State) : State := if t.rd (NET_CAN_STAT.BUS c) = 2 then t
      else t.wr (NET_CAN_STAT.BUS c) (if 128 ≤ t.rd (NET_CAN_STAT.TEC c) ∨ 128 ≤ t.rd (NET_CAN_STAT.REC c) then 1 else 0)
    let idle (l : List (Nat × Nat)) : State := { s with net := { s.net with canIdle := l } };
    (¬on → s.canEvent c e = s)
    ∧ (on → off → 128 ≤ seen → s.canEvent c (.idle n)
      = (((idle (erase s.net.canIdle c)).wr (NET_CAN_STAT.TEC c) 0).wr (NET_CAN_STAT.REC c) 0).wr (NET_CAN_STAT.BUS c) 0)
    ∧ (on → off → seen < 128 → s.canEvent c (.idle n) = idle (place s.net.canIdle c seen))
    ∧ (on → off → e = .txError ∨ e = .rxError ∨ e = .rxDominant → s.canEvent c e = s)
    ∧ (on → ¬off → s.canEvent c (.idle n) = s)
    ∧ (on → ¬off → 256 ≤ tec + 8 → s.canEvent c .txError
      = ((idle (erase s.net.canIdle c)).wr (NET_CAN_STAT.TEC c) 255).wr (NET_CAN_STAT.BUS c) 2)
    ∧ (on → ¬off → tec + 8 < 256 → s.canEvent c .txError = state (s.wr (NET_CAN_STAT.TEC c) (tec + 8)))
    ∧ (on → ¬off → s.canEvent c .rxError = state (s.count (NET_CAN_STAT.REC c)))
    ∧ (on → ¬off → s.canEvent c .rxDominant = state (s.countN (NET_CAN_STAT.REC c) 8))
    ∧ s.canSent c = state (s.wr (NET_CAN_STAT.TEC c) (tec - 1))
    ∧ (rec_ < 128 → s.canHeard c = state (s.wr (NET_CAN_STAT.REC c) (rec_ - 1)))
    ∧ (128 ≤ rec_ → s.canHeard c = state (s.draw.2.wr (NET_CAN_STAT.REC c) (119 + s.draw.1 % 9))))

/-- The fabric cycle (R301, R418, R423, R426, R428 to R433, R437, R438, R440, R450): its start takes the schedule, checks the
windows, refills credits and takes the lanes anew, and a half that is not synchronised sends at it; a valid window sends the
newest record of its flow to the node that its flow names, or zeros; the bulk phase begins with gPTP, NEIGHBOR, a due ANNOUNCE
and the RING_EVT owed; a bulk frame leaves when it fits, in the egress order, then by flow, then of another EtherType, gPTP
before all; scheduled flows are judged. Of several that fail the highest is recorded: the model's choice (log 130). So are
local cycle starts and the pool of others (log 129, 131). The time-aware system (R410, R412, R428): a message counts on an
enabled port and in domain 0; a peer's requests are answered, its answers give the delay of the link; an Announce that can
lead chooses the master anew; the Sync and Follow_Up of the master, with the correction of NET_PTPLAT, give the offset and
take it out of the own time; the state is grandmaster where the half itself is best, synchronised from the Follow_Up on, and
else unsynchronised; with the loss of Sync the half is unsynchronised until another master is best. What the standard adds to
R428 is the model's choice (log 172). -/
def Obligations.fabric_cycle : Prop :=
  (∀ (k p : Nat) (w : Window) (s : State),
    (let x : Sched := match s.net.winOld with
        | some (t, old) => if t = s.now then old else s.schedRegs
        | none => s.schedRegs
      let ok := windowsValid x.fab x.len x.windows
      let a := if ok = true then s else s.setFlag NET_EVT.SCHED_ERR true
      let net := { a.net with
        cycles := a.net.cycles + 1, cycleAt := a.now, bulk := false, fabCycle := x.fab
        schedLen := x.len, annPeriod := x.ann, windows := x.windows, windowsOk := ok
        pref := (List.range 64).map fun n => (n, a.rd (ROUTE.PREF n))
        silent := [0, 1].map fun p => (p, lookup a.net.silent 0 p + 1)
        e2e := a.net.e2e.map fun e => (e.1, { e.2 with got := false, bad := false }) }
      let b : State := { a with
        net := net, pan := { a.pan with tickSent := [] }, safe := { a.safe with recAge := a.safe.recAge + 1 } }
      let c := ([0, 1, 2].foldl State.takeLanes (((List.range 256).filter b.flowOn).foldl State.refill b)).chooseMaster;
      (c.inSync = true → exec .fabricCycleStart s = completes s c)
      ∧ (c.inSync = false → exec .fabricCycleStart s = completes s c.localStart))
    ∧ (s.net.windows[k]? = none → exec (.scheduledWindow k) s = completes s s)
    ∧ (s.net.windows[k]? = some w →
      let sends := w.en = true ∧ s.net.windowsOk = true ∧ s.inSync = true ∧ s.heldAddr ≠ 0 ∧ s.flowOn w.flow = true
        ∧ s.kindOf w.flow = 3 ∧ s.rd (FLOW_W2.NODE w.flow) ≠ 0 ∧ s.panStopped = false
      let record := if s.fill w.flow = 0 then [] else s.entryRecord w.flow 0
      let g := { s.flowFrame w.flow 7 (fitBytes w.len record) with time := lookup s.pan.sampled s.gptpNow w.flow }
      let ports := [0, 1].filter fun p => w.ports.testBit p && s.portEn p
      let u := s.stepSeq w.flow;
      (sends → g.dst / 64 % 2 = u.ring →
        exec (.scheduledWindow k) s = completes s (ports.foldl (fun s p => s.emit p (portCopy p g)) u))
      ∧ (sends → g.dst / 64 % 2 ≠ u.ring →
        exec (.scheduledWindow k) s = completes s (u.crossOut true (sealFrame { g with pcp := 3 })))
      ∧ (¬sends → exec (.scheduledWindow k) s = completes s s))
    ∧ (s.net.bulk = true → exec .bulkPhaseStart s = completes s s)
    ∧ (s.net.bulk = false →
      let a := State.presence { s with net := { s.net with bulk := true } }
      exec .bulkPhaseStart s = completes s (a.net.ringOwed.foldl (fun s p =>
          let x := s.nextSeq0
          if x.2.portEn (1 - p) then x.2.sendOwn (1 - p) (x.2.ownFrame 6 (63 + 64 * x.2.ring) 0 x.1 0 []) else x.2)
        { a with net := { a.net with ringOwed := [] } }))
    ∧ (let idle := s.portUp p = false ∨ s.panStopped = true
      let g := if s.inSync = true then s.gptpTurn p else s
      let sends (z : State) : Prop := exec (.bulkFrameSend p) s = completes s (z.drainUnits []);
      (idle → sends s)
      ∧ (∀ r f, ¬idle → g.storedFor p = some (r, f) →
        (g.gateOpen f = true → sends (g.sendStored p r f)) ∧ (g.gateOpen f = false → sends g))
      ∧ (¬idle → g.storedFor p = none → g.inSync = false ∨ g.nextFlow p = none → sends (g.sendOther p))
      ∧ (∀ f, ¬idle → g.storedFor p = none → g.inSync = true → g.nextFlow p = some f →
        let u : State := { g with pan := { g.pan with served := place g.pan.served p f } }
        (g.fits (g.nextLen f) = false → sends g)
        ∧ (g.fits (g.nextLen f) = true → u.kindOf f = 3 → sends (u.sendTick f))
        ∧ (g.fits (g.nextLen f) = true → u.kindOf f ≠ 3 → sends (u.sendHead f p))))
    ∧ (let flows := (List.range 256).filter fun k => s.flowOn k && s.flag (FLOW_W0.SCHED k) && (s.kindOf k == 0 || s.kindOf k == 1)
      let judged := flows.foldl (fun s k =>
        let e := s.e2eOf k
        s.setE2e k { e with got := false, bad := false, run := if !e.got || e.bad then e.run + 1 else 0 }) s
      let failed := flows.filter fun k => decide (max 1 (judged.rd NET_TIM.E2E_N) ≤ (judged.e2eOf k).run);
      (failed.getLast? = none → exec .e2eCheck s = completes s (judged.lower srcNetE2e 0))
      ∧ (failed.getLast? = some k → exec .e2eCheck s = completes s ((((judged.setFlag NET_EVT.E2E true).wr NET_E2E_INFO.FLOW k).wr
        NET_E2E_INFO.SRC (((judged.e2eOf k).src).getD (judged.rd (FLOW_W2.NODE k) + 64 * judged.rd (FLOW_W2.RING k)))).raise srcNetE2e 0))))
  ∧ (∀ (q domain seq n : Nat) (two : Bool) (v w : PtpVector) (path : List Nat) (o c t d t1 t2 t3 t4 : Int) (m : PtpMsg) (s z : State),
    let on := s.portEn q = true
    let u := s.heardPort q
    let x := u.ptp q
    let now_ : Int := ((2 * (u.now * 5 / 4) : Nat) : Int) - u.rd (NET_PTPLAT.RX_LAT q)
    let rx (m : PtpMsg) (t : State) : Prop := exec (.gptpFrame q 0 m) s = completes s t
    let leads := x.delay ≠ none ∧ v.steps < 255 ∧ v.src ≠ u.ownClock.id ∧ path.contains u.ownClock.id = false
    let mine := u.net.slave = some q
    let ofs := t + u.net.timeOfs - (o + c + d)
    let up := z.portUp 0 = true ∨ z.portUp 1 = true;
    (¬on → exec (.gptpFrame q domain m) s = completes s s)
    ∧ (on → domain ≠ 0 → exec (.gptpFrame q domain m) s = completes s u)
    ∧ (on → leads → rx (.announce v path) (u.setPtp q { x with best := some (v, path) }).chooseMaster)
    ∧ (on → ¬leads → rx (.announce v path) u)
    ∧ (on → two = true → mine → rx (.sync seq two) (u.setPtp q { x with sync := some (seq, now_) }))
    ∧ (on → two = false ∨ ¬mine → rx (.sync seq two) u)
    ∧ (on → mine → x.sync = some (seq, t) → x.delay = some d →
      let a := u.setPtp q { x with sync := none }
      let b := ((a.setPtp (1 - q) { a.ptp (1 - q) with relay := some (o, c + d, t) }).wr NET_STAT.GPTP 2).wrInt NET_PTP_OFS.OFFSET ofs
      rx (.followUp seq o c) { b with net := { b.net with timeOfs := b.net.timeOfs - ofs } })
    ∧ (on → ¬mine ∨ x.sync = none ∨ x.delay = none ∨ (x.sync = some (n, t) ∧ n ≠ seq) → rx (.followUp seq o c) u)
    ∧ (on → rx (.pdelayReq seq) (u.setPtp q { x with owed := x.owed ++ [(seq, now_)] }))
    ∧ (on → x.req = some (seq, t1) → rx (.pdelayResp seq t2) (u.setPtp q { x with resp := some (t2, now_) }))
    ∧ (on → x.req = none ∨ (x.req = some (n, t1) ∧ n ≠ seq) → rx (.pdelayResp seq t2) u)
    ∧ (on → x.req = some (seq, t1) → x.resp = some (t2, t4) →
      rx (.pdelayRespFollowUp seq t3) (u.setPtp q { x with delay := some (((t4 - t1) - (t3 - t2)) / 2), req := none, resp := none }))
    ∧ (on → x.req = none ∨ x.resp = none ∨ (x.req = some (n, t1) ∧ n ≠ seq) → rx (.pdelayRespFollowUp seq t3) u)
    ∧ (up → z.bestMaster = some (none, w) → z.chooseMaster.rd NET_STAT.GPTP = 3 ∧ z.chooseMaster.net.slave = none)
    ∧ (up → z.bestMaster = none → z.chooseMaster.rd NET_STAT.GPTP = 1 ∧ z.chooseMaster.net.slave = none)
    ∧ (up → z.bestMaster = some (some n, w) → z.chooseMaster.net.slave = some n
      ∧ z.chooseMaster.rd NET_STAT.GPTP = if z.rd NET_STAT.GPTP = 2 ∧ z.net.slave = some n then 2 else 1)
    ∧ (¬up → z.chooseMaster = z)
    ∧ (s.rd NET_STAT.GPTP = 2 →
      let a := match s.net.slave with
        | some q => s.setPtp q { s.ptp q with best := none, sync := none, relay := none }
        | none => s
      exec .gptpSyncLoss s = completes s (State.wr { a with net := { a.net with slave := none } } NET_STAT.GPTP 1).chooseMaster)
    ∧ (s.rd NET_STAT.GPTP ≠ 2 → exec .gptpSyncLoss s = completes s s))

/-- Flows (R441, R445, R454): each is a write by `w` of its register, an address error for a descriptor with D8 off, and a
write that is not taken otherwise. An enable that passes its checks starts the flow empty with its length and credit live, one
that fails is recorded and ignored; a disable counts what it discards; a length is live at once out of service and for a
latest-value flow, pending for a queue, ignored when it does not fit; POP removes, FLUSH empties, CLEAR frees a slot; an
operation that does not fit its flow sets OPERR. What IDX_DATA does for a flow that is not there is the model's choice (log
82). PUSH and the delivery to X (R445, R448, R457): the entry written at WPTR joins its queue, with LEN alone taken from its
header; a POP of the same CEC whose only entry was overwritten removes the new one; a record that a producer appended in the
same CEC comes after it; PUSH does nothing once the pans have stopped, and sets OPERR for a flow that is no enabled queue. A
record goes to X, with its mirror, when every word of it can drain in time, and stays otherwise. -/
def Obligations.flow_operations : Prop :=
  (∀ (w f len slot : Nat) (s : State),
    let desc := s.takesWrite w idxDataOff = true ∧ s.domOn 8 = true
    let op := s.takesWrite w 0x3004 = true;
    (∀ i ∈ [Instr.flowEnable w f, .flowDisable w f, .plenWrite w f len],
      (s.takesWrite w idxDataOff = false → exec i s = completes s (s.meetWrite w idxDataOff))
      ∧ (s.takesWrite w idxDataOff = true → s.domOn 8 = false → exec i s = completes s s.addrErr))
    ∧ (∀ i ∈ [Instr.pop w f, .flush w f, .clear w f slot], s.takesWrite w 0x3004 = false →
      exec i s = completes s (s.meetWrite w 0x3004))
    ∧ (desc → f = 0 ∨ s.flag (FLOW_W0.EN f) = true → exec (.flowEnable w f) s = completes s s)
    ∧ (desc → f ≠ 0 → s.flag (FLOW_W0.EN f) = false →
      (s.enableCheck f = 0 →
        let a := (s.setFlag (FLOW_W0.EN f) true).wr (FLOW_W1.PLEN_LIVE f) (s.rd (FLOW_W1.PLEN f))
        let b := (a.wr (FLOW_W5.WPTR f) 0).wr (FLOW_W5.RPTR f) 0
        exec (.flowEnable w f) s = completes s ((b.wr (FLOW_W4.CRED_NOW f) (a.rd (FLOW_W4.CRED f))).setFill f 0))
      ∧ (s.enableCheck f ≠ 0 → exec (.flowEnable w f) s = completes s ((((s.setFlag PAN_STAT.ENREJ true).wr PAN_STAT.REJ_FLOW f).wr
        PAN_STAT.REJ_CODE (s.enableCheck f)).ignored idxDataOff)))
    ∧ (desc → s.flowOn f = true →
      let a := ((s.discard f (s.fill f)).countN PAN_CNT2.PAN_DISCARD (s.fill f)).emptyPan f
      let b := a.setFlag (FLOW_W1.PEND f) false
      exec (.flowDisable w f) s = completes s ((b.wr (FLOW_W1.PLEN_LIVE f) (a.rd (FLOW_W1.PLEN f))).setFlag (FLOW_W0.EN f) false))
    ∧ (desc → s.flowOn f = false → exec (.flowDisable w f) s = completes s s)
    ∧ (op → s.flowOn f = false → ∀ i ∈ [Instr.pop w f, .flush w f, .clear w f slot], exec i s = completes s s.opErr)
    ∧ (desc → f = 0 → exec (.plenWrite w f len) s = completes s s)
    ∧ (desc → f ≠ 0 → s.flowOn f = false →
      exec (.plenWrite w f len) s = completes s ((s.wr (FLOW_W1.PLEN f) len).wr (FLOW_W1.PLEN_LIVE f) len))
    ∧ (desc → f ≠ 0 → s.flowOn f = true →
      let n := len % 2 ^ 13
      let bad := n % s.esize f ≠ 0 ∨ n < s.esize f ∨ s.panInRange f n = false ∨ s.panOverlaps f n = true
      let before := if s.flag (FLOW_W1.PEND f) then some (s.rd (FLOW_W1.PLEN f)) else none
      let u := s.wr (FLOW_W1.PLEN f) n
      let gone := (u.usedSlots f).filter fun i => n ≤ i * s.esize f
      let v := gone.foldl (fun z i => z.clearSlot f i) u
      let x := (v.discard f gone.length).wr (FLOW_W1.PLEN_LIVE f) n;
      (bad → exec (.plenWrite w f len) s = completes s (s.ignored idxDataOff))
      ∧ (¬bad → u.isQueue f = true → exec (.plenWrite w f len) s = completes s (State.setFlag
        { u with pan := { u.pan with lenAt := place u.pan.lenAt f (u.now, before) } } (FLOW_W1.PEND f) true))
      ∧ (¬bad → u.isQueue f = false → exec (.plenWrite w f len) s = completes s (x.setFill f (x.fill f))))
    ∧ (op → s.flowOn f = true →
      (s.kindOf f = 0 → s.fill f < s.capacity f → exec (.pop w f) s = completes s (s.removeHead f))
      ∧ (s.kindOf f = 0 → s.capacity f ≤ s.fill f →
        let u := s.removeHead f
        exec (.pop w f) s = completes s { u with pan := { u.pan with popped := [(f, u.now)] } })
      ∧ (s.kindOf f ≠ 0 → exec (.pop w f) s = completes s s.opErr)
      ∧ (s.kindOf f ≠ 1 → exec (.flush w f) s = completes s ((s.discard f (s.fill f)).emptyPan f))
      ∧ (s.kindOf f = 1 → exec (.flush w f) s = completes s (((s.usedSlots f).foldl (fun s i => s.clearSlot f i) s).discard f
        (s.usedSlots f).length))
      ∧ (s.kindOf f = 1 → (s.slotSrc f slot).isSome = true → exec (.clear w f slot) s = completes s (s.clearSlot f slot))
      ∧ (s.kindOf f = 1 → (s.slotSrc f slot).isSome = false → exec (.clear w f slot) s = completes s s)
      ∧ (s.kindOf f ≠ 1 → exec (.clear w f slot) s = completes s s.opErr)))
  ∧ (∀ (w f : Nat) (s : State),
    let queue := s.flowOn f = true ∧ s.isQueue f = true
    let op := s.takesWrite w 0x3004 = true
    let runs := op ∧ s.panStopped = false
    let size := 64 * s.esize f
    let b := s.sram.bytes 0 (s.panAddr f (s.rd (FLOW_W5.WPTR f))) size
    let owed := s.flag (FLOW_W0.OVW f) = true ∧ s.poppedFull f = true ∧ s.fill f = 0;
    (s.takesWrite w 0x3004 = false → exec (.push w f) s = completes s (s.meetWrite w 0x3004))
    ∧ (op → s.panStopped = true → exec (.push w f) s = completes s s)
    ∧ (runs → ¬queue → exec (.push w f) s = completes s s.opErr)
    ∧ (runs → queue → (∀ q, s.pan.lastAppend = some (f, s.now, q) → False) →
      let joined := ((s.makeRoom f).2.putWritten f (s.rd (FLOW_W5.WPTR f)) b).advanceWrite f;
      ((s.makeRoom f).1 = true → ¬owed → exec (.push w f) s = completes s joined)
      ∧ ((s.makeRoom f).1 = true → owed → exec (.push w f) s = completes s (joined.removeHead f))
      ∧ ((s.makeRoom f).1 = false → exec (.push w f) s = completes s (s.makeRoom f).2))
    ∧ (∀ at_ before, runs → queue → s.pan.lastAppend = some (f, s.now, at_, before) →
      let record := s.sram.bytes 0 (s.panAddr f at_) size
      let x := (State.putWritten { s with pan := { s.pan with lastAppend := none } } f at_ before).makeRoom f
      let y : State := { x.2 with sram := x.2.sram.setBytes 0 (x.2.panAddr f (x.2.rd (FLOW_W5.WPTR f))) record }
      (x.1 = true → exec (.push w f) s = completes s (y.advanceWrite f)) ∧ (x.1 = false → exec (.push w f) s = completes s x.2))
    ∧ (let record := s.entryRecord f (s.rd (FLOW_W5.RPTR f))
      let n := min (record.length / 4) (s.rd (FLOW_W3.XLEN f))
      let held := s.sys.xQueue.length + 2 * n
      let inTime := s.running = false ∨ (s.mayDrain = true ∧ held ≤ s.drainLeft)
      let goes := s.flowOn f = true ∧ s.kindOf f = 0 ∧ s.flag (FLOW_W0.XDLV f) = true ∧ s.fill f ≠ 0 ∧ held ≤ 64 ∧ inTime;
      (goes → exec (.xDelivery f) s = completes s ((s.queueWords (4 * s.rd (FLOW_W3.XIDX f)) (wordsLe n record)).removeHead f))
      ∧ (¬goes → exec (.xDelivery f) s = completes s s)))

/-- Which request a service serves (R477 to R480): requests at the head that name no service are answered first; a service
runs on the head request alone, and a request it does not admit is taken off and answered without acting: BAD_LEN, then STATE
with the half state, then WRITER. Their order is the model's choice (log 137). Mailbox services that answer from the state
(R480, R489, R492): an admitted request is taken off and answered OK with its data, FLASH_READ outside a region with BAD_ARG;
HALF_RESET and UPDATE_END then ask for a half reset, which waits for the tick boundary while the Rake runs; UPDATE_ENTER asks
for UPDATE. Services that change the flash and one-time memory (R484, R490, R491): ERASE clears its blocks and runs long;
WRITE programs bits from 1 to 0, FLASH where the read-back differs; VERIFY, IMG_COMMIT (erasing block 0 of copy 0 when copy 1
is good) and IMG_REPAIR run long; one while another runs is answered BUSY, one with bad arguments BAD_ARG; a key is programmed
once. Long services end and the log is written (R480, R487, R488, R491): the running service ends with its outcome (that of an
IMG_COMMIT stopped by its check has a free status); the oldest event goes to the next line in a state of svc, or is lost above
2,000 entries in a second; a line that reads back differently is bad, and the next write takes another, or the event is lost
once 64 lines are bad. The handover (R493 to R498): HANDOVER of shared motors asks the partner, with no motor it aborts a
ramp; the partner answers by its conditions, half B giving up its own request first; ACK starts the ramp, NAK fails the
request; at the end of the ramp the half is out and asks for STANDBY; HO_OUT, an abort, a return and UPD_NEXT are taken for
the running handover, and the time of the ramp ends it. A frame not at the head, or of another handover, does nothing more.
When an event is written, when the flash changes, and codes and failures of a handover are the model's choice (log 16, 93,
94). -/
def Obligations.services_and_handover : Prop :=
  (∀ (held : Option (List Byte)) (m : MboxReq) (rest : List MboxReq) (svc : Nat) (i : Instr) (s : State),
    (svc, i) ∈ [(0x01, Instr.ident), (0x02, .status), (0x10, .logRead), (0x11, .logMark), (0x20, .sensors), (0x30, .flashErase),
      (0x31, .flashWrite held), (0x32, .flashRead), (0x33, .verify), (0x34, .imgCommit), (0x35, .imgRepair), (0x40, .halfReset),
      (0x41, .updateEnter), (0x42, .updateEnd), (0x50, .handover), (0x60, .provisionKey held)] →
    let u := s.dropUnknown s.mgmt.queue
    let v : State := { u with mgmt := { u.mgmt with queue := rest } }
    let a := argsOf m.bytes
    let r := m.reply;
    (u.mgmt.queue = [] → exec i s = completes s u)
    ∧ (u.mgmt.queue = m :: rest →
      (svcOf m.bytes ≠ svc → exec i s = completes s u)
      ∧ (svcOf m.bytes = svc → lenOk svc m.bytes = false → exec i s = completes s (v.answer r svc mbBadLen 0 []))
      ∧ (svcOf m.bytes = svc → lenOk svc m.bytes = true → v.stateOk svc a = false →
        exec i s = completes s (v.answer r svc mbState v.half.code []))
      ∧ (svcOf m.bytes = svc → lenOk svc m.bytes = true → v.stateOk svc a = true → v.writerOk svc r = false →
        exec i s = completes s (v.answer r svc mbWriter 0 []))))
  ∧ (∀ (m : MboxReq) (rest : List MboxReq) (s : State), (s.dropUnknown s.mgmt.queue).mgmt.queue = m :: rest →
    let a := argsOf m.bytes
    let r := m.reply
    let u : State := { s.dropUnknown s.mgmt.queue with
      mgmt := { (s.dropUnknown s.mgmt.queue).mgmt with queue := rest } }
    let for_ (svc : Nat) : Prop :=
      svcOf m.bytes = svc ∧ lenOk svc m.bytes = true ∧ u.stateOk svc a = true ∧ u.writerOk svc r = true;
    (for_ 0x01 → exec .ident s = completes s (u.ok r 0x01 u.identityBlock))
    ∧ (for_ 0x02 →
      exec .status s = completes s (u.ok r 0x02 (u.regBytes [0x3400, 0x3800, 0x380C, 0x2000, 0x2400, 0x3850, 0x3858])))
    ∧ (for_ 0x10 →
      let lines := (List.range logLines).map fun k => (u.rd MGMT_LOG_STAT.HEAD + 1 + k) % logLines
      let kept := (lines.filter fun i => !u.keepArea.badLines.contains i).map u.logLine
      let es := (kept.filter fun b => lineValid b && decide ((lineSeq b + 2 ^ 32 - secNat a 0 4) % 2 ^ 32 < 2 ^ 31)).take 11
      exec .logRead s = completes s (u.ok r 0x10 (dataOf [(4, u.rd MGMT_LOG_SEQ.NEWEST), (1, es.length), (3, 0)] ++ es.flatten)))
    ∧ (for_ 0x11 → exec .logMark s = completes s ((u.logEvent 0x0F r.writer 0 a).ok r 0x11 []))
    ∧ (for_ 0x20 → exec .sensors s = completes s (u.ok r 0x20
        (u.regBytes ((List.range 3).map (0x3860 + 4 * ·) ++ (List.range 12).map (0x3870 + 4 * ·)))))
    ∧ (let bad := 3 < secNat a 0 1 ∨ secNat a 1 3 ≠ 0 ∨ 256 < secNat a 8 2 ∨ regionSize < secNat a 4 4 + secNat a 8 2
      (for_ 0x32 → bad → exec .flashRead s = completes s (u.answer r 0x32 mbBadArg 0 []))
      ∧ (for_ 0x32 → ¬bad →
        exec .flashRead s = completes s (u.ok r 0x32 (u.regionBytes (secNat a 0 1) (secNat a 4 4) (secNat a 8 2)))))
    ∧ (for_ 0x40 → exec .halfReset s = completes s (u.ok r 0x40 []).halfResetDue)
    ∧ (for_ 0x41 → exec .updateEnter s = completes s (({ u with ho := { u.ho with toUpdate := true } } : State).ok r 0x41 []))
    ∧ (for_ 0x42 →
      let v := u.ok r 0x42 []
      exec .updateEnd s = completes s ({ v with ho := { v.ho with flag := v.ho.flag || v.ho.inUpdate } } : State).halfResetDue))
  ∧ (∀ (m : MboxReq) (rest : List MboxReq) (held : Option (List Byte)) (s : State),
    (s.dropUnknown s.mgmt.queue).mgmt.queue = m :: rest →
    let a := argsOf m.bytes
    let r := m.reply
    let u : State := { s.dropUnknown s.mgmt.queue with
      mgmt := { (s.dropUnknown s.mgmt.queue).mgmt with queue := rest } }
    let region := secNat a 0 1
    let case := u.rd MGMT_BOOT_STAT.BOOT_CASE
    let busy := u.mgmt.long.isSome = true
    let for_ (svc : Nat) : Prop :=
      svcOf m.bytes = svc ∧ lenOk svc m.bytes = true ∧ u.stateOk svc a = true ∧ u.writerOk svc r = true;
    (let bad := 3 < region ∨ secNat a 1 1 ≠ 0 ∨ secNat a 3 1 = 0 ∨ 32 < secNat a 2 1 + secNat a 3 1 ∨ u.runningSlot region = true
        ∨ (region ≤ 1 ∧ u.copying = true)
      let flash := u.flash.clear (regionBase region + 0x10000 * secNat a 2 1) (0x10000 * secNat a 3 1)
      (for_ 0x30 → bad → exec .flashErase s = completes s (u.answer r 0x30 mbBadArg 0 []))
      ∧ (for_ 0x30 → ¬bad → busy → exec .flashErase s = completes s (u.answer r 0x30 mbBusy 0 []))
      ∧ (for_ 0x30 → ¬bad → ¬busy → exec .flashErase s
          = completes s (({ u with flash := flash } : State).startLong r ⟨0x30, region, secNat a 2 1, secNat a 3 1, r.writer⟩)))
    ∧ (let n := (a.drop 8).length
      let bad := 3 < region ∨ secNat a 1 3 ≠ 0 ∨ regionSize < secNat a 4 4 + n ∨ 256 < secNat a 4 4 % 256 + n
        ∨ u.runningSlot region = true ∨ (region ≤ 1 ∧ u.copying = true)
      let got := fitBytes n (held.getD (programmed (u.regionBytes region (secNat a 4 4) n) (a.drop 8)))
      let v : State := { u with flash := u.flash.setBytes 0xFF (regionBase region + secNat a 4 4) got }
      let st := if got = a.drop 8 then mbOk else mbFlash
      (for_ 0x31 → bad → exec (.flashWrite held) s = completes s (u.answer r 0x31 mbBadArg 0 []))
      ∧ (for_ 0x31 → ¬bad →
        exec (.flashWrite held) s = completes s ((v.logFlash 0x31 st region n r.writer).answer r 0x31 st 0 [])))
    ∧ (for_ 0x33 → busy → exec .verify s = completes s (u.answer r 0x33 mbBusy 0 []))
    ∧ (for_ 0x33 → ¬busy → 3 < region → exec .verify s = completes s (u.answer r 0x33 mbBadArg 0 []))
    ∧ (for_ 0x33 → ¬busy → region ≤ 3 → exec .verify s = completes s (u.startLong r ⟨0x33, region, 0, 0, r.writer⟩))
    ∧ (for_ 0x34 → busy → exec .imgCommit s = completes s (u.answer r 0x34 mbBusy 0 []))
    ∧ (for_ 0x34 → ¬busy →
      let code := u.copyError 1 true
      let v := (u.startLong r ⟨0x34, 0, 0, 0, r.writer⟩).wr MGMT_UPD.CHECK code
      (code = 0 → exec .imgCommit s = completes s { v with flash := v.flash.clear 0 0x10000 })
      ∧ (code ≠ 0 → exec .imgCommit s = completes s v))
    ∧ (for_ 0x35 → busy → exec .imgRepair s = completes s (u.answer r 0x35 mbBusy 0 []))
    ∧ (for_ 0x35 → ¬busy → case = 4 → exec .imgRepair s = completes s (u.answer r 0x35 mbCase4 0 []))
    ∧ (for_ 0x35 → ¬busy → case = 2 → exec .imgRepair s = completes s (u.startLong r ⟨0x35, 1, 0, 0, r.writer⟩))
    ∧ (for_ 0x35 → ¬busy → case = 3 → exec .imgRepair s = completes s (u.startLong r ⟨0x35, 0, 0, 0, r.writer⟩))
    ∧ (for_ 0x35 → ¬busy → case ≠ 2 → case ≠ 3 → case ≠ 4 → exec .imgRepair s = completes s (u.answer r 0x35 mbBadArg 0 []))
    ∧ (for_ 0x60 → blankHash u.fuse.keyHash = false → exec (.provisionKey held) s = completes s (u.answer r 0x60 mbOtpUsed 0 []))
    ∧ (for_ 0x60 → blankHash u.fuse.keyHash = true →
      let got := fitBytes 32 (held.getD a)
      exec (.provisionKey held) s = completes s (({ u with fuse := { u.fuse with keyHash := some got } } : State).answer r 0x60
        (if got = a then mbOk else mbFlash) 0 [])))
  ∧ (∀ (fails : Bool) (held : Option (List Byte)) (l : LongSvc) (e : LogEvent) (es : List LogEvent) (s : State),
    (s.mgmt.long = none → exec (.longServiceDone fails) s = completes s s)
    ∧ (s.mgmt.long = some l →
      (l.svc = 0x30 →
        exec (.longServiceDone fails) s = completes s (s.endLong l (if fails then mbFlash else mbOk) (0x10000 * l.count)))
      ∧ (l.svc = 0x33 → exec (.longServiceDone fails) s
        = completes s ((s.wr MGMT_UPD.CHECK (s.verifyCode l.region)).endLong l mbOk regionSize))
      ∧ (l.svc = 0x34 → s.rd MGMT_UPD.CHECK ≠ 0 →
        exec (.longServiceDone fails) s = completes s (s.draw.2.endLong l (s.draw.1 % 256) 0))
      ∧ (l.svc = 0x35 ∨ (l.svc = 0x34 ∧ s.rd MGMT_UPD.CHECK = 0) →
        let u := s.copyRegion l.region
        (fails = true → exec (.longServiceDone fails) s = completes s (s.endLong l mbFlash regionSize))
        ∧ (fails = false → exec (.longServiceDone fails) s
          = completes s (u.endLong l (if u.copyDiff.isSome then mbFlash else mbOk) regionSize))))
    ∧ (s.logQueue = [] ∨ svcState s.half = false → exec (.logWrite held) s = completes s s)
    ∧ (s.logQueue = e :: es → svcState s.half = true →
      let recent := s.mgmt.logTimes.filter fun t => s.now - t < 1000 * 400000
      let line := s.nextLine (s.rd MGMT_LOG_STAT.HEAD)
      let seq := (s.rd MGMT_LOG_SEQ.NEWEST + 1) % 2 ^ 32
      let want := s.entryBytes seq e
      let got := fitBytes 32 (held.getD want)
      let mgmt := { s.mgmt with logTimes := s.now :: recent }
      let u : State := { s with mram := s.mram.setBytes 0 (32 * line) got, mgmt := mgmt }
      let b := u.report srcLogFail 0
      let lines := b.keepArea.badLines ++ [line];
      (2000 ≤ recent.length → exec (.logWrite held) s = completes s s.loseEntry)
      ∧ (recent.length < 2000 → got = want → exec (.logWrite held) s
        = completes s { (u.wr MGMT_LOG_SEQ.NEWEST seq).wr MGMT_LOG_STAT.HEAD line with logQueue := s.logQueue.drop 1 })
      ∧ (recent.length < 2000 → got ≠ want → 64 ≤ b.keepArea.badLines.length →
        exec (.logWrite held) s = completes s b.loseEntry)
      ∧ (recent.length < 2000 → got ≠ want → b.keepArea.badLines.length < 64 → exec (.logWrite held) s
        = completes s (State.wr { b with keepArea := { b.keepArea with badLines := lines } } MGMT_LOG_STAT.BAD_LINES lines.length))))
  ∧ (∀ (m : MboxReq) (rest : List MboxReq) (p : List Byte) (s : State),
    let u := s.dropCommand
    let same := payNat p 0 2 = u.rd MGMT_HO.HO_ID;
    ((s.dropUnknown s.mgmt.queue).mgmt.queue = m :: rest → svcOf m.bytes = 0x50 → lenOk 0x50 m.bytes = true →
      let q : State := { s.dropUnknown s.mgmt.queue with
        mgmt := { (s.dropUnknown s.mgmt.queue).mgmt with queue := rest } }
      let a := argsOf m.bytes
      let mask := secNat a 0 1
      let shares (k : Nat) : Bool := !mask.testBit k || (q.img.shared.contains k && q.rd (FIELD_SHARE.SRC k) == 1)
      let aborts := mask = 0 ∧ q.inRamp = true
      let bad := mask = 0 ∨ 8 ≤ mask ∨ secNat a 1 1 ≠ 1 ∨ [0, 1, 2].all shares = false
      let id := (q.rd MGMT_HO.HO_ID + 1) % 65536
      let v := (q.wr MGMT_HO.HO_ID id).wr MGMT_HO.REASON 0
      let w : State := { v with ho := { v.ho with mask := mask, ramp := false, since := v.now, out := false } };
      q.stateOk 0x50 a = true → q.writerOk 0x50 m.reply = true →
      (aborts → exec .handover s = completes s ((q.abortHo 8).ok m.reply 0x50 (leBytes 2 (q.rd MGMT_HO.HO_ID))))
      ∧ (¬aborts → bad → exec .handover s = completes s (q.answer m.reply 0x50 mbBadArg 0 []))
      ∧ (¬aborts → ¬bad → q.copy ≠ 0 ∨ q.hstate ≠ hoIdle →
        exec .handover s = completes s (q.answer m.reply 0x50 mbState q.half.code []))
      ∧ (¬aborts → ¬bad → q.copy = 0 → q.hstate = hoIdle →
        exec .handover s = completes s (((w.sendHo 0x10 (dataOf [(2, id), (1, mask), (1, 0), (4, w.nextImgVer)])).enterHo hoAsk).ok
          m.reply 0x50 (leBytes 2 id))))
    ∧ (∀ row ∈ [(0x10, Instr.hoReq), (0x11, .hoAck), (0x12, .hoNak), (0x13, .hoOut), (0x15, .hoAbort), (0x14, .hoBack),
      (0x20, .updNext)], s.headCommand row.1 = none → exec row.2 s = completes s s)
    ∧ (s.headCommand 0x10 = some p →
      let x := if u.hstate = hoAsk ∧ u.halfId = .b then u.failHo 5 else u
      let id := payNat p 0 2;
      (x.hoReason = 0 →
        let v := ((x.sendHo 0x11 (leBytes 2 id)).wr MGMT_HO.HO_ID id).wr MGMT_HO.REASON 0
        let ho := { v.ho with mask := payNat p 2 1, ramp := false, since := v.now, out := false }
        exec .hoReq s = completes s (({ v with ho := ho } : State).enterHo hoPartner))
      ∧ (x.hoReason ≠ 0 → exec .hoReq s = completes s (x.sendHo 0x12 (dataOf [(2, id), (1, x.hoReason)]))))
    ∧ (s.headCommand 0x11 = some p →
      (u.hstate = hoAsk ∧ same →
        exec .hoAck s = completes s (({ u with ho := { u.ho with since := u.now } } : State).enterHo hoRamp))
      ∧ (¬(u.hstate = hoAsk ∧ same) → exec .hoAck s = completes s u))
    ∧ (s.headCommand 0x12 = some p →
      (u.hstate = hoAsk ∧ same → exec .hoNak s = completes s (u.failHo (payNat p 2 1)))
      ∧ (¬(u.hstate = hoAsk ∧ same) → exec .hoNak s = completes s u))
    ∧ (let v := (s.sendHo 0x13 (leBytes 2 (s.rd MGMT_HO.HO_ID))).enterHo hoOut
      (s.hstate = hoRamp ∧ s.rampDone = true →
        exec .hoRampDone s = completes s (({ v with ho := { v.ho with out := true, toUpdate := true } } : State).request 4 0x80))
      ∧ (¬(s.hstate = hoRamp ∧ s.rampDone = true) → exec .hoRampDone s = completes s s))
    ∧ (s.headCommand 0x13 = some p →
      (u.hstate = hoPartner ∧ same →
        exec .hoOut s = completes s ({ u with ho := { u.ho with out := true } } : State).logHandover)
      ∧ (¬(u.hstate = hoPartner ∧ same) → exec .hoOut s = completes s u))
    ∧ (let late := s.inRamp = true ∧ max 1 (s.rd MGMT_HO.HO_TMO) * 400000 ≤ s.now - s.ho.since
      (late → exec .hoTimeout s = completes s (s.abortHo 6)) ∧ (¬late → exec .hoTimeout s = completes s s))
    ∧ (s.headCommand 0x15 = some p →
      let ends := (u.inRamp = true ∨ u.hstate = hoAsk) ∧ same
      (ends → exec .hoAbort s = completes s (u.failHo (payNat p 2 1))) ∧ (¬ends → exec .hoAbort s = completes s u))
    ∧ (s.headCommand 0x14 = some p →
      (u.hstate = hoPartner →
        exec .hoBack s = completes s (({ u with ho := { u.ho with ramp := false, out := false } } : State).enterHo hoIdle))
      ∧ (u.hstate ≠ hoPartner → exec .hoBack s = completes s u))
    ∧ (s.headCommand 0x20 = some p → exec .updNext s = completes s (u.setFlag MGMT_HO.NEXT true)))
end

