-- ==== Sys2Proof/Laws/Arith.lean ====
section
/-! SUPPORT. The arithmetic of the control engine: rounding, wrapping, powers of two and the integer square root. -/

namespace Sys2Proof.Laws

open Sys2Proof.Machine

/-! ### Rounding and wrapping -/

theorem roundDiv_neg (n : Int) (d : Nat) (hd : 0 < d) : roundDiv (-n) d = -roundDiv n d := by
  have hd' : (0:Int) < d := by exact_mod_cast hd
  have e1 := Int.mul_ediv_add_emod n d
  have e2 := Int.mul_ediv_add_emod (-n) d
  have l1 := Int.emod_nonneg n hd'.ne'
  have l2 := Int.emod_lt_of_pos n hd'
  have l3 := Int.emod_nonneg (-n) hd'.ne'
  have l4 := Int.emod_lt_of_pos (-n) hd'
  have key : (-n) / (d:Int) = -(n / d) - (if n % d = 0 then 0 else 1) ∧ (-n) % (d:Int) = if n % d = 0 then 0 else d - n % d := by
    by_cases h : n % (d:Int) = 0
    · have : (d:Int) ∣ n := Int.dvd_of_emod_eq_zero h
      simp [h, Int.neg_ediv_of_dvd this, Int.emod_eq_zero_of_dvd ((Int.dvd_neg).2 this)]
    · simp only [h, if_false]
      have hm : (-n) % (d:Int) = d - n % d := by
        have : -n = (d - n % d) + d * (-(n / d) - 1) := by linarith
        rw [this, Int.add_mul_emod_self_left, Int.emod_eq_of_lt] <;> omega
      refine ⟨?_, hm⟩
      have h5 : (d:Int) * ((-n) / d) = d * (-(n/d) - 1) := by rw [hm] at e2; linarith
      exact Int.eq_of_mul_eq_mul_left hd'.ne' h5
  unfold roundDiv
  dsimp only
  rw [key.1, key.2]
  by_cases h : n % (d:Int) = 0
  · simp only [h, if_true]
    split_ifs <;> omega
  · simp only [h, if_false]
    split_ifs <;> omega

theorem roundDiv_near (v : Int) (d : Nat) (hd : 0 < d) : 2 * (roundDiv v d * d - v).natAbs ≤ d ∧ (2 * (roundDiv v d * d - v).natAbs = d → roundDiv v d % 2 = 0) := by
  have hd' : (0:Int) < d := by exact_mod_cast hd
  have e1 := Int.mul_ediv_add_emod v d
  have l1 := Int.emod_nonneg v hd'.ne'
  have l2 := Int.emod_lt_of_pos v hd'
  unfold roundDiv
  dsimp only
  generalize v / (d:Int) = q at *
  generalize v % (d:Int) = r at *
  have c1 : q * (d:Int) - v = -r := by rw [← e1]; ring
  have c2 : (q+1) * (d:Int) - v = d - r := by rw [← e1]; ring
  split_ifs <;> simp only [c1, c2] <;> omega

theorem clamp_neg (m v : Int) (hm : 0 ≤ m) : clampInt (-m) m (-v) = -clampInt (-m) m v := by
  unfold clampInt; split_ifs <;> omega

theorem wrap_neg (w : Nat) (hw : 0 < w) (v : Int) (h : fieldOf w v ≠ 2 ^ (w - 1)) :
    signedOf w (fieldOf w (-v)) = -signedOf w (fieldOf w v) := by
  have hp : (2:Int) ^ w = 2 * 2 ^ (w - 1) := by
    rw [← pow_succ']; congr 1; omega
  have hpn : (2:Nat) ^ w = 2 * 2 ^ (w - 1) := by
    rw [← pow_succ']; congr 1; omega
  have hpos : (0:Int) < 2 ^ (w - 1) := by positivity
  have hc : ((2 ^ (w-1) : Nat) : Int) = 2 ^ (w-1) := by push_cast; rfl
  unfold signedOf fieldOf at *
  rw [hp] at h ⊢
  generalize (2:Int) ^ (w-1) = m at *
  generalize (2:Nat) ^ (w-1) = m' at *
  subst hc
  have a1 := Int.emod_nonneg v (show (2 * (m':Int)) ≠ 0 by omega)
  have a2 := Int.emod_lt_of_pos v (show (0:Int) < 2 * m' by omega)
  have a3 : (-v) % (2 * (m':Int)) = if v % (2 * (m':Int)) = 0 then 0 else 2 * m' - v % (2 * (m':Int)) := by
    by_cases h0 : v % (2 * (m':Int)) = 0
    · simp [h0, Int.emod_eq_zero_of_dvd ((Int.dvd_neg).2 (Int.dvd_of_emod_eq_zero h0))]
    · simp only [h0, if_false]
      have := Int.mul_ediv_add_emod v (2 * m')
      have e : -v = (2 * m' - v % (2 * (m':Int))) + (2 * m') * (-(v / (2 * m')) - 1) := by linarith
      rw [e, Int.add_mul_emod_self_left, Int.emod_eq_of_lt] <;> omega
  rw [a3]
  generalize v % (2 * (m':Int)) = r at *
  split_ifs <;> omega

theorem wrap_range (w : Nat) (hw : 0 < w) (v : Int) : -2 ^ (w - 1) ≤ signedOf w (fieldOf w v) ∧ signedOf w (fieldOf w v) < 2 ^ (w - 1) ∧
   fieldOf w (signedOf w (fieldOf w v)) = fieldOf w v ∧ (signedOf w (fieldOf w v) = -2 ^ (w-1) ↔ fieldOf w v = 2 ^ (w-1)) := by
  have hp : (2:Int) ^ w = 2 * 2 ^ (w - 1) := by
    rw [← pow_succ']; congr 1; omega
  have hpn : (2:Nat) ^ w = 2 * 2 ^ (w - 1) := by
    rw [← pow_succ']; congr 1; omega
  have hpos : (0:Int) < 2 ^ (w - 1) := by positivity
  have hc : ((2 ^ (w-1) : Nat) : Int) = 2 ^ (w-1) := by push_cast; rfl
  unfold signedOf fieldOf at *
  rw [hp] at *
  generalize (2:Int) ^ (w-1) = m at *
  generalize (2:Nat) ^ (w-1) = m' at *
  subst hc
  have a1 := Int.emod_nonneg v (show (2 * (m':Int)) ≠ 0 by omega)
  have a2 := Int.emod_lt_of_pos v (show (0:Int) < 2 * m' by omega)
  generalize v % (2 * (m':Int)) = r at *
  split_ifs with h
  · refine ⟨by omega, by omega, ?_, by omega⟩
    rw [Int.emod_eq_of_lt] <;> omega
  · refine ⟨by omega, by omega, ?_, by omega⟩
    have : (r.toNat : Int) - 2 * m' = r + (2 * m') * (-1) := by have := Int.toNat_of_nonneg a1; omega
    rw [this, Int.add_mul_emod_self_left, Int.emod_eq_of_lt] <;> omega

/-! ### Circular buffers and square roots -/

theorem pow2From_spec (n : Nat) : ∀ (fuel k0 k : Nat), k0 ≤ k → k ≤ k0 + fuel → n ≤ 2 ^ k → (∀ j, j < k → 2 ^ j < n) → pow2From fuel k0 n = 2 ^ k := by
  intro fuel
  induction fuel with
  | zero => intro k0 k h1 h2 h3 h4; have : k = k0 := by omega
            subst this; rfl
  | succ f ih =>
    intro k0 k h1 h2 h3 h4
    unfold pow2From
    by_cases h : n ≤ 2 ^ k0
    · have : k = k0 := by
        by_contra hne
        have := h4 k0 (by omega)
        omega
      subst this; simp [h]
    · have : k0 ≠ k := by rintro rfl; exact h h3
      rw [if_neg h]
      exact ih (k0+1) k (by omega) (by omega) h3 h4

theorem isqrtFrom_spec (n : Nat) : ∀ (b r : Nat), r * r ≤ n → n < (r + 2 ^ b) * (r + 2 ^ b) → 
    isqrtFrom b r n * isqrtFrom b r n ≤ n ∧ n < (isqrtFrom b r n + 1) * (isqrtFrom b r n + 1) := by
  intro b
  induction b with
  | zero => intro r h1 h2; exact ⟨h1, by simpa [isqrtFrom] using h2⟩
  | succ b ih =>
    intro r h1 h2
    unfold isqrtFrom
    split
    · refine ih _ ‹_› ?_
      have : r + 2 ^ (b+1) = r + 2 ^ b + 2 ^ b := by rw [pow_succ]; ring
      rwa [this] at h2
    · exact ih _ h1 (by omega)

theorem isqrt_spec (n : Nat) (h : n < 2 ^ 160) : isqrt n * isqrt n ≤ n ∧ n < (isqrt n + 1) * (isqrt n + 1) := by
  apply isqrtFrom_spec n 80 0 (by omega)
  norm_num at h ⊢; exact h

end Sys2Proof.Laws
end

