-- ==== Sys2Proof/Laws/Memory.lean ====
section
/-! SUPPORT. Sparse tables and memories: what a read gives after a write, and the canonical form that every write keeps. -/

namespace Sys2Proof.Laws

open Sys2Proof.Machine

/-! ### Reads after writes -/

theorem lookup_erase {α} (m : List (Nat × α)) (d : α) (k j : Nat) : lookup (erase m k) d j = if j = k then d else lookup m d j := by
  induction m with
  | nil => simp [erase, lookup]
  | cons p r ih =>
    obtain ⟨a, v⟩ := p
    by_cases h : a = k
    · subst h
      simp only [erase, if_true, ih, lookup]
      by_cases h2 : j = a
      · simp [h2]
      · simp [h2, Ne.symm h2]
    · simp only [erase, h, if_false, lookup, ih]
      by_cases h2 : a = j
      · subst h2; simp [h]
      · simp [h2]

theorem lookup_place {α} (m : List (Nat × α)) (d : α) (k j : Nat) (v : α) : lookup (place m k v) d j = if j = k then v else lookup m d j := by
  induction m with
  | nil =>
    by_cases h : j = k
    · simp [place, lookup, h]
    · simp [place, lookup, h, Ne.symm h]
  | cons p r ih =>
    obtain ⟨a, w⟩ := p
    by_cases h1 : k < a
    · simp only [place, h1, if_true, lookup]
      by_cases h : j = k
      · simp [h]
      · simp [h, Ne.symm h]
    · by_cases h2 : a = k
      · subst h2
        simp only [place, h1, if_true, if_false, lookup]
        by_cases h : j = a
        · simp [h]
        · simp [h, Ne.symm h]
      · simp only [place, h1, h2, if_false, lookup, ih]
        by_cases h3 : a = j
        · subst h3; simp [h2]
        · simp [h3]

theorem lookup_store {α} [DecidableEq α] (m : List (Nat × α)) (d : α) (k j : Nat) (v : α) :
    lookup (store m d k v) d j = if j = k then v else lookup m d j := by
  unfold store
  split
  · rw [lookup_erase]; split <;> simp_all
  · rw [lookup_place]

theorem setBytes_byte (d : Byte) (bs : List Byte) : ∀ (m : Mem) (a b : Nat), (m.setBytes d a bs).byte d b = if a ≤ b ∧ b < a + bs.length then bs.getD (b - a) 0 else m.byte d b := by
  induction bs with
  | nil => intro m a b; rw [if_neg (by simp)]; rfl
  | cons x r ih =>
    intro m a b
    unfold Mem.setBytes
    rw [ih]
    by_cases h1 : a + 1 ≤ b ∧ b < a + 1 + r.length
    · rw [if_pos h1, if_pos (by simp; omega)]
      have : b - a = (b - (a+1)) + 1 := by omega
      rw [this]; rfl
    · rw [if_neg h1]
      simp only [Mem.byte, Mem.setByte, lookup_store]
      by_cases h2 : b = a
      · subst h2; simp
      · rw [if_neg h2, if_neg (by simp; omega)]

theorem setWord_byte (m : Mem) (d : Byte) (a b : Nat) (w : Word) : (m.setWord d a w).byte d b = if a ≤ b ∧ b < a + 4 then (leBytes 4 w.toNat).getD (b - a) 0 else m.byte d b := by
  unfold Mem.setWord; rw [setBytes_byte]; rfl

theorem setWord_word (m : Mem) (d : Byte) (a : Nat) (w : Word) : (m.setWord d a w).word d a = w := by
  unfold Mem.word
  simp only [setWord_byte]
  simp [leBytes, wordOfBytes]
  apply BitVec.eq_of_toNat_eq
  simp
  have := w.isLt
  omega

theorem setWord_other (m : Mem) (d : Byte) (a b : Nat) (w : Word) (h : b + 4 ≤ a ∨ a + 4 ≤ b) : (m.setWord d a w).word d b = m.word d b := by
  unfold Mem.word
  simp only [setWord_byte]
  rw [if_neg (by omega), if_neg (by omega), if_neg (by omega), if_neg (by omega)]

theorem leNat_le (n : Nat) : ∀ v, leNat (leBytes n v) = v % 256 ^ n := by
  induction n with
  | zero => intro v; simp [leBytes, leNat, Nat.mod_one]
  | succ n ih => intro v; simp [leBytes, leNat, ih]; rw [pow_succ', Nat.mod_mul]

/-! ### The canonical form -/

theorem canon_cons {α} [DecidableEq α] (d : α) (a : Nat) (v : α) (r : List (Nat × α)) :
    canonical d ((a, v) :: r) = true ↔ v ≠ d ∧ (∀ p ∈ r, a < p.1) ∧ canonical d r = true := by
  induction r generalizing a v with
  | nil => simp [canonical]
  | cons p r ih =>
    obtain ⟨b, w⟩ := p
    simp only [canonical, Bool.and_eq_true, decide_eq_true_eq, Bool.not_eq_true', decide_eq_false_iff_not, ih b w]
    constructor
    · rintro ⟨⟨h1, h2⟩, h3, h4, h5⟩
      refine ⟨h1, ?_, h3, h4, h5⟩
      intro p hp
      rcases List.mem_cons.1 hp with rfl | hp
      · exact h2
      · exact h2.trans (h4 p hp)
    · rintro ⟨h1, h2, h3, h4, h5⟩
      exact ⟨⟨h1, h2 _ List.mem_cons_self⟩, h3, h4, h5⟩

theorem canon_erase {α} [DecidableEq α] (d : α) (m : List (Nat × α)) (k : Nat) (h : canonical d m = true) :
    canonical d (erase m k) = true ∧ ∀ p ∈ erase m k, p ∈ m := by
  induction m with
  | nil => exact ⟨rfl, by simp [erase]⟩
  | cons p r ih =>
    obtain ⟨a, v⟩ := p
    obtain ⟨h1, h2, h3⟩ := (canon_cons ..).1 h
    obtain ⟨i1, i2⟩ := ih h3
    unfold erase
    split
    · exact ⟨i1, fun p hp => List.mem_cons_of_mem _ (i2 p hp)⟩
    · refine ⟨(canon_cons ..).2 ⟨h1, fun p hp => h2 p (i2 p hp), i1⟩, ?_⟩
      intro p hp
      rcases List.mem_cons.1 hp with rfl | hp
      · exact List.mem_cons_self
      · exact List.mem_cons_of_mem _ (i2 p hp)

theorem canon_place {α} [DecidableEq α] (d : α) (m : List (Nat × α)) (k : Nat) (v : α) (hv : v ≠ d) (h : canonical d m = true) :
    canonical d (place m k v) = true ∧ ∀ p ∈ place m k v, p.1 = k ∨ p ∈ m := by
  induction m with
  | nil => simp [place, canonical, hv]
  | cons p r ih =>
    obtain ⟨a, w⟩ := p
    obtain ⟨h1, h2, h3⟩ := (canon_cons ..).1 h
    obtain ⟨i1, i2⟩ := ih h3
    unfold place
    split
    · refine ⟨(canon_cons ..).2 ⟨hv, ?_, h⟩, ?_⟩
      · intro p hp
        rcases List.mem_cons.1 hp with rfl | hp
        · assumption
        · have := h2 p hp; omega
      · intro p hp
        rcases List.mem_cons.1 hp with rfl | hp
        · exact .inl rfl
        · exact .inr hp
    · split
      · subst ‹a = k›
        refine ⟨(canon_cons ..).2 ⟨hv, h2, h3⟩, ?_⟩
        intro p hp
        rcases List.mem_cons.1 hp with rfl | hp
        · exact .inl rfl
        · exact .inr (List.mem_cons_of_mem _ hp)
      · refine ⟨(canon_cons ..).2 ⟨h1, ?_, i1⟩, ?_⟩
        · intro p hp
          rcases i2 p hp with h | h
          · omega
          · exact h2 p h
        · intro p hp
          rcases List.mem_cons.1 hp with rfl | hp
          · exact .inr List.mem_cons_self
          · rcases i2 p hp with h | h
            · exact .inl h
            · exact .inr (List.mem_cons_of_mem _ h)

theorem canon_store {α} [DecidableEq α] (d : α) (m : List (Nat × α)) (k : Nat) (v : α) (h : canonical d m = true) : canonical d (store m d k v) = true := by
  unfold store; split
  · exact (canon_erase d m k h).1
  · exact (canon_place d m k v ‹_› h).1

theorem canon_filter {α} [DecidableEq α] (d : α) (m : List (Nat × α)) (q : Nat × α → Bool) (h : canonical d m = true) : canonical d (m.filter q) = true := by
  induction m with
  | nil => rfl
  | cons p r ih =>
    obtain ⟨a, v⟩ := p
    obtain ⟨h1, h2, h3⟩ := (canon_cons ..).1 h
    rw [List.filter_cons]
    split
    · exact (canon_cons ..).2 ⟨h1, fun p hp => h2 p (List.mem_of_mem_filter hp), ih h3⟩
    · exact ih h3

theorem setByte_wf (m : Mem) (d : Byte) (a : Nat) (v : Byte) (h : m.wf d = true) : (m.setByte d a v).wf d = true :=
  canon_store d m a v h

theorem setBytes_wf (d : Byte) (bs : List Byte) : ∀ (m : Mem) (a : Nat), m.wf d = true → (m.setBytes d a bs).wf d = true := by
  induction bs with
  | nil => intro m a h; exact h
  | cons b r ih => intro m a h; exact ih _ _ (canon_store d m a b h)

theorem setWord_wf (m : Mem) (d : Byte) (a : Nat) (w : Word) (h : m.wf d = true) : (m.setWord d a w).wf d = true :=
  setBytes_wf d _ m a h

theorem setBundle_wf (m : Mem) (d : Byte) (a : Nat) (q : Bundle) (h : m.wf d = true) : (m.setBundle d a q).wf d = true :=
  setBytes_wf d _ m a h

theorem clear_wf (m : Mem) (d : Byte) (a n : Nat) (h : m.wf d = true) : (m.clear a n).wf d = true := canon_filter d m _ h

theorem ofBytes_wf (d : Byte) (a : Nat) (bs : List Byte) : (Mem.ofBytes d a bs).wf d = true := setBytes_wf d bs [] a rfl

theorem setXWord_wf (s : State) (a : Nat) (w : Word) (h : s.xmem.wf 0 = true) : (s.setXWord a w).xmem.wf 0 = true :=
  setWord_wf _ _ _ _ h

theorem setXPair_wf (s : State) (a : Nat) (w : Word) (h : s.xmem.wf 0 = true) : (s.setXPair a w).xmem.wf 0 = true :=
  setWord_wf _ _ _ _ (setWord_wf _ _ _ _ h)

end Sys2Proof.Laws
end

