-- ==== Sys2Proof/Laws/State.lean ====
section
/-! SUPPORT. What the updates of State leave alone, field by field. -/

namespace Sys2Proof.Laws

set_option Elab.async false

open Sys2Proof.Machine

variable (s : State)

/-! `wr` writes regs, tmr1, tmr2. -/

@[simp] theorem wr_pending (f : Fld) (v : Nat) : (s.wr f v).pending = s.pending := by unfold State.wr; cases f.cls <;> rfl
@[simp] theorem wr_part (f : Fld) (v : Nat) : (s.wr f v).part = s.part := by unfold State.wr; cases f.cls <;> rfl
@[simp] theorem wr_halfId (f : Fld) (v : Nat) : (s.wr f v).halfId = s.halfId := by unfold State.wr; cases f.cls <;> rfl
@[simp] theorem wr_strap (f : Fld) (v : Nat) : (s.wr f v).strap = s.strap := by unfold State.wr; cases f.cls <;> rfl
@[simp] theorem wr_now (f : Fld) (v : Nat) : (s.wr f v).now = s.now := by unfold State.wr; cases f.cls <;> rfl
@[simp] theorem wr_cec (f : Fld) (v : Nat) : (s.wr f v).cec = s.cec := by unfold State.wr; cases f.cls <;> rfl
@[simp] theorem wr_drawn (f : Fld) (v : Nat) : (s.wr f v).drawn = s.drawn := by unfold State.wr; cases f.cls <;> rfl
@[simp] theorem wr_shadows (f : Fld) (v : Nat) : (s.wr f v).shadows = s.shadows := by unfold State.wr; cases f.cls <;> rfl
@[simp] theorem wr_xmem (f : Fld) (v : Nat) : (s.wr f v).xmem = s.xmem := by unfold State.wr; cases f.cls <;> rfl
@[simp] theorem wr_ymem0 (f : Fld) (v : Nat) : (s.wr f v).ymem0 = s.ymem0 := by unfold State.wr; cases f.cls <;> rfl
@[simp] theorem wr_ymem1 (f : Fld) (v : Nat) : (s.wr f v).ymem1 = s.ymem1 := by unfold State.wr; cases f.cls <;> rfl
@[simp] theorem wr_pm0 (f : Fld) (v : Nat) : (s.wr f v).pm0 = s.pm0 := by unfold State.wr; cases f.cls <;> rfl
@[simp] theorem wr_pm1 (f : Fld) (v : Nat) : (s.wr f v).pm1 = s.pm1 := by unfold State.wr; cases f.cls <;> rfl
@[simp] theorem wr_eccs (f : Fld) (v : Nat) : (s.wr f v).eccs = s.eccs := by unfold State.wr; cases f.cls <;> rfl
@[simp] theorem wr_touched (f : Fld) (v : Nat) : (s.wr f v).touched = s.touched := by unfold State.wr; cases f.cls <;> rfl
@[simp] theorem wr_mpSram (f : Fld) (v : Nat) : (s.wr f v).mpSram = s.mpSram := by unfold State.wr; cases f.cls <;> rfl
@[simp] theorem wr_sram (f : Fld) (v : Nat) : (s.wr f v).sram = s.sram := by unfold State.wr; cases f.cls <;> rfl
@[simp] theorem wr_mram (f : Fld) (v : Nat) : (s.wr f v).mram = s.mram := by unfold State.wr; cases f.cls <;> rfl
@[simp] theorem wr_keepArea (f : Fld) (v : Nat) : (s.wr f v).keepArea = s.keepArea := by unfold State.wr; cases f.cls <;> rfl
@[simp] theorem wr_otp (f : Fld) (v : Nat) : (s.wr f v).otp = s.otp := by unfold State.wr; cases f.cls <;> rfl
@[simp] theorem wr_flash (f : Fld) (v : Nat) : (s.wr f v).flash = s.flash := by unfold State.wr; cases f.cls <;> rfl
@[simp] theorem wr_autoArm (f : Fld) (v : Nat) : (s.wr f v).autoArm = s.autoArm := by unfold State.wr; cases f.cls <;> rfl
@[simp] theorem wr_sys (f : Fld) (v : Nat) : (s.wr f v).sys = s.sys := by unfold State.wr; cases f.cls <;> rfl
@[simp] theorem wr_rake (f : Fld) (v : Nat) : (s.wr f v).rake = s.rake := by unfold State.wr; cases f.cls <;> rfl
@[simp] theorem wr_fc (f : Fld) (v : Nat) : (s.wr f v).fc = s.fc := by unfold State.wr; cases f.cls <;> rfl
@[simp] theorem wr_gd (f : Fld) (v : Nat) : (s.wr f v).gd = s.gd := by unfold State.wr; cases f.cls <;> rfl
@[simp] theorem wr_pwr (f : Fld) (v : Nat) : (s.wr f v).pwr = s.pwr := by unfold State.wr; cases f.cls <;> rfl
@[simp] theorem wr_chans (f : Fld) (v : Nat) : (s.wr f v).chans = s.chans := by unfold State.wr; cases f.cls <;> rfl
@[simp] theorem wr_posM (f : Fld) (v : Nat) : (s.wr f v).posM = s.posM := by unfold State.wr; cases f.cls <;> rfl
@[simp] theorem wr_posPort (f : Fld) (v : Nat) : (s.wr f v).posPort = s.posPort := by unfold State.wr; cases f.cls <;> rfl
@[simp] theorem wr_posHall (f : Fld) (v : Nat) : (s.wr f v).posHall = s.posHall := by unfold State.wr; cases f.cls <;> rfl
@[simp] theorem wr_posPartner (f : Fld) (v : Nat) : (s.wr f v).posPartner = s.posPartner := by unfold State.wr; cases f.cls <;> rfl
@[simp] theorem wr_partnerAt (f : Fld) (v : Nat) : (s.wr f v).partnerAt = s.partnerAt := by unfold State.wr; cases f.cls <;> rfl
@[simp] theorem wr_afe (f : Fld) (v : Nat) : (s.wr f v).afe = s.afe := by unfold State.wr; cases f.cls <;> rfl
@[simp] theorem wr_out (f : Fld) (v : Nat) : (s.wr f v).out = s.out := by unfold State.wr; cases f.cls <;> rfl
@[simp] theorem wr_ce (f : Fld) (v : Nat) : (s.wr f v).ce = s.ce := by unfold State.wr; cases f.cls <;> rfl
@[simp] theorem wr_net (f : Fld) (v : Nat) : (s.wr f v).net = s.net := by unfold State.wr; cases f.cls <;> rfl
@[simp] theorem wr_pan (f : Fld) (v : Nat) : (s.wr f v).pan = s.pan := by unfold State.wr; cases f.cls <;> rfl
@[simp] theorem wr_brine (f : Fld) (v : Nat) : (s.wr f v).brine = s.brine := by unfold State.wr; cases f.cls <;> rfl
@[simp] theorem wr_wire (f : Fld) (v : Nat) : (s.wr f v).wire = s.wire := by unfold State.wr; cases f.cls <;> rfl
@[simp] theorem wr_safe (f : Fld) (v : Nat) : (s.wr f v).safe = s.safe := by unfold State.wr; cases f.cls <;> rfl
@[simp] theorem wr_logQueue (f : Fld) (v : Nat) : (s.wr f v).logQueue = s.logQueue := by unfold State.wr; cases f.cls <;> rfl
@[simp] theorem wr_img (f : Fld) (v : Nat) : (s.wr f v).img = s.img := by unfold State.wr; cases f.cls <;> rfl
@[simp] theorem wr_fuse (f : Fld) (v : Nat) : (s.wr f v).fuse = s.fuse := by unfold State.wr; cases f.cls <;> rfl
@[simp] theorem wr_mgmt (f : Fld) (v : Nat) : (s.wr f v).mgmt = s.mgmt := by unfold State.wr; cases f.cls <;> rfl
@[simp] theorem wr_ho (f : Fld) (v : Nat) : (s.wr f v).ho = s.ho := by unfold State.wr; cases f.cls <;> rfl

/-! `setFlag` writes regs, tmr1, tmr2. -/

@[simp] theorem setFlag_pending (f : Fld) (b : Bool) : (s.setFlag f b).pending = s.pending := wr_pending s f _
@[simp] theorem setFlag_part (f : Fld) (b : Bool) : (s.setFlag f b).part = s.part := wr_part s f _
@[simp] theorem setFlag_halfId (f : Fld) (b : Bool) : (s.setFlag f b).halfId = s.halfId := wr_halfId s f _
@[simp] theorem setFlag_strap (f : Fld) (b : Bool) : (s.setFlag f b).strap = s.strap := wr_strap s f _
@[simp] theorem setFlag_now (f : Fld) (b : Bool) : (s.setFlag f b).now = s.now := wr_now s f _
@[simp] theorem setFlag_cec (f : Fld) (b : Bool) : (s.setFlag f b).cec = s.cec := wr_cec s f _
@[simp] theorem setFlag_drawn (f : Fld) (b : Bool) : (s.setFlag f b).drawn = s.drawn := wr_drawn s f _
@[simp] theorem setFlag_shadows (f : Fld) (b : Bool) : (s.setFlag f b).shadows = s.shadows := wr_shadows s f _
@[simp] theorem setFlag_xmem (f : Fld) (b : Bool) : (s.setFlag f b).xmem = s.xmem := wr_xmem s f _
@[simp] theorem setFlag_ymem0 (f : Fld) (b : Bool) : (s.setFlag f b).ymem0 = s.ymem0 := wr_ymem0 s f _
@[simp] theorem setFlag_ymem1 (f : Fld) (b : Bool) : (s.setFlag f b).ymem1 = s.ymem1 := wr_ymem1 s f _
@[simp] theorem setFlag_pm0 (f : Fld) (b : Bool) : (s.setFlag f b).pm0 = s.pm0 := wr_pm0 s f _
@[simp] theorem setFlag_pm1 (f : Fld) (b : Bool) : (s.setFlag f b).pm1 = s.pm1 := wr_pm1 s f _
@[simp] theorem setFlag_eccs (f : Fld) (b : Bool) : (s.setFlag f b).eccs = s.eccs := wr_eccs s f _
@[simp] theorem setFlag_touched (f : Fld) (b : Bool) : (s.setFlag f b).touched = s.touched := wr_touched s f _
@[simp] theorem setFlag_mpSram (f : Fld) (b : Bool) : (s.setFlag f b).mpSram = s.mpSram := wr_mpSram s f _
@[simp] theorem setFlag_sram (f : Fld) (b : Bool) : (s.setFlag f b).sram = s.sram := wr_sram s f _
@[simp] theorem setFlag_mram (f : Fld) (b : Bool) : (s.setFlag f b).mram = s.mram := wr_mram s f _
@[simp] theorem setFlag_keepArea (f : Fld) (b : Bool) : (s.setFlag f b).keepArea = s.keepArea := wr_keepArea s f _
@[simp] theorem setFlag_otp (f : Fld) (b : Bool) : (s.setFlag f b).otp = s.otp := wr_otp s f _
@[simp] theorem setFlag_flash (f : Fld) (b : Bool) : (s.setFlag f b).flash = s.flash := wr_flash s f _
@[simp] theorem setFlag_autoArm (f : Fld) (b : Bool) : (s.setFlag f b).autoArm = s.autoArm := wr_autoArm s f _
@[simp] theorem setFlag_sys (f : Fld) (b : Bool) : (s.setFlag f b).sys = s.sys := wr_sys s f _
@[simp] theorem setFlag_rake (f : Fld) (b : Bool) : (s.setFlag f b).rake = s.rake := wr_rake s f _
@[simp] theorem setFlag_fc (f : Fld) (b : Bool) : (s.setFlag f b).fc = s.fc := wr_fc s f _
@[simp] theorem setFlag_gd (f : Fld) (b : Bool) : (s.setFlag f b).gd = s.gd := wr_gd s f _
@[simp] theorem setFlag_pwr (f : Fld) (b : Bool) : (s.setFlag f b).pwr = s.pwr := wr_pwr s f _
@[simp] theorem setFlag_chans (f : Fld) (b : Bool) : (s.setFlag f b).chans = s.chans := wr_chans s f _
@[simp] theorem setFlag_posM (f : Fld) (b : Bool) : (s.setFlag f b).posM = s.posM := wr_posM s f _
@[simp] theorem setFlag_posPort (f : Fld) (b : Bool) : (s.setFlag f b).posPort = s.posPort := wr_posPort s f _
@[simp] theorem setFlag_posHall (f : Fld) (b : Bool) : (s.setFlag f b).posHall = s.posHall := wr_posHall s f _
@[simp] theorem setFlag_posPartner (f : Fld) (b : Bool) : (s.setFlag f b).posPartner = s.posPartner := wr_posPartner s f _
@[simp] theorem setFlag_partnerAt (f : Fld) (b : Bool) : (s.setFlag f b).partnerAt = s.partnerAt := wr_partnerAt s f _
@[simp] theorem setFlag_afe (f : Fld) (b : Bool) : (s.setFlag f b).afe = s.afe := wr_afe s f _
@[simp] theorem setFlag_out (f : Fld) (b : Bool) : (s.setFlag f b).out = s.out := wr_out s f _
@[simp] theorem setFlag_ce (f : Fld) (b : Bool) : (s.setFlag f b).ce = s.ce := wr_ce s f _
@[simp] theorem setFlag_net (f : Fld) (b : Bool) : (s.setFlag f b).net = s.net := wr_net s f _
@[simp] theorem setFlag_pan (f : Fld) (b : Bool) : (s.setFlag f b).pan = s.pan := wr_pan s f _
@[simp] theorem setFlag_brine (f : Fld) (b : Bool) : (s.setFlag f b).brine = s.brine := wr_brine s f _
@[simp] theorem setFlag_wire (f : Fld) (b : Bool) : (s.setFlag f b).wire = s.wire := wr_wire s f _
@[simp] theorem setFlag_safe (f : Fld) (b : Bool) : (s.setFlag f b).safe = s.safe := wr_safe s f _
@[simp] theorem setFlag_logQueue (f : Fld) (b : Bool) : (s.setFlag f b).logQueue = s.logQueue := wr_logQueue s f _
@[simp] theorem setFlag_img (f : Fld) (b : Bool) : (s.setFlag f b).img = s.img := wr_img s f _
@[simp] theorem setFlag_fuse (f : Fld) (b : Bool) : (s.setFlag f b).fuse = s.fuse := wr_fuse s f _
@[simp] theorem setFlag_mgmt (f : Fld) (b : Bool) : (s.setFlag f b).mgmt = s.mgmt := wr_mgmt s f _
@[simp] theorem setFlag_ho (f : Fld) (b : Bool) : (s.setFlag f b).ho = s.ho := wr_ho s f _

/-! `setBit` writes regs, tmr1, tmr2. -/

@[simp] theorem setBit_pending (f : Fld) (i : Nat) (b : Bool) : (s.setBit f i b).pending = s.pending := wr_pending s f _
@[simp] theorem setBit_part (f : Fld) (i : Nat) (b : Bool) : (s.setBit f i b).part = s.part := wr_part s f _
@[simp] theorem setBit_halfId (f : Fld) (i : Nat) (b : Bool) : (s.setBit f i b).halfId = s.halfId := wr_halfId s f _
@[simp] theorem setBit_strap (f : Fld) (i : Nat) (b : Bool) : (s.setBit f i b).strap = s.strap := wr_strap s f _
@[simp] theorem setBit_now (f : Fld) (i : Nat) (b : Bool) : (s.setBit f i b).now = s.now := wr_now s f _
@[simp] theorem setBit_cec (f : Fld) (i : Nat) (b : Bool) : (s.setBit f i b).cec = s.cec := wr_cec s f _
@[simp] theorem setBit_drawn (f : Fld) (i : Nat) (b : Bool) : (s.setBit f i b).drawn = s.drawn := wr_drawn s f _
@[simp] theorem setBit_shadows (f : Fld) (i : Nat) (b : Bool) : (s.setBit f i b).shadows = s.shadows := wr_shadows s f _
@[simp] theorem setBit_xmem (f : Fld) (i : Nat) (b : Bool) : (s.setBit f i b).xmem = s.xmem := wr_xmem s f _
@[simp] theorem setBit_ymem0 (f : Fld) (i : Nat) (b : Bool) : (s.setBit f i b).ymem0 = s.ymem0 := wr_ymem0 s f _
@[simp] theorem setBit_ymem1 (f : Fld) (i : Nat) (b : Bool) : (s.setBit f i b).ymem1 = s.ymem1 := wr_ymem1 s f _
@[simp] theorem setBit_pm0 (f : Fld) (i : Nat) (b : Bool) : (s.setBit f i b).pm0 = s.pm0 := wr_pm0 s f _
@[simp] theorem setBit_pm1 (f : Fld) (i : Nat) (b : Bool) : (s.setBit f i b).pm1 = s.pm1 := wr_pm1 s f _
@[simp] theorem setBit_eccs (f : Fld) (i : Nat) (b : Bool) : (s.setBit f i b).eccs = s.eccs := wr_eccs s f _
@[simp] theorem setBit_touched (f : Fld) (i : Nat) (b : Bool) : (s.setBit f i b).touched = s.touched := wr_touched s f _
@[simp] theorem setBit_mpSram (f : Fld) (i : Nat) (b : Bool) : (s.setBit f i b).mpSram = s.mpSram := wr_mpSram s f _
@[simp] theorem setBit_sram (f : Fld) (i : Nat) (b : Bool) : (s.setBit f i b).sram = s.sram := wr_sram s f _
@[simp] theorem setBit_mram (f : Fld) (i : Nat) (b : Bool) : (s.setBit f i b).mram = s.mram := wr_mram s f _
@[simp] theorem setBit_keepArea (f : Fld) (i : Nat) (b : Bool) : (s.setBit f i b).keepArea = s.keepArea := wr_keepArea s f _
@[simp] theorem setBit_otp (f : Fld) (i : Nat) (b : Bool) : (s.setBit f i b).otp = s.otp := wr_otp s f _
@[simp] theorem setBit_flash (f : Fld) (i : Nat) (b : Bool) : (s.setBit f i b).flash = s.flash := wr_flash s f _
@[simp] theorem setBit_autoArm (f : Fld) (i : Nat) (b : Bool) : (s.setBit f i b).autoArm = s.autoArm := wr_autoArm s f _
@[simp] theorem setBit_sys (f : Fld) (i : Nat) (b : Bool) : (s.setBit f i b).sys = s.sys := wr_sys s f _
@[simp] theorem setBit_rake (f : Fld) (i : Nat) (b : Bool) : (s.setBit f i b).rake = s.rake := wr_rake s f _
@[simp] theorem setBit_fc (f : Fld) (i : Nat) (b : Bool) : (s.setBit f i b).fc = s.fc := wr_fc s f _
@[simp] theorem setBit_gd (f : Fld) (i : Nat) (b : Bool) : (s.setBit f i b).gd = s.gd := wr_gd s f _
@[simp] theorem setBit_pwr (f : Fld) (i : Nat) (b : Bool) : (s.setBit f i b).pwr = s.pwr := wr_pwr s f _
@[simp] theorem setBit_chans (f : Fld) (i : Nat) (b : Bool) : (s.setBit f i b).chans = s.chans := wr_chans s f _
@[simp] theorem setBit_posM (f : Fld) (i : Nat) (b : Bool) : (s.setBit f i b).posM = s.posM := wr_posM s f _
@[simp] theorem setBit_posPort (f : Fld) (i : Nat) (b : Bool) : (s.setBit f i b).posPort = s.posPort := wr_posPort s f _
@[simp] theorem setBit_posHall (f : Fld) (i : Nat) (b : Bool) : (s.setBit f i b).posHall = s.posHall := wr_posHall s f _
@[simp] theorem setBit_posPartner (f : Fld) (i : Nat) (b : Bool) : (s.setBit f i b).posPartner = s.posPartner := wr_posPartner s f _
@[simp] theorem setBit_partnerAt (f : Fld) (i : Nat) (b : Bool) : (s.setBit f i b).partnerAt = s.partnerAt := wr_partnerAt s f _
@[simp] theorem setBit_afe (f : Fld) (i : Nat) (b : Bool) : (s.setBit f i b).afe = s.afe := wr_afe s f _
@[simp] theorem setBit_out (f : Fld) (i : Nat) (b : Bool) : (s.setBit f i b).out = s.out := wr_out s f _
@[simp] theorem setBit_ce (f : Fld) (i : Nat) (b : Bool) : (s.setBit f i b).ce = s.ce := wr_ce s f _
@[simp] theorem setBit_net (f : Fld) (i : Nat) (b : Bool) : (s.setBit f i b).net = s.net := wr_net s f _
@[simp] theorem setBit_pan (f : Fld) (i : Nat) (b : Bool) : (s.setBit f i b).pan = s.pan := wr_pan s f _
@[simp] theorem setBit_brine (f : Fld) (i : Nat) (b : Bool) : (s.setBit f i b).brine = s.brine := wr_brine s f _
@[simp] theorem setBit_wire (f : Fld) (i : Nat) (b : Bool) : (s.setBit f i b).wire = s.wire := wr_wire s f _
@[simp] theorem setBit_safe (f : Fld) (i : Nat) (b : Bool) : (s.setBit f i b).safe = s.safe := wr_safe s f _
@[simp] theorem setBit_logQueue (f : Fld) (i : Nat) (b : Bool) : (s.setBit f i b).logQueue = s.logQueue := wr_logQueue s f _
@[simp] theorem setBit_img (f : Fld) (i : Nat) (b : Bool) : (s.setBit f i b).img = s.img := wr_img s f _
@[simp] theorem setBit_fuse (f : Fld) (i : Nat) (b : Bool) : (s.setBit f i b).fuse = s.fuse := wr_fuse s f _
@[simp] theorem setBit_mgmt (f : Fld) (i : Nat) (b : Bool) : (s.setBit f i b).mgmt = s.mgmt := wr_mgmt s f _
@[simp] theorem setBit_ho (f : Fld) (i : Nat) (b : Bool) : (s.setBit f i b).ho = s.ho := wr_ho s f _

/-! `count` writes regs, tmr1, tmr2. -/

@[simp] theorem count_pending (f : Fld) : (s.count f).pending = s.pending := by unfold State.count; split <;> simp
@[simp] theorem count_part (f : Fld) : (s.count f).part = s.part := by unfold State.count; split <;> simp
@[simp] theorem count_halfId (f : Fld) : (s.count f).halfId = s.halfId := by unfold State.count; split <;> simp
@[simp] theorem count_strap (f : Fld) : (s.count f).strap = s.strap := by unfold State.count; split <;> simp
@[simp] theorem count_now (f : Fld) : (s.count f).now = s.now := by unfold State.count; split <;> simp
@[simp] theorem count_cec (f : Fld) : (s.count f).cec = s.cec := by unfold State.count; split <;> simp
@[simp] theorem count_drawn (f : Fld) : (s.count f).drawn = s.drawn := by unfold State.count; split <;> simp
@[simp] theorem count_shadows (f : Fld) : (s.count f).shadows = s.shadows := by unfold State.count; split <;> simp
@[simp] theorem count_xmem (f : Fld) : (s.count f).xmem = s.xmem := by unfold State.count; split <;> simp
@[simp] theorem count_ymem0 (f : Fld) : (s.count f).ymem0 = s.ymem0 := by unfold State.count; split <;> simp
@[simp] theorem count_ymem1 (f : Fld) : (s.count f).ymem1 = s.ymem1 := by unfold State.count; split <;> simp
@[simp] theorem count_pm0 (f : Fld) : (s.count f).pm0 = s.pm0 := by unfold State.count; split <;> simp
@[simp] theorem count_pm1 (f : Fld) : (s.count f).pm1 = s.pm1 := by unfold State.count; split <;> simp
@[simp] theorem count_eccs (f : Fld) : (s.count f).eccs = s.eccs := by unfold State.count; split <;> simp
@[simp] theorem count_touched (f : Fld) : (s.count f).touched = s.touched := by unfold State.count; split <;> simp
@[simp] theorem count_mpSram (f : Fld) : (s.count f).mpSram = s.mpSram := by unfold State.count; split <;> simp
@[simp] theorem count_sram (f : Fld) : (s.count f).sram = s.sram := by unfold State.count; split <;> simp
@[simp] theorem count_mram (f : Fld) : (s.count f).mram = s.mram := by unfold State.count; split <;> simp
@[simp] theorem count_keepArea (f : Fld) : (s.count f).keepArea = s.keepArea := by unfold State.count; split <;> simp
@[simp] theorem count_otp (f : Fld) : (s.count f).otp = s.otp := by unfold State.count; split <;> simp
@[simp] theorem count_flash (f : Fld) : (s.count f).flash = s.flash := by unfold State.count; split <;> simp
@[simp] theorem count_autoArm (f : Fld) : (s.count f).autoArm = s.autoArm := by unfold State.count; split <;> simp
@[simp] theorem count_sys (f : Fld) : (s.count f).sys = s.sys := by unfold State.count; split <;> simp
@[simp] theorem count_rake (f : Fld) : (s.count f).rake = s.rake := by unfold State.count; split <;> simp
@[simp] theorem count_fc (f : Fld) : (s.count f).fc = s.fc := by unfold State.count; split <;> simp
@[simp] theorem count_gd (f : Fld) : (s.count f).gd = s.gd := by unfold State.count; split <;> simp
@[simp] theorem count_pwr (f : Fld) : (s.count f).pwr = s.pwr := by unfold State.count; split <;> simp
@[simp] theorem count_chans (f : Fld) : (s.count f).chans = s.chans := by unfold State.count; split <;> simp
@[simp] theorem count_posM (f : Fld) : (s.count f).posM = s.posM := by unfold State.count; split <;> simp
@[simp] theorem count_posPort (f : Fld) : (s.count f).posPort = s.posPort := by unfold State.count; split <;> simp
@[simp] theorem count_posHall (f : Fld) : (s.count f).posHall = s.posHall := by unfold State.count; split <;> simp
@[simp] theorem count_posPartner (f : Fld) : (s.count f).posPartner = s.posPartner := by unfold State.count; split <;> simp
@[simp] theorem count_partnerAt (f : Fld) : (s.count f).partnerAt = s.partnerAt := by unfold State.count; split <;> simp
@[simp] theorem count_afe (f : Fld) : (s.count f).afe = s.afe := by unfold State.count; split <;> simp
@[simp] theorem count_out (f : Fld) : (s.count f).out = s.out := by unfold State.count; split <;> simp
@[simp] theorem count_ce (f : Fld) : (s.count f).ce = s.ce := by unfold State.count; split <;> simp
@[simp] theorem count_net (f : Fld) : (s.count f).net = s.net := by unfold State.count; split <;> simp
@[simp] theorem count_pan (f : Fld) : (s.count f).pan = s.pan := by unfold State.count; split <;> simp
@[simp] theorem count_brine (f : Fld) : (s.count f).brine = s.brine := by unfold State.count; split <;> simp
@[simp] theorem count_wire (f : Fld) : (s.count f).wire = s.wire := by unfold State.count; split <;> simp
@[simp] theorem count_safe (f : Fld) : (s.count f).safe = s.safe := by unfold State.count; split <;> simp
@[simp] theorem count_logQueue (f : Fld) : (s.count f).logQueue = s.logQueue := by unfold State.count; split <;> simp
@[simp] theorem count_img (f : Fld) : (s.count f).img = s.img := by unfold State.count; split <;> simp
@[simp] theorem count_fuse (f : Fld) : (s.count f).fuse = s.fuse := by unfold State.count; split <;> simp
@[simp] theorem count_mgmt (f : Fld) : (s.count f).mgmt = s.mgmt := by unfold State.count; split <;> simp
@[simp] theorem count_ho (f : Fld) : (s.count f).ho = s.ho := by unfold State.count; split <;> simp

/-! `advanceTo` writes now, cec. -/

@[simp] theorem advanceTo_pending (n : Nat) : (s.advanceTo n).pending = s.pending := rfl
@[simp] theorem advanceTo_part (n : Nat) : (s.advanceTo n).part = s.part := rfl
@[simp] theorem advanceTo_halfId (n : Nat) : (s.advanceTo n).halfId = s.halfId := rfl
@[simp] theorem advanceTo_strap (n : Nat) : (s.advanceTo n).strap = s.strap := rfl
@[simp] theorem advanceTo_drawn (n : Nat) : (s.advanceTo n).drawn = s.drawn := rfl
@[simp] theorem advanceTo_regs (n : Nat) : (s.advanceTo n).regs = s.regs := rfl
@[simp] theorem advanceTo_shadows (n : Nat) : (s.advanceTo n).shadows = s.shadows := rfl
@[simp] theorem advanceTo_tmr1 (n : Nat) : (s.advanceTo n).tmr1 = s.tmr1 := rfl
@[simp] theorem advanceTo_tmr2 (n : Nat) : (s.advanceTo n).tmr2 = s.tmr2 := rfl
@[simp] theorem advanceTo_xmem (n : Nat) : (s.advanceTo n).xmem = s.xmem := rfl
@[simp] theorem advanceTo_ymem0 (n : Nat) : (s.advanceTo n).ymem0 = s.ymem0 := rfl
@[simp] theorem advanceTo_ymem1 (n : Nat) : (s.advanceTo n).ymem1 = s.ymem1 := rfl
@[simp] theorem advanceTo_pm0 (n : Nat) : (s.advanceTo n).pm0 = s.pm0 := rfl
@[simp] theorem advanceTo_pm1 (n : Nat) : (s.advanceTo n).pm1 = s.pm1 := rfl
@[simp] theorem advanceTo_eccs (n : Nat) : (s.advanceTo n).eccs = s.eccs := rfl
@[simp] theorem advanceTo_touched (n : Nat) : (s.advanceTo n).touched = s.touched := rfl
@[simp] theorem advanceTo_mpSram (n : Nat) : (s.advanceTo n).mpSram = s.mpSram := rfl
@[simp] theorem advanceTo_sram (n : Nat) : (s.advanceTo n).sram = s.sram := rfl
@[simp] theorem advanceTo_mram (n : Nat) : (s.advanceTo n).mram = s.mram := rfl
@[simp] theorem advanceTo_keepArea (n : Nat) : (s.advanceTo n).keepArea = s.keepArea := rfl
@[simp] theorem advanceTo_otp (n : Nat) : (s.advanceTo n).otp = s.otp := rfl
@[simp] theorem advanceTo_flash (n : Nat) : (s.advanceTo n).flash = s.flash := rfl
@[simp] theorem advanceTo_autoArm (n : Nat) : (s.advanceTo n).autoArm = s.autoArm := rfl
@[simp] theorem advanceTo_sys (n : Nat) : (s.advanceTo n).sys = s.sys := rfl
@[simp] theorem advanceTo_rake (n : Nat) : (s.advanceTo n).rake = s.rake := rfl
@[simp] theorem advanceTo_fc (n : Nat) : (s.advanceTo n).fc = s.fc := rfl
@[simp] theorem advanceTo_gd (n : Nat) : (s.advanceTo n).gd = s.gd := rfl
@[simp] theorem advanceTo_pwr (n : Nat) : (s.advanceTo n).pwr = s.pwr := rfl
@[simp] theorem advanceTo_chans (n : Nat) : (s.advanceTo n).chans = s.chans := rfl
@[simp] theorem advanceTo_posM (n : Nat) : (s.advanceTo n).posM = s.posM := rfl
@[simp] theorem advanceTo_posPort (n : Nat) : (s.advanceTo n).posPort = s.posPort := rfl
@[simp] theorem advanceTo_posHall (n : Nat) : (s.advanceTo n).posHall = s.posHall := rfl
@[simp] theorem advanceTo_posPartner (n : Nat) : (s.advanceTo n).posPartner = s.posPartner := rfl
@[simp] theorem advanceTo_partnerAt (n : Nat) : (s.advanceTo n).partnerAt = s.partnerAt := rfl
@[simp] theorem advanceTo_afe (n : Nat) : (s.advanceTo n).afe = s.afe := rfl
@[simp] theorem advanceTo_out (n : Nat) : (s.advanceTo n).out = s.out := rfl
@[simp] theorem advanceTo_ce (n : Nat) : (s.advanceTo n).ce = s.ce := rfl
@[simp] theorem advanceTo_net (n : Nat) : (s.advanceTo n).net = s.net := rfl
@[simp] theorem advanceTo_pan (n : Nat) : (s.advanceTo n).pan = s.pan := rfl
@[simp] theorem advanceTo_brine (n : Nat) : (s.advanceTo n).brine = s.brine := rfl
@[simp] theorem advanceTo_wire (n : Nat) : (s.advanceTo n).wire = s.wire := rfl
@[simp] theorem advanceTo_safe (n : Nat) : (s.advanceTo n).safe = s.safe := rfl
@[simp] theorem advanceTo_logQueue (n : Nat) : (s.advanceTo n).logQueue = s.logQueue := rfl
@[simp] theorem advanceTo_img (n : Nat) : (s.advanceTo n).img = s.img := rfl
@[simp] theorem advanceTo_fuse (n : Nat) : (s.advanceTo n).fuse = s.fuse := rfl
@[simp] theorem advanceTo_mgmt (n : Nat) : (s.advanceTo n).mgmt = s.mgmt := rfl
@[simp] theorem advanceTo_ho (n : Nat) : (s.advanceTo n).ho = s.ho := rfl

/-! `setXWord` writes xmem, eccs. -/

@[simp] theorem setXWord_pending (a : Nat) (w : Word) : (s.setXWord a w).pending = s.pending := rfl
@[simp] theorem setXWord_part (a : Nat) (w : Word) : (s.setXWord a w).part = s.part := rfl
@[simp] theorem setXWord_halfId (a : Nat) (w : Word) : (s.setXWord a w).halfId = s.halfId := rfl
@[simp] theorem setXWord_strap (a : Nat) (w : Word) : (s.setXWord a w).strap = s.strap := rfl
@[simp] theorem setXWord_now (a : Nat) (w : Word) : (s.setXWord a w).now = s.now := rfl
@[simp] theorem setXWord_cec (a : Nat) (w : Word) : (s.setXWord a w).cec = s.cec := rfl
@[simp] theorem setXWord_drawn (a : Nat) (w : Word) : (s.setXWord a w).drawn = s.drawn := rfl
@[simp] theorem setXWord_regs (a : Nat) (w : Word) : (s.setXWord a w).regs = s.regs := rfl
@[simp] theorem setXWord_shadows (a : Nat) (w : Word) : (s.setXWord a w).shadows = s.shadows := rfl
@[simp] theorem setXWord_tmr1 (a : Nat) (w : Word) : (s.setXWord a w).tmr1 = s.tmr1 := rfl
@[simp] theorem setXWord_tmr2 (a : Nat) (w : Word) : (s.setXWord a w).tmr2 = s.tmr2 := rfl
@[simp] theorem setXWord_ymem0 (a : Nat) (w : Word) : (s.setXWord a w).ymem0 = s.ymem0 := rfl
@[simp] theorem setXWord_ymem1 (a : Nat) (w : Word) : (s.setXWord a w).ymem1 = s.ymem1 := rfl
@[simp] theorem setXWord_pm0 (a : Nat) (w : Word) : (s.setXWord a w).pm0 = s.pm0 := rfl
@[simp] theorem setXWord_pm1 (a : Nat) (w : Word) : (s.setXWord a w).pm1 = s.pm1 := rfl
@[simp] theorem setXWord_touched (a : Nat) (w : Word) : (s.setXWord a w).touched = s.touched := rfl
@[simp] theorem setXWord_mpSram (a : Nat) (w : Word) : (s.setXWord a w).mpSram = s.mpSram := rfl
@[simp] theorem setXWord_sram (a : Nat) (w : Word) : (s.setXWord a w).sram = s.sram := rfl
@[simp] theorem setXWord_mram (a : Nat) (w : Word) : (s.setXWord a w).mram = s.mram := rfl
@[simp] theorem setXWord_keepArea (a : Nat) (w : Word) : (s.setXWord a w).keepArea = s.keepArea := rfl
@[simp] theorem setXWord_otp (a : Nat) (w : Word) : (s.setXWord a w).otp = s.otp := rfl
@[simp] theorem setXWord_flash (a : Nat) (w : Word) : (s.setXWord a w).flash = s.flash := rfl
@[simp] theorem setXWord_autoArm (a : Nat) (w : Word) : (s.setXWord a w).autoArm = s.autoArm := rfl
@[simp] theorem setXWord_sys (a : Nat) (w : Word) : (s.setXWord a w).sys = s.sys := rfl
@[simp] theorem setXWord_rake (a : Nat) (w : Word) : (s.setXWord a w).rake = s.rake := rfl
@[simp] theorem setXWord_fc (a : Nat) (w : Word) : (s.setXWord a w).fc = s.fc := rfl
@[simp] theorem setXWord_gd (a : Nat) (w : Word) : (s.setXWord a w).gd = s.gd := rfl
@[simp] theorem setXWord_pwr (a : Nat) (w : Word) : (s.setXWord a w).pwr = s.pwr := rfl
@[simp] theorem setXWord_chans (a : Nat) (w : Word) : (s.setXWord a w).chans = s.chans := rfl
@[simp] theorem setXWord_posM (a : Nat) (w : Word) : (s.setXWord a w).posM = s.posM := rfl
@[simp] theorem setXWord_posPort (a : Nat) (w : Word) : (s.setXWord a w).posPort = s.posPort := rfl
@[simp] theorem setXWord_posHall (a : Nat) (w : Word) : (s.setXWord a w).posHall = s.posHall := rfl
@[simp] theorem setXWord_posPartner (a : Nat) (w : Word) : (s.setXWord a w).posPartner = s.posPartner := rfl
@[simp] theorem setXWord_partnerAt (a : Nat) (w : Word) : (s.setXWord a w).partnerAt = s.partnerAt := rfl
@[simp] theorem setXWord_afe (a : Nat) (w : Word) : (s.setXWord a w).afe = s.afe := rfl
@[simp] theorem setXWord_out (a : Nat) (w : Word) : (s.setXWord a w).out = s.out := rfl
@[simp] theorem setXWord_ce (a : Nat) (w : Word) : (s.setXWord a w).ce = s.ce := rfl
@[simp] theorem setXWord_net (a : Nat) (w : Word) : (s.setXWord a w).net = s.net := rfl
@[simp] theorem setXWord_pan (a : Nat) (w : Word) : (s.setXWord a w).pan = s.pan := rfl
@[simp] theorem setXWord_brine (a : Nat) (w : Word) : (s.setXWord a w).brine = s.brine := rfl
@[simp] theorem setXWord_wire (a : Nat) (w : Word) : (s.setXWord a w).wire = s.wire := rfl
@[simp] theorem setXWord_safe (a : Nat) (w : Word) : (s.setXWord a w).safe = s.safe := rfl
@[simp] theorem setXWord_logQueue (a : Nat) (w : Word) : (s.setXWord a w).logQueue = s.logQueue := rfl
@[simp] theorem setXWord_img (a : Nat) (w : Word) : (s.setXWord a w).img = s.img := rfl
@[simp] theorem setXWord_fuse (a : Nat) (w : Word) : (s.setXWord a w).fuse = s.fuse := rfl
@[simp] theorem setXWord_mgmt (a : Nat) (w : Word) : (s.setXWord a w).mgmt = s.mgmt := rfl
@[simp] theorem setXWord_ho (a : Nat) (w : Word) : (s.setXWord a w).ho = s.ho := rfl

/-! `setXPair` writes xmem, eccs. -/

@[simp] theorem setXPair_pending (a : Nat) (w : Word) : (s.setXPair a w).pending = s.pending := rfl
@[simp] theorem setXPair_part (a : Nat) (w : Word) : (s.setXPair a w).part = s.part := rfl
@[simp] theorem setXPair_halfId (a : Nat) (w : Word) : (s.setXPair a w).halfId = s.halfId := rfl
@[simp] theorem setXPair_strap (a : Nat) (w : Word) : (s.setXPair a w).strap = s.strap := rfl
@[simp] theorem setXPair_now (a : Nat) (w : Word) : (s.setXPair a w).now = s.now := rfl
@[simp] theorem setXPair_cec (a : Nat) (w : Word) : (s.setXPair a w).cec = s.cec := rfl
@[simp] theorem setXPair_drawn (a : Nat) (w : Word) : (s.setXPair a w).drawn = s.drawn := rfl
@[simp] theorem setXPair_regs (a : Nat) (w : Word) : (s.setXPair a w).regs = s.regs := rfl
@[simp] theorem setXPair_shadows (a : Nat) (w : Word) : (s.setXPair a w).shadows = s.shadows := rfl
@[simp] theorem setXPair_tmr1 (a : Nat) (w : Word) : (s.setXPair a w).tmr1 = s.tmr1 := rfl
@[simp] theorem setXPair_tmr2 (a : Nat) (w : Word) : (s.setXPair a w).tmr2 = s.tmr2 := rfl
@[simp] theorem setXPair_ymem0 (a : Nat) (w : Word) : (s.setXPair a w).ymem0 = s.ymem0 := rfl
@[simp] theorem setXPair_ymem1 (a : Nat) (w : Word) : (s.setXPair a w).ymem1 = s.ymem1 := rfl
@[simp] theorem setXPair_pm0 (a : Nat) (w : Word) : (s.setXPair a w).pm0 = s.pm0 := rfl
@[simp] theorem setXPair_pm1 (a : Nat) (w : Word) : (s.setXPair a w).pm1 = s.pm1 := rfl
@[simp] theorem setXPair_touched (a : Nat) (w : Word) : (s.setXPair a w).touched = s.touched := rfl
@[simp] theorem setXPair_mpSram (a : Nat) (w : Word) : (s.setXPair a w).mpSram = s.mpSram := rfl
@[simp] theorem setXPair_sram (a : Nat) (w : Word) : (s.setXPair a w).sram = s.sram := rfl
@[simp] theorem setXPair_mram (a : Nat) (w : Word) : (s.setXPair a w).mram = s.mram := rfl
@[simp] theorem setXPair_keepArea (a : Nat) (w : Word) : (s.setXPair a w).keepArea = s.keepArea := rfl
@[simp] theorem setXPair_otp (a : Nat) (w : Word) : (s.setXPair a w).otp = s.otp := rfl
@[simp] theorem setXPair_flash (a : Nat) (w : Word) : (s.setXPair a w).flash = s.flash := rfl
@[simp] theorem setXPair_autoArm (a : Nat) (w : Word) : (s.setXPair a w).autoArm = s.autoArm := rfl
@[simp] theorem setXPair_sys (a : Nat) (w : Word) : (s.setXPair a w).sys = s.sys := rfl
@[simp] theorem setXPair_rake (a : Nat) (w : Word) : (s.setXPair a w).rake = s.rake := rfl
@[simp] theorem setXPair_fc (a : Nat) (w : Word) : (s.setXPair a w).fc = s.fc := rfl
@[simp] theorem setXPair_gd (a : Nat) (w : Word) : (s.setXPair a w).gd = s.gd := rfl
@[simp] theorem setXPair_pwr (a : Nat) (w : Word) : (s.setXPair a w).pwr = s.pwr := rfl
@[simp] theorem setXPair_chans (a : Nat) (w : Word) : (s.setXPair a w).chans = s.chans := rfl
@[simp] theorem setXPair_posM (a : Nat) (w : Word) : (s.setXPair a w).posM = s.posM := rfl
@[simp] theorem setXPair_posPort (a : Nat) (w : Word) : (s.setXPair a w).posPort = s.posPort := rfl
@[simp] theorem setXPair_posHall (a : Nat) (w : Word) : (s.setXPair a w).posHall = s.posHall := rfl
@[simp] theorem setXPair_posPartner (a : Nat) (w : Word) : (s.setXPair a w).posPartner = s.posPartner := rfl
@[simp] theorem setXPair_partnerAt (a : Nat) (w : Word) : (s.setXPair a w).partnerAt = s.partnerAt := rfl
@[simp] theorem setXPair_afe (a : Nat) (w : Word) : (s.setXPair a w).afe = s.afe := rfl
@[simp] theorem setXPair_out (a : Nat) (w : Word) : (s.setXPair a w).out = s.out := rfl
@[simp] theorem setXPair_ce (a : Nat) (w : Word) : (s.setXPair a w).ce = s.ce := rfl
@[simp] theorem setXPair_net (a : Nat) (w : Word) : (s.setXPair a w).net = s.net := rfl
@[simp] theorem setXPair_pan (a : Nat) (w : Word) : (s.setXPair a w).pan = s.pan := rfl
@[simp] theorem setXPair_brine (a : Nat) (w : Word) : (s.setXPair a w).brine = s.brine := rfl
@[simp] theorem setXPair_wire (a : Nat) (w : Word) : (s.setXPair a w).wire = s.wire := rfl
@[simp] theorem setXPair_safe (a : Nat) (w : Word) : (s.setXPair a w).safe = s.safe := rfl
@[simp] theorem setXPair_logQueue (a : Nat) (w : Word) : (s.setXPair a w).logQueue = s.logQueue := rfl
@[simp] theorem setXPair_img (a : Nat) (w : Word) : (s.setXPair a w).img = s.img := rfl
@[simp] theorem setXPair_fuse (a : Nat) (w : Word) : (s.setXPair a w).fuse = s.fuse := rfl
@[simp] theorem setXPair_mgmt (a : Nat) (w : Word) : (s.setXPair a w).mgmt = s.mgmt := rfl
@[simp] theorem setXPair_ho (a : Nat) (w : Word) : (s.setXPair a w).ho = s.ho := rfl

/-! `setStrm` writes ce. -/

@[simp] theorem setStrm_pending (x : Strm) (st : Stream) : (s.setStrm x st).pending = s.pending := by cases x <;> rfl
@[simp] theorem setStrm_part (x : Strm) (st : Stream) : (s.setStrm x st).part = s.part := by cases x <;> rfl
@[simp] theorem setStrm_halfId (x : Strm) (st : Stream) : (s.setStrm x st).halfId = s.halfId := by cases x <;> rfl
@[simp] theorem setStrm_strap (x : Strm) (st : Stream) : (s.setStrm x st).strap = s.strap := by cases x <;> rfl
@[simp] theorem setStrm_now (x : Strm) (st : Stream) : (s.setStrm x st).now = s.now := by cases x <;> rfl
@[simp] theorem setStrm_cec (x : Strm) (st : Stream) : (s.setStrm x st).cec = s.cec := by cases x <;> rfl
@[simp] theorem setStrm_drawn (x : Strm) (st : Stream) : (s.setStrm x st).drawn = s.drawn := by cases x <;> rfl
@[simp] theorem setStrm_regs (x : Strm) (st : Stream) : (s.setStrm x st).regs = s.regs := by cases x <;> rfl
@[simp] theorem setStrm_shadows (x : Strm) (st : Stream) : (s.setStrm x st).shadows = s.shadows := by cases x <;> rfl
@[simp] theorem setStrm_tmr1 (x : Strm) (st : Stream) : (s.setStrm x st).tmr1 = s.tmr1 := by cases x <;> rfl
@[simp] theorem setStrm_tmr2 (x : Strm) (st : Stream) : (s.setStrm x st).tmr2 = s.tmr2 := by cases x <;> rfl
@[simp] theorem setStrm_xmem (x : Strm) (st : Stream) : (s.setStrm x st).xmem = s.xmem := by cases x <;> rfl
@[simp] theorem setStrm_ymem0 (x : Strm) (st : Stream) : (s.setStrm x st).ymem0 = s.ymem0 := by cases x <;> rfl
@[simp] theorem setStrm_ymem1 (x : Strm) (st : Stream) : (s.setStrm x st).ymem1 = s.ymem1 := by cases x <;> rfl
@[simp] theorem setStrm_pm0 (x : Strm) (st : Stream) : (s.setStrm x st).pm0 = s.pm0 := by cases x <;> rfl
@[simp] theorem setStrm_pm1 (x : Strm) (st : Stream) : (s.setStrm x st).pm1 = s.pm1 := by cases x <;> rfl
@[simp] theorem setStrm_eccs (x : Strm) (st : Stream) : (s.setStrm x st).eccs = s.eccs := by cases x <;> rfl
@[simp] theorem setStrm_touched (x : Strm) (st : Stream) : (s.setStrm x st).touched = s.touched := by cases x <;> rfl
@[simp] theorem setStrm_mpSram (x : Strm) (st : Stream) : (s.setStrm x st).mpSram = s.mpSram := by cases x <;> rfl
@[simp] theorem setStrm_sram (x : Strm) (st : Stream) : (s.setStrm x st).sram = s.sram := by cases x <;> rfl
@[simp] theorem setStrm_mram (x : Strm) (st : Stream) : (s.setStrm x st).mram = s.mram := by cases x <;> rfl
@[simp] theorem setStrm_keepArea (x : Strm) (st : Stream) : (s.setStrm x st).keepArea = s.keepArea := by cases x <;> rfl
@[simp] theorem setStrm_otp (x : Strm) (st : Stream) : (s.setStrm x st).otp = s.otp := by cases x <;> rfl
@[simp] theorem setStrm_flash (x : Strm) (st : Stream) : (s.setStrm x st).flash = s.flash := by cases x <;> rfl
@[simp] theorem setStrm_autoArm (x : Strm) (st : Stream) : (s.setStrm x st).autoArm = s.autoArm := by cases x <;> rfl
@[simp] theorem setStrm_sys (x : Strm) (st : Stream) : (s.setStrm x st).sys = s.sys := by cases x <;> rfl
@[simp] theorem setStrm_rake (x : Strm) (st : Stream) : (s.setStrm x st).rake = s.rake := by cases x <;> rfl
@[simp] theorem setStrm_fc (x : Strm) (st : Stream) : (s.setStrm x st).fc = s.fc := by cases x <;> rfl
@[simp] theorem setStrm_gd (x : Strm) (st : Stream) : (s.setStrm x st).gd = s.gd := by cases x <;> rfl
@[simp] theorem setStrm_pwr (x : Strm) (st : Stream) : (s.setStrm x st).pwr = s.pwr := by cases x <;> rfl
@[simp] theorem setStrm_chans (x : Strm) (st : Stream) : (s.setStrm x st).chans = s.chans := by cases x <;> rfl
@[simp] theorem setStrm_posM (x : Strm) (st : Stream) : (s.setStrm x st).posM = s.posM := by cases x <;> rfl
@[simp] theorem setStrm_posPort (x : Strm) (st : Stream) : (s.setStrm x st).posPort = s.posPort := by cases x <;> rfl
@[simp] theorem setStrm_posHall (x : Strm) (st : Stream) : (s.setStrm x st).posHall = s.posHall := by cases x <;> rfl
@[simp] theorem setStrm_posPartner (x : Strm) (st : Stream) : (s.setStrm x st).posPartner = s.posPartner := by cases x <;> rfl
@[simp] theorem setStrm_partnerAt (x : Strm) (st : Stream) : (s.setStrm x st).partnerAt = s.partnerAt := by cases x <;> rfl
@[simp] theorem setStrm_afe (x : Strm) (st : Stream) : (s.setStrm x st).afe = s.afe := by cases x <;> rfl
@[simp] theorem setStrm_out (x : Strm) (st : Stream) : (s.setStrm x st).out = s.out := by cases x <;> rfl
@[simp] theorem setStrm_net (x : Strm) (st : Stream) : (s.setStrm x st).net = s.net := by cases x <;> rfl
@[simp] theorem setStrm_pan (x : Strm) (st : Stream) : (s.setStrm x st).pan = s.pan := by cases x <;> rfl
@[simp] theorem setStrm_brine (x : Strm) (st : Stream) : (s.setStrm x st).brine = s.brine := by cases x <;> rfl
@[simp] theorem setStrm_wire (x : Strm) (st : Stream) : (s.setStrm x st).wire = s.wire := by cases x <;> rfl
@[simp] theorem setStrm_safe (x : Strm) (st : Stream) : (s.setStrm x st).safe = s.safe := by cases x <;> rfl
@[simp] theorem setStrm_logQueue (x : Strm) (st : Stream) : (s.setStrm x st).logQueue = s.logQueue := by cases x <;> rfl
@[simp] theorem setStrm_img (x : Strm) (st : Stream) : (s.setStrm x st).img = s.img := by cases x <;> rfl
@[simp] theorem setStrm_fuse (x : Strm) (st : Stream) : (s.setStrm x st).fuse = s.fuse := by cases x <;> rfl
@[simp] theorem setStrm_mgmt (x : Strm) (st : Stream) : (s.setStrm x st).mgmt = s.mgmt := by cases x <;> rfl
@[simp] theorem setStrm_ho (x : Strm) (st : Stream) : (s.setStrm x st).ho = s.ho := by cases x <;> rfl

/-! `present` writes ce. -/

@[simp] theorem present_pending (x : Strm) (l : Landed) : (s.present x l).pending = s.pending := by cases x <;> rfl
@[simp] theorem present_part (x : Strm) (l : Landed) : (s.present x l).part = s.part := by cases x <;> rfl
@[simp] theorem present_halfId (x : Strm) (l : Landed) : (s.present x l).halfId = s.halfId := by cases x <;> rfl
@[simp] theorem present_strap (x : Strm) (l : Landed) : (s.present x l).strap = s.strap := by cases x <;> rfl
@[simp] theorem present_now (x : Strm) (l : Landed) : (s.present x l).now = s.now := by cases x <;> rfl
@[simp] theorem present_cec (x : Strm) (l : Landed) : (s.present x l).cec = s.cec := by cases x <;> rfl
@[simp] theorem present_drawn (x : Strm) (l : Landed) : (s.present x l).drawn = s.drawn := by cases x <;> rfl
@[simp] theorem present_regs (x : Strm) (l : Landed) : (s.present x l).regs = s.regs := by cases x <;> rfl
@[simp] theorem present_shadows (x : Strm) (l : Landed) : (s.present x l).shadows = s.shadows := by cases x <;> rfl
@[simp] theorem present_tmr1 (x : Strm) (l : Landed) : (s.present x l).tmr1 = s.tmr1 := by cases x <;> rfl
@[simp] theorem present_tmr2 (x : Strm) (l : Landed) : (s.present x l).tmr2 = s.tmr2 := by cases x <;> rfl
@[simp] theorem present_xmem (x : Strm) (l : Landed) : (s.present x l).xmem = s.xmem := by cases x <;> rfl
@[simp] theorem present_ymem0 (x : Strm) (l : Landed) : (s.present x l).ymem0 = s.ymem0 := by cases x <;> rfl
@[simp] theorem present_ymem1 (x : Strm) (l : Landed) : (s.present x l).ymem1 = s.ymem1 := by cases x <;> rfl
@[simp] theorem present_pm0 (x : Strm) (l : Landed) : (s.present x l).pm0 = s.pm0 := by cases x <;> rfl
@[simp] theorem present_pm1 (x : Strm) (l : Landed) : (s.present x l).pm1 = s.pm1 := by cases x <;> rfl
@[simp] theorem present_eccs (x : Strm) (l : Landed) : (s.present x l).eccs = s.eccs := by cases x <;> rfl
@[simp] theorem present_touched (x : Strm) (l : Landed) : (s.present x l).touched = s.touched := by cases x <;> rfl
@[simp] theorem present_mpSram (x : Strm) (l : Landed) : (s.present x l).mpSram = s.mpSram := by cases x <;> rfl
@[simp] theorem present_sram (x : Strm) (l : Landed) : (s.present x l).sram = s.sram := by cases x <;> rfl
@[simp] theorem present_mram (x : Strm) (l : Landed) : (s.present x l).mram = s.mram := by cases x <;> rfl
@[simp] theorem present_keepArea (x : Strm) (l : Landed) : (s.present x l).keepArea = s.keepArea := by cases x <;> rfl
@[simp] theorem present_otp (x : Strm) (l : Landed) : (s.present x l).otp = s.otp := by cases x <;> rfl
@[simp] theorem present_flash (x : Strm) (l : Landed) : (s.present x l).flash = s.flash := by cases x <;> rfl
@[simp] theorem present_autoArm (x : Strm) (l : Landed) : (s.present x l).autoArm = s.autoArm := by cases x <;> rfl
@[simp] theorem present_sys (x : Strm) (l : Landed) : (s.present x l).sys = s.sys := by cases x <;> rfl
@[simp] theorem present_rake (x : Strm) (l : Landed) : (s.present x l).rake = s.rake := by cases x <;> rfl
@[simp] theorem present_fc (x : Strm) (l : Landed) : (s.present x l).fc = s.fc := by cases x <;> rfl
@[simp] theorem present_gd (x : Strm) (l : Landed) : (s.present x l).gd = s.gd := by cases x <;> rfl
@[simp] theorem present_pwr (x : Strm) (l : Landed) : (s.present x l).pwr = s.pwr := by cases x <;> rfl
@[simp] theorem present_chans (x : Strm) (l : Landed) : (s.present x l).chans = s.chans := by cases x <;> rfl
@[simp] theorem present_posM (x : Strm) (l : Landed) : (s.present x l).posM = s.posM := by cases x <;> rfl
@[simp] theorem present_posPort (x : Strm) (l : Landed) : (s.present x l).posPort = s.posPort := by cases x <;> rfl
@[simp] theorem present_posHall (x : Strm) (l : Landed) : (s.present x l).posHall = s.posHall := by cases x <;> rfl
@[simp] theorem present_posPartner (x : Strm) (l : Landed) : (s.present x l).posPartner = s.posPartner := by cases x <;> rfl
@[simp] theorem present_partnerAt (x : Strm) (l : Landed) : (s.present x l).partnerAt = s.partnerAt := by cases x <;> rfl
@[simp] theorem present_afe (x : Strm) (l : Landed) : (s.present x l).afe = s.afe := by cases x <;> rfl
@[simp] theorem present_out (x : Strm) (l : Landed) : (s.present x l).out = s.out := by cases x <;> rfl
@[simp] theorem present_net (x : Strm) (l : Landed) : (s.present x l).net = s.net := by cases x <;> rfl
@[simp] theorem present_pan (x : Strm) (l : Landed) : (s.present x l).pan = s.pan := by cases x <;> rfl
@[simp] theorem present_brine (x : Strm) (l : Landed) : (s.present x l).brine = s.brine := by cases x <;> rfl
@[simp] theorem present_wire (x : Strm) (l : Landed) : (s.present x l).wire = s.wire := by cases x <;> rfl
@[simp] theorem present_safe (x : Strm) (l : Landed) : (s.present x l).safe = s.safe := by cases x <;> rfl
@[simp] theorem present_logQueue (x : Strm) (l : Landed) : (s.present x l).logQueue = s.logQueue := by cases x <;> rfl
@[simp] theorem present_img (x : Strm) (l : Landed) : (s.present x l).img = s.img := by cases x <;> rfl
@[simp] theorem present_fuse (x : Strm) (l : Landed) : (s.present x l).fuse = s.fuse := by cases x <;> rfl
@[simp] theorem present_mgmt (x : Strm) (l : Landed) : (s.present x l).mgmt = s.mgmt := by cases x <;> rfl
@[simp] theorem present_ho (x : Strm) (l : Landed) : (s.present x l).ho = s.ho := by cases x <;> rfl

/-! `hold` writes ce. -/

@[simp] theorem hold_pending (x : Strm) (h : Held) : (s.hold x h).pending = s.pending := setStrm_pending s x _
@[simp] theorem hold_part (x : Strm) (h : Held) : (s.hold x h).part = s.part := setStrm_part s x _
@[simp] theorem hold_halfId (x : Strm) (h : Held) : (s.hold x h).halfId = s.halfId := setStrm_halfId s x _
@[simp] theorem hold_strap (x : Strm) (h : Held) : (s.hold x h).strap = s.strap := setStrm_strap s x _
@[simp] theorem hold_now (x : Strm) (h : Held) : (s.hold x h).now = s.now := setStrm_now s x _
@[simp] theorem hold_cec (x : Strm) (h : Held) : (s.hold x h).cec = s.cec := setStrm_cec s x _
@[simp] theorem hold_drawn (x : Strm) (h : Held) : (s.hold x h).drawn = s.drawn := setStrm_drawn s x _
@[simp] theorem hold_regs (x : Strm) (h : Held) : (s.hold x h).regs = s.regs := setStrm_regs s x _
@[simp] theorem hold_shadows (x : Strm) (h : Held) : (s.hold x h).shadows = s.shadows := setStrm_shadows s x _
@[simp] theorem hold_tmr1 (x : Strm) (h : Held) : (s.hold x h).tmr1 = s.tmr1 := setStrm_tmr1 s x _
@[simp] theorem hold_tmr2 (x : Strm) (h : Held) : (s.hold x h).tmr2 = s.tmr2 := setStrm_tmr2 s x _
@[simp] theorem hold_xmem (x : Strm) (h : Held) : (s.hold x h).xmem = s.xmem := setStrm_xmem s x _
@[simp] theorem hold_ymem0 (x : Strm) (h : Held) : (s.hold x h).ymem0 = s.ymem0 := setStrm_ymem0 s x _
@[simp] theorem hold_ymem1 (x : Strm) (h : Held) : (s.hold x h).ymem1 = s.ymem1 := setStrm_ymem1 s x _
@[simp] theorem hold_pm0 (x : Strm) (h : Held) : (s.hold x h).pm0 = s.pm0 := setStrm_pm0 s x _
@[simp] theorem hold_pm1 (x : Strm) (h : Held) : (s.hold x h).pm1 = s.pm1 := setStrm_pm1 s x _
@[simp] theorem hold_eccs (x : Strm) (h : Held) : (s.hold x h).eccs = s.eccs := setStrm_eccs s x _
@[simp] theorem hold_touched (x : Strm) (h : Held) : (s.hold x h).touched = s.touched := setStrm_touched s x _
@[simp] theorem hold_mpSram (x : Strm) (h : Held) : (s.hold x h).mpSram = s.mpSram := setStrm_mpSram s x _
@[simp] theorem hold_sram (x : Strm) (h : Held) : (s.hold x h).sram = s.sram := setStrm_sram s x _
@[simp] theorem hold_mram (x : Strm) (h : Held) : (s.hold x h).mram = s.mram := setStrm_mram s x _
@[simp] theorem hold_keepArea (x : Strm) (h : Held) : (s.hold x h).keepArea = s.keepArea := setStrm_keepArea s x _
@[simp] theorem hold_otp (x : Strm) (h : Held) : (s.hold x h).otp = s.otp := setStrm_otp s x _
@[simp] theorem hold_flash (x : Strm) (h : Held) : (s.hold x h).flash = s.flash := setStrm_flash s x _
@[simp] theorem hold_autoArm (x : Strm) (h : Held) : (s.hold x h).autoArm = s.autoArm := setStrm_autoArm s x _
@[simp] theorem hold_sys (x : Strm) (h : Held) : (s.hold x h).sys = s.sys := setStrm_sys s x _
@[simp] theorem hold_rake (x : Strm) (h : Held) : (s.hold x h).rake = s.rake := setStrm_rake s x _
@[simp] theorem hold_fc (x : Strm) (h : Held) : (s.hold x h).fc = s.fc := setStrm_fc s x _
@[simp] theorem hold_gd (x : Strm) (h : Held) : (s.hold x h).gd = s.gd := setStrm_gd s x _
@[simp] theorem hold_pwr (x : Strm) (h : Held) : (s.hold x h).pwr = s.pwr := setStrm_pwr s x _
@[simp] theorem hold_chans (x : Strm) (h : Held) : (s.hold x h).chans = s.chans := setStrm_chans s x _
@[simp] theorem hold_posM (x : Strm) (h : Held) : (s.hold x h).posM = s.posM := setStrm_posM s x _
@[simp] theorem hold_posPort (x : Strm) (h : Held) : (s.hold x h).posPort = s.posPort := setStrm_posPort s x _
@[simp] theorem hold_posHall (x : Strm) (h : Held) : (s.hold x h).posHall = s.posHall := setStrm_posHall s x _
@[simp] theorem hold_posPartner (x : Strm) (h : Held) : (s.hold x h).posPartner = s.posPartner := setStrm_posPartner s x _
@[simp] theorem hold_partnerAt (x : Strm) (h : Held) : (s.hold x h).partnerAt = s.partnerAt := setStrm_partnerAt s x _
@[simp] theorem hold_afe (x : Strm) (h : Held) : (s.hold x h).afe = s.afe := setStrm_afe s x _
@[simp] theorem hold_out (x : Strm) (h : Held) : (s.hold x h).out = s.out := setStrm_out s x _
@[simp] theorem hold_net (x : Strm) (h : Held) : (s.hold x h).net = s.net := setStrm_net s x _
@[simp] theorem hold_pan (x : Strm) (h : Held) : (s.hold x h).pan = s.pan := setStrm_pan s x _
@[simp] theorem hold_brine (x : Strm) (h : Held) : (s.hold x h).brine = s.brine := setStrm_brine s x _
@[simp] theorem hold_wire (x : Strm) (h : Held) : (s.hold x h).wire = s.wire := setStrm_wire s x _
@[simp] theorem hold_safe (x : Strm) (h : Held) : (s.hold x h).safe = s.safe := setStrm_safe s x _
@[simp] theorem hold_logQueue (x : Strm) (h : Held) : (s.hold x h).logQueue = s.logQueue := setStrm_logQueue s x _
@[simp] theorem hold_img (x : Strm) (h : Held) : (s.hold x h).img = s.img := setStrm_img s x _
@[simp] theorem hold_fuse (x : Strm) (h : Held) : (s.hold x h).fuse = s.fuse := setStrm_fuse s x _
@[simp] theorem hold_mgmt (x : Strm) (h : Held) : (s.hold x h).mgmt = s.mgmt := setStrm_mgmt s x _
@[simp] theorem hold_ho (x : Strm) (h : Held) : (s.hold x h).ho = s.ho := setStrm_ho s x _

/-! `setShadow` writes shadows. -/

@[simp] theorem setShadow_pending (f : Fld) (v : Nat) : (s.setShadow f v).pending = s.pending := rfl
@[simp] theorem setShadow_part (f : Fld) (v : Nat) : (s.setShadow f v).part = s.part := rfl
@[simp] theorem setShadow_halfId (f : Fld) (v : Nat) : (s.setShadow f v).halfId = s.halfId := rfl
@[simp] theorem setShadow_strap (f : Fld) (v : Nat) : (s.setShadow f v).strap = s.strap := rfl
@[simp] theorem setShadow_now (f : Fld) (v : Nat) : (s.setShadow f v).now = s.now := rfl
@[simp] theorem setShadow_cec (f : Fld) (v : Nat) : (s.setShadow f v).cec = s.cec := rfl
@[simp] theorem setShadow_drawn (f : Fld) (v : Nat) : (s.setShadow f v).drawn = s.drawn := rfl
@[simp] theorem setShadow_regs (f : Fld) (v : Nat) : (s.setShadow f v).regs = s.regs := rfl
@[simp] theorem setShadow_tmr1 (f : Fld) (v : Nat) : (s.setShadow f v).tmr1 = s.tmr1 := rfl
@[simp] theorem setShadow_tmr2 (f : Fld) (v : Nat) : (s.setShadow f v).tmr2 = s.tmr2 := rfl
@[simp] theorem setShadow_xmem (f : Fld) (v : Nat) : (s.setShadow f v).xmem = s.xmem := rfl
@[simp] theorem setShadow_ymem0 (f : Fld) (v : Nat) : (s.setShadow f v).ymem0 = s.ymem0 := rfl
@[simp] theorem setShadow_ymem1 (f : Fld) (v : Nat) : (s.setShadow f v).ymem1 = s.ymem1 := rfl
@[simp] theorem setShadow_pm0 (f : Fld) (v : Nat) : (s.setShadow f v).pm0 = s.pm0 := rfl
@[simp] theorem setShadow_pm1 (f : Fld) (v : Nat) : (s.setShadow f v).pm1 = s.pm1 := rfl
@[simp] theorem setShadow_eccs (f : Fld) (v : Nat) : (s.setShadow f v).eccs = s.eccs := rfl
@[simp] theorem setShadow_touched (f : Fld) (v : Nat) : (s.setShadow f v).touched = s.touched := rfl
@[simp] theorem setShadow_mpSram (f : Fld) (v : Nat) : (s.setShadow f v).mpSram = s.mpSram := rfl
@[simp] theorem setShadow_sram (f : Fld) (v : Nat) : (s.setShadow f v).sram = s.sram := rfl
@[simp] theorem setShadow_mram (f : Fld) (v : Nat) : (s.setShadow f v).mram = s.mram := rfl
@[simp] theorem setShadow_keepArea (f : Fld) (v : Nat) : (s.setShadow f v).keepArea = s.keepArea := rfl
@[simp] theorem setShadow_otp (f : Fld) (v : Nat) : (s.setShadow f v).otp = s.otp := rfl
@[simp] theorem setShadow_flash (f : Fld) (v : Nat) : (s.setShadow f v).flash = s.flash := rfl
@[simp] theorem setShadow_autoArm (f : Fld) (v : Nat) : (s.setShadow f v).autoArm = s.autoArm := rfl
@[simp] theorem setShadow_sys (f : Fld) (v : Nat) : (s.setShadow f v).sys = s.sys := rfl
@[simp] theorem setShadow_rake (f : Fld) (v : Nat) : (s.setShadow f v).rake = s.rake := rfl
@[simp] theorem setShadow_fc (f : Fld) (v : Nat) : (s.setShadow f v).fc = s.fc := rfl
@[simp] theorem setShadow_gd (f : Fld) (v : Nat) : (s.setShadow f v).gd = s.gd := rfl
@[simp] theorem setShadow_pwr (f : Fld) (v : Nat) : (s.setShadow f v).pwr = s.pwr := rfl
@[simp] theorem setShadow_chans (f : Fld) (v : Nat) : (s.setShadow f v).chans = s.chans := rfl
@[simp] theorem setShadow_posM (f : Fld) (v : Nat) : (s.setShadow f v).posM = s.posM := rfl
@[simp] theorem setShadow_posPort (f : Fld) (v : Nat) : (s.setShadow f v).posPort = s.posPort := rfl
@[simp] theorem setShadow_posHall (f : Fld) (v : Nat) : (s.setShadow f v).posHall = s.posHall := rfl
@[simp] theorem setShadow_posPartner (f : Fld) (v : Nat) : (s.setShadow f v).posPartner = s.posPartner := rfl
@[simp] theorem setShadow_partnerAt (f : Fld) (v : Nat) : (s.setShadow f v).partnerAt = s.partnerAt := rfl
@[simp] theorem setShadow_afe (f : Fld) (v : Nat) : (s.setShadow f v).afe = s.afe := rfl
@[simp] theorem setShadow_out (f : Fld) (v : Nat) : (s.setShadow f v).out = s.out := rfl
@[simp] theorem setShadow_ce (f : Fld) (v : Nat) : (s.setShadow f v).ce = s.ce := rfl
@[simp] theorem setShadow_net (f : Fld) (v : Nat) : (s.setShadow f v).net = s.net := rfl
@[simp] theorem setShadow_pan (f : Fld) (v : Nat) : (s.setShadow f v).pan = s.pan := rfl
@[simp] theorem setShadow_brine (f : Fld) (v : Nat) : (s.setShadow f v).brine = s.brine := rfl
@[simp] theorem setShadow_wire (f : Fld) (v : Nat) : (s.setShadow f v).wire = s.wire := rfl
@[simp] theorem setShadow_safe (f : Fld) (v : Nat) : (s.setShadow f v).safe = s.safe := rfl
@[simp] theorem setShadow_logQueue (f : Fld) (v : Nat) : (s.setShadow f v).logQueue = s.logQueue := rfl
@[simp] theorem setShadow_img (f : Fld) (v : Nat) : (s.setShadow f v).img = s.img := rfl
@[simp] theorem setShadow_fuse (f : Fld) (v : Nat) : (s.setShadow f v).fuse = s.fuse := rfl
@[simp] theorem setShadow_mgmt (f : Fld) (v : Nat) : (s.setShadow f v).mgmt = s.mgmt := rfl
@[simp] theorem setShadow_ho (f : Fld) (v : Nat) : (s.setShadow f v).ho = s.ho := rfl

/-! `logEvent` writes logQueue. -/

@[simp] theorem logEvent_pending (a b c : Nat) (d : List Byte) : (s.logEvent a b c d).pending = s.pending := rfl
@[simp] theorem logEvent_part (a b c : Nat) (d : List Byte) : (s.logEvent a b c d).part = s.part := rfl
@[simp] theorem logEvent_halfId (a b c : Nat) (d : List Byte) : (s.logEvent a b c d).halfId = s.halfId := rfl
@[simp] theorem logEvent_strap (a b c : Nat) (d : List Byte) : (s.logEvent a b c d).strap = s.strap := rfl
@[simp] theorem logEvent_now (a b c : Nat) (d : List Byte) : (s.logEvent a b c d).now = s.now := rfl
@[simp] theorem logEvent_cec (a b c : Nat) (d : List Byte) : (s.logEvent a b c d).cec = s.cec := rfl
@[simp] theorem logEvent_drawn (a b c : Nat) (d : List Byte) : (s.logEvent a b c d).drawn = s.drawn := rfl
@[simp] theorem logEvent_regs (a b c : Nat) (d : List Byte) : (s.logEvent a b c d).regs = s.regs := rfl
@[simp] theorem logEvent_shadows (a b c : Nat) (d : List Byte) : (s.logEvent a b c d).shadows = s.shadows := rfl
@[simp] theorem logEvent_tmr1 (a b c : Nat) (d : List Byte) : (s.logEvent a b c d).tmr1 = s.tmr1 := rfl
@[simp] theorem logEvent_tmr2 (a b c : Nat) (d : List Byte) : (s.logEvent a b c d).tmr2 = s.tmr2 := rfl
@[simp] theorem logEvent_xmem (a b c : Nat) (d : List Byte) : (s.logEvent a b c d).xmem = s.xmem := rfl
@[simp] theorem logEvent_ymem0 (a b c : Nat) (d : List Byte) : (s.logEvent a b c d).ymem0 = s.ymem0 := rfl
@[simp] theorem logEvent_ymem1 (a b c : Nat) (d : List Byte) : (s.logEvent a b c d).ymem1 = s.ymem1 := rfl
@[simp] theorem logEvent_pm0 (a b c : Nat) (d : List Byte) : (s.logEvent a b c d).pm0 = s.pm0 := rfl
@[simp] theorem logEvent_pm1 (a b c : Nat) (d : List Byte) : (s.logEvent a b c d).pm1 = s.pm1 := rfl
@[simp] theorem logEvent_eccs (a b c : Nat) (d : List Byte) : (s.logEvent a b c d).eccs = s.eccs := rfl
@[simp] theorem logEvent_touched (a b c : Nat) (d : List Byte) : (s.logEvent a b c d).touched = s.touched := rfl
@[simp] theorem logEvent_mpSram (a b c : Nat) (d : List Byte) : (s.logEvent a b c d).mpSram = s.mpSram := rfl
@[simp] theorem logEvent_sram (a b c : Nat) (d : List Byte) : (s.logEvent a b c d).sram = s.sram := rfl
@[simp] theorem logEvent_mram (a b c : Nat) (d : List Byte) : (s.logEvent a b c d).mram = s.mram := rfl
@[simp] theorem logEvent_keepArea (a b c : Nat) (d : List Byte) : (s.logEvent a b c d).keepArea = s.keepArea := rfl
@[simp] theorem logEvent_otp (a b c : Nat) (d : List Byte) : (s.logEvent a b c d).otp = s.otp := rfl
@[simp] theorem logEvent_flash (a b c : Nat) (d : List Byte) : (s.logEvent a b c d).flash = s.flash := rfl
@[simp] theorem logEvent_autoArm (a b c : Nat) (d : List Byte) : (s.logEvent a b c d).autoArm = s.autoArm := rfl
@[simp] theorem logEvent_sys (a b c : Nat) (d : List Byte) : (s.logEvent a b c d).sys = s.sys := rfl
@[simp] theorem logEvent_rake (a b c : Nat) (d : List Byte) : (s.logEvent a b c d).rake = s.rake := rfl
@[simp] theorem logEvent_fc (a b c : Nat) (d : List Byte) : (s.logEvent a b c d).fc = s.fc := rfl
@[simp] theorem logEvent_gd (a b c : Nat) (d : List Byte) : (s.logEvent a b c d).gd = s.gd := rfl
@[simp] theorem logEvent_pwr (a b c : Nat) (d : List Byte) : (s.logEvent a b c d).pwr = s.pwr := rfl
@[simp] theorem logEvent_chans (a b c : Nat) (d : List Byte) : (s.logEvent a b c d).chans = s.chans := rfl
@[simp] theorem logEvent_posM (a b c : Nat) (d : List Byte) : (s.logEvent a b c d).posM = s.posM := rfl
@[simp] theorem logEvent_posPort (a b c : Nat) (d : List Byte) : (s.logEvent a b c d).posPort = s.posPort := rfl
@[simp] theorem logEvent_posHall (a b c : Nat) (d : List Byte) : (s.logEvent a b c d).posHall = s.posHall := rfl
@[simp] theorem logEvent_posPartner (a b c : Nat) (d : List Byte) : (s.logEvent a b c d).posPartner = s.posPartner := rfl
@[simp] theorem logEvent_partnerAt (a b c : Nat) (d : List Byte) : (s.logEvent a b c d).partnerAt = s.partnerAt := rfl
@[simp] theorem logEvent_afe (a b c : Nat) (d : List Byte) : (s.logEvent a b c d).afe = s.afe := rfl
@[simp] theorem logEvent_out (a b c : Nat) (d : List Byte) : (s.logEvent a b c d).out = s.out := rfl
@[simp] theorem logEvent_ce (a b c : Nat) (d : List Byte) : (s.logEvent a b c d).ce = s.ce := rfl
@[simp] theorem logEvent_net (a b c : Nat) (d : List Byte) : (s.logEvent a b c d).net = s.net := rfl
@[simp] theorem logEvent_pan (a b c : Nat) (d : List Byte) : (s.logEvent a b c d).pan = s.pan := rfl
@[simp] theorem logEvent_brine (a b c : Nat) (d : List Byte) : (s.logEvent a b c d).brine = s.brine := rfl
@[simp] theorem logEvent_wire (a b c : Nat) (d : List Byte) : (s.logEvent a b c d).wire = s.wire := rfl
@[simp] theorem logEvent_safe (a b c : Nat) (d : List Byte) : (s.logEvent a b c d).safe = s.safe := rfl
@[simp] theorem logEvent_img (a b c : Nat) (d : List Byte) : (s.logEvent a b c d).img = s.img := rfl
@[simp] theorem logEvent_fuse (a b c : Nat) (d : List Byte) : (s.logEvent a b c d).fuse = s.fuse := rfl
@[simp] theorem logEvent_mgmt (a b c : Nat) (d : List Byte) : (s.logEvent a b c d).mgmt = s.mgmt := rfl
@[simp] theorem logEvent_ho (a b c : Nat) (d : List Byte) : (s.logEvent a b c d).ho = s.ho := rfl

/-! What the updates themselves store. -/

@[simp] theorem setShadow_shadows (f : Fld) (v : Nat) :
    (s.setShadow f v).shadows = store s.shadows (s.rd f) f.key (v % 2 ^ f.width) := rfl
@[simp] theorem setXWord_xmem (a : Nat) (w : Word) : (s.setXWord a w).xmem = s.xmem.setWord 0 a w := rfl
@[simp] theorem advanceTo_now (n : Nat) : (s.advanceTo n).now = s.now + (n - s.cec) := rfl
@[simp] theorem advanceTo_cec (n : Nat) : (s.advanceTo n).cec = max s.cec n := rfl
@[simp] theorem strm_setStrm (x : Strm) (st : Stream) : (s.setStrm x st).strm x = st := by cases x <;> rfl
@[simp] theorem strm_present (x : Strm) (l : Landed) : (s.present x l).strm x = s.strm x := by cases x <;> rfl
@[simp] theorem pc_hold (x : Strm) (h : Held) : ((s.hold x h).strm x).pc = (s.strm x).pc := by cases x <;> rfl
@[simp] theorem t_hold (x : Strm) (h : Held) : ((s.hold x h).strm x).t = (s.strm x).t := by cases x <;> rfl

end Sys2Proof.Laws
end

