-- ==== Sys2Proof/Laws/Engine.lean ====
section
/-! SUPPORT. What the issue of one bundle can do: it is ignored by a stream that may not issue, runs as NOP where it is illegal,
and runs its slots and its control code otherwise; and where results land. -/

namespace Sys2Proof.Laws

open Sys2Proof.Machine Sys2Proof.Safety

/-! ### Issue -/

theorem next_congr {s t u : State} (h : t = u) : completes s t = completes s u := by rw [h]

theorem issue_legal (s : State) (e : Issue) (f : Fetched) (c : Ctl) (h : (ready e s).mayIssue e.strm = true) (hc : f.ctl = .free c)
    (hl : (atIssue e s).illCode e.strm f = 0) :
    s.issue e f = closed e.strm (((atIssue e s).runSlots e.strm (Slot.getOp .nop f.m) (Slot.getOp .nop f.a) (Slot.getOp .nop f.l)).runCtl e.strm c) := by
  unfold atIssue at *
  change (ready e s).issueNow e f = _
  generalize ready e s = r at *
  simp only [State.issueNow, State.issueWith, closed]
  simp [h, hc, hl]

theorem issue_ctl (s : State) (e : Issue) (f : Fetched) (h : (ready e s).mayIssue e.strm = true)
    (hl : (atIssue e s).illCode e.strm f = 0) :
    s.issue e f = closed e.strm (match f.ctl with
        | .free c => ((atIssue e s).runSlots e.strm (Slot.getOp .nop f.m) (Slot.getOp .nop f.a) (Slot.getOp .nop f.l)).runCtl e.strm c
        | .rep =>
          let q := (atIssue e s).goOn e.strm 1 (((atIssue e s).strm e.strm).pc + 1)
          q.setStrm e.strm { q.strm e.strm with rep := f.arg + 1, repNew := true }
        | .ctxrun => if e.strm.isT then ((atIssue e s).ctxRun e.strm f.arg).goOn e.strm 16 (((atIssue e s).strm e.strm).pc + 1) else ((atIssue e s).setFlag CE_STAT.BILL true).goOn e.strm 1 (((atIssue e s).strm e.strm).pc + 1)
        | .compete => if e.strm.isT then ((atIssue e s).compete e.strm f.arg).goOn e.strm 24 (((atIssue e s).strm e.strm).pc + 1) else ((atIssue e s).setFlag CE_STAT.BILL true).goOn e.strm 1 (((atIssue e s).strm e.strm).pc + 1)
        | .halt => (atIssue e s).haltStream e.strm
        | .reserved => (atIssue e s).goOn e.strm 1 (((atIssue e s).strm e.strm).pc + 1)) := by
  unfold atIssue at *
  change (ready e s).issueNow e f = _
  generalize ready e s = r at *
  simp only [State.issueNow, State.issueWith, closed]
  rcases f.ctl <;> simp [h, hl]

theorem issue_ill (s : State) (e : Issue) (f : Fetched) (h : (ready e s).mayIssue e.strm = true)
    (hl : (atIssue e s).illCode e.strm f ≠ 0) : s.issue e f = closed e.strm (let u := atIssue e s
      let st := u.strm e.strm
      ((u.illegal e.strm st.pc (u.illCode e.strm f)).setStrm e.strm
        { st with cache := st.cache.filter fun b => !(b.1 ≤ st.pc && st.pc ≤ b.2) }).goOn e.strm 1 (st.pc + 1)) := by
  unfold atIssue at *
  change (ready e s).issueNow e f = _
  generalize ready e s = r at *
  unfold State.issueNow State.issueWith
  dsimp only
  rw [if_neg (by simp [h]), if_pos hl]
  rfl

theorem run_one (s : State) (e : Issue) (m : MOp) (a : AOp) (l : LOp) (h : (ready e s).mayIssue e.strm = true)
    (hl : (atIssue e s).illCode e.strm (fetchedOps m a l) = 0) :
    s.issue e (fetchedOps m a l) = nextBundle e.strm ((atIssue e s).runSlots e.strm m a l) := by
  rw [issue_legal s e _ .nop h rfl hl]; rfl

/-! ### Legal bundles of one operation -/

theorem legal_m (s : State) (x : Strm) (m : MOp) (h : twice (dNumbers (s.mSlot x m)) = false) :
    s.illCode x (fetchedOps m .nop .nop) = 0 := by
  simp [State.illCode, fetchedOps, Slot.code, Slot.getOp, lowerCode, writesFlags, loopDest, accesses, State.aSlot, State.lSlot,
    SlotOut.empty, dNumbers] at *
  simp [h]

theorem legal_a (s : State) (x : Strm) (m : AOp) (h : twice (dNumbers (s.aSlot x m)) = false) :
    s.illCode x (fetchedOps .nop m .nop) = 0 := by
  simp [State.illCode, fetchedOps, Slot.code, Slot.getOp, lowerCode, writesFlags, loopDest, accesses, State.mSlot, State.lSlot,
    SlotOut.empty, dNumbers] at *
  simp [h]

theorem legal_l (s : State) (x : Strm) (m : LOp) (h : twice (dNumbers (s.lSlot x m)) = false)
    (ha : (accesses m).any (fun p => s.plBad x p.1 p.2) = false) :
    s.illCode x (fetchedOps .nop .nop m) = 0 := by
  simp only [State.illCode, fetchedOps, Slot.code, Slot.getOp, State.mSlot, State.aSlot,
    SlotOut.empty, ha]
  simp only [dNumbers, List.filterMap_nil, List.nil_append] at *
  simp [h, lowerCode, FlagWrite.none_, ctlDests]
  split <;> simp

theorem legal_mem (s : State) (x : Strm) (l : LOp) (p : Nat) (m : PMod) (hp : accesses l = [(p, m)]) (h : s.plBad x p m = false)
    (hd : twice (dNumbers (s.lSlot x l)) = false) : s.illCode x (fetchedOps .nop .nop l) = 0 :=
  legal_l s x l hd (by simp [hp, h])

theorem form0 (s : State) (x : Strm) (f : Fetched) (hm : f.m = .op .nop) (ha : f.a = .op .nop) (hl : f.l = .op .nop)
   (hb : f.badForm = false) (hr : (s.strm x).rep = 0) : s.illCode x f = 0 := by
  simp only [State.illCode, hm, ha, hl, hb, Slot.code, Slot.getOp, State.mSlot, State.aSlot, State.lSlot, SlotOut.empty, writesFlags, loopDest, accesses]
  simp [hr, dNumbers, twice, lowerCode]

/-! ### Held results and flags -/

@[simp] theorem holdFlags_mask (s : State) (x t k) (f : FlagWrite) (c : Bool) : s.holdFlags x t k f (c && f.mask != 0) = s.holdFlags x t k f c := by
  unfold State.holdFlags; split
  · rfl
  · rename_i h; rw [show (f.mask != 0) = true from bne_iff_ne.mpr h, Bool.and_true]

@[simp] theorem holdFlags_masked (s : State) (x t k) (f : FlagWrite) : s.holdFlags x t k f (f.mask != 0) = s.holdFlags x t k f true := by
  simpa using holdFlags_mask s x t k f true

theorem holdFlags_none (s : State) (x t k c) : s.holdFlags x t k ⟨0, 0⟩ c = s := by simp [State.holdFlags]

theorem or_none (f : FlagWrite) : f.or ⟨0,0⟩ = f := by simp [FlagWrite.or]

theorem none_or (f : FlagWrite) : FlagWrite.or ⟨0,0⟩ f = f := by simp [FlagWrite.or]

theorem flagSlot_m (f : FlagWrite) (x t c) (s : State) : s.holdFlags x t (flagSlot f ⟨0,0⟩) f c = s.holdFlags x t 0 f c := by
  unfold flagSlot State.holdFlags; split <;> simp_all

theorem flagSlot_a (f : FlagWrite) (x t c) (s : State) : s.holdFlags x t (flagSlot ⟨0,0⟩ f) f c = s.holdFlags x t 1 f c := by
  unfold flagSlot State.holdFlags; split <;> simp_all

@[simp] theorem pc_holdFlags (s : State) (x : Strm) (t k f c) : ((s.holdFlags x t k f c).strm x).pc = (s.strm x).pc := by
  unfold State.holdFlags; split <;> simp

@[simp] theorem t_holdFlags (s : State) (x : Strm) (t k f c) : ((s.holdFlags x t k f c).strm x).t = (s.strm x).t := by
  unfold State.holdFlags; split <;> simp

theorem pc_post (s : State) (x : Strm) (t : Nat) (p : Nat × Nat × Nat) : ((State.postModify x t s p).strm x).pc = (s.strm x).pc := by
  cases x <;> rfl

theorem landD (s : State) (x : Strm) (h : Held) (n : Nat) (hd : h.dst = .d n) :
      lookup ((State.landOne x s h).strm x).d ⟨0, false⟩ n = ⟨BitVec.ofNat 32 h.val, h.tag⟩ := by
  have e : ((State.landOne x s h).strm x).d = store (s.strm x).d ⟨0, false⟩ n ⟨BitVec.ofNat 32 h.val, h.tag⟩ := by
    unfold State.landOne
    dsimp only
    cases ht : h.twin <;> simp [State.writeDest, hd]
  rw [e, lookup_store]; simp

theorem landTC (s : State) (x : Strm) (h : Held) (b : Bool) (hd : h.dst = .flags flagTC) (hv : h.val = b.toNat) :
      ((State.landOne x s h).flagsOf x).testBit 0 = b := by
  have e : (State.landOne x s h).flagsOf x = FlagWrite.apply ⟨flagTC, b.toNat⟩ (s.flagsOf x) := by
    unfold State.landOne
    dsimp only
    cases x <;> cases ht : h.twin <;> simp [State.writeDest, hd, hv, State.setFlags, State.flagsOf, Strm.isB, State.present]
  rw [e]
  simp only [FlagWrite.apply, flagTC, Nat.testBit_or, Nat.testBit_xor, Nat.testBit_and]
  cases b <;> cases (s.flagsOf x).testBit 0 <;> simp

/-! ### What is a stream's own -/

/-- What only a stream's own part can tell apart. -/
def Own (x : Strm) (s t : State) : Prop :=
  match x with
  | .passA => ∃ st buf, t = { s with ce := { s.ce with a := st, bufA := buf } }
  | .passB => ∃ st buf, t = { s with ce := { s.ce with b := st, bufB := buf } }
  | .bprog => ∃ st, t = { s with ce := { s.ce with p := st } }

theorem own_refl (x : Strm) (s : State) : Own x s s := by cases x <;> first | exact ⟨_, _, rfl⟩ | exact ⟨_, rfl⟩

theorem own_trans {x : Strm} {s t u : State} (h1 : Own x s t) (h2 : Own x t u) : Own x s u := by
  cases x
  · obtain ⟨a, b, rfl⟩ := h1; obtain ⟨c, d, rfl⟩ := h2; exact ⟨c, d, rfl⟩
  · obtain ⟨a, b, rfl⟩ := h1; obtain ⟨c, d, rfl⟩ := h2; exact ⟨c, d, rfl⟩
  · obtain ⟨a, rfl⟩ := h1; obtain ⟨c, rfl⟩ := h2; exact ⟨c, rfl⟩

theorem own_set (x : Strm) (s : State) (st : Stream) : Own x s (s.setStrm x st) := by
  cases x <;> first | exact ⟨_, _, rfl⟩ | exact ⟨_, rfl⟩

theorem own_present (x : Strm) (s : State) (l : Landed) : Own x s (s.present x l) := by
  cases x
  · exact ⟨_, _, rfl⟩
  · exact ⟨_, _, rfl⟩
  · exact own_refl _ _

theorem own_fold {α} (x : Strm) (f : State → α → State) (hf : ∀ s a, Own x s (f s a)) : ∀ (l : List α) (s : State), Own x s (l.foldl f s) := by
  intro l
  induction l with
  | nil => intro s; exact own_refl _ _
  | cons a r ih => intro s; exact own_trans (hf s a) (ih _)

theorem own_post (x : Strm) (t : Nat) (s : State) (p : Nat × Nat × Nat) : Own x s (State.postModify x t s p) :=
  own_trans (own_set x s _) (own_present x _ _)

theorem own_flags (x : Strm) (t k : Nat) (f : FlagWrite) (c : Bool) (s : State) : Own x s (s.holdFlags x t k f c) := by
  unfold State.holdFlags; split
  · exact own_refl _ _
  · exact own_set _ _ _

theorem own_rd (x : Strm) (s t : State) (h : Own x s t) (f : Fld) : t.rd f = s.rd f := by
  cases x
  · obtain ⟨a, b, rfl⟩ := h; rfl
  · obtain ⟨a, b, rfl⟩ := h; rfl
  · obtain ⟨a, rfl⟩ := h; rfl

end Sys2Proof.Laws
end

