-- ==== Sys2Proof/Laws/Registers.lean ====
section
/-! SUPPORT. What a register field reads after a store, and the gates after one is switched. -/

namespace Sys2Proof.Laws

open Sys2Proof.Machine

/-! ### Fields -/

theorem wr_rd_self (s : State) (f : Fld) (v : Nat) : (s.wr f v).rd f = v % 2 ^ f.width := by
  unfold State.wr State.rd
  cases f.cls <;> simp [lookup_store, lookup_erase, voteOf]

theorem wr_rd_ne (s : State) (f g : Fld) (v : Nat) (h : g.key ≠ f.key) : (s.wr f v).rd g = s.rd g := by
  have h1 : ∀ d, lookup (s.wr f v).regs d g.key = lookup s.regs d g.key := by
    intro d
    have aux : ∀ d', lookup (store s.regs d' f.key (v % 2 ^ f.width)) d g.key = lookup s.regs d g.key := by
      intro d'; unfold store; split
      · rw [lookup_erase, if_neg h]
      · rw [lookup_place, if_neg h]
    unfold State.wr; cases f.cls <;> exact aux _
  have h2 : ∀ d, lookup (s.wr f v).tmr1 d g.key = lookup s.tmr1 d g.key := by
    intro d; unfold State.wr; cases f.cls <;> simp [lookup_erase, h]
  have h3 : ∀ d, lookup (s.wr f v).tmr2 d g.key = lookup s.tmr2 d g.key := by
    intro d; unfold State.wr; cases f.cls <;> simp [lookup_erase, h]
  unfold State.rd
  simp only [h1, h2, h3]

theorem rd_triple (s : State) (f : Fld) (h : f.triple = true) :
    s.rd f = voteOf f.reset (s.copies f).1 (s.copies f).2.1 (s.copies f).2.2 := by
  unfold State.rd State.copies
  revert h
  unfold Fld.triple
  cases f.cls <;> simp

theorem wr_copies_self (s : State) (f : Fld) (v : Nat) (h : f.triple = true) (hv : v < 2 ^ f.width) : (s.wr f v).copies f = (v, v, v) := by
  unfold State.wr State.copies
  revert h
  unfold Fld.triple
  cases f.cls <;> simp [lookup_store, lookup_erase, Nat.mod_eq_of_lt hv]

theorem wr_copies_ne (s : State) (f g : Fld) (v : Nat) (hk : f.key ≠ g.key) : (s.wr g v).copies f = s.copies f := by
  have q : ∀ d, lookup (store s.regs g.reset g.key (v % 2 ^ g.width)) d f.key = lookup s.regs d f.key := by
    intro d; unfold store; split
    · rw [lookup_erase, if_neg hk]
    · rw [lookup_place, if_neg hk]
  unfold State.wr State.copies
  cases g.cls <;> simp [q, lookup_erase, hk]

theorem setFlag_flag (s : State) (f : Fld) (b : Bool) (h : 0 < f.width) : (s.setFlag f b).flag f = b := by
  unfold State.setFlag State.flag
  rw [wr_rd_self]
  cases b
  · simp
  · simp [Nat.mod_eq_of_lt (Nat.one_lt_two_pow (by omega : f.width ≠ 0))]

theorem setFlag_flag_ne (s : State) (f g : Fld) (b : Bool) (h : g.key ≠ f.key) : (s.setFlag f b).flag g = s.flag g := by
  unfold State.setFlag State.flag
  rw [wr_rd_ne s f g _ h]

/-! ### Gates -/

theorem gon_key (m m' : Nat) (h : m ≠ m') : (GDM_STAT.GON m).key ≠ (GDM_STAT.GON m').key := by
  simp [GDM_STAT.GON, Fld.key]; omega

def upd (r i : Nat) (b : Bool) : Nat := if b then r ||| 2 ^ i else if r.testBit i then r - 2 ^ i else r

theorem upd_fin : ∀ (r : Fin 64) (i j : Fin 6) (b : Bool), (upd r.val i.val b).testBit j = if j = i then b else r.val.testBit j := by decide +kernel

theorem upd_bit (r i j : Nat) (b : Bool) (hi : i < 6) (hj : j < 6) : (upd r i b % 2 ^ 6).testBit j = if j = i then b else r.testBit j := by
  have h := upd_fin ⟨r % 64, by omega⟩ ⟨i, hi⟩ ⟨j, hj⟩ b
  simp only [Fin.mk.injEq] at h
  have e1 : (r % 64).testBit i = r.testBit i := by rw [show 64 = 2^6 by norm_num, Nat.testBit_mod_two_pow]; simp [hi]
  have e2 : (r % 64).testBit j = r.testBit j := by rw [show 64 = 2^6 by norm_num, Nat.testBit_mod_two_pow]; simp [hj]
  rw [e2] at h
  rw [← h, Nat.testBit_mod_two_pow]
  simp only [hj, decide_true, Bool.true_and]
  unfold upd
  rw [e1]
  cases b
  · simp only [Bool.false_eq_true, if_false]
    by_cases hb : r.testBit i = true
    · simp only [hb, if_true]
      have hle : 2 ^ i ≤ r % 64 := by
        have := Nat.ge_two_pow_of_testBit (e1 ▸ hb : (r % 64).testBit i = true)
        exact this
      have : r - 2 ^ i = 64 * (r / 64) + (r % 64 - 2 ^ i) := by omega
      have hlt : r % 64 - 2^i < 64 := Nat.lt_of_le_of_lt (Nat.sub_le _ _) (Nat.mod_lt _ (by norm_num))
      rw [this, show 64 = 2^6 by norm_num, Nat.testBit_two_pow_mul_add _ (by simpa using hlt)]
      simp [hj]
    · simp only [hb, if_false]; exact e2.symm
  · simp only [if_true, Nat.testBit_or, e2]

theorem setGate_on (s : State) (g h : Nat) (b : Bool) : (s.setGate g b).gateOn h = if h = g then b else s.gateOn h := by
  simp only [State.setGate, State.gateOn, State.bit, State.setBit]
  by_cases hm : h / 6 = g / 6
  · rw [hm, wr_rd_self]
    have := upd_bit (s.rd (GDM_STAT.GON (g / 6))) (g % 6) (h % 6) b (by omega) (by omega)
    unfold upd at this
    rw [show (GDM_STAT.GON (g / 6)).width = 6 from rfl, this]
    by_cases he : h = g
    · simp [he]
    · rw [if_neg he, if_neg (by omega)]
  · rw [wr_rd_ne _ _ _ _ (gon_key _ _ hm), if_neg (by rintro rfl; exact hm rfl)]

end Sys2Proof.Laws
end

