-- ==== Sys2Proof/Laws/Services.lean ====
section
/-! SUPPORT. The mailbox: what a service row does with the request at the head of the queue; and what a step can do. -/

namespace Sys2Proof.Laws

open Sys2Proof.Machine

/-! ### Services -/

theorem drop_known (s : State) (m : MboxReq) (rest : List MboxReq) (h : s.mgmt.queue = m :: rest)
    (hs : services.contains (svcOf m.bytes) = true) : s.dropUnknown s.mgmt.queue = s := by
  rw [h, State.dropUnknown, if_pos hs, ← h]

theorem serve_none (s : State) (svc : Nat) (act) (h : (s.dropUnknown s.mgmt.queue).mgmt.queue = []) :
    s.serve svc act = s.dropUnknown s.mgmt.queue := by
  rw [State.serve]; simp only [h]

theorem serve_head (s : State) (m : MboxReq) (rest : List MboxReq) (svc : Nat) (act)
    (h : (s.dropUnknown s.mgmt.queue).mgmt.queue = m :: rest) :
    s.serve svc act =
      let v : State := { s.dropUnknown s.mgmt.queue with mgmt := { (s.dropUnknown s.mgmt.queue).mgmt with queue := rest } }
      if svcOf m.bytes ≠ svc then s.dropUnknown s.mgmt.queue
      else if !lenOk svc m.bytes then v.answer m.reply svc mbBadLen 0 []
      else if !v.stateOk svc (argsOf m.bytes) then v.answer m.reply svc mbState v.half.code []
      else if !v.writerOk svc m.reply then v.answer m.reply svc mbWriter 0 []
      else act m.reply (argsOf m.bytes) v := by
  rw [State.serve]; simp only [h]

theorem serve_act (s : State) (m : MboxReq) (rest : List MboxReq) (h : (s.dropUnknown s.mgmt.queue).mgmt.queue = m :: rest)
    (svc : Nat) (act)
    (hf : svcOf m.bytes = svc ∧ lenOk svc m.bytes = true
      ∧ ({ s.dropUnknown s.mgmt.queue with mgmt := { (s.dropUnknown s.mgmt.queue).mgmt with queue := rest } } : State).stateOk svc
        (argsOf m.bytes) = true
      ∧ ({ s.dropUnknown s.mgmt.queue with mgmt := { (s.dropUnknown s.mgmt.queue).mgmt with queue := rest } } : State).writerOk svc
        m.reply = true) :
    s.serve svc act = act m.reply (argsOf m.bytes)
      { s.dropUnknown s.mgmt.queue with mgmt := { (s.dropUnknown s.mgmt.queue).mgmt with queue := rest } } := by
  obtain ⟨h1, h2, h3, h4⟩ := hf
  rw [serve_head s m rest svc act h]
  refine (if_neg (by simp [h1])).trans ((if_neg (by simp [h2])).trans ((if_neg ?_).trans (if_neg ?_)))
  · rw [h3]; decide
  · rw [h4]; decide

/-! ### Steps -/

/-- A step idles on an empty queue, and runs the front command on the queue's rest otherwise. -/
theorem step_cases (s : State) : (s.pending = [] ∧ step s = .next { s with now := s.now + 1, cec := s.cec + 1 })
    ∨ ∃ c r, s.pending = c :: r ∧ step s = exec c { s with pending := r } := by
  unfold step
  cases h : s.pending with
  | nil => exact .inl ⟨rfl, by simp [State.passCec, h]⟩
  | cons c r => exact .inr ⟨c, r, rfl, by simp⟩

end Sys2Proof.Laws
end

