-- ==== Sys2Proof/WellFormed.lean ====
section
/-! DEFINITION. Which commands can come: every operand within what the spec's pins, frames, ports and counters can carry. -/

namespace Sys2Proof

/-- A writer code of R93. -/
def writerCode (w : Nat) : Bool :=
  w == 0 || w == 0x20 || w == 0x21 || w == 0x80 || (decide (0x40 ≤ w ∧ w < 0x7F)) || decide (0xC0 ≤ w ∧ w < 0xFF)

/-- Every field of a fabric frame fits its place, and the payload is a multiple of 4 of at most 1,476 bytes (R413, R414). -/
def FabFrame.wf (f : FabFrame) : Bool :=
  decide (f.pcp < 8 ∧ f.ver = 1 ∧ f.typ < 16 ∧ f.src < 128 ∧ f.dst < 128 ∧ f.flow < 256 ∧ f.seq < 65536 ∧ f.reqId < 65536)
    && decide (f.hops < 256 ∧ f.flags < 256 ∧ f.time < 2 ^ 32 ∧ f.alive < 65536 ∧ f.crc < 2 ^ 32 ∧ f.da < 128 ∧ f.sa < 65536)
    && decide (f.payload.length % 4 = 0 ∧ f.payload.length ≤ 1476)

/-- An identifier of 11 or 29 bits, and a data length of CAN FD or of a classical frame (R435). -/
def CanFrame.wf (f : CanFrame) : Bool :=
  decide (f.id < if f.ide then 2 ^ 29 else 2 ^ 11)
    && (decide (f.data.length ≤ 8) || (f.fd && [12, 16, 20, 24, 32, 48, 64].contains f.data.length))

/-- Sequence numbers of 16 bits, and the fields of a vector within theirs (R428). -/
def PtpMsg.wf : PtpMsg → Bool
  | .announce v _ => decide (v.clock.prio1 < 256 ∧ v.clock.prio2 < 256 ∧ v.steps < 65536 ∧ v.port < 65536)
  | .sync seq _ | .followUp seq _ _ | .pdelayReq seq | .pdelayResp seq _ | .pdelayRespFollowUp seq _ => decide (seq < 65536)

/-- A half number and a token of one byte (R397). -/
def TrainSet.wf (x : TrainSet) : Bool := decide (x.half < 2 ∧ x.token < 256)

/-- Every operand is one that the half can meet. -/
def Instr.wf : Instr → Bool
  | .nop _ ctl _ _ _ => decide (ctl = 0 ∨ (12 ≤ ctl.toNat ∧ ctl.toNat < 15))
  | .rep _ _ _ _ => true
  | .ls _ _ _ _ _ => true
  | .le _ _ _ _ _ => true
  | .ler _ _ _ _ _ => true
  | .rot _ _ _ _ => true
  | .pp _ _ _ _ => true
  | .ctxrun _ _ _ _ => true
  | .compete _ _ _ _ => true
  | .halt _ _ _ _ => true
  | .mpy _ _ _ _ _ => true
  | .mpa _ _ _ _ _ => true
  | .mac _ _ _ _ _ => true
  | .msu _ _ _ _ _ => true
  | .mva _ _ _ _ _ => true
  | .lda _ _ _ _ => true
  | .clra _ _ _ => true
  | .adda _ _ _ _ => true
  | .suba _ _ _ _ => true
  | .nega _ _ _ _ => true
  | .muli _ _ _ _ _ => true
  | .add _ _ _ _ _ => true
  | .sub _ _ _ _ _ => true
  | .min _ _ _ _ _ => true
  | .max _ _ _ _ _ => true
  | .sel _ _ _ _ _ => true
  | .cmp _ _ _ _ _ => true
  | .div _ _ _ _ => true
  | .asr _ _ _ _ _ => true
  | .asl _ _ _ _ _ => true
  | .and _ _ _ _ _ => true
  | .or _ _ _ _ _ => true
  | .xor _ _ _ _ _ => true
  | .addi _ _ _ _ _ => true
  | .mov _ _ _ _ => true
  | .neg _ _ _ _ => true
  | .abs _ _ _ _ => true
  | .sin _ _ _ _ => true
  | .cos _ _ _ _ => true
  | .rsqrt _ _ _ => true
  | .not _ _ _ _ => true
  | .ldxy _ _ _ _ _ _ _ => true
  | .ldx _ _ _ _ => true
  | .ldy _ _ _ _ => true
  | .stx _ _ _ _ => true
  | .sty _ _ _ _ => true
  | .ldi _ _ _ _ => true
  | .ldip _ _ _ => true
  | .ldim _ _ => true
  | .mvts _ _ _ => true
  | .mvfs _ _ _ => true
  | .writebackCompare _ _ => true
  | .katVerdict => true
  | .tickBoundary => true
  | .sample codes => codes.all (· < 16384)
  | .conversionComplete c j raw => decide (c < 4 ∧ j < 16 ∧ raw < 16384)
  | .preemptionRequest => true
  | .bProgramStop => true
  | .tProgramStart _ => true
  | .outputCommit => true
  | .bProgramResume => true
  | .angleResolve => true
  | .lockStep _ => true
  | .phaseMeasurement _ => true
  | .holdoverEntry => true
  | .holdoverTimeout => true
  | .hostSpiWrite mosi clocks _ => (mosi.length == clocks / 8 && (mosi.getD 0 0).msb)
  | .hostSpiRead mosi clocks _ ups => (mosi.length == clocks / 8 && !(mosi.getD 0 0).msb && ups.all fun u => decide (u.2.2.1 < 3))
  | .registerWrite w off _ _ => (writerCode w && decide (off < 65536))
  | .idxAddrWrite w _ => writerCode w
  | .idxDataAccess w _ _ => writerCode w
  | .xQueueDrain => true
  | .commit w mask => (writerCode w && decide (mask < 256))
  | .commitSnapshot => true
  | .commitApply => true
  | .discard w mask => writerCode w && decide (mask < 256)
  | .tmrRewrite ups => (ups.all fun u => decide (u.2.2.1 < 3))
  | .porRelease env => (env.jedec.length == 3 && decide (env.gd < 8))
  | .bootTmo => true
  | .reqArmed w => writerCode w
  | .reqStandby w => writerCode w
  | .reqSafe w => writerCode w
  | .reqWatch w => writerCode w
  | .pendingRequest => true
  | .seriesSwitchOpenDelay => true
  | .afeCtrlStop w => writerCode w
  | .afeCtrlRun w => writerCode w
  | .afeOc k _ => decide (k < 9)
  | .calibrationWindow x => (decide (x.short < 16384 ∧ x.ref < 16384) && x.quarter.length == 4 && x.threeQuarter.length == 4)
  | .hostcalTimeout k => decide (k < 9)
  | .encoderRequest => true
  | .encoderWordRelease p _ => decide (p < 3)
  | .hallCodeTaken h code => decide (h < 3 ∧ code < 8)
  | .positionVote => true
  | .sourceDrop m src => decide (m < 3 ∧ src < 3)
  | .posDis m => decide (m < 3)
  | .posOne m => decide (m < 3)
  | .posNone m => decide (m < 3)
  | .readmit w m mask => writerCode w && decide (m < 3 ∧ mask < 8)
  | .sourceReadmitted m src => decide (m < 3 ∧ src < 3)
  | .load m w => (decide (m < 3) && writerCode w)
  | .catchDecision m => decide (m < 3)
  | .brakeSegmentEnd m => decide (m < 3)
  | .refuseShortEnd m => decide (m < 3)
  | .alignEnd m => decide (m < 3)
  | .pauseEnd m => decide (m < 3)
  | .startTimeout m => decide (m < 3)
  | .startHandover m => decide (m < 3)
  | .hstepWrite w m kind dur param => writerCode w && decide (m < 3 ∧ kind < 16 ∧ dur < 4096 ∧ param < 65536)
  | .hstepStepEnd m => decide (m < 3)
  | .fieldLock m => decide (m < 3)
  | .fieldLockHold m => decide (m < 3)
  | .pwmEdge g _ _ => decide (g < 18)
  | .gdHs g => decide (g < 18)
  | .gdXcmd p => decide (p < 9)
  | .gdVds g _ => decide (g < 18)
  | .gdBsuv g _ => decide (g < 18)
  | .bsuvStage => true
  | .gdCp _ => true
  | .gdCut p _ => decide (p < 9)
  | .cutoffForcedOpen p => decide (p < 9)
  | .chopperOn => true
  | .chopperOff => true
  | .gdChot => true
  | .chopperRestEnd => true
  | .gdCho => true
  | .gdChs _ => true
  | .gdOvs => true
  | .gdOvsRelease => true
  | .gdOvabs => true
  | .gdOvabsRelease => true
  | .gdSlvds _ _ => true
  | .sluiceTestEnd _ => true
  | .reactionRelease => true
  | .fcSelf lost => decide (lost < 8)
  | .hostAnswer w seq react => writerCode w && decide (seq < 256 ∧ react < 8)
  | .graceExpiry _ => true
  | .firstClr w => writerCode w
  | .restartEdge _ _ => true
  | .aliveToggle => true
  | .clkMon k _ => decide (k < 2)
  | .mpWdog _ => true
  | .mpLockstep => true
  | .sensorPoll temps => (temps.length == 6)
  | .supplyPoll vals => (vals.length == 12 && vals.all (· < 65536))
  | .peerAliveEdge => true
  | .peerAliveTimeout => true
  | .statusFlowSilent => true
  | .limpRestart w => writerCode w
  | .limpExpiry _ => true
  | .limpRampEnd => true
  | .testPulse k => decide (k < 4)
  | .testPulseSample k low ain _ => (decide (k < 4) && low.length == 6 && ain.length == 12 && ain.all (· < 16384))
  | .ssupRange k _ => decide (k < 4)
  | .sluiceTestRun w => writerCode w
  | .keyWrite w _ => writerCode w
  | .keyTimeout => true
  | .keyCheck => true
  | .unlockLock w => writerCode w
  | .unlockTimeout => true
  | .pwSet w => writerCode w
  | .brineExchange => true
  | .perTickFrameRx _ _ => true
  | .brineRxXwrite => true
  | .brineFrameMissing => true
  | .brineEnable w _ => writerCode w
  | .beacon => true
  | .trainingSetRx lane0 lane1 _ _ => lane0.all TrainSet.wf && lane1.all TrainSet.wf
  | .trainDone => true
  | .trainTimeout => true
  | .retrain w => writerCode w
  | .commandFrameTx code payload => (decide (code < 256) && decide (payload.length ≤ 24))
  | .commandFrameRx _ => true
  | .commandAck _ => true
  | .commandRetryTimeout => true
  | .bulkUnitTx _ bytes => decide (bytes.length ≤ 64)
  | .bulkUnitRx _ _ => true
  | .creditSet _ => true
  | .wakeTx w => writerCode w
  | .frameForward q _ f => (decide (q < 2) && f.wf)
  | .data q _ f => (decide (q < 2) && f.wf)
  | .regReq q _ f _ => (decide (q < 2) && f.wf)
  | .regRsp q _ f => (decide (q < 2) && f.wf)
  | .mboxReq q _ f => (decide (q < 2) && f.wf)
  | .mboxRsp q _ f => (decide (q < 2) && f.wf)
  | .announce q _ f => (decide (q < 2) && f.wf)
  | .ringEvt q _ f => (decide (q < 2) && f.wf)
  | .neighbor q f => decide (q < 2) && f.wf
  | .gptpFrame q domain m => decide (q < 2 ∧ domain < 256) && m.wf
  | .otherEthertype q frame => decide (q < 2 ∧ 64 ≤ frame.length ∧ frame.length ≤ 1522)
  | .neighborLoss p _ => decide (p < 2)
  | .addressHold => true
  | .routeAgeing => true
  | .fabricCycleStart => true
  | .scheduledWindow k => decide (k < 16)
  | .bulkPhaseStart => true
  | .bulkFrameSend p => decide (p < 2)
  | .e2eCheck => true
  | .canFrameRx c _ f _ => decide (c < 2) && f.wf
  | .flowEnable w f => writerCode w && decide (f < 256)
  | .flowDisable w f => writerCode w && decide (f < 256)
  | .plenWrite w f len => writerCode w && decide (f < 256 ∧ len < 8192)
  | .push w f => writerCode w && decide (f < 256)
  | .pop w f => writerCode w && decide (f < 256)
  | .flush w f => writerCode w && decide (f < 256)
  | .clear w f slot => writerCode w && decide (f < 256 ∧ slot < 8)
  | .xDelivery f => decide (f < 256)
  | .watchCycle _ hall raw wake => decide (hall < 8 ∧ raw < 16384) && (wake.map fun x => decide (x.1 < 7)).getD true
  | .wakePin _ => true
  | .canWake c _ _ _ => decide (c < 2)
  | .ethWake p => decide (p < 2)
  | .brineWake _ => true
  | .porAssert => true
  | .ident => true
  | .status => true
  | .logRead => true
  | .logMark => true
  | .sensors => true
  | .flashErase => true
  | .flashWrite _ => true
  | .flashRead => true
  | .verify => true
  | .imgCommit => true
  | .imgRepair => true
  | .longServiceDone _ => true
  | .halfReset => true
  | .updateEnter => true
  | .updateEnd => true
  | .handover => true
  | .provisionKey _ => true
  | .logWrite _ => true
  | .hoReq => true
  | .hoAck => true
  | .hoNak => true
  | .hoRampDone => true
  | .hoOut => true
  | .hoTimeout => true
  | .hoAbort => true
  | .hoBack => true
  | .updNext => true
  | .canFrameTx c k _ => decide (c < 2 ∧ k < 8)
  | .portLinkUp p speed => decide (p < 2 ∧ speed < 3)
  | .gptpSyncLoss => true


end Sys2Proof
end

