-- ==== Sys2Proof/Tests/Slice0.lean ====
section
/-! SUPPORT. Tests: ill-formed commands refused, bundle words bit by bit, one step of commands with results taken from the spec,
and for every statement states and operands that meet what it asks. -/

namespace Sys2Proof.Tests

set_option Elab.async false

open Sys2Proof.Machine Sys2Proof.Safety

/-! ### Small states -/

/-- A state with some fields stored. -/
def fields (l : List (Fld × Nat)) (s : State) : State := l.foldl (fun s p => s.wr p.1 p.2) s

/-- The reset state in a half state at rest, with some fields stored. -/
def inHalf (h : HalfState) (l : List (Fld × Nat)) : State :=
  let s := fields ((PWR_STATE.STATE, h.code) :: (PWR_STATE.BUSY, 0) :: l) State.reset
  { s with pwr := { s.pwr with trans := .idle } }

/-- A half whose Rake runs, with some fields stored. -/
def ticking (l : List (Fld × Nat)) : State :=
  let s := fields ((RAKE_STAT.RUN, 1) :: l) State.reset
  { s with rake := { s.rake with tickLen := 4000 } }

/-- A half whose three streams run. -/
def engine (l : List (Fld × Nat)) : State :=
  let s := ticking l
  { s with ce := { s.ce with a := { s.ce.a with run := true }, b := { s.ce.b with run := true }, p := { s.ce.p with run := true } } }

/-- The engine with the other pass halted, so that the stream may issue in its own time (R252). -/
def alone (x : Strm) (s : State) : State :=
  match x with
  | .passA => { s with ce := { s.ce with b := { s.ce.b with run := false } } }
  | .passB => { s with ce := { s.ce with a := { s.ce.a with run := false } } }
  | .bprog => s

/-- An issue with no error struck. -/
def clean (x : Strm) : Issue := ⟨x, []⟩

/-- A D register of every stream with a word and its tag: D0 of pass A and the program, D31 of pass B (R254). -/
def withD (k : Nat) (v w : Word) (tag : Bool) (s : State) : State :=
  { s with ce := { s.ce with
      a := { s.ce.a with d := place s.ce.a.d k ⟨v, tag⟩ }
      b := { s.ce.b with d := place s.ce.b.d (31 - k) ⟨w, tag⟩ }
      p := { s.ce.p with d := place s.ce.p.d k ⟨v, false⟩ } } }

/-- The state a command leaves. -/
def left (o : Host.Outcome State Fault Refusal) : State :=
  match o with
  | .next t => t
  | _ => State.reset

/-- The state a stream leaves when its results have landed. -/
def landed (x : Strm) (s : State) : State := s.landUpTo x 1000

/-! ### Well-formed and ill-formed commands -/

theorem test_wf_nop : (Instr.nop (clean .passA) 0 0 0 0).wf = true ∧ (Instr.nop (clean .passA) 1 0 0 0).wf = false
    ∧ (Instr.nop (clean .passA) 14 0 0 0).wf = true ∧ (Instr.nop (clean .passA) 15 0 0 0).wf = false := by decide
theorem test_wf_writers : (Instr.reqArmed 0x20).wf = true ∧ (Instr.reqArmed 0x22).wf = false ∧ (Instr.keyWrite 0xFF 0).wf = false
    ∧ (Instr.pwSet 0x7F).wf = false ∧ (Instr.limpRestart 0xC0).wf = true ∧ (Instr.idxAddrWrite 0x81 0).wf = false
    ∧ (Instr.idxDataAccess 0x22 none []).wf = false ∧ (Instr.reqStandby 0x3F).wf = false ∧ (Instr.reqSafe 0x3F).wf = false
    ∧ (Instr.reqWatch 0x3F).wf = false ∧ (Instr.load 3 0).wf = false ∧ (Instr.load 0 0x3F).wf = false := by decide
theorem test_wf_registers : (Instr.registerWrite 0 0x10000 0 []).wf = false ∧ (Instr.registerWrite 0x99 0 0 []).wf = false
    ∧ (Instr.commit 0 256).wf = false ∧ (Instr.commit 0x30 1).wf = false ∧ (Instr.discard 0 256).wf = false
    ∧ (Instr.tmrRewrite [(0, 0, 3, 0)]).wf = false ∧ (Instr.tmrRewrite [(0, 0, 2, 0)]).wf = true := by decide
theorem test_wf_spi : (Instr.hostSpiWrite [0x00, 0, 0, 0] 32 []).wf = false ∧ (Instr.hostSpiWrite [0x80, 0, 0, 0] 40 []).wf = false
    ∧ (Instr.hostSpiWrite [0x80, 0, 0, 0] 39 []).wf = true ∧ (Instr.hostSpiRead [0x80, 0, 0, 0] 32 [] []).wf = false
    ∧ (Instr.hostSpiRead [0x00, 0, 0, 0] 24 [] []).wf = false
    ∧ (Instr.hostSpiRead [0, 0, 0, 0] 32 [] [(0, 0, 3, 0)]).wf = false := by decide
theorem test_wf_front_end : (Instr.sample [16384]).wf = false ∧ (Instr.sample [16383]).wf = true
    ∧ (Instr.conversionComplete 4 0 0).wf = false ∧ (Instr.conversionComplete 0 16 0).wf = false
    ∧ (Instr.conversionComplete 3 15 16384).wf = false ∧ (Instr.conversionComplete 3 15 16383).wf = true := by decide
theorem test_wf_sensors : (Instr.afeOc 9 0).wf = false ∧ (Instr.hostcalTimeout 9).wf = false
    ∧ (Instr.calibrationWindow ⟨16384, 0, [0, 0, 0, 0], [0, 0, 0, 0]⟩).wf = false
    ∧ (Instr.calibrationWindow ⟨0, 0, [0, 0, 0], [0, 0, 0, 0]⟩).wf = false
    ∧ (Instr.encoderWordRelease 3 ⟨true, 0, false, false, 0, false, true⟩).wf = false ∧ (Instr.hallCodeTaken 0 8).wf = false
    ∧ (Instr.hallCodeTaken 3 0).wf = false ∧ (Instr.sourceDrop 0 3).wf = false ∧ (Instr.readmit 0 0 8).wf = false
    ∧ (Instr.sourceReadmitted 3 0).wf = false ∧ (Instr.posDis 3).wf = false ∧ (Instr.posOne 3).wf = false
    ∧ (Instr.posNone 3).wf = false := by decide
theorem test_wf_motors : (Instr.catchDecision 3).wf = false ∧ (Instr.brakeSegmentEnd 3).wf = false ∧ (Instr.refuseShortEnd 3).wf = false
    ∧ (Instr.alignEnd 3).wf = false ∧ (Instr.pauseEnd 3).wf = false ∧ (Instr.startTimeout 3).wf = false
    ∧ (Instr.startHandover 3).wf = false ∧ (Instr.hstepWrite 0 0 16 0 0).wf = false ∧ (Instr.hstepWrite 0 0 0 4096 0).wf = false
    ∧ (Instr.hstepWrite 0x99 0 0 0 0).wf = false ∧ (Instr.hstepStepEnd 3).wf = false ∧ (Instr.fieldLock 3).wf = false
    ∧ (Instr.fieldLockHold 3).wf = false := by decide
theorem test_wf_power_stage : (Instr.pwmEdge 18 0 none).wf = false ∧ (Instr.gdHs 18).wf = false ∧ (Instr.gdXcmd 9).wf = false
    ∧ (Instr.gdVds 18 true).wf = false ∧ (Instr.gdBsuv 18 true).wf = false ∧ (Instr.gdCut 9 true).wf = false
    ∧ (Instr.cutoffForcedOpen 9).wf = false := by decide
theorem test_wf_safety : (Instr.hostAnswer 0 256 0).wf = false ∧ (Instr.hostAnswer 0 0 8).wf = false
    ∧ (Instr.hostAnswer 0x30 0 0).wf = false ∧ (Instr.clkMon 2 true).wf = false ∧ (Instr.sensorPoll [0]).wf = false
    ∧ (Instr.supplyPoll [0]).wf = false ∧ (Instr.supplyPoll (List.replicate 12 65536)).wf = false ∧ (Instr.testPulse 4).wf = false
    ∧ (Instr.testPulseSample 0 [] [] 0).wf = false ∧ (Instr.ssupRange 4 0).wf = false := by decide
theorem test_wf_links : (Instr.brineEnable 0x99 true).wf = false ∧ (Instr.trainingSetRx (some ⟨2, false, 0⟩) none 0 0).wf = false
    ∧ (Instr.trainingSetRx none (some ⟨0, false, 256⟩) 0 0).wf = false ∧ (Instr.trainingSetRx none (some ⟨1, true, 255⟩) 0 0).wf = true
    ∧ (Instr.commandFrameTx 256 []).wf = false ∧ (Instr.commandFrameTx 0 (List.replicate 25 0)).wf = false
    ∧ (Instr.bulkUnitTx true (List.replicate 65 0)).wf = false ∧ (Instr.wakeTx 0x22).wf = false ∧ (Instr.fcSelf 8).wf = false
    ∧ (Instr.firstClr 0x3F).wf = false := by decide
/-- A frame of the fabric with a payload. -/
def frame (typ src dst : Nat) (payload : List Byte) : FabFrame :=
  let f : FabFrame := ⟨0, 1, typ, src, dst, 5, 7, 2, 3, 0, 0, payload, 1, 0, dst % 64, src, true⟩
  { f with crc := e2eCrc f }
theorem test_wf_frames : (Instr.data 0 true (frame 1 2 3 [1, 2, 3, 4])).wf = true ∧ (Instr.data 2 true (frame 1 2 3 [])).wf = false
    ∧ (Instr.regReq 0 true (frame 1 2 3 [1]) []).wf = false ∧ (Instr.frameForward 0 true (frame 16 2 3 [])).wf = false
    ∧ (Instr.announce 0 true (frame 1 128 3 [])).wf = false ∧ (Instr.ringEvt 0 true (frame 1 0 128 [])).wf = false
    ∧ (Instr.canFrameRx 2 [] ⟨true, true, false, 1, []⟩ []).wf = false ∧ (Instr.canFrameRx 0 [] ⟨true, true, false, 2048, []⟩ []).wf = false
    ∧ (Instr.canFrameRx 0 [] ⟨true, true, true, 2048, List.replicate 12 0⟩ []).wf = true
    ∧ (Instr.canFrameRx 0 [] ⟨false, false, true, 2048, List.replicate 12 0⟩ []).wf = false
    ∧ (Instr.canFrameTx 0 8 []).wf = false ∧ (Instr.portLinkUp 0 3).wf = false ∧ (Instr.neighbor 2 (frame 9 2 0 [])).wf = false
    ∧ (Instr.gptpFrame 0 256 (.pdelayReq 1)).wf = false ∧ (Instr.gptpFrame 0 0 (.sync 65536 true)).wf = false
    ∧ (Instr.otherEthertype 2 (List.replicate 64 0)).wf = false ∧ (Instr.otherEthertype 0 (List.replicate 63 0)).wf = false
    ∧ (Instr.neighborLoss 2 true).wf = false
    ∧ (Instr.scheduledWindow 16).wf = false ∧ (Instr.bulkFrameSend 2).wf = false := by decide +kernel
theorem test_wf_flows : (Instr.flowEnable 0 256).wf = false ∧ (Instr.flowDisable 0x99 0).wf = false ∧ (Instr.plenWrite 0 0 8192).wf = false
    ∧ (Instr.push 0 256).wf = false ∧ (Instr.pop 0x7F 0).wf = false ∧ (Instr.flush 0 256).wf = false ∧ (Instr.clear 0 0 8).wf = false
    ∧ (Instr.xDelivery 256).wf = false := by decide
theorem test_wf_power : (Instr.porRelease ⟨7, [0], true, true, [], (0, 0, 0), [], 0, 0, ⟨true, true, true, true, true, true, 6, true, true⟩, false⟩).wf = false
    ∧ (Instr.porRelease ⟨7, [0, 0, 0], true, true, [], (0, 0, 0), [], 8, 0, ⟨true, true, true, true, true, true, 6, true, true⟩, false⟩).wf = false
    ∧ (Instr.watchCycle ⟨true, 0, false, false, 0, false, true⟩ 8 0 none).wf = false
    ∧ (Instr.watchCycle ⟨true, 0, false, false, 0, false, true⟩ 0 16384 none).wf = false
    ∧ (Instr.watchCycle ⟨true, 0, false, false, 0, false, true⟩ 0 0 (some (7, 0))).wf = false ∧ (Instr.canWake 2 0 0 0).wf = false
    ∧ (Instr.ethWake 2).wf = false := by decide

/-! ### Witnesses: the block, registers and memories -/

theorem witness_queue : ({ State.reset with pending := [.firstClr 0, .tickBoundary] } : State).pending = .firstClr 0 :: [.tickBoundary]
    ∧ State.reset.pending = [] := ⟨rfl, rfl⟩
theorem witness_fields : SYS_VOTE.VOTE_LAST.key ≠ SYS_VOTE.VOTE_ERR.key ∧ SYS_VOTE.VOTE_ERR.reset < 2 ^ SYS_VOTE.VOTE_ERR.width
    ∧ (fields [(SYS_VOTE.VOTE_ERR, 65535)] State.reset).rd SYS_VOTE.VOTE_ERR < 2 ^ SYS_VOTE.VOTE_ERR.width
    ∧ (fields [(SYS_VOTE.VOTE_ERR, 65534)] State.reset).rd SYS_VOTE.VOTE_ERR < 2 ^ SYS_VOTE.VOTE_ERR.width := by decide +kernel
theorem witness_triplicated : CE_TR_CFG.TR_N.cls = .tmr ∧ (15 : Nat) < 2 ^ CE_TR_CFG.TR_N.width ∧ (15 : Nat) ≠ 4
    ∧ CE_TR_CFG.TR_N.key ≠ SYS_VOTE.VOTE_ERR.key ∧ CE_TR_CFG.TR_N.key ≠ SYS_VOTE.VOTE_LAST.key := by decide +kernel
theorem witness_memories : (Mem.ofBytes 0 4 [1, 2]).wf 0 = true ∧ (3 < 4 ∨ 4 + 4 ≤ 3) ∧ (8 < 4 ∨ 4 + 4 ≤ 8)
    ∧ (12 < 4 ∨ 4 + 8 ≤ 12) := by decide
theorem witness_x_words : 0x7FFC % 4 = 0 ∧ 0x7FF8 % 4 = 0 ∧ 0x7FFC < 32768 ∧ 0x7FF8 < 32768 ∧ 0x7FF8 ≠ 0x7FFC
    ∧ 0x7FF8 ≠ mirrorOf 0x7FFC := by decide
theorem witness_steps : memoriesWf State.reset = true ∧ (∃ t, step State.reset = .next t)
    ∧ (∃ t, step { State.reset with pending := [.xQueueDrain] } = .next t) := ⟨by decide +kernel, ⟨_, rfl⟩, ⟨_, rfl⟩⟩
theorem witness_identity : blankHash (some (List.replicate 32 (7 : Byte))) = false ∧ blankHash State.reset.fuse.keyHash = true := by
  decide +kernel

/-- A host SPI write frame of one word, with its CRC. -/
def spiWrite : List Byte := let m : List Byte := [0x80, 0x34, 0x04, 0x05, 0, 0, 0, 1]; m ++ [crc8 m, 0, 0]
/-- A host SPI read frame of 32 words, the most a frame carries, with its CRC. -/
def spiRead : List Byte := let m : List Byte := [0x1F, 0x34, 0x00, 0x0F]; m ++ [crc8 m] ++ List.replicate 130 0

/-- A half in STANDBY. -/
def standbyHalf : State := inHalf .standby []
/-- The number of clocks and the CRC of a frame's command. -/
def wholeClocks (m : List Byte) : Nat := 8 * (7 + 4 * ((m.getD 0 0).toNat % 32 + 1))
def goodCrc (m : List Byte) (k : Nat) : Bool := m.getD k 0 == crc8 (m.take k)
def spiOffset (m : List Byte) : Nat := (m.getD 1 0).toNat * 256 + (m.getD 2 0).toNat
/-- A write frame to 0x3405 and a read frame from 0x3401, with their CRCs. -/
def spiWriteOdd : List Byte := let m : List Byte := [0x80, 0x34, 0x05, 0x05, 0, 0, 0, 1]; m ++ [crc8 m, 0, 0]
def spiReadOdd : List Byte := let m : List Byte := [0x00, 0x34, 0x01, 0x0F]; m ++ [crc8 m] ++ List.replicate 6 0

theorem witness_spi : (inHalf .off []).half = .off ∧ (inHalf .standby []).half ≠ .off ∧ 31 < 32 ∧ ([0x80, 0, 0] : List Byte).length < 4
    ∧ 4 ≤ spiWrite.length ∧ (spiWrite.getD 0 0).toNat.testBit 7 = true ∧ wholeClocks spiWrite = 88 ∧ goodCrc spiWrite 8 = true
    ∧ spiOffset spiWrite % 4 = 0 ∧ spiOffset spiWriteOdd % 4 ≠ 0 ∧ goodCrc spiWriteOdd 8 = true ∧ goodCrc (spiWrite.set 7 2) 8 = false
    ∧ 71 < 8 * (8 + 1) ∧ 8 * (8 + 1) ≤ 72 ∧ wholeClocks spiWrite ≠ 72 ∧ wholeClocks spiWrite ≠ 71 := by decide +kernel
theorem witness_spi_reads : ¬(spiRead.getD 0 0).toNat.testBit 7 = true ∧ 8 * spiRead.length = wholeClocks spiRead
    ∧ goodCrc spiRead 4 = true ∧ goodCrc (spiRead.set 3 1) 4 = false ∧ spiOffset spiRead % 4 = 0
    ∧ ¬(spiReadOdd.getD 0 0).toNat.testBit 7 = true ∧ wholeClocks spiReadOdd = 88 ∧ goodCrc spiReadOdd 4 = true
    ∧ spiOffset spiReadOdd % 4 ≠ 0 ∧ wholeClocks spiReadOdd ≠ 40 ∧ wholeClocks spiReadOdd ≠ 41 ∧ (40 : Nat) ≤ 40 ∧ (40 : Nat) < 41
    ∧ goodCrc (spiReadOdd.set 3 1) 4 = false ∧ ([] : List (Nat × Nat × Nat × Nat)).foldl State.upset standbyHalf = standbyHalf := by
  decide +kernel

/-- A half in STANDBY with every domain on. -/
def standby : State := inHalf .standby [(PWR_STATE.DOM_ON, 0xFFF)]

/-- A half whose image lets only the host write. -/
def guarded : State := { standby with img := { standby.img with maskA := 0, maskB := 0 } }
/-- A half in BOOT that still copies. -/
def copying : State := inHalf .boot [(PWR_STATE.DOM_ON, 0xFFF)]

theorem witness_writes : 0x408 ≠ idxDataOff ∧ standby.permitted 0 = true ∧ standby.bootHeld 0 0x408 = false
    ∧ standby.reach 0x408 = fieldsAt 0x408 ∧ (standby.reach 0x408).isSome = true ∧ standby.deadBrine 0x408 = false
    ∧ deadReact 0x408 = false ∧ deadReact (0x2100 + 4 * srcBootTmo) = true ∧ (standby.reach (0x2100 + 4 * srcBootTmo)).isSome = true
    ∧ ({ standby with part := .hx961s } : State).deadBrine 0x2800 = true ∧ (({ standby with part := .hx961s } : State).reach 0x2800).isSome = true
    ∧ standby.reach 0x4000 = none ∧ standby.reach 0x3FFF = none ∧ (inHalf .watch []).reach 0x408 = none
    ∧ copying.permitted 0 = true ∧ copying.bootHeld 0 0x408 = true ∧ guarded.permitted 0x41 = false
    ∧ (((guarded.ignored 0x408).keepSys guarded).reach 0x408).isSome = true
    ∧ (((guarded.ignored 0x4000).keepSys guarded).reach 0x4000) = none
    ∧ (((guarded.ignored 0x3404).keepSys guarded).reach 0x3404).isSome = true ∧ (0x15 : Nat).testBit 4 = true
    ∧ (((guarded.ignored 0x2064).keepSys guarded).reach 0x2064).isSome = true := by
  decide +kernel
theorem witness_indirect : (standby.reach 0x3C00).isSome = true ∧ standby.bootHeld 0 0x3C00 = false
    ∧ (inHalf .watch []).reach 0x3C00 = none ∧ (inHalf .watch []).permitted 0 = true ∧ copying.bootHeld 0 0x3C00 = true
    ∧ (((guarded.ignored 0x3C00).keepSys guarded).reach 0x3C00).isSome = true
    ∧ (standby.reach idxDataOff).isSome = true ∧ standby.bootHeld 0 idxDataOff = false ∧ (inHalf .watch []).reach idxDataOff = none
    ∧ copying.bootHeld 0 idxDataOff = true ∧ (((guarded.ignored idxDataOff).keepSys guarded).reach idxDataOff).isSome = true
    ∧ idxDomain 0x1107FFC = some 3 ∧ idxDomain 0x1108000 = none ∧ idxDomain (fields [(IDX_ADDR.ADDR, 0x440000)] standby).idxAddr = some 3
    ∧ standby.domOn 3 = true ∧ idxDomain 0x2000000 = some 8
    ∧ (let s := fields [(PWR_STATE.DOM_ON, 0xEFF), (IDX_ADDR.ADDR, 0x800000)] standby
      idxDomain s.idxAddr = some 8 ∧ s.domOn 8 = false ∧ (s.reach idxDataOff).isSome = true) := by decide +kernel
theorem witness_coincidence :
    let one (f : Fld) (fs : List Fld) : Bool := (fs.find? fun g => g.lo == f.lo) == some f
    one GD_EVT.CP [GD_EVT.CP] = true ∧ GD_EVT.CP.cls = .w1c ∧ (∃ f : Fld, f.cls = .w1s ∧ one f [f] = true)
    ∧ PWR_WATCH_CNT.WAKE_CNT.cls = .cnt ∧ wrapping PWR_WATCH_CNT.CYC_CNT = true ∧ wrapping CE_TR_CNT.KAT_PASS_CNT = false
    ∧ CE_TR_CNT.KAT_PASS_CNT.cls = .cnt ∧ PWR_STATE.STATE.cls = .ro ∧ GD_TEST.FORCE.cls = .live ∧ CE_TR_CFG.TR_N.cls = .tmr
    ∧ IDX_ADDR.ADDR.cls = .rw := by
  refine ⟨by decide +kernel, by decide +kernel, ⟨⟨0, 0, 1, 0, .w1s⟩, by decide, by decide⟩, ?_⟩; decide +kernel
/-- One word waits for X since CEC 0. -/
def queued (s : State) : State := { s with sys := { s.sys with xQueue := [(8, 5, 0)] } }
theorem witness_x_queue : (queued standby).passCec.mayDrain = true ∧ 0 < (queued standby).passCec.now
    ∧ (queued standby).passCec.now ≤ 1
    ∧ ({ queued (ticking [(RAKE_TSTART.TSTART, 480), (RAKE_OUT.OUT_PHASE, 3600)]) with cec := 1000 } : State).passCec.mayDrain = false := by
  decide +kernel
theorem witness_vote_rewrite : State.reset.tmr1 = [] ∧ State.reset.tmr2 = []
    ∧ ({ State.reset with tmr1 := [(CE_TR_CFG.TR_N.key, 5)] } : State).tmr1 = [(CE_TR_CFG.TR_N.key, 5)]
    ∧ ((fieldsAt (CE_TR_CFG.TR_N.key / 32)).getD []).find? (fun g => g.lo == CE_TR_CFG.TR_N.key % 32) = some CE_TR_CFG.TR_N := by
  decide +kernel
theorem witness_commit : standby.permitted 0 = true ∧ guarded.permitted 0x41 = false ∧ standby.running = false ∧ (ticking []).running = true ∧ ((ticking []).advanceTo 3952).rd SYS_COMMIT.GROUPS = 0
    ∧ ((ticking [(SYS_COMMIT.GROUPS, 255)]).advanceTo 3952).rd SYS_COMMIT.GROUPS ≠ 0
    ∧ ({ ticking [] with sys := { State.reset.sys with snapshot := [(0x408 * 32, 480)] } } : State).sys.snapshot ≠ [] := by
  decide +kernel


/-- Accesses of the fabric and of the MP that wait behind a host SPI frame. -/
def waiting : State := { standby with sys := { standby.sys with waiting := [(0x41, 0x408, none), (0x80, 0x408, none)] } }
theorem witness_waiting : (waiting.sys.waiting.find? fun a => pathOf a.1 == 0) = none
    ∧ (waiting.sys.waiting.find? fun a => pathOf a.1 == 1) = some (0x41, 0x408, none) ∧ waiting.sys.waiting ≠ []
    ∧ standby.sys.waiting = [] ∧ standby.half ≠ .off ∧ (inHalf .off []).half = .off := by decide +kernel
/-- R83: the oldest access of the path is served, and only it. -/
theorem test_serve_path : (waiting.servePath 1).sys.waiting = [(0x80, 0x408, none)] ∧ (waiting.servePath 0).sys.waiting.length = 2 := by
  decide +kernel
theorem witness_not_taken : standby.takesWrite 0 0x408 = true ∧ copying.takesWrite 0 0x408 = false ∧ guarded.takesWrite 0x41 0x408 = false
    ∧ ((copying.ignored 0x408).keepSys copying).reach 0x408 ≠ none
    ∧ (((copying.ignored 0x3FF8).keepSys copying).addrErr.keepSys ((copying.ignored 0x3FF8).keepSys copying)).reach 0x3FF8 = none
    ∧ (((copying.ignored 0x3FF8).keepSys copying).reach 0x3FF8) = none
    ∧ (copying.half = .boot ∧ (0 : Nat) ≠ 0x80 ∧ 0x3FF8 < 0x4000 ∧ ¬(0x3400 ≤ 0x3FF8 ∧ 0x3FF8 < 0x3C00)) := by decide +kernel

/-- Program memory 0 with a header of R186: entries 3, 10 bundles, T_ISSUE 4, its CRC in bundle 2. -/
def withHeader : State :=
  let m := ((State.reset.pm0.setBundle 0 0 0x5052474300030003).setBundle 0 8 0x00040000000A0100)
  { State.reset with pm0 := m.setBundle 0 16 (BitVec.ofNat 64 (crc32c (m.bytes 0 0 16 ++ m.bytes 0 20 4))) }
/-- The same with a wrong CRC. -/
def damaged : State := { withHeader with pm0 := withHeader.pm0.setBundle 0 16 0 }
theorem witness_commit_checks : (fields [(SYS_COMMIT_STAT.MIXED, 2)] State.reset).bit SYS_COMMIT_STAT.MIXED 1 = true
    ∧ State.reset.bit SYS_COMMIT_STAT.MIXED 1 = false ∧ State.reset.groupWriter 1 = 0xFF
    ∧ ((State.reset.bundleAt 0 0).extractLsb' 32 32).toNat ≠ 0x50524743 ∧ ((withHeader.bundleAt 0 0).extractLsb' 32 32).toNat = 0x50524743
    ∧ (255 : Nat).testBit 7 = true := by decide +kernel
/-- R253, R93: no program, a bad header, a good one with too small a budget, and a good one; a reset dead time is too short. -/
theorem test_commit_checks : (State.reset.groupCodes 0x80).contains (7, 0x30) = true ∧ (damaged.groupCodes 0x80).contains (7, 0x31) = true
    ∧ (withHeader.groupCodes 0x80).contains (7, 0x31) = false
    ∧ (fields [(SYS_COMMIT_STAT.MIXED, 2)] State.reset).groupCodes 2 = [(1, 1)] := by decide +kernel
theorem witness_three_way : CE_TR_CFG.TR_N.triple = true ∧ (0 : Nat) ≠ 5 ∧ (0 : Nat) ≠ 15 ∧ (5 : Nat) ≠ 15
    ∧ CE_TR_CFG.TR_N.reset < 2 ^ CE_TR_CFG.TR_N.width ∧ CE_TR_CFG.TR_N.key ≠ SAFE_SET_CRC.SET_CRC.key := by decide +kernel

/-! ### Bundle words, bit by bit from the encoding tables of R230 to R249 -/

/-- R238, R239: opcode 1, S 1, Dd 5, Da 2, Db 4 is MPY; the other two slots are empty. -/
theorem test_word_mpy : decodeBundle (0b0000#4 ++ (0b0001#4 ++ 0b1#1 ++ 0b00101#5 ++ 0b00010#5 ++ 0b00100#5) ++ 0#40)
    = .op (.ops .nop (.mpy true 5 2 4) .nop .nop) := by decide +kernel
/-- R238: formats MV, MC and MA, beside LS1 (R232); the reserved bit 0 of MA set. -/
theorem test_word_accumulators :
    decodeBundle (0b0011#4 ++ (0b0101#4 ++ 0b0#1 ++ 0b00011#5 ++ 0b10#2 ++ 0b01#2 ++ 0b000000#6) ++ 0#40)
      = .op (.ops (.ls true) (.mva false 3 2 1) .nop .nop)
    ∧ decodeM (0b0111#4 ++ 0b0#1 ++ 0b01#2 ++ 0b1#1 ++ 0#12) = .op (.clra 1 true)
    ∧ decodeM (0b1000#4 ++ 0b1#1 ++ 0b01#2 ++ 0b10#2 ++ 0#11) = .op (.adda true 1 2)
    ∧ decodeM (0b1000#4 ++ 0b1#1 ++ 0b01#2 ++ 0b10#2 ++ 1#11) = .ill 0x02 := by decide +kernel
/-- R240, R241, R243: S first, then the opcode; CMP GT; ADDI −16; UNARY ABS; DIV needs S; condition 6 is reserved. -/
theorem test_word_a_slot :
    decodeA (0b1#1 ++ 0b0110#4 ++ 0b00100#5 ++ 0b10000#5 ++ 0b00000#5) = .op (.cmp true .gt 16 0)
    ∧ decodeA (0b0#1 ++ 0b1110#4 ++ 0b00001#5 ++ 0b00010#5 ++ 0b10000#5) = .op (.addi false 1 2 16)
    ∧ decodeA (0b0#1 ++ 0b1010#4 ++ 0b00001#5 ++ 0b00010#5 ++ 0b00010#5) = .op (.abs false 1 2)
    ∧ decodeA (0b0#1 ++ 0b0111#4 ++ 0b00001#5 ++ 0b00010#5 ++ 0b00011#5) = .ill 0x02
    ∧ decodeA (0b1#1 ++ 0b0110#4 ++ 0b00110#5 ++ 0b10000#5 ++ 0b00000#5) = .ill 0x02 := by decide +kernel
/-- R247: LDXY, LDX with +PMn%, a reserved modifier, LDI, LDIP, LDIM of RRB, MVTS of FLAGS, MVFS. -/
theorem test_word_l_slot :
    decodeL (0b11#2 ++ 0b00001#5 ++ 0b00010#5 ++ 0b01#2 ++ 0b10#2 ++ 0b01#2 ++ 0b11#2) = .op (.ldxy 1 2 1 2 .inc .circ)
    ∧ decodeL (0b10#2 ++ 0b00#2 ++ 0b00111#5 ++ 0b101#3 ++ 0b100#3 ++ 0#5) = .op (.ldx 7 5 .circ)
    ∧ decodeL (0b10#2 ++ 0b00#2 ++ 0b00111#5 ++ 0b101#3 ++ 0b101#3 ++ 0#5) = .ill 0x02
    ∧ decodeL (0b01#2 ++ 0b0#1 ++ 0b00011#5 ++ 0b1#1 ++ 0b11111111111#11) = .op (.ldi 3 true 0x7FF)
    ∧ decodeL (0b01#2 ++ 0b10#2 ++ 0b011#3 ++ 0b1000000000001#13) = .op (.ldip 3 0x1001)
    ∧ decodeL (0b00#2 ++ 0b001#3 ++ 0b00100#5 ++ 0b11011#5 ++ 0#5) = .op (.mvts 4 .flags)
    ∧ decodeL (0b00#2 ++ 0b010#3 ++ 0b00100#5 ++ 0b01010#5 ++ 0#5) = .op (.mvfs 4 (.pm 2)) := by decide +kernel
theorem test_table_words : decodeTableWord 32 0 = none ∧ State.reset.withFetchWord 32 0 = State.reset := ⟨rfl, rfl⟩

/-! ### The control engine -/

/-- What a D register of pass A and of pass B reads after a command on D0 = 1/2 and D1 = −1/4, both S (R239, R241). -/
def halves : State := withD 0 0x40000000 0xC0000000 true (withD 1 0xE0000000 0x20000000 true (engine []))
def result (x : Strm) (c : Instr) (k : BitVec 5) (s : State) : Word × Bool :=
  let r := (landed x (left (exec c (alone x s)))).dRead x k
  (r.v, r.s)

theorem test_mpy : result .passA (.mpy (clean .passA) true 2 0 1) 2 halves = (0xF0000000, true)
    ∧ result .passB (.mpy (clean .passB) true 2 0 1) 2 halves = (0x10000000, true) := by decide +kernel
theorem test_mpy_minus_one : result .passA (.mpy (clean .passA) false 2 0 0) 2 (withD 0 0x80000000 0x80000000 false (engine []))
    = (0x80000000, false) := by decide +kernel
theorem test_muli : result .passA (.muli (clean .passA) false 2 0 1) 2 (withD 0 7 7 false (withD 1 6 6 false (engine []))) = (42, false) := by
  decide +kernel
theorem test_add : result .passA (.add (clean .passA) true 2 0 1) 2 halves = (0x20000000, true)
    ∧ result .passB (.add (clean .passB) true 2 0 1) 2 halves = (0xE0000000, true) := by decide +kernel
theorem test_add_saturates : result .passA (.add (clean .passA) true 2 0 0) 2 halves = (0x7FFFFFFF, true)
    ∧ result .passA (.add (clean .passA) false 2 0 0) 2 halves = (0x80000000, true) := by decide +kernel
theorem test_sub : result .passA (.sub (clean .passA) true 2 1 0) 2 halves = (0xA0000000, true) := by decide +kernel
theorem test_min_max : result .passA (.min (clean .passA) true 2 0 1) 2 halves = (0xE0000000, true)
    ∧ result .passB (.min (clean .passB) true 2 0 1) 2 halves = (0x20000000, true)
    ∧ result .passA (.max (clean .passA) true 2 0 1) 2 halves = (0x40000000, true) := by decide +kernel
theorem test_div : result .passA (.div (clean .passA) 2 1 0) 2 halves = (0xC0000000, true)
    ∧ result .passB (.div (clean .passB) 2 1 0) 2 halves = (0x40000000, true)
    ∧ result .passA (.div (clean .passA) 2 1 3) 2 halves = (0x80000001, true) := by decide +kernel
/-- R242: ties to even. -/
theorem test_asr : result .passA (.asr (clean .passA) true 2 0 1) 2 (withD 0 5 5 false (engine [])) = (2, false)
    ∧ result .passA (.asr (clean .passA) true 2 0 1) 2 (withD 0 7 7 false (engine [])) = (4, false) := by decide +kernel
theorem test_asl : result .passA (.asl (clean .passA) true 2 0 1) 2 halves = (0x7FFFFFFF, true)
    ∧ result .passA (.asl (clean .passA) true 2 1 2) 2 halves = (0x80000001, true) := by decide +kernel
theorem test_logic : result .passA (.and (clean .passA) true 2 0 1) 2 (withD 0 12 12 false (withD 1 10 10 false (engine []))) = (8, false)
    ∧ result .passA (.or (clean .passA) true 2 0 1) 2 (withD 0 12 12 false (withD 1 10 10 false (engine []))) = (14, false)
    ∧ result .passA (.xor (clean .passA) true 2 0 1) 2 (withD 0 12 12 false (withD 1 10 10 false (engine []))) = (6, false)
    ∧ result .passA (.not (clean .passA) true 2 0) 2 (withD 0 12 12 false (engine [])) = (0xFFFFFFF3, false)
    ∧ result .passA (.addi (clean .passA) true 2 0 16) 2 (withD 0 12 12 false (engine [])) = (0xFFFFFFFC, false) := by decide +kernel
theorem test_unary : result .passA (.mov (clean .passA) true 2 1) 2 halves = (0xE0000000, true)
    ∧ result .passA (.neg (clean .passA) true 2 1) 2 halves = (0x20000000, true)
    ∧ result .passA (.abs (clean .passA) true 2 1) 2 halves = (0x20000000, true)
    ∧ result .passB (.abs (clean .passB) true 2 1) 2 halves = (0xE0000000, true) := by decide +kernel
/-- R246: a quarter turn is 0x4000_0000; half a turn has sine 0 and cosine −(2³¹ − 1). -/
theorem test_sin_cos : result .passA (.sin (clean .passA) true 2 0) 2 halves = (0x7FFFFFFF, true)
    ∧ result .passA (.cos (clean .passA) true 2 3) 2 halves = (0x7FFFFFFF, false)
    ∧ result .passA (.sin (clean .passA) true 2 0) 2 (withD 0 0x80000000 0x80000000 false (engine [])) = (0, false)
    ∧ result .passA (.cos (clean .passA) true 2 0) 2 (withD 0 0x80000000 0x80000000 false (engine [])) = (0x80000001, false) := by
  decide +kernel
/-- R245: of 2⁻¹⁴ the result is 2⁻¹, and 2⁻¹⁶ and 0 saturate. -/
theorem test_rsqrt : result .passA (.rsqrt (clean .passA) 2 0) 2 (withD 0 0x00020000 0 false (engine [])) = (0x40000000, false)
    ∧ result .passA (.rsqrt (clean .passA) 2 0) 2 (withD 0 0x00008000 0 false (engine [])) = (0x7FFFFFFF, false)
    ∧ result .passA (.rsqrt (clean .passA) 2 3) 2 (engine []) = (0x7FFFFFFF, false) := by decide +kernel
theorem test_cmp : ((landed .passA (left (exec (.cmp (clean .passA) true .gt 0 1) halves))).flagsOf .passA).testBit 0 = true
    ∧ ((landed .passB (left (exec (.cmp (clean .passB) true .gt 0 1) (alone .passB halves)))).flagsOf .passB).testBit 0 = true
    ∧ ((landed .passA (left (exec (.cmp (clean .passA) true .lt 0 1) halves))).flagsOf .passA).testBit 0 = false := by decide +kernel
theorem test_sel : result .passA (.sel (clean .passA) true 2 0 1) 2 halves = (0xE0000000, true) := by decide +kernel
/-- R239: LDA then MVA gives the word back; MAC adds the product. -/
theorem test_accumulate :
    let s := landed .passA (left (exec (.lda (clean .passA) true 1 0) (alone .passA halves)))
    result .passA (.mva (clean .passA) true 2 1 0) 2 s = (0x40000000, true)
    ∧ (let u := landed .passA (left (exec (.mac (clean .passA) true 1 0 1) s))
      result .passA (.mva (clean .passA) true 2 1 0) 2 u = (0x30000000, true))
    ∧ (let u := landed .passA (left (exec (.msu (clean .passA) true 1 0 1) s))
      result .passA (.mva (clean .passA) true 2 1 0) 2 u = (0x50000000, true))
    ∧ (let u := landed .passA (left (exec (.nega (clean .passA) true 2 1) s))
      result .passA (.mva (clean .passA) true 2 2 0) 2 u = (0xC0000000, true)) := by decide +kernel
theorem test_immediates : result .passA (.ldi (clean .passA) 2 false 0x7FF) 2 (engine []) = (0xFFFFFFFF, false)
    ∧ result .passA (.ldi (clean .passA) 2 true 0x400) 2 (engine []) = (0x80000000, false)
    ∧ (landed .passB (left (exec (.ldip (clean .passB) 3 0x10) (alone .passB (engine []))))).pRead .passB 3 = 0x40 := by decide +kernel
/-- R248, R196: pass B reads the mirror and negates. -/
theorem test_loads : let s := (engine []).setXPair 0 0x1234
    result .passA (.ldx (clean .passA) 2 0 .inc) 2 s = (0x1234, true)
    ∧ result .passB (.ldx (clean .passB) 2 0 .inc) 2 s = (0xFFFFEDCC, true)
    ∧ (landed .passA (left (exec (.ldx (clean .passA) 2 0 .inc) s))).pRead .passA 0 = 4
    ∧ result .bprog (.ldy (clean .bprog) 2 0 .stay) 2 s = (0, false) := by decide +kernel
/-- R206: −4 wraps in 16 bits; a circular access wraps at the end of its buffer. -/
theorem test_address_forms : modAddr 0 0 0 .dec = 65532 ∧ modAddr 0x20C 4 0x10 .circ = 0x200 ∧ modAddr 0x200 0xFFFC 0x10 .circ = 0x20C := by
  decide +kernel
/-- R219: LE goes back to the loop start while the counter is not 0. -/
theorem test_loop : let s := engine []
    let s := { s with ce := { s.ce with lc1 := [(0, 2)], a := { s.ce.a with pc := 9, lsa := [(0, 5)] } } }
    (left (exec (.le (clean .passA) false 0 0 0) s)).ce.a.pc = 5
    ∧ (landed .passA (left (exec (.le (clean .passA) false 0 0 0) s))).lcOf .passA 0 = 1 := by decide +kernel
theorem test_rep_halt : (left (exec (.rep (clean .passA) 0 0 7) (engine []))).ce.a.rep = 8
    ∧ (left (exec (.halt (clean .passA) 0 0 0) (engine []))).ce.a.run = false := by decide +kernel
/-- R250: a reserved control code is recorded with code 1 and the pass goes on. -/
theorem test_illegal : (left (exec (.nop (clean .passA) 12 0 0 0) (engine []))).ce.a.pc = 1
    ∧ (engine []).illCode .passA (fetched (nopCode 12) 0 0 0) = 1 := by decide +kernel

/-! ### Witnesses: the control engine -/

theorem witness_may_issue : (ready (clean .passA) (engine [])).mayIssue .passA = true
    ∧ (ready (clean .passB) (alone .passB (engine []))).mayIssue .passB = true ∧ (ready (clean .passB) (engine [])).mayIssue .passB = false
    ∧ (ready (clean .bprog) (engine [])).mayIssue .bprog = true ∧ (ready (clean .passA) (ticking [])).mayIssue .passA = false
    ∧ (ready (clean .passB) (ticking [])).mayIssue .passB = false ∧ (ready (clean .bprog) (ticking [])).mayIssue .bprog = false := by
  decide +kernel
theorem witness_conditions : 6 ≤ (6#5 : BitVec 5).toNat ∧ 6 ≤ (31#5 : BitVec 5).toNat ∧ ¬6 ≤ (5#5 : BitVec 5).toNat := by decide
theorem witness_quotients : ((0 : Int) = 0 ∧ (0 : Int) < 2147483647 ∧ (-2147483648 : Int) < 0 ∧ (-1 : Int) ≠ 0) := by decide
theorem witness_square_roots : ((0 : Int) < 2 ^ 31 ∧ (0 : Int) ≤ 0 ∧ (0 : Int) < 2 ^ 15 ∧ (2 ^ 15 : Int) ≤ 2 ^ 15 ∧ (2 ^ 15 : Int) < 2 ^ 15 + 1
    ∧ (2 ^ 31 - 1 : Int) < 2 ^ 31) := by decide
theorem witness_wrapping : (satW 32 false 2147483647).1 ≠ -2 ^ 31 ∧ (satW 32 false 2147483649).1 ≠ -2 ^ 31
    ∧ (satW 32 false 2147483648).1 = -2 ^ 31 := by decide +kernel
/-- A buffer of 12 bytes stands in 16; one of 4 bytes, and one of the whole of X. -/
theorem witness_circular : (0x208 < 65536 ∧ 4 < 65536 ∧ 4 ≤ 12 ∧ 12 ≤ 32768 ∧ 12 ≤ 2 ^ 4 ∧ (∀ j, j < 4 → 2 ^ j < 12)
      ∧ (signedOf 16 4).natAbs ≤ 12 ∧ 0x208 < 0x208 / 2 ^ 4 * 2 ^ 4 + 12 ∧ 0x208 / 2 ^ 4 * 2 ^ 4 + 12 ≤ 65536)
    ∧ (4 ≤ 2 ^ 2 ∧ (∀ j, j < 2 → 2 ^ j < 4) ∧ (signedOf 16 0xFFFC).natAbs ≤ 4)
    ∧ (32768 ≤ 2 ^ 15 ∧ (∀ j, j < 15 → 2 ^ j < 32768) ∧ 0x8000 / 2 ^ 15 * 2 ^ 15 + 32768 ≤ 65536) := by decide
theorem witness_names : 16 ≤ (16#5 : BitVec 5).toNat ∧ (15#5 : BitVec 5).toNat < 16
    ∧ (atIssue (clean .passB) (engine [])).illCode .passB (fetched (.free .rot) 0 0 0) = 0
    ∧ (⟨3, .d 5, 1, false, none⟩ : Held).dst = .d 5 ∧ (16 ≤ 30 ∧ 30 < 31) := by decide +kernel
/-- A pass with a circular buffer of 16 bytes at P0 and P4. -/
def buffered (x : Strm) : State :=
  let s := engine []
  let p0 := x.pIdx 0
  let p4 := x.pIdx 4
  let st := { s.strm x with pl := place (place [] p0 16) p4 16, pm := place (place [] p0 4) p4 0xFFFC }
  s.setStrm x st
theorem witness_loads : (atIssue (clean .passB) (buffered .passB)).plBad .passB 0 .circ = false
    ∧ (atIssue (clean .passB) (buffered .passB)).plBad .passB 4 .circ = false ∧ (engine []).plBad .passA 7 .dec = false
    ∧ (engine []).plBad .passA 0 .circ = true
    ∧ (atIssue (clean .passB) (buffered .passB)).dName .passB 16 ≠ (atIssue (clean .passB) (buffered .passB)).dName .passB 17 := by
  decide +kernel
theorem witness_control : let s := engine []
    let e := clean .passA
    let ok (c : Ctl) : Prop := (atIssue e s).illCode e.strm (fetched (.free c) (encodeM (.mpy true 1 2 3)) (encodeA (.add true 4 5 6))
      (encodeL (.ldx 7 0 .inc))) = 0
    ok .nop ∧ ok (.ls true) ∧ ok (.le false) ∧ ok (.ler true) ∧ ok .rot ∧ ok .pp ∧ ((atIssue e s).strm e.strm).rep = 0 := by
  decide +kernel
theorem witness_illegal : let s := engine []
    let e := clean .bprog
    (atIssue e s).illCode e.strm (fetched (nopCode 14) 0 0 0) = 1
    ∧ (atIssue e s).illCode e.strm (fetched (.free (.ls false)) 0xF8000 0 0) ≠ 0
    ∧ (atIssue e s).illCode e.strm (fetched (.free (.le true)) 0 0x78000 0) ≠ 0
    ∧ (atIssue e s).illCode e.strm (fetched .halt 0 0 1) ≠ 0
    ∧ ((atIssue e { s with ce := { s.ce with p := { s.ce.p with rep := 2 } } }).strm .bprog).rep ≠ 0 := by decide +kernel
theorem witness_own_streams : (halves.mSlot .passA (.mpy true 2 0 1)).conf = false ∧ (halves.aSlot .passB (.add true 3 0 1)).conf = false
    ∧ (halves.lSlot .passB (.stx 0 0 .inc)).conf = false ∧ (halves.lSlot .passA (.ldx 4 0 .inc)).xmin = false
    ∧ (∃ o, ((fields [(CE_XMAP.BBASE, 0)] halves).lSlot .bprog (.stx 0 0 .inc)).stored = some o ∧ o.kind = 5
      ∧ (fields [(CE_XMAP.BBASE, 0)] halves).inBWindow o.addr = true) := by
  refine ⟨by decide +kernel, by decide +kernel, by decide +kernel, by decide +kernel, ⟨_, rfl, by decide +kernel, by decide +kernel⟩⟩
/-- Twin register sets: D0 and D1 are S-tagged and stand negated in pass B, every word of X is 0. -/
theorem witness_twins : passesTwin halves := by
  refine ⟨rfl, rfl, fun _ => rfl, ?_, ?_, ?_, ?_, fun _ => rfl, fun _ => rfl⟩
  · unfold twinWords; decide +kernel
  · unfold twinWords; decide +kernel
  · unfold twinWords; decide +kernel
  · decide +kernel

/-! ### Witnesses: time redundancy and the tick -/

/-- A writeback of a pass in stream cycle 4, slot 2. -/
def written (kind dest val addr : Nat) (tag : Option Bool) : Landed := ⟨4, ⟨4, 2, kind, dest, false⟩, val, tag, addr, none⟩
/-- The oldest writebacks of both passes. -/
def compared (a b : Landed) : State :=
  let s := ticking []
  { s with ce := { s.ce with bufA := [a], bufB := [b] } }

theorem witness_writebacks :
    let w := written 0 3 5 0 (some false)
    let d := compared w w
    let x := written 5 0 5 0x7FFC none
    let y := written 6 0 5 0x6FFC none
    let n := written 0 3 5 0 (some true)
    let u := written 0 3 (2 ^ 32 - 5) 0 (some true)
    let other := { w with twin := { w.twin with idx := 6 } }
    let alone (l : Landed) : State := let s := ticking []; { s with ce := { s.ce with bufA := [l] } }
    let late (l : Landed) : State := let s := ticking []; { s with ce := { s.ce with bufB := [l] } }
    let pair (s : State) : Option (Option Landed × Option Landed) := s.nextPair.map (·.2)
    pair (ticking []) = none ∧ pair (alone w) = some (some w, none) ∧ pair (late w) = some (none, some w)
    ∧ pair d = some (some w, some w) ∧ d.ce.katRun = false ∧ d.timely 4000 = true ∧ (engine []).timely 4000 = false ∧ sameTwin w other = false
    ∧ agrees w { w with val := w.val ^^^ (0#32).toNat } = true ∧ agrees w { w with val := w.val ^^^ (1#32).toNat } = false
    ∧ d.ce.mism = false ∧ w.eff = none
    ∧ agrees x x = true ∧ x.twin.kind = 5 ∧ agrees y y = true ∧ y.twin.kind = 6 ∧ y.addr < 0x7000
    ∧ agrees n n = false ∧ agrees n u = true ∧ tagOnly n { n with val := 4 } = false
    ∧ tagOnly w { w with tag := some true } = true := by decide +kernel
/-- A half whose known-answer test is open, with the signatures of its passes and the first difference. -/
def tested (a b : Nat) (bad : Option (Nat × Nat)) : State :=
  let s := ticking []
  { s with ce := { s.ce with katOpen := true, katSigA := a, katSigB := b, katBad := bad } }
theorem witness_known_answer :
    let g := Config.katSignature
    (ticking []).ce.katOpen = false ∧ (tested g g none).ce.katOpen = true ∧ (tested g g none).ce.katBad = none
    ∧ (tested g g none).ce.katSigA = g ∧ (tested g g none).ce.katSigB = g ∧ ¬(tested (g + 1) g none).ce.katSigA = g
    ∧ ¬(tested g (g + 1) none).ce.katSigB = g ∧ (tested g g (some (3, 255))).ce.katBad = some (3, 255) :=
  ⟨rfl, rfl, rfl, rfl, rfl, Nat.succ_ne_self _, Nat.succ_ne_self _, rfl⟩
/-- A half with its B-program on its way. -/
def programmed (l : List (Fld × Nat)) : State :=
  let s := ticking l
  { s with ce := { s.ce with p := { s.ce.p with run := true } } }
theorem witness_passes : standbyHalf.running = false ∧ (ticking []).running = true
    ∧ (ticking []).flag RAKE_STAT.KAT_DUE = false ∧ (ticking []).rd RAKE_BUDGET.T_ISSUE = 0
    ∧ (ticking [(RAKE_BUDGET.T_ISSUE, 1)]).rd RAKE_BUDGET.T_ISSUE ≠ 0 ∧ (ticking [(RAKE_STAT.KAT_DUE, 1)]).flag RAKE_STAT.KAT_DUE = true
    ∧ (programmed []).ce.p.run = true ∧ (programmed []).ce.bStopped = false := by decide +kernel
/-- A known-answer test on its way, at its end and before it. -/
def testing (cec : Nat) : State := let s := ticking []; { s with cec := cec, ce := { s.ce with katRun := true, tStart := 480 } }
theorem witness_test_ends : (testing 1000).ce.katRun = true ∧ (testing 1000).ce.tStart + 512 ≤ (testing 1000).cec
    ∧ ¬(testing 600).ce.tStart + 512 ≤ (testing 600).cec ∧ (ticking []).ce.katRun = false ∧ (ticking []).ce.katOpen = false := by decide +kernel
theorem witness_b_program :
    let s := programmed []
    let q : State := { s with ce := { s.ce with bStop := true } }
    let r : State := { s with ce := { s.ce with bStopped := true, tOver := true } }
    (s.ce.p.run = true ∧ s.ce.bStopped = false) ∧ (ticking []).ce.p.run = false
    ∧ (q.ce.bStop = true ∧ (q.ce.p.run = true ∧ q.ce.bStopped = false) ∧ q.ce.p.rep = 0) ∧ s.ce.bStop = false
    ∧ (r.ce.tOver = true ∧ r.ce.bStopped = true) ∧ s.ce.bStopped = false := by decide +kernel
/-- What TICK_BOUNDARY leaves of the transition, in a half at rest, and in one whose sleep entry ends at this boundary. -/
def afterTransition (s : State) : State :=
  let v := ({ s.advanceTo s.rake.tickLen with cec := 0 } : State).countWrap RAKE_TICK_COUNT.TICK_COUNT
  (commitApply ((v.lower srcRegVote 0).lower srcFcSelf 0)).lockBoundaryCounts.cutBoundary.ovsBoundary.reactionBoundary.transitionBoundary
/-- A half at rest that ticks. -/
def resting : State := let s := inHalf .standby [(RAKE_STAT.RUN, 1), (PWR_STATE.DOM_ON, 0xFFF)]; { s with rake := { s.rake with tickLen := 4000 } }
/-- The same half as its sleep entry ends. -/
def falling : State := { resting.wr PWR_STATE.BUSY 1 with pwr := { resting.pwr with trans := .sleepDown } }
theorem witness_boundary : resting.running = true ∧ (afterTransition resting).running = true ∧ standbyHalf.running = false := by
  decide +kernel
theorem witness_boundary_of_sleep : falling.running = true ∧ (afterTransition falling).running = false := by decide +kernel
theorem witness_outputs : (ticking []).out.done = false ∧ (ticking []).running = true ∧ standbyHalf.running = false
    ∧ ({ ticking [] with out := { State.reset.out with done := true } } : State).out.done = true
    ∧ (let u := (engine []).katDone.compareTo 3600
      u.ce.a.run = true ∧ u.ce.b.run = true)
    ∧ (let c := ((ticking [(RAKE_BUDGET.T_ISSUE, 1)]).katDone.compareTo 3600).closeCompare
      c.ce.a.run = false ∧ c.rd RAKE_BUDGET.T_ISSUE ≠ 0 ∧ c.ce.mism = false ∧ c.ce.seen = 0 ∧ c.flag CE_TR_STAT.BROKEN = false
      ∧ c.fc.hold = false)
    ∧ (let s := ticking [(RAKE_BUDGET.T_ISSUE, 1)]
      s.ce.katRun = false ∧ s.ce.a.run = false ∧ s.ce.b.run = false ∧ s.ce.bufA = [] ∧ s.ce.bufB = [] ∧ s.rd RAKE_BUDGET.T_ISSUE ≠ 0
      ∧ s.ce.mism = false ∧ s.ce.seen = 0 ∧ s.flag CE_TR_STAT.BROKEN = false ∧ s.fc.hold = false) := by decide +kernel
/-- A half in tracking with a last error. -/
def tracked (e : Int) : State :=
  let s := ticking [(RAKE_STAT.LOCK_STATE, 2), (RAKE_STAT.LOCK_REF, 1)]
  { s with rake := { s.rake with lastErr := [(e, 0)] } }
theorem witness_lock :
    let gptp := fields [(RAKE_STAT.LOCK_REF, 2)] (tracked 0)
    let heard : State := { tracked 0 with brine := { (tracked 0).brine with peer := some (0, 0) } }
    (tracked 0).running = true ∧ (tracked 0).rd RAKE_STAT.LOCK_REF = 1 ∧ (tracked 0).rake.measured = false
    ∧ (tracked 0).brine.peer = none ∧ heard.brine.peer = some (0, 0) ∧ gptp.rd RAKE_STAT.LOCK_REF = 2
    ∧ wrapPeriod 80000 32767 = 32767 ∧ (32767 : Int) < 32768 ∧ wrapPeriod 80000 32768 = 32768 ∧ wrapPeriod 80000 (-32768) = -32768
    ∧ wrapPeriod 80000 (-32769) < -32768 ∧ (ticking []).rd RAKE_STAT.LOCK_REF = 0 := by decide +kernel
theorem witness_lock_states :
    (let q : State := { tracked 0 with rake := { (tracked 0).rake with noMeas := 4 } };
      4 ≤ q.rake.noMeas ∧ (q.rd RAKE_STAT.LOCK_STATE = 1 ∨ q.rd RAKE_STAT.LOCK_STATE = 2))
    ∧ ¬4 ≤ (tracked 0).rake.noMeas
    ∧ (let q : State := { ticking [(RAKE_STAT.LOCK_STATE, 3)] with now := 400000000 };
      q.rd RAKE_STAT.LOCK_STATE = 3 ∧ q.rake.holdSince + 400000000 ≤ q.now)
    ∧ (tracked 0).rd RAKE_STAT.LOCK_STATE ≠ 3
    ∧ (tracked 5).slotOpen 1500 = true ∧ (tracked 5).slotOpen 4500 = false ∧ ((tracked (-5)).advanceTo 1500).stepWanted 1500 = 1
    ∧ ((tracked 5).advanceTo 1500).stepWanted 1500 = -1 ∧ ((tracked 4).advanceTo 1500).stepWanted 1500 = 0 := by decide +kernel

/-! ### Witnesses: the analog front end -/

/-- A front end that runs, with slots on core 0. -/
def sampling : State := ticking [(AFE_STAT.RUNNING, 1), (AFE_NSLOT.NSLOT0, 5), (AFE_SEQ_A.SLOT0 0, 18), (AFE_SEQ_A.SLOT1 0, 1),
  (AFE_SEQ_A.SLOT2 0, 2), (AFE_SEQ_A.SLOT3 0, 3), (AFE_SEQ_A.SLOT4 0, 4), (AFE_NSLOT.NSLOT1, 1), (AFE_SEQ_A.SLOT0 1, 5),
  (AFE_NSLOT.NSLOT2, 1), (AFE_SEQ_A.SLOT0 2, 6), (AFE_NSLOT.NSLOT3, 1), (AFE_SEQ_A.SLOT0 3, 7)]
/-- The front end after STOP is written 0. -/
def restarted (s : State) : State := (s.setFlag AFE_CTRL.STOP false).showDerived
/-- A comparator whose amplifier has been outside its window. -/
def tripped (l : List (Fld × Nat)) : State := (fields l sampling).setBit AFE_OC_STAT.OC_LIVE 0 true
theorem witness_front_end : sampling.flag AFE_STAT.RUNNING = true ∧ (ticking []).flag AFE_STAT.RUNNING = false ∧ 4 < sampling.nslot 0
    ∧ ¬5 < sampling.nslot 0 ∧ sampling.slotCh 0 0 = 18 ∧ sampling.slotCh 0 4 ≠ 18
    ∧ (let u := sampling.advanceTo (sampling.rd RAKE_TSTART.TSTART - 3)
      [0, 1, 2].filter u.angleMissing = [])
    ∧ (let u := fields [(CE_XMAP.HEN, 1), (CE_MODE.ANG_H, 7), (RAKE_TICK_COUNT.TICK_COUNT, 100)] sampling
      [0, 1, 2].filter (u.advanceTo (u.rd RAKE_TSTART.TSTART - 3)).angleMissing ≠ []) := by decide +kernel
theorem witness_front_end_commands :
    let on := fields [(PWR_STATE.DOM_ON, 0xFFF)] sampling
    sampling.flag AFE_CTRL.STOP = false ∧ sampling.inService = false
    ∧ (inHalf .armed [(GD_SLUICE.HS_CMD, 1), (GD_SLUICE.LS_CMD, 1), (AFE_CTRL.STOP, 0)]).inService = true
    ∧ (inHalf .armed [(AFE_CTRL.STOP, 0)]).flag AFE_CTRL.STOP = false
    ∧ (fields [(AFE_CTRL.STOP, 1)] sampling).flag AFE_CTRL.STOP = true
    ∧ (restarted sampling).seqValid = true ∧ (restarted (fields [(AFE_SEQ_A.SLOT1 0, 18)] sampling)).seqValid = false
    ∧ on.domOn 4 = true ∧ on.comparatorBlank 0 = false ∧ 512 * (on.ocWindow 0).2 < 512 * (on.ocWindow 0).2 + 1
    ∧ ¬(512 * (on.ocWindow 0).2 < 512 * (on.ocWindow 0).2) ∧ 512 * (on.ocWindow 0).1 ≤ 512 * (on.ocWindow 0).2
    ∧ on.bit AFE_OC_STAT.OC_LIVE 0 = false ∧ (tripped []).bit AFE_OC_STAT.OC_LIVE 0 = true
    ∧ (let trip := (on.setBit AFE_OC_STAT.OC 0 true).setBit AFE_OC_STAT.OC_LIVE 0 true
      trip.afe.ocEn.testBit 0 = true ∧ ({ trip with afe := { trip.afe with ocEn := 0 } } : State).afe.ocEn.testBit 0 = false)
    ∧ (fields [(PWR_STATE.DOM_ON, 0)] sampling).domOn 4 = false := by decide +kernel
theorem witness_calibration :
    let s := fields [(AFE_CTRL.CAL_EN, 1), (AFE_CAL_CFG.CAL_EVERY, 1), (AFE_CAL_CFG.CAL_PHASE, 1000), (AFE_AMP_CFG.CAL_EN 1, 1)] sampling
    let s : State := { s with afe := { s.afe with sinceWindow := 1 } }
    let v : State := { s.advanceTo 1000 with afe := { s.afe with sinceWindow := 0 } }
    let w := fields [(AFE_CAL_CFG.CAL_PHASE, 3990)] s
    let x : State := { w.advanceTo 3990 with afe := { s.afe with sinceWindow := 0 } }
    s.flag AFE_CTRL.CAL_EN = true ∧ s.flag AFE_STAT.RUNNING = true ∧ max 1 (s.rd AFE_CAL_CFG.CAL_EVERY) ≤ s.afe.sinceWindow
    ∧ v.calFits = true ∧ v.calAmp = some 1 ∧ x.calFits = false
    ∧ ((List.range 9).foldl (fun s k => s.setFlag (AFE_AMP_CFG.CAL_EN k) false) v).calFits = true ∧ ((List.range 9).foldl (fun s k => s.setFlag (AFE_AMP_CFG.CAL_EN k) false) v).calAmp = none
    ∧ (fields [(AFE_CTRL.CAL_EN, 0)] sampling).flag AFE_CTRL.CAL_EN = false := by decide +kernel
theorem witness_host_offset :
    let s := ticking [(CE_MODE.AFECAL_H, 1), (AFE_HOSTCAL_CFG.HOSTCAL_TMO, 3)]
    let s : State := { s with afe := { s.afe with hostAge := [(8, 3)] } }
    s.flag CE_MODE.AFECAL_H = true ∧ max 1 (s.rd AFE_HOSTCAL_CFG.HOSTCAL_TMO) ≤ lookup s.afe.hostAge 0 8
    ∧ s.afe.hostStale.contains 8 = false ∧ (ticking []).flag CE_MODE.AFECAL_H = false := by decide +kernel

/-! ### Witnesses: power states -/

/-- A half in a state with a transition on its way. -/
def moving (h : HalfState) (b : Transition) : State :=
  let s := inHalf h [(PWR_STATE.BUSY, 1)]
  { s with pwr := { s.pwr with trans := b } }
theorem witness_requests : (inHalf .off []).half = .off ∧ standby.half ≠ .off ∧ standby.permitted 0 = true ∧ guarded.permitted 0x41 = false
    ∧ standby.flag PWR_STATE.BUSY = false ∧ (moving .standby .arming).flag PWR_STATE.BUSY = true ∧ (moving .standby .arming).permitted 0 = true
    ∧ standby.half = .standby ∧ (inHalf .armed []).half = .armed ∧ (inHalf .limp []).half = .limp ∧ (inHalf .safe []).half = .safe
    ∧ (inHalf .safe []).flag PWR_STATE.BUSY = false
    ∧ ((inHalf .safe [(FC_STAT.TOP, 4)]).wr PWR_REQ_STAT.WRITER 0x20).rd FC_STAT.TOP < 5
    ∧ 5 ≤ ((inHalf .safe [(FC_STAT.TOP, 5)]).wr PWR_REQ_STAT.WRITER 0x20).rd FC_STAT.TOP
    ∧ (inHalf .lockout []).half = .lockout ∧ (inHalf .lockout []).flag PWR_STATE.BUSY = false ∧ (inHalf .watch []).half = .watch
    ∧ ((inHalf .watch []).wr PWR_REQ_STAT.WRITER 0).bit PWR_WAKE_EN.EN 1 = true
    ∧ ((inHalf .watch [(PWR_WAKE_EN.EN, 1)]).wr PWR_REQ_STAT.WRITER 0).bit PWR_WAKE_EN.EN 1 = false
    ∧ (moving .standby (.sleeping 1)).pwr.trans.inSleep = true ∧ (moving .armed .toSafe).pwr.trans = .toSafe
    ∧ (moving .standby .arming).pwr.trans.inSleep = false ∧ (moving .standby .arming).pwr.trans ≠ .toSafe := by decide +kernel
/-- What a boot meets where nothing fails, up to a step. -/
def boot (upTo : Nat) : BootEnv :=
  ⟨upTo, [1, 2, 3], true, true, [], (0, 0, 0), [], 0, 0, ⟨true, true, true, true, true, true, 6, true, true⟩, false⟩
theorem witness_start_up : State.reset.half = .boot ∧ (inHalf .off []).half = .off ∧ standby.half ≠ .off ∧ standby.half ≠ .boot
    ∧ standby.half ≠ .selftest ∧ State.reset.rd MGMT_BOOT_STAT.BOOT_PHASE + 1 < (boot 2).upTo
    ∧ (boot 1).upTo ≤ State.reset.rd MGMT_BOOT_STAT.BOOT_PHASE + 1
    ∧ (inHalf .selftest [(PWR_STATE.DOM_ON, 0xFFF)]).half = .selftest
    ∧ ((inHalf .selftest [(PWR_STATE.DOM_ON, 0xFFF)]).atMs 180).domOn 3 = true ∧ (State.reset.atMs 180).domOn 3 = false := by decide +kernel
theorem witness_pending :
    (let s := inHalf .standby [(PWR_STATE.PEND, 1), (PWR_STATE.PEND_TGT, 4)];
      s.flag PWR_STATE.PEND = true ∧ s.flag PWR_STATE.BUSY = false ∧ s.rd PWR_STATE.PEND_TGT = s.rd PWR_STATE.STATE)
    ∧ (let s := inHalf .standby [(PWR_STATE.PEND, 1), (PWR_STATE.PEND_TGT, 5)];
      s.flag PWR_STATE.PEND = true ∧ s.flag PWR_STATE.BUSY = false ∧ s.rd PWR_STATE.PEND_TGT ≠ s.rd PWR_STATE.STATE)
    ∧ standby.flag PWR_STATE.PEND = false ∧ (moving .standby (.disarming 7)).pwr.trans = .disarming 7
    ∧ (moving .standby (.disarming 7)).now < 7 ∧ ({ moving .standby (.disarming 7) with now := 7 } : State).now = 7
    ∧ standby.pwr.trans = .idle := by decide +kernel
theorem witness_off_boots (s : State) : s.beginBoot.half = .boot := by
  simp only [State.beginBoot, State.half]
  change HalfState.ofCode ((State.wr _ SYS_ID.DIE_STEP _).rd PWR_STATE.STATE) = .boot
  rw [Laws.wr_rd_ne _ _ _ _ (by decide)]
  change HalfState.ofCode ((State.wr (State.setDomains _ 7) PWR_STATE.BUSY _).rd PWR_STATE.STATE) = .boot
  rw [Laws.wr_rd_ne _ _ _ _ (by decide)]
  change HalfState.ofCode ((State.wr _ _ _).rd PWR_STATE.STATE) = .boot
  rw [Laws.wr_rd_ne _ _ _ _ (by decide)]
  simp only [State.setHalf]
  rw [if_neg (by simp [show Nat.testBit 7 9 = false from rfl])]
  rw [Laws.wr_rd_self]
  rfl
/-- A half in WATCH that watches Hall triple 0, whose reference is code 5. -/
def watching : State :=
  let s := inHalf .watch [(PWR_WATCH.SRC, 2), (PWR_WATCH.PERIOD, 10)]
  { s with pwr := { s.pwr with reference := some 5 } }
/-- A half in WATCH as WATCH_CYCLE judges its sample. -/
def sampled (s : State) (enc : EncWord) (hall raw : Nat) : State :=
  let x := s.watchSample enc hall raw
  let start := max s.now s.pwr.watchAt
  let known := s.pwr.reference
  let pwr := { s.pwr with
    watchAt := start + max 1 (s.rd PWR_WATCH.PERIOD) * 400000
    reference := if x.2.2.2 = true then known else some (known.getD x.2.2.1) }
  let u := ({ s with now := start + (32 + 10 * max 1 (s.rd PWR_WATCH.SETTLE)) * 400 + x.1, pwr := pwr } : State)
  (u.countWrap PWR_WATCH_CNT.CYC_CNT).wr PWR_WAKE_STAT.LAST x.2.1
/-- A word without a start bit. -/
def noWord : EncWord := ⟨false, 0, true, true, 0, false, true⟩
theorem witness_watch_cycles : watching.half = .watch ∧ watching.rd PWR_WATCH.SRC ≠ 0 ∧ (inHalf .watch []).rd PWR_WATCH.SRC = 0
    ∧ (watching.watchSample noWord 0 0).2.2.2 = true ∧ (watching.watchSample noWord 5 0).2.2.2 = false
    ∧ watching.pwr.reference = some 5 ∧ ({ watching with pwr := { watching.pwr with reference := none } } : State).pwr.reference = none
    ∧ (sampled watching noWord 5 0).watchOutside 5 (watching.watchSample noWord 5 0).2.2.1 = false
    ∧ (sampled watching noWord 1 0).watchOutside 5 (watching.watchSample noWord 1 0).2.2.1 = true := by decide +kernel
theorem witness_wakes : watching.half ≠ .off ∧ (inHalf .off []).half = .off
    ∧ (true = watching.flag PWR_WAKE_EN.WAKE_POL) ∧ (false ≠ watching.flag PWR_WAKE_EN.WAKE_POL)
    ∧ (let c := watching.setBit PWR_WAKE_STAT.CAUSE 0 true
      c.bit PWR_WAKE_EN.EN 0 = true ∧ (c.setBit PWR_WAKE_EN.EN 0 false).bit PWR_WAKE_EN.EN 0 = false ∧ c.half = .watch)
    ∧ (moving .standby (.sleeping 1)).half ≠ .watch ∧ (moving .standby (.sleeping 1)).pwr.trans = .sleeping 1
    ∧ (moving .standby .sleepDown).pwr.trans = .sleepDown ∧ standby.half ≠ .watch ∧ standby.pwr.trans = .idle
    ∧ 1000 + 1000 + 1000 ≤ (inHalf .watch [(PWR_WAKE_EN.CAN_TMO, 8)]).rd PWR_WAKE_EN.CAN_TMO * 100000 ∧ ¬1000 ≤ 999
    ∧ watching.part = .hx962d ∧ ({ watching with part := .hx961s } : State).part = .hx961s ∧ 20 ≤ 20 ∧ 19 < 20 := by decide +kernel

/-- A half whose D0 is off, and the same where only the host may write. -/
def dark : State := inHalf .off [(PWR_STATE.DOM_ON, 0)]
def darkGuarded : State := { dark with img := guarded.img }
theorem witness_request_rows : dark.reach 0x3404 = none ∧ dark.permitted 0 = true ∧ (standby.reach 0x3404).isSome = true
    ∧ (let p := (guarded.ignored 0x3404).keepSys guarded
      (p.reach 0x3404).isSome = true ∧ p.permitted 0x41 = false)
    ∧ (let p := (darkGuarded.ignored 0x3404).keepSys darkGuarded
      darkGuarded.permitted 0x41 = false ∧ p.reach 0x3404 = none ∧ (p.addrErr.keepSys p).reach 0x3404 = none)
    ∧ (inHalf .watch []).permitted 0 = true ∧ (inHalf .watch []).flag PWR_STATE.BUSY = false := by decide +kernel
theorem witness_bootTmo : (let q := (fields [(MGMT_BOOT_STAT.BOOT_PHASE, 4), (PWR_STATE.DOM_ON, 15)] State.reset).atMs 180
      q.rd MGMT_BOOT_STAT.BOOT_PHASE = 4 ∧ q.logBoot.domOn 3 = true)
    ∧ (fields [(MGMT_BOOT_STAT.BOOT_PHASE, 6)] State.reset).rd MGMT_BOOT_STAT.BOOT_PHASE = 6 := by decide +kernel
/-- Another source wakes the half before its sample is judged, within the 12 µs after it, and later (R475). -/
theorem witness_watch_wakes :
    let judged := (32 + 10 * max 1 (watching.rd PWR_WATCH.SETTLE)) * 400 + (watching.watchSample noWord 5 0).1
    0 < judged ∧ judged ≤ judged ∧ judged < judged + 4800 ∧ ¬judged + 4800 < judged + 4800
    ∧ (State.otherWake { fields [(PWR_WAKE_EN.EN, 0)] watching with now := 100 } 0).half = .watch ∧ (sampled watching noWord 5 0).half = .watch := by decide +kernel

/-! ### Witnesses: sensors and motors -/

/-- A half with Hall triple 2 in sector 5 and a word of port 2 on its way. -/
def awaiting (isLate : Bool) (l : List (Fld × Nat)) : State :=
  let s := ticking ([(POS_CTRL.PORT_EN, 4), (POS_HALL_CFG.HEN 2, 1), (POS_HALL_STAT.SECTOR 2, 5)] ++ l ++
    [(SAFE_TPA1.USE, 0x3FFFF), (RAKE_TICK.TICK_PERIOD, 4000)])
  s.setPort 2 { s.port 2 with reqAt := some 7, reqSpan := 900, late := isLate }
/-- A word as its port judges it, and a pulse of the port's supply that has just ended. -/
def atRelease (s : State) : State :=
  ({ s with now := max s.now 907, cec := s.cec + 907 } : State).setBit POS_STAT.BUSY 2 false
def pulsedOn (i : Nat) (s : State) : State := { s with safe := { s.safe with pulseAt := [(s.inputSupply i, s.now)] } }
/-- A good word of the fixed format. -/
def plainWord : EncWord := ⟨true, 0, true, true, 0, false, false⟩
theorem witness_sensor_words :
    let s := awaiting false []
    let u := (atRelease s).setFlag (POS_PORT_LAST.WARN 2) false
    let b := (atRelease (awaiting false [(POS_PORT_CFG.MODE 2, 1)])).setFlag (POS_PORT_LAST.WARN 2) false
    let x : PosWord := ⟨0, 0, 0, 0, .good⟩;
    s.bit POS_CTRL.PORT_EN 2 = true ∧ (s.port 2).reqAt = some 7 ∧ (s.port 2).late = false ∧ ((awaiting true []).port 2).late = true
    ∧ u.pulseMeets 2 (u.rd (POS_PORT_TIM.SETTLE 2)) 7 = false
    ∧ (pulsedOn 2 u).pulseMeets 2 ((pulsedOn 2 u).rd (POS_PORT_TIM.SETTLE 2)) 7 = true
    ∧ u.encCheck 2 plainWord x = 0 ∧ b.encCheck 2 noWord x = 1 ∧ (ticking []).bit POS_CTRL.PORT_EN 2 = false
    ∧ ((ticking []).port 2).reqAt = none := by decide +kernel
theorem witness_hall_codes :
    let s := awaiting false []
    let k := s.setHall 2 { s.hall 2 with known := true };
    s.flag (POS_HALL_CFG.HEN 2) = true ∧ (ticking []).flag (POS_HALL_CFG.HEN 2) = false
    ∧ s.pulseMeets 5 (s.rd (POS_PORT_TIM.SETTLE 2)) s.now = false
    ∧ (pulsedOn 5 s).pulseMeets 5 ((pulsedOn 5 s).rd (POS_PORT_TIM.SETTLE 2)) (pulsedOn 5 s).now = true
    ∧ (s.hall 2).known = false ∧ (k.hall 2).known = true
    ∧ (∃ c : Fin 8, c.val ≠ 0 ∧ c.val ≠ 7 ∧ k.hallSector 2 c.val = 5)
    ∧ (∃ c : Fin 8, c.val ≠ 0 ∧ c.val ≠ 7 ∧ k.hallSector 2 c.val = (5 + 1) % 6)
    ∧ (∃ c : Fin 8, c.val ≠ 0 ∧ c.val ≠ 7 ∧ k.hallSector 2 c.val ≠ (5 + 1) % 6 ∧ 5 = (k.hallSector 2 c.val + 1) % 6)
    ∧ (∃ c : Fin 8, c.val ≠ 0 ∧ c.val ≠ 7 ∧ k.hallSector 2 c.val ≠ 5 ∧ k.hallSector 2 c.val ≠ (5 + 1) % 6
      ∧ 5 ≠ (k.hallSector 2 c.val + 1) % 6) := by decide +kernel
/-- Motor 2 with an encoder, a partner and an observer, and a record of its votes. -/
def voter (p : PosM → PosM) (l : List (Fld × Nat)) : State :=
  let s := ticking ([(POS_SRC.SENS 2, 1), (POS_SRC.PART_EN 2, 1), (POS_SRC.OBS_EN 2, 1), (POS_VOTE.VOTE_M 2, 3), (POS_VOTE.DIS_N 2, 4)] ++ l);
  s.setPos 2 (p (s.pos 2))
theorem witness_votes :
    (let s := voter (fun p => { p with drops := [(2, 3)] }) [];
      s.sourceOn 2 2 = true ∧ s.bit (POS_VSTAT.DROP 2) 2 = false ∧ max 1 (s.rd (POS_VOTE.VOTE_M 2)) ≤ lookup (s.pos 2).drops 0 2
      ∧ ¬max 1 (s.rd (POS_VOTE.VOTE_M 2)) ≤ lookup (s.pos 2).drops 0 1)
    ∧ (let s := voter (fun p => { p with disRun := 4, noneRun := 4, oneRun := 3 }) [];
      max 1 (s.rd (POS_VOTE.DIS_N 2)) ≤ (s.pos 2).disRun ∧ max 1 (s.rd (POS_VOTE.VOTE_M 2)) ≤ (s.pos 2).oneRun ∧ s.voted 2 = true
      ∧ max 1 (s.rd (POS_VOTE.DIS_N 2)) ≤ (s.pos 2).noneRun)
    ∧ (let s := voter id [];
      ¬max 1 (s.rd (POS_VOTE.DIS_N 2)) ≤ (s.pos 2).disRun ∧ ¬max 1 (s.rd (POS_VOTE.VOTE_M 2)) ≤ (s.pos 2).oneRun
      ∧ ¬max 1 (s.rd (POS_VOTE.DIS_N 2)) ≤ (s.pos 2).noneRun ∧ s.sourcesLeft 2 = 3 ∧ s.bit (POS_VSTAT.PEND 2) 1 = false)
    ∧ (voter id [(POS_VSTAT.DROP 2, 6)]).sourcesLeft 2 = 1 ∧ (voter id [(POS_VSTAT.DROP 2, 7)]).sourcesLeft 2 = 0
    ∧ (let s := voter (fun p => { p with goods := [(1, 64)] }) [(POS_VSTAT.DROP 2, 2), (POS_VSTAT.PEND 2, 2)]
      let v := ((s.setBit (POS_VSTAT.PEND 2) 1 false).setBit (POS_CTL.READMIT 2) 1 false).setBit (POS_VSTAT.DROP 2) 1 false;
      s.bit (POS_VSTAT.PEND 2) 1 = true ∧ 64 ≤ lookup (s.pos 2).goods 0 1 ∧ v.rd (POS_VSTAT.DROP 2) = 0)
    ∧ (let s := voter (fun p => { p with goods := [(1, 64)] }) [(POS_VSTAT.DROP 2, 3), (POS_VSTAT.PEND 2, 2)]
      let v := ((s.setBit (POS_VSTAT.PEND 2) 1 false).setBit (POS_CTL.READMIT 2) 1 false).setBit (POS_VSTAT.DROP 2) 1 false;
      v.rd (POS_VSTAT.DROP 2) ≠ 0) := by decide +kernel
/-- Motor 0 in a channel state. -/
def motor (st : Nat) (c : Chan → Chan) (l : List (Fld × Nat)) : State :=
  let s := ticking ((FIELD_STAT.STATE 0, st) :: l);
  s.setChan 0 (c (s.chan 0))
/-- The AFE has written a word for a channel. -/
def withWord (n : Nat) (w : Word) (s : State) : State := { s with afe := { s.afe with wrote := store s.afe.wrote 0 n w } }
/-- Motor 0 at the end of its catch window, sensored or not, at a voted speed. -/
def caught (low sens : Nat) (w : Int) : State :=
  let s := motor chCatch (fun c => { c with timer := 40000 }) [(FIELD_CATCH.CATCH_T 0, 1), (FIELD_CATCH.CATCH_LOW 0, low),
    (POS_SRC.SENS 0, sens)];
  s.setPos 0 { s.pos 0 with omega := w }
/-- The rotor is not slow. -/
def turns (low : Nat) (w : Int) : Bool :=
  let s := caught low 1 w;
  !(s.standstill 0 || decide (((s.catchSpeed 0).natAbs : Int) < (s.rd (FIELD_CATCH.CATCH_LOW 0) : Int) * 65536))
theorem witness_catches :
    let slow := caught 1 0 0
    let still := withWord 18 0x40000000 (caught 0 1 65536)
    let held (s : State) : State := s.wr (FIELD_STAT.CATCH_RES 0) 0;
    slow.chState 0 = chCatch ∧ slow.rd (FIELD_CATCH.CATCH_T 0) * 40000 ≤ (slow.chan 0).timer
    ∧ (withWord 9 0x40000000 slow).peakAboveBus 0 = true ∧ slow.peakAboveBus 0 = false
    ∧ ((slow.catchSpeed 0).natAbs : Int) < (slow.rd (FIELD_CATCH.CATCH_LOW 0) : Int) * 65536
    ∧ still.standstill 0 = true ∧ still.peakAboveBus 0 = false
    ∧ (held slow).sensored 0 = false ∧ (held (caught 1 1 0)).sensored 0 = true
    ∧ turns 1 65536 = true ∧ (0 < (caught 1 1 65536).catchSpeed 0 ↔ ((caught 1 1 65536).chan 0).dir = false)
    ∧ turns 1 (-65536) = true ∧ ¬(0 < (caught 1 1 (-65536)).catchSpeed 0 ↔ ((caught 1 1 (-65536)).chan 0).dir = false)
    ∧ turns 1 65535 = false ∧ turns 0 0 = true ∧ (ticking []).chState 0 ≠ chCatch := by decide +kernel
theorem witness_channel_times :
    (let s := motor chBrake (fun c => { c with timer := 1000000 }) [(FIELD_BRK.BRK_SEG 0, 5)];
      s.chState 0 = chBrake ∧ s.sensored 0 = false ∧ s.brkSeg 0 ≤ (s.chan 0).timer)
    ∧ (let s := motor chRefuse (fun c => { c with timer := 200000, refuseShort := true }) [(FIELD_BRK.BRK_SEG 0, 0)];
      s.chState 0 = chRefuse ∧ (s.chan 0).refuseShort = true ∧ s.brkSeg 0 ≤ (s.chan 0).timer)
    ∧ (let s := motor chAlign (fun c => { c with timer := 400000 }) [(FIELD_ALIGN.ALIGN_T 0, 1)];
      s.chState 0 = chAlign ∧ s.rd (FIELD_ALIGN.ALIGN_T 0) * 400000 ≤ (s.chan 0).timer)
    ∧ (let s := motor chPause (fun c => { c with timer := 50 * 400000 }) [];
      s.chState 0 = chPause ∧ 50 * 400000 ≤ (s.chan 0).timer ∧ (s.chan 0).blockedEn = false)
    ∧ (let s := motor chPause (fun c => { c with timer := 50 * 400000, blockedEn := true }) [];
      50 * 400000 ≤ (s.chan 0).timer ∧ (s.chan 0).blockedEn = true)
    ∧ (let s := ticking [];
      s.chState 0 ≠ chBrake ∧ s.chState 0 ≠ chRefuse ∧ s.chState 0 ≠ chAlign ∧ s.chState 0 ≠ chPause) := by decide +kernel
theorem witness_starts :
    (let s := motor chRamp (fun c => { c with goodTicks := 16 }) [];
      s.handoverDue 0 = true)
    ∧ (let s := motor chRamp (fun c => { c with goodTicks := 15, startOn := true, startTimer := 4000000 }) [(FIELD_HAND.START_TMO 0, 1)];
      s.starting 0 = true ∧ (s.chan 0).startOn = true ∧ s.rd (FIELD_HAND.START_TMO 0) * 10 * 400000 ≤ (s.chan 0).startTimer
      ∧ s.handoverDue 0 = false)
    ∧ (ticking []).starting 0 = false
    ∧ (let s := motor chHstep (fun c => { c with step := some ⟨1, 3, 0⟩, stepTicks := 3, queued := some ⟨2, 1, 0⟩ }) [];
      s.chState 0 = chHstep ∧ (s.chan 0).step = some ⟨1, 3, 0⟩ ∧ max 1 3 ≤ (s.chan 0).stepTicks ∧ 1 ≠ 4
      ∧ (s.chan 0).queued = some ⟨2, 1, 0⟩)
    ∧ (let s := motor chHstep (fun c => { c with step := some ⟨4, 0, 0⟩, stepTicks := 1, goodTicks := 16 }) [];
      (s.chan 0).step = some ⟨4, 0, 0⟩ ∧ max 1 0 ≤ (s.chan 0).stepTicks ∧ (s.chan 0).queued = none ∧ s.handoverDue 0 = true)
    ∧ (motor chHstep (fun c => { c with step := some ⟨4, 0, 0⟩, stepTicks := 1 }) []).handoverDue 0 = false
    ∧ ((ticking []).chan 0).step = none ∧ ¬max 1 0 ≤ ((ticking []).chan 0).stepTicks := by decide +kernel
theorem witness_locked_rotor :
    (let s := motor chRun (fun c => { c with lockTimer := 2 * 400000, lockSeen := 1 }) [(FIELD_CTRL.LOCK_EN 0, 1), (FIELD_LOCK.LOCK_T 0, 1)];
      s.chState 0 = chRun ∧ s.flag (FIELD_CTRL.LOCK_EN 0) = true ∧ (s.chan 0).lockSeen ≤ 1 ∧ (s.chan 0).lockSeen ≠ 0
      ∧ 2 * s.rd (FIELD_LOCK.LOCK_T 0) * 400000 ≤ (s.chan 0).lockTimer)
    ∧ (let s := motor chRun (fun c => { c with lockTimer := 400000 }) [(FIELD_CTRL.LOCK_EN 0, 1), (FIELD_LOCK.LOCK_T 0, 1)];
      (s.chan 0).lockSeen = 0 ∧ s.rd (FIELD_LOCK.LOCK_T 0) * 400000 ≤ (s.chan 0).lockTimer
      ∧ ¬2 * s.rd (FIELD_LOCK.LOCK_T 0) * 400000 ≤ (s.chan 0).lockTimer) := by decide +kernel

/-! ### Witnesses: the power stage -/

/-- Motor 0 modulates: gate 1 is on, and half a period is asked of each phase. -/
def modulating (l : List (Fld × Nat)) : State :=
  let s := inHalf .armed ([(FIELD_STAT.STATE 0, chRun), (GDM_STAT.GON 0, 2), (GDM_DEAD.HS_TMO 0, 5), (GDM_DEAD.DT 0, 200)] ++ l);
  { s with img := { s.img with used := [0] } }
/-- The state in which PWM_EDGE asks whether gate 0 may turn on. -/
def edge (step : Nat) (seen : Option Nat) (s : State) : State :=
  let e := s.advanceTo (step / 8)
  let a := if e.forced 1 = true ∨ e.asked 1 step = true then e else e.setGate 1 seen.isNone
  let gd := { a.gd with
    withheld := a.gd.withheld.filter (· != 0), refused := a.gd.refused.filter (fun x => x != 1 || a.forced 1)
    edgeCode := place (place a.gd.edgeCode 1 (a.slewOf 1)) 0 (a.slewOf 0) }
  { a with gd := gd }
theorem witness_edges : (edge 16000 (some 500) (modulating [])).mayTurnOn 0 16000 = true
    ∧ (edge 16000 none (modulating [])).mayTurnOn 0 16000 = true
    ∧ (edge 16000 (some 500) (modulating [])).handshakeOff 0 = false
    ∧ (edge 16000 (some 500) (modulating [(SYS_CTRL.BENCH_MODE, 1), (GD_BENCH.HS_DIS, 1)])).handshakeOff 0 = true
    ∧ (edge 16000 (some 500) (modulating [(FIELD_STAT.STATE 0, chIdle)])).mayTurnOn 0 16000 = false
    ∧ (let v := edge 16000 (some 500) (modulating []);
      500 ≤ 100 * v.rd (GDM_DEAD.HS_TMO 0) ∧ 100 * v.rd (GDM_DEAD.HS_TMO 0) < 501
      ∧ 2 * 500 ≤ 5 * v.rd (GDM_DEAD.DT 0))
    ∧ 5 * (edge 16000 (some 500) (modulating [(GDM_DEAD.DT 0, 199)])).rd (GDM_DEAD.DT 0) < 2 * 500 := by
  decide +kernel
theorem test_edge : (left (exec (.pwmEdge 0 16000 (some 500)) (modulating []))).gateOn 0 = true
    ∧ (left (exec (.pwmEdge 0 16000 (some 500)) (modulating []))).gateOn 1 = false
    ∧ (left (exec (.pwmEdge 0 16000 (some 501)) (modulating []))).gateOn 0 = false := by decide +kernel
theorem witness_legs : (∀ h, h < 18 → legSafe (modulating []) h = true)
    ∧ ((modulating []).handshakeOff (gateMotor 0) = true ∨ (modulating []).gateOn 0 = true → (none : Option Nat).isSome = true) :=
  ⟨by decide +kernel, by decide +kernel⟩
/-- R280: the outgoing switch stays on while its ideal state lasts; R312: a refusal and R325: a crossing are met once. -/
theorem witness_kept_and_once : (∃ k : Fin 4000, ((modulating []).advanceTo k.val).asked 1 (8 * k.val) = true)
    ∧ (let s : State := { modulating [] with gd := { (modulating []).gd with refused := [0] } }
      0 ∈ phaseGates 0 ∧ 0 ∈ s.gd.refused)
    ∧ (∀ g ∈ phaseGates 0, g ∉ (modulating []).gd.refused)
    ∧ (fields [(GD_STAT.OVABS_ACT, 1)] standby).flag GD_STAT.OVABS_ACT = true ∧ standby.flag GD_STAT.OVABS_ACT = false :=
  ⟨⟨0, by decide +kernel⟩, by decide +kernel⟩
theorem witness_monitors : (modulating []).gateOn 1 = true ∧ (modulating []).gateOn 0 = false
    ∧ (let s := (ticking [(GDM_CUT.CUT_DLY 2, 3)]).setCut 8 ⟨true, some 3⟩;
      (s.cut 8).waiting = some 3 ∧ max 1 (s.rd (GDM_CUT.CUT_DLY (8 / 3))) ≤ 3)
    ∧ (let s := (ticking [(GDM_CUT.CUT_DLY 2, 3)]).setCut 8 ⟨true, some 2⟩;
      (s.cut 8).waiting = some 2 ∧ 2 < max 1 (s.rd (GDM_CUT.CUT_DLY (8 / 3))))
    ∧ ((ticking []).cut 8).waiting = none := by decide +kernel
/-- A chopper, enabled, with what the power stage keeps of it. -/
def chopper (g : Gd → Gd) (l : List (Fld × Nat)) : State :=
  let s := ticking ([(GD_CHOP.CHOP_EN, 1), (GD_CHOP.CHOP_TMAX, 2)] ++ l);
  { s with gd := g s.gd }
theorem witness_chopper :
    (let s := chopper (fun g => { g with test := some ⟨true, true, 2⟩ }) [];
      s.gd.test = some ⟨true, true, 2⟩ ∧ (chopper id []).gd.test = none)
    ∧ (chopper (fun g => { g with test := some ⟨true, false, 2⟩ }) []).gd.test = some ⟨true, false, 2⟩
    ∧ (let s : State := { chopper id [(GD_STAT.CHOP_ON, 1)] with now := 2 * 400000 };
      s.flag GD_STAT.CHOP_ON = true ∧ s.gd.test.isNone = true ∧ max 1 (s.rd GD_CHOP.CHOP_TMAX) * 400000 ≤ s.now - s.gd.chopOnAt
      ∧ s.gd.choSeen = false)
    ∧ (chopper id []).flag GD_STAT.CHOP_ON = false
    ∧ (let s := chopper (fun g => { g with chopRestUntil := some 0 }) [];
      s.gd.chopRestUntil = some 0 ∧ 0 ≤ s.now
      ∧ (({ s with gd := { s.gd with chopRestUntil := none } } : State).lower srcGdChot 0).gd.test.isNone = true)
    ∧ (let s := chopper (fun g => { g with chopRestUntil := some 0, test := some ⟨true, false, 2⟩ }) [];
      (({ s with gd := { s.gd with chopRestUntil := none } } : State).lower srcGdChot 0).gd.test.isNone = false)
    ∧ (let s := chopper (fun g => { g with chopRestUntil := some 1 }) [];
      s.gd.chopRestUntil = some 1 ∧ s.now < 1)
    ∧ (chopper id []).gd.chopRestUntil = none ∧ (chopper (fun g => { g with choSeen := true }) []).gd.choSeen = true := by decide +kernel
theorem witness_overvoltage :
    (let s := chopper (fun g => { g with ovsRun := 3 }) [(GD_OV2.OV_SHORT_N, 3)];
      max 1 (s.rd GD_OV2.OV_SHORT_N) ≤ s.gd.ovsRun ∧ s.flag GD_STAT.OVS_ACT = false)
    ∧ (let s := chopper (fun g => { g with ovRelRun := 4 }) [(GD_OV2.OV_REL, 4), (GD_STAT.OVS_ACT, 1)];
      s.flag GD_STAT.OVS_ACT = true ∧ max 1 (s.rd GD_OV2.OV_REL) ≤ s.gd.ovRelRun)
    ∧ (ticking [(GD_SLUICE.HS_CMD, 1)]).flag GD_SLUICE.HS_CMD = true ∧ (ticking []).flag GD_SLUICE.LS_CMD = false
    ∧ standby.half = .standby ∧ standby.gd.test = none ∧ standby.flag PWR_STATE.BUSY = false ∧ (inHalf .armed []).half ≠ .standby := by
  decide +kernel
/-- A half that has a series-switch test under way, and what it is as the test ends with a measurement. -/
def swTest (y : SluiceTest) (t : Transition) : State :=
  let s := inHalf .standby []
  { s with gd := { s.gd with test := some y }, pwr := { s.pwr with trans := t } }
def swTestOver (y : SluiceTest) (x : SluiceMeas) (s : State) : State :=
  let r := sluiceResult y.aborted x
  let u := ((s.wr GD_SLTEST.RESULT r.1).wr GD_SLTEST.STEP r.2).wr SAFE_SLT.RESULT r.1
  let o := ((u.setFlag SAFE_SLT.RUN false).senseSluice x).openSluice
  State.chopFollow { o with gd := { o.gd with test := none } }
theorem witness_series_test :
    let pass : SluiceMeas := ⟨true, true, false, true, true, true, 6, true, true⟩
    let arming := swTest ⟨true, false, 3⟩ .armTesting
    let host := swTest ⟨false, false, 3⟩ .idle;
    arming.gd.test = some ⟨true, false, 3⟩ ∧ sluiceGoesOn false { pass with stop := 5 } = true ∧ sluiceGoesOn false pass = false
    ∧ sluiceGoesOn true { pass with stop := 3 } = false ∧ (sluiceResult false pass).1 = 0
    ∧ (sluiceResult false { pass with dv5 := false }).1 ≠ 0 ∧ (sluiceResult true { pass with stop := 3 }).1 ≠ 0
    ∧ (swTestOver ⟨true, false, 3⟩ pass arming).pwr.trans = .armTesting
    ∧ host.gd.test = some ⟨false, false, 3⟩ ∧ (swTestOver ⟨true, false, 3⟩ pass host).pwr.trans ≠ .armTesting := by decide +kernel

/-! ### Witnesses: faults and safety functions -/

/-- What REACTION_RELEASE has released below level 5. -/
def released (s : State) : State :=
  let due := s.fc.active.filter s.releaseDue;
  (s.quietRefresh.dropReactions (due.filter fun r => r.level != 4 && r.level < 5)).releaseMotors (due.filter (·.level == 4))
/-- A half that one reaction of level 5 has taken to SAFE. -/
def inSafety (n : Nat) : State :=
  let s := inHalf .safe [(FC_STAT.SAFE, 1), (FC_REC1.REC_MAX, n), (FC_REC0.FC_QUIET, 1)];
  { s with now := 10 * 400000, fc := { s.fc with active := [⟨0x24, 0, 5, 0⟩] } }
theorem witness_release : (released standby).half ≠ .safe ∧ (released (inSafety 1)).half = .safe
    ∧ (let due := (inSafety 1).fc.active.filter (inSafety 1).releaseDue;
      (released (inSafety 1)).fc.active.all ((due.filter fun r => 5 ≤ r.level).contains) = true)
    ∧ (released (inSafety 1)).flag FC_STAT.SAFE = true ∧ (released (inSafety 1)).recoveryBlocked = false
    ∧ (released (inSafety 0)).recoveryBlocked = true := by decide +kernel
theorem witness_host_requests :
    let s := { fields [(FC_HREQ.PEND, 1), (FC_HREQ.SRC, 0x01), (FC_HREQ.SEQ, 9), (CE_MODE.GRACE, 1)] standby with now := 400 }
    let barred : State := { s with img := guarded.img }
    (s.flag FC_HREQ.PEND = true ∧ s.now - s.fc.requestAt ≤ s.rd CE_MODE.GRACE * 400 ∧ s.rd FC_HREQ.SEQ = 9 % 256
      ∧ srcFloor (s.rd FC_HREQ.SRC) ≤ 6 % 8 ∧ 6 % 8 ≤ 6)
    ∧ ¬7 % 8 ≤ 6 ∧ s.takesWrite 0 0x2064 = true ∧ barred.takesWrite 0x41 0x2064 = false
    ∧ (let t := barred.meetWrite 0x41 0x2064
      barred.turnedAway 0x41 0x2064 = true ∧ t.permitted 0x41 = false ∧ (t.reach 0x2064).isSome = true)
    ∧ (dark.takesWrite 0 0x2064 = false ∧ dark.turnedAway 0 0x2064 = false)
    ∧ s.rd CE_MODE.GRACE * 400 ≤ s.now - s.fc.requestAt
    ∧ ¬s.rd CE_MODE.GRACE * 400 ≤ 399 - s.fc.requestAt := by decide +kernel
/-- R361: the latch is cleared while an occurrence of the same CEC waits, and while none does. -/
theorem witness_first_clear :
    let o : Taken := ⟨0x01, 0, 400, 2⟩
    let s : State := { standby with now := 400, fc := { standby.fc with lastReact := [o] } }
    s.takesWrite 0 0x2010 = true ∧ guarded.takesWrite 0x41 0x2010 = false
    ∧ (s.fc.lastReact.filter fun o => o.time == s.now) = [o] ∧ (standby.fc.lastReact.filter fun o => o.time == standby.now) = [] := by
  decide +kernel
theorem witness_fault_monitors :
    let s := inHalf .armed [(RAKE_STAT.RUN, 1), (GD_SLUICE.HS_CMD, 1), (GD_SLUICE.LS_CMD, 1)];
    s.mayToggle = true ∧ (inHalf .armed []).mayToggle = false ∧ (inHalf .off []).half = .off ∧ (inHalf .watch []).half = .watch
    ∧ standby.half ≠ .off ∧ standby.half ≠ .watch := by decide +kernel
/-- What a half has logged as it judges an edge of RESTART, high for 21 ms. -/
def edged (s : State) : State :=
  let v := if s.domOn 3 = true then s.wr FC_RESTART.HIGH_MS 21 else s
  v.logEvent 0x03 deviceWriter 1 (dataOf [(2, 21), (10, 0)])
theorem witness_restart :
    let off := inHalf .lockout [(PWR_STATE.DOM_ON, 0xFFF)]
    let on := inHalf .lockout [(PWR_STATE.DOM_ON, 0xFFF), (RAKE_STAT.RUN, 1)]
    let asked : State := { on with fc := { on.fc with halfReq := some 4 } };
    (inHalf .off []).half = .off ∧ off.half ≠ .off ∧ 21000 ≤ 21000 ∧ 1980000 ≤ 1980000 ∧ ¬19000 < 19000 ∧ 18999 < 19000
    ∧ 2020000 < 2020001 ∧ (edged off).half = .lockout ∧ (edged off).running = false ∧ (edged on).running = true
    ∧ (edged on).half = .lockout ∧ (edged on).fc.halfReq = none ∧ (edged asked).fc.halfReq = some 4
    ∧ (edged (inHalf .bootFail [])).half = .bootFail ∧ (edged standby).half ≠ .lockout ∧ (edged standby).half ≠ .bootFail
    ∧ (edged off).domOn 3 = true ∧ (inHalf .lockout []).domOn 3 = false := by decide +kernel
/-- A half whose partner is watched, and one in an episode of the limp timer. -/
def watched (t : Nat) (l : List (Fld × Nat)) : State :=
  let s := inHalf .limp ([(SAFE_RCFG.PA_EN, 1), (SAFE_RCFG.PA_TMO, 1), (SAFE_RCFG.FAB_N, 2)] ++ l)
  { s with now := t }
def limping (l : List (Fld × Nat)) : State := inHalf .limp ((GD_SLUICE.HS_CMD, 1) :: (GD_SLUICE.LS_CMD, 1) :: (SAFE_RSTAT.LIMP_RUN, 1) :: l)
theorem witness_partner :
    (watched 0 []).part = .hx962d ∧ (watched 0 []).flag SAFE_RCFG.PA_EN = true ∧ standby.flag SAFE_RCFG.PA_EN = false
    ∧ (watched 4000000 []).rd SAFE_RCFG.PA_TMO * 10 * 400 ≤ (watched 4000000 []).now - (watched 4000000 []).safe.edgeAt
    ∧ ¬(watched 0 []).rd SAFE_RCFG.PA_TMO * 10 * 400 ≤ (watched 0 []).now - (watched 0 []).safe.edgeAt
    ∧ (let s := watched 0 []
      let old : State := { s with safe := { s.safe with recAge := 2 } };
      max 1 (old.rd SAFE_RCFG.FAB_N) ≤ old.safe.recAge ∧ ¬max 1 (s.rd SAFE_RCFG.FAB_N) ≤ s.safe.recAge) := by decide +kernel
theorem witness_limp :
    let on_ := fields [(PWR_STATE.DOM_ON, 0xFFF)] (limping [(LIMP_TIMER.RUN, 1)])
    let spent := fields [(LIMP_TIMER.USED, 1)] on_
    let over_ := fields [(LIMP_TIMER.RAMP_ON, 1), (LIMP_TIMER.EXPIRED, 1)] on_;
    on_.takesWrite 0 0x2410 = true ∧ guarded.takesWrite 0x41 0x2410 = false
    ∧ (on_.flag LIMP_TIMER.RUN || on_.flag LIMP_TIMER.EXPIRED) = true ∧ (standby.flag LIMP_TIMER.RUN || standby.flag LIMP_TIMER.EXPIRED) = false
    ∧ (spent.flag LIMP_TIMER.USED || spent.flag LIMP_TIMER.EXPIRED) = true
    ∧ (over_.flag LIMP_TIMER.USED || over_.flag LIMP_TIMER.EXPIRED) = true
    ∧ (on_.flag LIMP_TIMER.USED || on_.flag LIMP_TIMER.EXPIRED) = false
    ∧ (on_.flag LIMP_TIMER.RUN = true ∧ on_.rd LIMP_TIMER.LEFT = 0 ∧ on_.flag LIMP_TIMER.EXPIRED = false)
    ∧ ¬(true = true ∧ spent.flag LIMP_TIMER.USED = false) ∧ (true = true ∧ on_.flag LIMP_TIMER.USED = false)
    ∧ (on_.setLimp 1).rd LIMP_TIMER.LEFT ≠ 0
    ∧ (over_.flag LIMP_TIMER.RAMP_ON = true ∧ over_.rd LIMP_TIMER.RAMP = 0 ∧ over_.inService = true ∧ over_.pwr.trans ≠ .toSafe)
    ∧ standby.flag LIMP_TIMER.RAMP_ON = false := by decide +kernel
theorem witness_pulses :
    let s := fields [(RAKE_STAT.RUN, 1), (SAFE_TP.TP_EN, 1), (SAFE_TP.TP_PERIOD, 1), (SAFE_SSUP.EN, 1), (SAFE_SSUP.V5, 0)] standby
    let s : State := { s with now := 400000, cec := 0, rake := { s.rake with boundaryBefore := 399999 } }
    let p : State := { s with safe := { s.safe with pulsing := [0] } }
    s.bit SAFE_TP.TP_EN 0 = true ∧ s.bit SAFE_SSUP.EN 0 = true ∧ s.safe.pulsing.contains 0 = false ∧ s.domOn 10 = true
    ∧ s.half ≠ .boot ∧ s.half ≠ .selftest ∧ s.pwr.stopped.contains 5 = false
    ∧ (s.running = true ∧ s.cec = 0 ∧ 0 < s.rd SAFE_TP.TP_PERIOD * 400000
      ∧ 1 * (s.rd SAFE_TP.TP_PERIOD * 400000) + 0 * (s.rd SAFE_TP.TP_PERIOD * 400000) / 4 ≤ s.now
      ∧ s.rake.boundaryBefore < 1 * (s.rd SAFE_TP.TP_PERIOD * 400000) + 0 * (s.rd SAFE_TP.TP_PERIOD * 400000) / 4)
    ∧ s.bit SAFE_TP.TP_EN 1 = false ∧ p.safe.pulsing.contains 0 = true
    ∧ s.supplyNominal 0 < 10 * 331 ∧ 10 * 330 ≤ s.supplyNominal 0 ∧ s.bit SAFE_SSUP.EN 1 = false
    ∧ 10 * 2969 < 9 * s.supplyNominal 0 ∧ ¬(10 * 2970 < 9 * s.supplyNominal 0) ∧ 11 * s.supplyNominal 0 < 10 * 3631
    ∧ ¬(11 * s.supplyNominal 0 < 10 * 3630) := by decide +kernel
/-- R377: the pulse starts at the boundary of its slot, and at no other. -/
theorem test_pulse_slot :
    let s := fields [(RAKE_STAT.RUN, 1), (SAFE_TP.TP_EN, 2), (SAFE_TP.TP_PERIOD, 1), (SAFE_SSUP.EN, 2)] standby
    let at_ (before now : Nat) : State := { s with now := now, cec := 0, rake := { s.rake with boundaryBefore := before } }
    (left (exec (.testPulse 1) (at_ 99999 100000))).safe.pulsing = [1] ∧ (left (exec (.testPulse 1) (at_ 100000 104000))).safe.pulsing = [] := by
  decide +kernel
/-- A half in STANDBY with the first key word held, and perhaps the second. -/
def keyed (lo : Option Word) (t : Nat) (l : List (Fld × Nat)) : State :=
  let s := inHalf .standby l
  { s with now := t, safe := { s.safe with keyHi := some (0, 0, 0), keyLo := lo } }
/-- A half in STANDBY that holds the hash of the password 0x00000001_00000002 without a salt, and both its words. -/
def unlocking (lo : Word) : State :=
  let h := sha256 [0, 0, 0, 1, 0, 0, 0, 2]
  { standby with
    keepArea := { standby.keepArea with pwHash := some h, pwSalt := [] }
    safe := { standby.safe with keyHi := some (1, 0x20, 0), keyLo := some lo, keyWriter := 0x20 } }
theorem witness_key_check :
    let u := (unlocking 2).dropKey.wr SAFE_UNL.STATE 0
    u.keyState = true ∧ u.activeHash ≠ List.replicate 32 0
    ∧ sha256 ((leBytes 4 1).reverse ++ (leBytes 4 2).reverse ++ u.keepArea.pwSalt) = u.activeHash
    ∧ sha256 ((leBytes 4 1).reverse ++ (leBytes 4 3).reverse ++ u.keepArea.pwSalt) ≠ u.activeHash
    ∧ ((keyed (some 0) 0 []).dropKey.wr SAFE_UNL.STATE 0).activeHash = List.replicate 32 0
    ∧ (u.count SAFE_UNL.WRONG_CNT).rd SAFE_UNL.WRONG_CNT < 5
    ∧ 5 ≤ ((u.wr SAFE_UNL.WRONG_CNT 4).count SAFE_UNL.WRONG_CNT).rd SAFE_UNL.WRONG_CNT
    ∧ ((inHalf .armed []).dropKey.wr SAFE_UNL.STATE 0).keyState = false := by decide +kernel
theorem witness_unlock :
    let open_ := inHalf .standby [(SAFE_UNL.STATE, 2), (SAFE_UNL.WRITER, 0)]
    let late : State := { open_ with now := 60000 * 400000 };
    standby.takesWrite 0 0x2428 = true ∧ guarded.takesWrite 0x41 0x2428 = false ∧ standby.takesWrite 0 0x242C = true
    ∧ guarded.takesWrite 0x41 0x242C = false ∧ standby.keyState = true ∧ (inHalf .armed []).keyState = false
    ∧ standby.rd SAFE_UNL.STATE = 0 ∧ open_.rd SAFE_UNL.STATE = 2 ∧ standby.safe.keyHi = none
    ∧ (keyed none 40000000 []).safe.keyHi = some (0, 0, 0) ∧ (keyed none 40000000 []).now - 0 ≤ 100 * 400000
    ∧ ¬(keyed none 40000001 []).now - 0 ≤ 100 * 400000 ∧ (keyed none 0 []).safe.keyLo = none
    ∧ (keyed (some 0) 0 []).safe.keyLo = some 0 ∧ (keyed none 0 []).now - 0 < 100 * 400000
    ∧ (60000 * 400000 ≤ late.now - late.safe.memberAt ∧ late.rd SAFE_UNL.STATE = 2)
    ∧ (open_.rd SAFE_UNL.STATE = 2 ∧ open_.rd SAFE_UNL.WRITER = 0) := by decide +kernel

/-! ### Witnesses: the Brine link -/

/-- A half with its link in a state. -/
def linked (st : Nat) (l : List (Fld × Nat)) : State :=
  fields l (inHalf .standby [(PWR_STATE.DOM_ON, 0xFFF), (RAKE_STAT.RUN, 1), (BRINE_STAT.LINK, st)])
theorem witness_link :
    let served := inHalf .armed [(PWR_STATE.DOM_ON, 0xFFF), (GD_SLUICE.HS_CMD, 1), (GD_SLUICE.LS_CMD, 1)]
    let single : State := { linked linkDown [] with part := .hx961s }
    let old : State := { linked linkTrain [] with now := 400000 };
    (linked linkDown []).takesWrite 0 0x2800 = true ∧ (linked linkDown []).inService = false
    ∧ served.takesWrite 0 0x2800 = true ∧ served.inService = true
    ∧ single.takesWrite 0 0x2800 = false ∧ single.part = .hx961s ∧ (single.reach 0x2800).isSome = true
    ∧ guarded.takesWrite 0x41 0x2800 = false ∧ guarded.part ≠ .hx961s
    ∧ ((linked linkDisabled []).setFlag BRINE_CTRL.EN true).link = linkDisabled
    ∧ ((linked linkUp []).setFlag BRINE_CTRL.EN true).link ≠ linkDisabled
    ∧ ((linked linkDisabled []).setFlag BRINE_CTRL.EN false).link = linkDisabled
    ∧ ((linked linkUp []).setFlag BRINE_CTRL.EN false).link ≠ linkDisabled
    ∧ (linked linkDisabled []).link = linkDisabled ∧ (linked linkDown []).link = linkDown ∧ (linked linkDown []).domOn 11 = true
    ∧ (linked linkDown [(PWR_STATE.DOM_ON, 0x7FF)]).domOn 11 = false ∧ (linked linkDown [(PWR_STATE.DOM_ON, 0x7FF)]).link ≠ linkUp
    ∧ (linked linkTrain []).link = linkTrain ∧ 400000 ≤ old.now - old.brine.trainAt
    ∧ (linked linkTrain []).now - (linked linkTrain []).brine.trainAt < 400000
    ∧ (linked linkDown []).link ≠ linkUp ∧ (linked linkUp []).link = linkUp ∧ (linked linkUp []).link ≠ linkTrain := by decide +kernel
/-- A half in training that has seen or measured some of what ends it. -/
def training (f : Brine → Brine) : State := let s := linked linkTrain []; { s with brine := f s.brine }
theorem witness_training :
    let x : TrainSet := ⟨1, true, 7⟩
    let seen (s : State) (l0 l1 : Option TrainSet) : State :=
      ((s.codeErrors 3).setFlag BRINE_STAT.SIG0 l0.isSome).setFlag BRINE_STAT.SIG1 l1.isSome
    let mine := training fun b => { b with token := 7 }
    let known := training fun b => { b with token := 7, measured := true }
    let all := training fun b => { b with aligned := true, measured := true, peerDone := true };
    ((seen (linked linkDown []) (some x) (some x)).link = linkDown ∧ (some x).isSome = true)
    ∧ (seen (training id) (some x) (some x)).link = linkTrain
    ∧ x.token ≠ (seen (training id) (some x) (some x)).brine.token ∧ (training id).domOn 11 = true
    ∧ (x.token = (seen mine (some x) (some x)).brine.token ∧ (seen mine (some x) (some x)).brine.measured = false)
    ∧ (x.token = (seen known (some x) (some x)).brine.token ∧ (seen known (some x) (some x)).brine.measured = true)
    ∧ (all.link = linkTrain ∧ all.brine.aligned = true ∧ all.brine.measured = true ∧ all.brine.peerDone = true)
    ∧ (training id).brine.aligned = false ∧ ((none : Option TrainSet) = some x) = False := by decide +kernel
/-- R393, R394: four bytes on two lanes, heard behind idle; a wrong slot is a symbol error. -/
theorem test_lanes : let b : List Byte := [1, 2, 3, 4]
    let f : List LaneSlot := [(.k282, .k282), (.d 1, .d 2), (.d 3, .d 4), (.k297, .k297)];
    frameSlots .k282 b = f ∧ heardFrame .k282 4 ((.k285, .k285) :: f) = some b ∧ symbolErrors .k282 4 ((.k285, .k285) :: f) = 0
    ∧ heardFrame .k282 4 (f.set 1 (.bad, .d 2)) = none ∧ 0 < symbolErrors .k282 4 (f.set 1 (.bad, .d 2))
    ∧ b.length % 2 = 0 ∧ heardFrame .k282 6 f = none := by decide +kernel
/-- R395, R397: a set on both lanes begins the training, and its echo gives half the trip. -/
theorem test_training : let x : TrainSet := ⟨1, false, 0⟩
    (left (exec (.trainingSetRx (some x) (some x) 0 0) (linked linkDown []))).link = linkTrain
    ∧ (left (exec (.trainingSetRx (some x) (some x) 1320 0) (training id))).rd BRINE_DLY.LINK_DLY = 500
    ∧ (left (exec (.trainingSetRx (some x) none 0 0) (linked linkDown []))).link = linkDown := by decide +kernel
/-- The link as BRINE_EXCHANGE finds it, with a command frame on the lanes. -/
def sending (sp : Option TxSpan) : State :=
  let s := linked linkUp []
  { s with brine := { s.brine with span := sp } }
def exchanged (s : State) : State :=
  let u := s.advanceTo (s.rd RAKE_BRINE.BRINE_PHASE)
  (u.wr BRINE_STAT.TX_ALIVE ((u.rd BRINE_STAT.TX_ALIVE + 1) % 256)).txRun
/-- Where on the lanes the frame begins. -/
def beginsAt (s : State) : Nat := 8 * (exchanged s).now + ((exchanged s).brine.grid + 40 - 8 * (exchanged s).now % 40) % 40
theorem witness_tick_frame_leaves :
    let far : TxSpan := ⟨0, 100000, 500000⟩
    let last : TxSpan := ⟨0, 1, 500000⟩
    let at_ (s : State) : State := s.advanceTo (s.rd RAKE_BRINE.BRINE_PHASE);
    (at_ (linked linkDown [])).linkFrames = false ∧ (at_ (linked linkUp [])).linkFrames = true
    ∧ (exchanged (sending none)).brine.span = none
    ∧ (exchanged (sending (some far))).brine.span = some far ∧ (beginsAt (sending (some far)) - far.begin_) / 40 < far.symbols
    ∧ (exchanged (sending (some last))).brine.span = some last
    ∧ last.symbols ≤ (beginsAt (sending (some last)) - last.begin_) / 40 := by
  decide +kernel
/-- A per-tick frame of half B for a tick of 4,000 CEC. -/
def tickFrame : List Byte :=
  let b := dataOf [(1, 1), (1, 1), (1, 0), (1, 1), (2, 4000), (2, 0), (1, 1), (1, 0), (2, 0), (4, 0)] ++ List.replicate 108 0
  b ++ leBytes 4 (crc32c b)
/-- The frame with another byte, and its CRC made right again. -/
def altered (o : Nat) (v : Byte) : List Byte :=
  let b := (tickFrame.set o v).take 0x7C
  b ++ leBytes 4 (crc32c b)
theorem witness_tick_frame :
    let s := linked linkUp []
    let h (b : List Byte) := (s.showActivity (frameSlots .k277 b)).codeErrors (symbolErrors .k277 128 (frameSlots .k277 b))
    let u := (h tickFrame).advanceTo (100 + 8)
    let heard : State := { u with brine := { u.brine with heard := true } }
    let ends (c : Nat) : Nat := ((h tickFrame).advanceTo (c + 8)).cec + 32
    let t := u.rd RAKE_TSTART.TSTART;
    s.domOn 11 = true ∧ s.link ≠ linkDisabled ∧ (linked linkDisabled []).link = linkDisabled
    ∧ (h tickFrame).linkFrames = true ∧ (h tickFrame).running = true ∧ standbyHalf.running = false
    ∧ heardFrame .k277 128 (frameSlots .k277 tickFrame) = some tickFrame ∧ heardFrame .k277 128 [] = none
    ∧ frameNat tickFrame 0x7C 4 = crc32c (tickFrame.take 0x7C)
    ∧ frameNat (tickFrame.set 9 1) 0x7C 4 ≠ crc32c ((tickFrame.set 9 1).take 0x7C)
    ∧ frameNat tickFrame 0 1 = 1 ∧ frameNat tickFrame 0x0C 4 = 0 ∧ frameNat (altered 0 2) 0 1 ≠ 1
    ∧ frameNat (altered 0 2) 0x7C 4 = crc32c ((altered 0 2).take 0x7C)
    ∧ frameNat tickFrame 3 1 = (match u.halfId with | .a => 1 | .b => 0) ∧ frameNat (altered 3 0) 3 1 ≠ 1
    ∧ u.brine.heard = false ∧ frameNat tickFrame 1 1 ≠ heard.rd BRINE_STAT.RX_ALIVE ∧ frameNat (altered 1 0) 1 1 = heard.rd BRINE_STAT.RX_ALIVE
    ∧ frameNat tickFrame 4 2 = u.rd RAKE_TICK.TICK_PERIOD ∧ frameNat tickFrame 8 1 % 2 = u.rd RAKE_TICK.PWM_TICKS
    ∧ frameNat (altered 4 0) 4 2 ≠ u.rd RAKE_TICK.TICK_PERIOD
    ∧ u.cec < t ∧ ends 100 + 16 ≤ t ∧ (ends (t - 41) ≤ t ∧ t < ends (t - 41) + 16) ∧ t < ends (t - 39) ∧ ends (t - 39) < t + 32 := by
  decide +kernel
theorem witness_frame_write :
    let s := linked linkUp []
    let r (c t : Nat) : State := { s with cec := c, brine := { s.brine with rx := some (tickFrame, t) } };
    (r 0 0).brine.rx = some (tickFrame, 0) ∧ s.brine.rx = none
    ∧ (0 = (r 0 0).tick ∧ (r 0 0).writeStart 0 + 32 ≤ (r 0 0).rd RAKE_TSTART.TSTART)
    ∧ (1 = ((r 3600 1).tick + 1) % 2 ^ 32 ∧ (r 3600 1).rd RAKE_TSTART.TSTART ≤ (r 3600 1).writeStart 3600)
    ∧ ¬(0 = (r 449 0).tick ∧ (r 449 0).writeStart 449 + 32 ≤ (r 449 0).rd RAKE_TSTART.TSTART) ∧ 0 ≠ ((r 449 0).tick + 1) % 2 ^ 32 := by
  decide +kernel
theorem witness_frame_missing :
    let missed (s : State) : State := s.advanceTo (s.rd RAKE_TSTART.TSTART - 1)
    let v (s : State) : State := (missed s).setXPair ((missed s).rd BRINE_XMAP.RXBASE * 128) 0
    let b (x : Brine → Brine) : State := let s := linked linkUp []; { s with brine := x s.brine }
    let plain := linked linkUp [];
    plain.running = true ∧ plain.domOn 11 = true ∧ standbyHalf.running = false ∧ (missed plain).brine.written ≠ some (missed plain).tick
    ∧ (missed (b fun x => { x with written := some 0 })).brine.written = some (missed (b fun x => { x with written := some 0 })).tick
    ∧ ((v plain).linkFrames = true ∧ (v plain).brine.got ≠ some (v plain).tick) ∧ (v plain).brine.valid ≠ some (v plain).tick
    ∧ (v (b fun x => { x with got := some 0 })).brine.got = some (v (b fun x => { x with got := some 0 })).tick
    ∧ (v (b fun x => { x with valid := some 0 })).brine.valid = some (v (b fun x => { x with valid := some 0 })).tick := by decide +kernel
/-- A received command frame, and a bulk unit of a class. -/
def commandIn (code : Nat) (p : List Byte) : List Byte := commandBytes 5 code 0 p
def unitIn (cls n : Nat) : List Byte := unitBytes cls 3 (List.replicate n 7)
theorem witness_commands :
    let s := linked linkUp []
    let c : CmdOut := ⟨commandIn 0x10 [], 0, 0⟩
    let o (t : Nat) : State := { fields [(RAKE_TICK_COUNT.TICK_COUNT, t)] s with brine := { s.brine with cmdOut := some c } }
    let b := commandIn 0x10 []
    let ack := commandBytes 5 0 1 []
    let nak := commandBytes 5 0 2 []
    let h (s : State) (b : List Byte) := (s.showActivity (frameSlots .k282 b)).codeErrors (symbolErrors .k282 32 (frameSlots .k282 b))
    let sound (b : List Byte) : Prop := heardFrame .k282 32 (frameSlots .k282 b) = some b ∧ (h s b).link = linkUp
      ∧ frameNat b 0x1C 4 = crc32c (b.take 0x1C) ∧ frameNat b 0 1 = 2;
    s.link = linkUp ∧ (linked linkDown []).link ≠ linkUp ∧ s.brine.cmdOut = none ∧ s.pwr.stopped.contains 3 = false
    ∧ (o 4).brine.cmdOut ≠ none ∧ sound b ∧ sound ack ∧ sound nak ∧ heardFrame .k282 32 [] = none
    ∧ frameNat (b.set 9 1) 0x1C 4 ≠ crc32c ((b.set 9 1).take 0x1C)
    ∧ heardFrame .k282 32 (frameSlots .k282 (b.set 9 1)) = some (b.set 9 1)
    ∧ frameNat b 3 1 % 4 = 0 ∧ frameNat ack 3 1 % 4 ≠ 0 ∧ (frameNat ack 3 1).testBit 0 = true ∧ (frameNat nak 3 1).testBit 0 = false
    ∧ (h { s with brine := { s.brine with cmdSeen := some 5 } } b).brine.cmdSeen = some (frameNat b 1 1)
    ∧ (h s b).brine.cmdSeen ≠ some (frameNat b 1 1) ∧ (h s b).brine.cmdQueue.length < 4
    ∧ 4 ≤ (h { s with brine := { s.brine with cmdQueue := List.replicate 4 [] } } b).brine.cmdQueue.length
    ∧ (h (o 4) ack).brine.cmdOut = some c ∧ frameNat c.bytes 1 1 = frameNat ack 1 1 ∧ (h s ack).brine.cmdOut = none
    ∧ frameNat (commandBytes 6 0 1 []) 1 1 ≠ frameNat c.bytes 1 1
    ∧ 4 ≤ ((o 4).tick + 2 ^ 32 - c.sentTick) % 2 ^ 32 ∧ ¬4 ≤ ((o 3).tick + 2 ^ 32 - c.sentTick) % 2 ^ 32 := by decide +kernel
theorem witness_units :
    let s := linked linkUp [(BRINE_CTRL.BULK1_EN, 1), (BRINE_BULK.TX_CRED1, 1), (BRINE_CTRL.BULK0_EN, 1), (BRINE_BULK.TX_CRED0, 1)]
    let q (u : List (Nat × List Byte)) : State := { s with brine := { s.brine with txUnits := u } }
    let slots (b : List Byte) := frameSlots .k283 b
    let h (b : List Byte) := (s.showActivity (slots b)).codeErrors (symbolErrors .k283 72 (slots b))
    let sound (b : List Byte) : Prop := heardFrame .k283 72 (slots b) = some b ∧ (h b).link = linkUp
      ∧ frameNat b 0x44 4 = crc32c (b.take 0x44) ∧ frameNat b 0 1 = 3
      ∧ frameNat b 1 1 ≤ 1 ∧ frameNat b 2 1 ≠ 0 ∧ frameNat b 2 1 ≤ 64
    let credit (c n : Byte) : List LaneSlot := [(.k280, .k280), (.d c, .d n)];
    (s.link = linkUp ∧ s.flag BRINE_CTRL.BULK1_EN = true ∧ s.credit true ≠ 0 ∧ ¬s.pwr.stopped.contains 3 = true)
    ∧ (s.flag BRINE_CTRL.BULK0_EN = true ∧ s.credit false ≠ 0) ∧ ([0] : List Byte) ≠ [] ∧ (linked linkUp [(BRINE_CTRL.BULK1_EN, 0)]).flag BRINE_CTRL.BULK1_EN = false
    ∧ s.loadUnits.brine.txUnits = [] ∧ (q [(3, [7])]).loadUnits.brine.txUnits = [(3, [7])]
    ∧ (q [(1, [7]), (2, [8])]).loadUnits.brine.txUnits = [(1, [7]), (2, [8])]
    ∧ sound (unitIn 1 64) ∧ frameNat (unitIn 1 64) 1 1 = 1 ∧ sound (unitIn 0 1) ∧ frameNat (unitIn 0 1) 1 1 ≠ 1
    ∧ heardFrame .k283 72 [] = none ∧ frameNat (unitIn 2 1) 1 1 = 2 ∧ heardFrame .k283 72 (slots (unitIn 2 1)) = some (unitIn 2 1)
    ∧ creditIn (credit 1 16) = some (1, 16) ∧ ((1 : Nat) ≤ 1 ∧ (16 : Nat) ≠ 0 ∧ (16 : Nat) ≤ 16) ∧ creditIn (credit 1 17) = some (1, 17)
    ∧ ¬((17 : Nat) ≤ 16) ∧ creditIn [] = none ∧ (s.showActivity (credit 1 16)).link = linkUp := by decide +kernel

/-! ### Witnesses: the fabric -/

/-- A half of ring A with the held address 9. -/
def ringed (l : List (Fld × Nat)) : State :=
  fields l (inHalf .standby [(PWR_STATE.DOM_ON, 0xFFF), (NET_CTRL.P0_EN, 1), (NET_CTRL.P1_EN, 1), (NET_ADDR.CLAIM, 2), (NET_ADDR.ADDR, 9),
    (NET_STAT.LINK0, 1), (NET_STAT.LINK1, 1)])
/-- A frame after its forwarding, and a half that has heard its SEQ. -/
def onward (s : State) (f : FabFrame) : State := (s.heardPort 1).forward 1 true f
def repeated (f : FabFrame) : State := (onward (ringed []) f).noteSeq f
theorem witness_arrivals :
    let s := ringed []
    let f := frame 1 2 9 [0, 0, 0, 0]
    let back := frame 1 9 10 []
    let stale : State := repeated f;
    s.portEn 1 = true ∧ s.domOn 8 = true ∧ (ringed [(NET_CTRL.P1_EN, 0)]).portEn 1 = false
    ∧ (s.heardPort 1).returned back = true ∧ (s.heardPort 1).returned f = false ∧ f.fcs = true
    ∧ (onward s f).forMe f = true ∧ (onward s (frame 1 2 10 [])).forMe (frame 1 2 10 []) = false
    ∧ (onward s f).fresh f = true ∧ (onward stale f).fresh f = false ∧ (onward stale f).forMe f = true
    ∧ f.crc = e2eCrc f ∧ { f with crc := f.crc + 1 }.crc ≠ e2eCrc f
    ∧ s.arrive 1 true f = (true, repeated f) ∧ (s.arrive 1 true back).1 = false := by decide +kernel
theorem witness_frames :
    let s := ringed []
    let f := frame 1 2 9 [0, 0, 0, 0]
    let w := repeated f
    let bad (f : FabFrame) (s : State) : Bool :=
      f.fcs && s.fresh f && f.crc != e2eCrc f && s.forMe f && !s.returned f && s.portEn 1
    let mine (s : State) (f : FabFrame) : Bool := s.portEn 1 && s.domOn 8 && f.fcs && f.crc == e2eCrc f && f.dst / 64 % 2 == s.ring
    let ann := frame 5 2 63 (List.replicate 64 0);
    (w.admitRequest (w.fabricReply 1 f)).1 = true ∧ (((w.admitRequest (w.fabricReply 1 f)).2).admitRequest (w.fabricReply 1 f)).1 = false
    ∧ bad { f with crc := f.crc + 1 } s = true ∧ bad f s = false ∧ s.forMe (frame 1 2 10 []) = false ∧ (8 ≤ f.typ) = False
    ∧ s.forMe f = true ∧ mine s ann = true ∧ mine s { ann with crc := ann.crc + 1 } = false
    ∧ (s.judgeClaim ann).returned ann = false ∧ (((s.judgeClaim ann).learnRoute 1 ann).showRing.arrive 1 true ann).1 = true
    ∧ (s.arrive 1 true { ann with crc := ann.crc + 1 }).1 = false := by decide +kernel
theorem witness_ports :
    let s := ringed []
    let fwd := ringed [(NET_CTRL.FWD_OTHER, 1)]
    let lone := ringed [(NET_CTRL.FWD_OTHER, 1), (NET_STAT.LINK1, 0)]
    let nb := ringed [(NET_STAT.NB1, 1), (NET_TIM.NB_N, 2)]
    let quiet : State := { nb with net := { nb.net with silent := [(1, 2)] } }
    let claim := ringed [(NET_ADDR.CLAIM, 1)];
    s.portEn 0 = true ∧ s.domOn 8 = true ∧ (ringed [(NET_CTRL.P0_EN, 0)]).portEn 0 = false ∧ 2 % 4 = 2 ∧ 3 % 4 ≠ 2
    ∧ ((ringed [(NET_CTRL.FWD_OTHER, 0)]).heardPort 0).flag NET_CTRL.FWD_OTHER = false
    ∧ (fwd.heardPort 0).flag NET_CTRL.FWD_OTHER = true ∧ (fwd.heardPort 0).portUp (1 - 0) = true ∧ (lone.heardPort 0).portUp (1 - 0) = false
    ∧ (nb.setFlag (linkFld 1) false).flag (nbFld 1) = true ∧ quiet.flag (nbFld 1) = true
    ∧ max 1 (quiet.rd NET_TIM.NB_N) ≤ lookup quiet.net.silent 0 1 ∧ ¬max 1 (nb.rd NET_TIM.NB_N) ≤ lookup nb.net.silent 0 1
    ∧ claim.rd NET_ADDR.CLAIM = 1 ∧ claim.net.claimLeft = 0 ∧ s.rd NET_ADDR.CLAIM ≠ 1 := by decide +kernel
/-- A half whose controller 1 sends or takes flow 3 in entry 0, with one record waiting. -/
def onCan (len : Nat) (l : List (Fld × Nat)) : State :=
  let s := ringed ([(NET_CAN_CFG.EN 1, 1), (NET_CAN1_ID.EN 0, 1), (NET_CAN1_ID.ID 0, 5), (NET_CAN1_FL.FLOW 0, 3), (FLOW_W0.EN 3, 1),
    (FLOW_W0.KIND 3, 3), (FLOW_W0.ESIZE 3, 2), (FLOW_W6.FILL 3, 1)] ++ l)
  { s with sram := s.sram.setByte 0 (s.panAddr 3 0) (BitVec.ofNat 8 len) }
theorem witness_can_tx :
    let out (len k : Nat) : State := onCan len [(NET_CAN1_ID.DIR 0, 1), (FLOW_W0.KIND 3, k)]
    let s := out 56 3
    let done : State := (out 56 2).pathDone 3 (2 + 1);
    s.flag (NET_CAN_CFG.EN 1) = true ∧ s.domOn 9 = true ∧ (canId s 1 0).1 = true ∧ (canId s 1 0).2.1 = true
    ∧ s.flowOn (canFlow s 1 0) = true ∧ s.fill (canFlow s 1 0) ≠ 0 ∧ s.kindOf (canFlow s 1 0) = 3
    ∧ (s.entryRecord (canFlow s 1 0) 0).length ≤ 56 ∧ 56 < ((out 57 3).entryRecord 3 0).length
    ∧ (out 56 2).kindOf (canFlow (out 56 2) 1 0) = 2 ∧ ((out 56 2).doneFor 3).contains (2 + 1) = false
    ∧ ((out 56 2).entryRecord 3 ((out 56 2).rd (FLOW_W5.RPTR 3))).length ≤ 56
    ∧ 56 < ((out 57 2).entryRecord 3 ((out 57 2).rd (FLOW_W5.RPTR 3))).length
    ∧ (ringed []).flag (NET_CAN_CFG.EN 1) = false ∧ done.fill 3 ≤ 1 := by decide +kernel
/-- A mapped CAN FD frame of a type. -/
def canIn (typ : Nat) : CanFrame :=
  let b := dataOf [(1, 7), (1, typ), (2, 1), (4, 0)]
  ⟨true, false, false, 5, b ++ leBytes 4 (crc32c (leBytes 4 (canIdWord false 5) ++ b))⟩
theorem witness_can_rx :
    (onCan 0 []).canEntry 1 (canIn 0) = some 0 ∧ (onCan 0 []).canEntry 1 { canIn 0 with id := 6 } = none
    ∧ (∀ k, k < 6 → canWhole (canIn k) = true ∧ ((canIn k).data.getD 1 0).toNat = k) ∧ canWhole { canIn 0 with fd := false } = false := by
  decide +kernel
/-- A half whose port 0 has measured its link and follows a master that the port hears. -/
def following (f : PtpPort → PtpPort) (l : List (Fld × Nat)) : State :=
  let s := ringed l
  State.setPtp { s with net := { s.net with slave := some 0 } } 0 (f { s.ptp 0 with delay := some 10 })
/-- An Announce of another clock than the half's own. -/
def heardMaster (s : State) : PtpVector := ⟨⟨1, 0, 0, s.ownClock.id + 1⟩, 3, s.ownClock.id + 1, 1⟩
theorem witness_time_messages : (ringed []).portEn 0 = true ∧ (ringed [(NET_CTRL.P0_EN, 0)]).portEn 0 = false ∧ (1 : Nat) ≠ 0
    ∧ ((following id []).heardPort 0).net.slave = some 0 ∧ ((following id []).heardPort 1).net.slave ≠ some 1
    ∧ (((following (fun x => { x with sync := some (7, 100) }) []).heardPort 0).ptp 0).sync = some (7, 100)
    ∧ (((following (fun x => { x with sync := some (7, 100) }) []).heardPort 0).ptp 0).delay = some 10
    ∧ (((following id []).heardPort 0).ptp 0).sync = none ∧ (7 : Nat) ≠ 8
    ∧ (((following (fun x => { x with req := some (4, 50), resp := some (60, 90) }) []).heardPort 0).ptp 0).req = some (4, 50)
    ∧ (((following (fun x => { x with req := some (4, 50), resp := some (60, 90) }) []).heardPort 0).ptp 0).resp = some (60, 90)
    ∧ (((following id []).heardPort 0).ptp 0).req = none := by decide +kernel
theorem witness_announce : let u := (following id []).heardPort 0
    (u.ptp 0).delay ≠ none ∧ (heardMaster u).steps < 255 ∧ (heardMaster u).src ≠ u.ownClock.id ∧ ([] : List Nat).contains u.ownClock.id = false
    ∧ ((ringed []).heardPort 0 |>.ptp 0).delay = none :=
  ⟨by decide +kernel, by decide, Nat.succ_ne_self _, rfl, by decide +kernel⟩
theorem witness_masters : (ringed []).portUp 0 = true ∧ (ringed [(NET_STAT.LINK0, 0), (NET_STAT.LINK1, 0)]).portUp 0 = false
    ∧ (ringed [(NET_STAT.LINK0, 0), (NET_STAT.LINK1, 0)]).portUp 1 = false ∧ (ringed [(NET_PTP.GM_CAP, 0)]).bestMaster = none
    ∧ (∃ w, (ringed [(NET_PTP.GM_CAP, 1)]).bestMaster = some (none, w))
    ∧ (∃ w, (let s := ringed [(NET_PTP.GM_CAP, 0)]; s.setPtp 0 { s.ptp 0 with best := some (heardMaster s, []) }).bestMaster = some (some 0, w))
    ∧ (ringed [(NET_STAT.GPTP, 2)]).rd NET_STAT.GPTP = 2 ∧ (ringed []).rd NET_STAT.GPTP ≠ 2 :=
  ⟨by decide +kernel, by decide +kernel, by decide +kernel, by decide +kernel, ⟨_, rfl⟩, ⟨_, rfl⟩, by decide +kernel, by decide +kernel⟩
/-- R428: half of the round trip of 100 and 20 ns at the peer is the delay of the link. -/
theorem test_link_delay : ((left (exec (.gptpFrame 0 0 (.pdelayRespFollowUp 4 80))
    (following (fun x => { x with req := some (4, 50), resp := some (60, 150) }) []))).ptp 0).delay = some 40 := by decide +kernel
theorem witness_can_errors : let s := onCan 0 []
    let at_ (tec rec_ : Nat) : State := fields [(NET_CAN_STAT.TEC 1, tec), (NET_CAN_STAT.REC 1, rec_)] s
    let gone := fields [(NET_CAN_STAT.BUS 1, 2)] s;
    (s.domOn 9 = true ∧ s.flag (NET_CAN_CFG.EN 1) = true) ∧ (ringed []).flag (NET_CAN_CFG.EN 1) = false ∧ gone.rd (NET_CAN_STAT.BUS 1) = 2
    ∧ 128 ≤ lookup gone.net.canIdle 0 1 + 128 ∧ lookup gone.net.canIdle 0 1 + 127 < 128 ∧ s.rd (NET_CAN_STAT.BUS 1) ≠ 2
    ∧ 256 ≤ (at_ 248 0).rd (NET_CAN_STAT.TEC 1) + 8 ∧ (at_ 247 0).rd (NET_CAN_STAT.TEC 1) + 8 < 256
    ∧ 128 ≤ (at_ 0 128).rd (NET_CAN_STAT.REC 1) ∧ (at_ 0 127).rd (NET_CAN_STAT.REC 1) < 128 := by decide +kernel
/-- R435: the 16th transmit error makes the controller error passive, the 32nd takes it off the bus. -/
theorem test_can_errors : let s := onCan 0 []
    ((List.replicate 15 CanEvent.txError).foldl (State.canEvent 1) s).rd (NET_CAN_STAT.BUS 1) = 0
    ∧ ((List.replicate 16 CanEvent.txError).foldl (State.canEvent 1) s).rd (NET_CAN_STAT.BUS 1) = 1
    ∧ ((List.replicate 32 CanEvent.txError).foldl (State.canEvent 1) s).rd (NET_CAN_STAT.BUS 1) = 2 := by decide +kernel
/-- A half with a schedule of one window, for flow 3. -/
def scheduled (l : List (Fld × Nat)) : State :=
  let s := onCan 8 ([(NET_STAT.GPTP, 2)] ++ l)
  { s with net := { s.net with windows := [⟨true, 3, 3, 0, 64⟩], windowsOk := true, bulk := true, fabCycle := 100000 } }
/-- What a fabric cycle starts with. -/
def cycled (s : State) : State :=
  let x := s.scheduleTaken
  let ok := windowsValid x.fab x.len x.windows
  let a := if ok = true then s else s.setFlag NET_EVT.SCHED_ERR true
  let net := { a.net with
    cycles := a.net.cycles + 1, cycleAt := a.now, bulk := false, fabCycle := x.fab
    schedLen := x.len, annPeriod := x.ann, windows := x.windows, windowsOk := ok
    pref := (List.range 64).map fun n => (n, a.rd (ROUTE.PREF n))
    silent := [0, 1].map fun p => (p, lookup a.net.silent 0 p + 1)
    e2e := a.net.e2e.map fun e => (e.1, { e.2 with got := false, bad := false }) }
  let b : State := { a with
    net := net, pan := { a.pan with tickSent := [] }, safe := { a.safe with recAge := a.safe.recAge + 1 } }
  ([0, 1, 2].foldl State.takeLanes (((List.range 256).filter b.flowOn).foldl State.refill b)).chooseMaster
theorem witness_fabric_cycle :
    let s := scheduled [(FLOW_W2.NODE 3, 11)]
    let down := scheduled [(NET_STAT.LINK0, 0), (NET_STAT.LINK1, 0)]
    let g (s : State) := { s.flowFrame 3 7 (fitBytes 64 (s.entryRecord 3 0)) with time := lookup s.pan.sampled s.gptpNow 3 }
    let r := scheduled [(FLOW_W2.NODE 3, 11), (FLOW_W2.RING 3, 1)]
    let early : State := { s with net := { s.net with bulk := false } };
    (cycled down).inSync = true ∧ (cycled (ringed [])).inSync = false
    ∧ s.net.windows[0]? = some ⟨true, 3, 3, 0, 64⟩ ∧ s.net.windows[1]? = none ∧ s.net.windowsOk = true ∧ s.inSync = true ∧ s.heldAddr ≠ 0
    ∧ s.flowOn 3 = true ∧ s.kindOf 3 = 3 ∧ s.rd (FLOW_W2.NODE 3) ≠ 0 ∧ s.panStopped = false ∧ (g s).dst / 64 % 2 = (s.stepSeq 3).ring
    ∧ (g r).dst / 64 % 2 ≠ (r.stepSeq 3).ring ∧ s.net.bulk = true ∧ early.net.bulk = false
    ∧ ({ s with net := { s.net with windowsOk := false } } : State).net.windowsOk = false := by decide +kernel
theorem witness_bulk :
    let s := scheduled [(FLOW_W2.NODE 3, 11), (FLOW_W4.CRED_NOW 3, 100)]
    let n : State := { s with net := { s.net with windows := [] } }
    let pan := fields [(FLOW_W0.KIND 3, 2)] n
    let t (len : Nat) : Transit := ⟨false, [1], frame 1 2 10 (List.replicate len 0)⟩
    let w (len : Nat) : State := { s with pan := { s.pan with transit := [t len] } }
    let short (x : State) : State := { x with net := { x.net with fabCycle := 0 } };
    s.portUp 1 = true ∧ s.panStopped = false ∧ (scheduled [(NET_STAT.LINK1, 0)]).portUp 1 = false
    ∧ (w 0).storedFor 1 = some (3, (t 0).frame) ∧ (w 0).gateOpen (t 0).frame = true ∧ (short (w 0)).gateOpen (t 0).frame = false
    ∧ n.storedFor 1 = none ∧ n.inSync = true ∧ n.nextFlow 1 = some 3 ∧ n.fits (n.nextLen 3) = true ∧ (short n).fits ((short n).nextLen 3) = false
    ∧ n.kindOf 3 = 3 ∧ pan.nextFlow 1 = some 3 ∧ pan.kindOf 3 ≠ 3 ∧ pan.fits (pan.nextLen 3) = true ∧ (ringed []).nextFlow 1 = none
    ∧ (ringed []).storedFor 1 = none := by decide +kernel
/-- The scheduled receive flows of a half, and those that fail their check. -/
def schedFlows (s : State) : List Nat :=
  (List.range 256).filter fun k => s.flowOn k && s.flag (FLOW_W0.SCHED k) && (s.kindOf k == 0 || s.kindOf k == 1)
def failing (s : State) : List Nat :=
  let judged := (schedFlows s).foldl (fun s k =>
    let e := s.e2eOf k
    s.setE2e k { e with got := false, bad := false, run := if !e.got || e.bad then e.run + 1 else 0 }) s
  (schedFlows s).filter fun k => decide (max 1 (judged.rd NET_TIM.E2E_N) ≤ (judged.e2eOf k).run)
theorem witness_e2e : (failing (ringed [])).getLast? = none
    ∧ (failing (ringed [(NET_TIM.E2E_N, 1), (FLOW_W0.EN 255, 1), (FLOW_W0.SCHED 255, 1), (FLOW_W0.KIND 255, 1)])).getLast? = some 255 := by
  decide +kernel

/-! ### Witnesses: flows, services and the handover -/

/-- Flow 255 as a queue of entries of one unit. -/
def flow (kind : Nat) (l : List (Fld × Nat)) : State :=
  fields ([(FLOW_W0.KIND 255, kind), (FLOW_W0.ESIZE 255, 1), (FLOW_W0.PBASE 255, 8184), (FLOW_W1.PLEN 255, 8)] ++ l) standby
/-- The flow enabled, with its length live. -/
def flowing (kind : Nat) (l : List (Fld × Nat)) : State := flow kind ([(FLOW_W0.EN 255, 1), (FLOW_W1.PLEN_LIVE 255, 8)] ++ l)
theorem witness_flows :
    let q := flowing 0 []
    let x := flowing 1 []
    let slot : State := { x with pan := { x.pan with slots := [(255 * 8192 + 7, 3)] } }
    let bad (s : State) (n : Nat) : Prop :=
      n % s.esize 255 ≠ 0 ∨ n < s.esize 255 ∨ s.panInRange 255 n = false ∨ s.panOverlaps 255 n = true;
    (255 : Nat) ≠ 0 ∧ (flow 0 []).flag (FLOW_W0.EN 255) = false ∧ q.flag (FLOW_W0.EN 255) = true
    ∧ (flow 0 []).enableCheck 255 = 0 ∧ (flow 4 []).enableCheck 255 ≠ 0 ∧ q.flowOn 255 = true ∧ (flow 0 []).flowOn 255 = false
    ∧ bad q 9 ∧ ¬bad q 8 ∧ (q.wr (FLOW_W1.PLEN 255) 8).isQueue 255 = true ∧ (x.wr (FLOW_W1.PLEN 255) 8).isQueue 255 = false ∧ ¬bad x 8
    ∧ q.kindOf 255 = 0 ∧ q.fill 255 < q.capacity 255 ∧ (flowing 0 [(FLOW_W6.FILL 255, 8)]).capacity 255 ≤ 8
    ∧ (flowing 0 [(FLOW_W6.FILL 255, 8)]).fill 255 = 8 ∧ x.kindOf 255 = 1 ∧ (slot.slotSrc 255 7).isSome = true
    ∧ (x.slotSrc 255 7).isSome = false
    ∧ (standby.takesWrite 0 idxDataOff = true ∧ standby.domOn 8 = true) ∧ standby.takesWrite 0 0x3004 = true
    ∧ (inHalf .boot []).takesWrite 1 idxDataOff = false ∧ (inHalf .boot []).takesWrite 1 0x3004 = false
    ∧ (let d := inHalf .standby [(PWR_STATE.DOM_ON, 0xEFF)]; d.takesWrite 0 idxDataOff = true ∧ d.domOn 8 = false) := by decide +kernel
theorem witness_entries :
    let q := flowing 2 []
    let full := flowing 2 [(FLOW_W6.FILL 255, 8)]
    let after (s : State) : State := { s with pan := { s.pan with lastAppend := some (255, s.now, 1, List.replicate 64 0) } }
    let room (s : State) : Bool :=
      (State.makeRoom (State.putWritten { after s with pan := { (after s).pan with lastAppend := none } } 255 1 (List.replicate 64 0)) 255).1
    let d := flowing 0 [(FLOW_W0.XDLV 255, 1), (FLOW_W6.FILL 255, 1), (FLOW_W3.XLEN 255, 4)]
    let n (s : State) : Nat := min ((s.entryRecord 255 (s.rd (FLOW_W5.RPTR 255))).length / 4) (s.rd (FLOW_W3.XLEN 255))
    let ticks := flowing 0 [(FLOW_W0.XDLV 255, 1), (FLOW_W6.FILL 255, 1), (RAKE_STAT.RUN, 1)];
    let late := flowing 2 [(FLOW_W0.OVW 255, 1)]
    let owed (z : State) : Prop := z.flag (FLOW_W0.OVW 255) = true ∧ z.poppedFull 255 = true ∧ z.fill 255 = 0;
    (q.takesWrite 0 0x3004 = true ∧ (inHalf .boot []).takesWrite 1 0x3004 = false)
    ∧ owed { late with pan := { late.pan with popped := [(255, late.now)] } } ∧ ¬owed q
    ∧ q.panStopped = false ∧ ({ q with pwr := { q.pwr with stopped := [1, 2, 3, 4] } } : State).panStopped = true
    ∧ (q.flowOn 255 = true ∧ q.isQueue 255 = true) ∧ (flowing 1 []).isQueue 255 = false ∧ q.pan.lastAppend = none
    ∧ (q.makeRoom 255).1 = true ∧ (full.makeRoom 255).1 = false
    ∧ (after q).pan.lastAppend = some (255, (after q).now, 1, List.replicate 64 0) ∧ room q = true ∧ room full = false
    ∧ (d.flowOn 255 = true ∧ d.kindOf 255 = 0 ∧ d.flag (FLOW_W0.XDLV 255) = true ∧ d.fill 255 ≠ 0
      ∧ d.sys.xQueue.length + 2 * n d ≤ 64 ∧ d.running = false)
    ∧ (ticks.running = true ∧ ticks.mayDrain = true ∧ ticks.sys.xQueue.length + 2 * n ticks ≤ ticks.drainLeft)
    ∧ q.flag (FLOW_W0.XDLV 255) = false := by decide +kernel

/-- A mailbox request by the host. -/
def request (svc : Nat) (a : List Byte) : MboxReq := ⟨⟨4, 0, false, 0, 0, 0, 0⟩, leBytes 2 svc ++ leBytes 2 a.length ++ a⟩
/-- A half with requests in its mailbox. -/
def asked (q : List MboxReq) : State := { standby with mgmt := { standby.mgmt with queue := q } }
/-- The service admits the request at the head of the queue. -/
def admits (svc : Nat) (a : List Byte) (u : State) : Bool :=
  let m := request svc a
  svcOf m.bytes == svc && lenOk svc m.bytes && u.stateOk svc (argsOf m.bytes) && u.writerOk svc m.reply
theorem witness_requests_admitted :
    let m := request 0x40 [];
    ((asked []).dropUnknown (asked []).mgmt.queue).mgmt.queue = []
    ∧ ((asked [request 0x7F [], m]).dropUnknown (asked [request 0x7F [], m]).mgmt.queue).mgmt.queue = m :: []
    ∧ svcOf m.bytes = 0x40 ∧ svcOf m.bytes ≠ 0x41 ∧ lenOk 0x40 (request 0x40 [0]).bytes = false ∧ lenOk 0x40 m.bytes = true
    ∧ (inHalf .lockout []).stateOk 0x40 (argsOf m.bytes) = false ∧ standby.stateOk 0x40 (argsOf m.bytes) = true
    ∧ standby.writerOk 0x40 m.reply = true ∧ guarded.writerOk 0x40 { m.reply with path := 1, writer := 0x41 } = false := by decide +kernel
theorem witness_services :
    let read := dataOf [(1, 3), (3, 0), (4, 0x1FFF00), (2, 256)]
    let bad (a : List Byte) : Prop := 3 < secNat a 0 1 ∨ secNat a 1 3 ≠ 0 ∨ 256 < secNat a 8 2 ∨ regionSize < secNat a 4 4 + secNat a 8 2;
    admits 0x01 [] standby = true ∧ admits 0x02 [] standby = true ∧ admits 0x10 (leBytes 4 1) standby = true
    ∧ admits 0x11 (List.replicate 12 0) standby = true ∧ admits 0x20 [] standby = true ∧ admits 0x32 read standby = true
    ∧ ¬bad (argsOf (request 0x32 read).bytes) ∧ admits 0x32 (dataOf [(1, 3), (3, 0), (4, 0x1FFF01), (2, 256)]) standby = true
    ∧ bad (argsOf (request 0x32 (dataOf [(1, 3), (3, 0), (4, 0x1FFF01), (2, 256)])).bytes)
    ∧ admits 0x40 [] standby = true ∧ admits 0x41 [] standby = true ∧ admits 0x42 [] (inHalf .update []) = true := by decide +kernel
/-- A half whose long service runs. -/
def working (l : LongSvc) : State := { standby with mgmt := { standby.mgmt with long := some l } }
theorem witness_memory_services :
    let erase (r n : Nat) := dataOf [(1, r), (1, 0), (1, 31), (1, n)]
    let write (o : Nat) := dataOf [(1, 3), (3, 0), (4, o), (1, 9)]
    let bad (u : State) (r n : Nat) : Prop := let a := argsOf (request 0x30 (erase r n)).bytes
      3 < secNat a 0 1 ∨ secNat a 1 1 ≠ 0 ∨ secNat a 3 1 = 0 ∨ 32 < secNat a 2 1 + secNat a 3 1 ∨ u.runningSlot (secNat a 0 1) = true
        ∨ (secNat a 0 1 ≤ 1 ∧ u.copying = true)
    let busy := working ⟨0x33, 0, 0, 0, 0⟩
    let case (n : Nat) : State := fields [(MGMT_BOOT_STAT.BOOT_CASE, n)] standby
    let a := List.replicate 32 (7 : Byte)
    let used : State := { standby with fuse := { standby.fuse with keyHash := some a } };
    busy.mgmt.long.isSome = true ∧ standby.mgmt.long = none
    ∧ (admits 0x30 (erase 3 1) standby = true ∧ ¬bad standby 3 1 ∧ ¬bad busy 3 1) ∧ admits 0x30 (erase 3 2) standby = true
    ∧ bad standby 3 2 ∧ bad (working ⟨0x34, 0, 0, 0, 0⟩) 1 1 ∧ admits 0x30 (erase 3 1) busy = true
    ∧ (admits 0x31 (write 0x1FFFFF) standby = true ∧ secNat (write 0x1FFFFF) 4 4 + 1 ≤ regionSize
      ∧ secNat (write 0x1FFFFF) 4 4 % 256 + 1 ≤ 256) ∧ regionSize < secNat (write 0x200000) 4 4 + 1
    ∧ admits 0x33 [3] standby = true ∧ admits 0x33 [4] standby = true ∧ 3 < secNat [(4 : Byte)] 0 1
    ∧ admits 0x34 [] standby = true ∧ standby.copyError 1 true ≠ 0 ∧ admits 0x35 [] standby = true
    ∧ (case 2).rd MGMT_BOOT_STAT.BOOT_CASE = 2 ∧ (case 3).rd MGMT_BOOT_STAT.BOOT_CASE = 3 ∧ (case 4).rd MGMT_BOOT_STAT.BOOT_CASE = 4
    ∧ (case 1).rd MGMT_BOOT_STAT.BOOT_CASE = 1
    ∧ admits 0x60 a standby = true ∧ blankHash standby.fuse.keyHash = true ∧ blankHash used.fuse.keyHash = false := by decide +kernel
/-- An image with the six needed sections, all empty, signed over P-256 with a key made for this test. -/
def signedImage : List Byte :=
  leBytes 48 0x4006ff00000000000500000124000000024f524853
  ++ leBytes 48 0xa0000000030000000000000000000000a00000000154348c8d000000000000000000000000
  ++ leBytes 48 0xa0000000060000000000000000000000a0000000050000000000000000000000a000000004
  ++ leBytes 48 0xa30b172db82961cc70e3deaa7b89ba77c66fc8741a29ab22ffb98b082dd2043d0000000000000000000000a000000009
  ++ leBytes 48 0x6630bb25467bbfa06f3b538e46a85bb7dea131a3a68e755ecd870e4909d43ab902aa1ed956790616a7a92d445c4126fc
  ++ leBytes 48 0xb1808a3f25c93c080be4012b303816160bb3de27b3cc900ad2b61846a3b28731702806305bef0fa8b8f8f97e60fb017c
  ++ leBytes 4 0x951697b7
/-- A half that holds the image in copy 1, and its key hash in the one-time memory. -/
def imaged : State := { standby with
  flash := (signedImage.zipIdx.map fun x => (0x400000 + x.2, x.1)).filter fun c => c.2 != 0xFF
  fuse := { standby.fuse with keyHash := some (leBytes 32 0x446203fb4e554ebd953937b164a697e256f6e801ae7a54c38750084f2d218a0f) } }
theorem witness_signed_copy : admits 0x34 [] imaged = true ∧ imaged.mgmt.long = none ∧ imaged.copyError 1 true = 0 := by decide +kernel
theorem witness_long_services :
    let l : LongSvc := ⟨0x34, 0, 0, 0, 0⟩;
    standby.mgmt.long = none ∧ (working l).mgmt.long = some l ∧ (working l).rd MGMT_UPD.CHECK = 0
    ∧ (fields [(MGMT_UPD.CHECK, 2)] (working l)).rd MGMT_UPD.CHECK ≠ 0 := by decide +kernel
/-- A half with an event to log, and lines marked bad. -/
def logging (n : Nat) : State :=
  { standby with logQueue := [⟨3, 255, 1, []⟩], keepArea := { standby.keepArea with badLines := List.range n } }
theorem witness_log_writes :
    let e : LogEvent := ⟨3, 255, 1, []⟩
    let s := logging 0
    let many : State := { s with mgmt := { s.mgmt with logTimes := List.replicate 2000 0 } };
    s.logQueue = e :: [] ∧ standby.logQueue = [] ∧ svcState s.half = true ∧ svcState (inHalf .boot []).half = false
    ∧ (s.mgmt.logTimes.filter fun t => s.now - t < 1000 * 400000).length < 2000
    ∧ 2000 ≤ (many.mgmt.logTimes.filter fun t => many.now - t < 1000 * 400000).length
    ∧ fitBytes 32 ((none : Option (List Byte)).getD (s.entryBytes 1 e)) = s.entryBytes 1 e
    ∧ fitBytes 32 ((some [] : Option (List Byte)).getD (s.entryBytes 1 e)) ≠ s.entryBytes 1 e
    ∧ 64 ≤ ((logging 64).report srcLogFail 0).keepArea.badLines.length
    ∧ ((logging 63).report srcLogFail 0).keepArea.badLines.length < 64 := by decide +kernel
/-- A half in service that shares motor 0, with a command frame of its partner. -/
def sharing (st code : Nat) (p : List Byte) (h : Handover → Handover) : State :=
  let s := inHalf .armed [(PWR_STATE.DOM_ON, 0xFFF), (GD_SLUICE.HS_CMD, 1), (GD_SLUICE.LS_CMD, 1), (FIELD_SHARE.SRC 0, 1),
    (MGMT_HO.HSTATE, st), (MGMT_HO.HO_ID, 7), (MGMT_HO.HO_TMO, 1), (SAFE_RSTAT.RSTATE, 0)]
  { s with img := { s.img with shared := [0] }, brine := { s.brine with cmdQueue := [commandIn code p] }, ho := h s.ho }
theorem witness_handover_service :
    let a := dataOf [(1, 1), (1, 1)]
    let m := request 0x50 a
    let q := sharing hoIdle 0x10 [] id
    let shares (mask k : Nat) : Bool := !mask.testBit k || (q.img.shared.contains k && q.rd (FIELD_SHARE.SRC k) == 1);
    (svcOf m.bytes = 0x50 ∧ lenOk 0x50 m.bytes = true ∧ q.stateOk 0x50 (argsOf m.bytes) = true ∧ q.writerOk 0x50 m.reply = true)
    ∧ secNat (argsOf m.bytes) 0 1 = 1 ∧ secNat (argsOf m.bytes) 1 1 = 1 ∧ [0, 1, 2].all (shares 1) = true
    ∧ [0, 1, 2].all (shares 2) = false ∧ q.copy = 0 ∧ q.hstate = hoIdle ∧ (sharing hoAsk 0x10 [] id).hstate ≠ hoIdle
    ∧ secNat (argsOf (request 0x50 (dataOf [(1, 0), (1, 1)])).bytes) 0 1 = 0 ∧ (sharing hoRamp 0x10 [] id).inRamp = true := by decide +kernel
theorem witness_handover_frames :
    let x (s : State) : State := if s.dropCommand.hstate = hoAsk ∧ s.dropCommand.halfId = .b then s.dropCommand.failHo 5 else s.dropCommand
    let id7 := leBytes 2 7
    let p := fitBytes 24 id7
    let same (s : State) : Prop := payNat p 0 2 = s.dropCommand.rd MGMT_HO.HO_ID
    let at_ (st code : Nat) : State := sharing st code id7 id;
    (at_ hoIdle 0x10).headCommand 0x10 = some p ∧ (at_ hoIdle 0x11).headCommand 0x10 = none ∧ (x (at_ hoIdle 0x10)).hoReason = 0
    ∧ (x (at_ hoRamp 0x10)).hoReason ≠ 0
    ∧ (at_ hoAsk 0x11).headCommand 0x11 = some p ∧ (at_ hoAsk 0x11).dropCommand.hstate = hoAsk ∧ same (at_ hoAsk 0x11)
    ∧ (at_ hoIdle 0x11).dropCommand.hstate ≠ hoAsk ∧ (at_ hoAsk 0x12).headCommand 0x12 = some p
    ∧ ((at_ hoRamp 0x13).hstate = hoRamp ∧ (sharing hoRamp 0x13 [] fun h => { h with mask := 0 }).rampDone = true)
    ∧ (sharing hoRamp 0x13 [] fun h => { h with mask := 1 }).rampDone = false
    ∧ (at_ hoPartner 0x13).headCommand 0x13 = some p ∧ (at_ hoPartner 0x13).dropCommand.hstate = hoPartner
    ∧ (let s : State := { sharing hoPartner 0x15 id7 (fun h => { h with out := false, since := 0 }) with now := 400000 };
      s.inRamp = true ∧ max 1 (s.rd MGMT_HO.HO_TMO) * 400000 ≤ s.now - s.ho.since ∧ s.dropCommand.inRamp = true
      ∧ s.headCommand 0x15 = some p)
    ∧ (at_ hoIdle 0x15).inRamp = false ∧ (at_ hoIdle 0x15).dropCommand.inRamp = false
    ∧ (at_ hoPartner 0x14).headCommand 0x14 = some p ∧ (at_ hoIdle 0x20).headCommand 0x20 = some p := by decide +kernel

/-! ### One step of other commands -/

/-- R39: the count goes on and CEC begins at 0. -/
theorem test_tick_boundary : let t := left (exec .tickBoundary (inHalf .standby [(RAKE_STAT.RUN, 1), (PWR_STATE.DOM_ON, 0xFFF)]))
    t.rd RAKE_TICK_COUNT.TICK_COUNT = 1 ∧ t.cec = 0 ∧ t.now = 4000 := by decide +kernel
/-- R78: a good write frame stores its word. -/
theorem test_spi_write : let m : List Byte := [0x80, 0x3C, 0x00, 0x05, 0x01, 0x10, 0x00, 0x08]
    (left (exec (.hostSpiWrite (m ++ [crc8 m, 0, 0]) 88 []) standby)).rd IDX_ADDR.ADDR = 0x1100008 / 4 := by decide +kernel
/-- R77: a bad CRC is counted and nothing is written. -/
theorem test_spi_bad_crc : let m : List Byte := [0x80, 0x3C, 0x00, 0x05, 0x01, 0x10, 0x00, 0x08]
    (left (exec (.hostSpiWrite (m ++ [crc8 m + 1, 0, 0]) 88 []) standby)).rd IDX_ADDR.ADDR = 0 := by decide +kernel
/-- R84: a bit written with 1 is cleared in a W1C field, and one written with 0 stays. -/
theorem test_w1c : let s := fields [(GD_EVT.CP, 1), (GD_EVT.OVS, 1)] standby
    let t := left (exec (.registerWrite 0 GD_EVT.CP.off (BitVec.ofNat 32 (2 ^ GD_EVT.CP.lo)) []) s)
    t.flag GD_EVT.CP = false ∧ t.flag GD_EVT.OVS = true := by decide +kernel
/-- R72: an access outside the map sets ADDR_ERR. -/
theorem test_address_error : (left (exec (.registerWrite 0 0x3FFE 0 []) standby)).flag SYS_ACC_STAT.ADDR_ERR = true := by decide +kernel
/-- R75, R76: a word written to X waits and enters with the queue. -/
theorem test_x_queue : let t := left (exec .xQueueDrain (queued standby))
    t.xWord 8 = 5 ∧ t.sys.xQueue = [] := by decide +kernel
/-- R384: the right password opens the unlock; a wrong one is counted. -/
theorem test_key_check : (left (exec .keyCheck (unlocking 2))).rd SAFE_UNL.STATE = 2
    ∧ (left (exec .keyCheck (unlocking 3))).rd SAFE_UNL.WRONG_CNT = 1 := by decide +kernel
/-- R461, R464: arming starts from STANDBY and is refused from SAFE. -/
theorem test_req_armed : (left (exec (.reqArmed 0) standby)).flag PWR_STATE.BUSY = true
    ∧ (left (exec (.reqArmed 0) (inHalf .safe []))).rd PWR_REQ_STAT.REF_CODE = 1 := by decide +kernel
/-- R328: OV_ABS opens the high-side series switch. -/
theorem test_ovabs : (left (exec .gdOvabs (ticking [(GD_SLUICE.HS_CMD, 1), (GD_SLUICE.LS_CMD, 1)]))).flag GD_SLUICE.HS_CMD = false := by
  decide +kernel
/-- R322: the chopper turns on with the bus at OV_CHOP. -/
theorem test_chopper : (left (exec .chopperOn (chopper id []))).flag GD_STAT.CHOP_ON = true := by decide +kernel
/-- R404: a command frame is delivered once and acknowledged each time. -/
theorem test_command : let x := frameSlots .k282 (commandIn 0x10 [])
    let t := left (exec (.commandFrameRx x) (linked linkUp []))
    let u := left (exec (.commandFrameRx x) t)
    t.brine.cmdQueue = [commandIn 0x10 []] ∧ u.brine.cmdQueue = [commandIn 0x10 []] ∧ t.wire.length = 1 ∧ u.brine.txWait.length = 1 := by
  decide +kernel
/-- R403: the frame stands in X from RXBASE on, with its mirror. -/
theorem test_frame_write :
    let b := (tickFrame.take 0x10 ++ [9] ++ tickFrame.drop 0x11)
    let s := linked linkUp []
    let t := left (exec .brineRxXwrite { s with brine := { s.brine with rx := some (b, 0) } })
    t.xWord (5 * 128 + 0x10) = 9 ∧ t.xWord (mirrorOf (5 * 128 + 0x10)) = 9 := by decide +kernel
/-- R442, R444: a received record enters its queue, and POP takes it off. -/
theorem test_flow : let s := flow 0 []
    let a := left (exec (.flowEnable 0 255) s)
    let b := left (exec (.push 0 255) a)
    let c := left (exec (.pop 0 255) b)
    a.flowOn 255 = true ∧ b.fill 255 = 1 ∧ c.fill 255 = 0 := by decide +kernel
/-- R441: an enable that fails its check is recorded. -/
theorem test_flow_refused : (left (exec (.flowEnable 0 255) (flow 4 []))).rd PAN_STAT.REJ_CODE = 1 := by decide +kernel
/-- R480: programming turns bits from 1 to 0 only. -/
theorem test_flash_write :
    let a := dataOf [(1, 3), (3, 0), (4, 0), (1, 0x0F)]
    let s := { standby with flash := standby.flash.setByte 0xFF (regionBase 3) 0xF0, mgmt := { standby.mgmt with queue := [request 0x31 a] } }
    (left (exec (.flashWrite none) s)).flash.byte 0xFF (regionBase 3) = 0 := by decide +kernel
/-- R495: ACK starts the ramp. -/
theorem test_handover : (left (exec .hoAck (sharing hoAsk 0x11 (leBytes 2 7) id))).hstate = hoRamp := by decide +kernel
/-- R297: the locked-rotor timer sets LOCK. -/
theorem test_lock : (left (exec (.fieldLock 0) (motor chRun (fun c => { c with lockTimer := cecPerMs })
    [(FIELD_CTRL.LOCK_EN 0, 1), (FIELD_LOCK.LOCK_T 0, 1)]))).flag (FIELD_STAT.LOCK 0) = true := by decide +kernel
/-- R155: a source dropped by the vote. -/
theorem test_drop : (left (exec (.sourceDrop 2 2) (voter (fun p => { p with drops := [(2, 3)] }) []))).bit (POS_VSTAT.DROP 2) 2 = true := by
  decide +kernel

end Sys2Proof.Tests
end

/-! SUPPORT. The engine's datapath: how an access modifies its address register, how the names of the D registers rotate, and
what a start of the Rake leaves in the engine. -/

namespace Sys2Proof.Datapath

open Sys2Proof Sys2Proof.Machine Sys2Proof.Safety Sys2Proof.Laws

/-! ### Address modification (R206) -/

theorem fieldOf_sixteen (x : Int) : (fieldOf 16 x : Int) = x % 65536 :=
  Int.toNat_of_nonneg (Int.emod_nonneg x (by decide))

/-- An address brought back by one length where it has left the buffer of `pl` bytes from `base` on. -/
def wrapOnce (base pl a : Int) : Int :=
  let a := if base + pl ≤ a then a - pl else a
  if a < base then a + pl else a

theorem circular_eq_wrapOnce (p pm : Nat) {pl k : Nat} (hmax : pl ≤ 32768) (hk : pl ≤ 2 ^ k) (hmin : ∀ j, j < k → 2 ^ j < pl) :
    (circular p pm pl : Int) = wrapOnce (p / 2 ^ k * 2 ^ k : Nat) pl (p + signedOf 16 pm) % 65536 := by
  have hfuel : k ≤ 0 + 16 := by
    by_contra hbig
    have hlong : 2 ^ 16 < pl := hmin 16 (by omega)
    omega
  have hpow : pow2From 16 0 pl = 2 ^ k := pow2From_spec pl 16 0 k k.zero_le hfuel hk hmin
  unfold circular
  rw [hpow]
  exact fieldOf_sixteen _

/-- A step of at most the length from inside the buffer ends inside it. -/
theorem wrapOnce_mem {base pl p step : Int} (hlo : base ≤ p) (hhi : p < base + pl) (hstep : (step.natAbs : Int) ≤ pl) :
    base ≤ wrapOnce base pl (p + step) ∧ wrapOnce base pl (p + step) < base + pl := by
  unfold wrapOnce
  dsimp only
  split_ifs <;> omega

theorem circular_stays_in_buffer {p pm pl k : Nat} (hmax : pl ≤ 32768) (hk : pl ≤ 2 ^ k) (hmin : ∀ j, j < k → 2 ^ j < pl)
    (hstep : (signedOf 16 pm).natAbs ≤ pl) (hin : p < p / 2 ^ k * 2 ^ k + pl) (hend : p / 2 ^ k * 2 ^ k + pl ≤ 65536) :
    ((p / 2 ^ k * 2 ^ k : Nat) : Int) ≤ circular p pm pl ∧ (circular p pm pl : Int) < (p / 2 ^ k * 2 ^ k : Nat) + pl := by
  rw [circular_eq_wrapOnce p pm hmax hk hmin]
  have hbase : p / 2 ^ k * 2 ^ k ≤ p := Nat.div_mul_le_self p (2 ^ k)
  generalize p / 2 ^ k * 2 ^ k = base at hbase hin hend ⊢
  have hmem := wrapOnce_mem (base := base) (pl := pl) (p := p) (step := signedOf 16 pm) (by omega) (by omega) (by omega)
  rwa [Int.emod_eq_of_lt (by omega) (by omega)]

theorem plBad_circ_eq_false_iff (s : State) (x : Strm) (n : Nat) :
    s.plBad x n .circ = false ↔
      4 ≤ s.plRead x n ∧ s.plRead x n ≤ 32768 ∧ s.plRead x n % 4 = 0 ∧ (signedOf 16 (s.pmRead x n)).natAbs ≤ s.plRead x n := by
  have hcast : ((s.plRead x n : Int) < (signedOf 16 (s.pmRead x n)).natAbs) ↔ s.plRead x n < (signedOf 16 (s.pmRead x n)).natAbs :=
    Int.ofNat_lt
  simp only [State.plBad, hcast]
  simp [and_assoc]

/-- Settles O25: the circular form by `circular_eq_wrapOnce`, the other forms as `modAddr` gives them. -/
theorem addressModification : Obligations.address_modification := by
  unfold Obligations.address_modification
  intro p pm pl _ _
  refine ⟨fun _ _ => ⟨rfl, rfl, rfl⟩, fun _ => fieldOf_sixteen _, ?circ, plBad_circ_eq_false_iff,
    fun _ _ px py _ _ => ⟨rfl, px.isLt, py.isLt⟩, fun _ _ _ => ⟨rfl, rfl, rfl, rfl⟩⟩
  intro k _ hmax hk hmin hstep
  exact ⟨circular_eq_wrapOnce p pm hmax hk hmin, circular_stays_in_buffer hmax hk hmin hstep⟩

/-! ### Rotating names (R208) -/

theorem dPhys_of_lt {k : Nat} (h : k < 16) (rrb : Nat) : dPhys rrb k = k := if_pos h

theorem dPhys_of_ge {k : Nat} (h : 16 ≤ k) (rrb : Nat) : dPhys rrb k = 16 + (k - 16 + rrb) % 16 := if_neg (by omega)

/-- After a rotation the register of the name Dk is named Dk+1. -/
theorem dPhys_rotate_succ {k : Nat} (h : 16 ≤ k) (r : Nat) : dPhys ((r + 15) % 16) (k + 1) = dPhys r k := by
  rw [dPhys_of_ge h, dPhys_of_ge (by omega)]
  omega

/-- After a rotation the register of the name D31 is named D16. -/
theorem dPhys_rotate_last (r : Nat) : dPhys ((r + 15) % 16) 16 = dPhys r 31 := by
  rw [dPhys_of_ge (by omega), dPhys_of_ge (by omega)]
  omega

theorem runSlots_nop (s : State) (x : Strm) : s.runSlots x .nop .nop .nop = s := by
  simp [State.runSlots, State.mSlot, State.aSlot, State.lSlot, SlotOut.empty, FlagWrite.none_, FlagWrite.or, State.noteReads,
    State.holdFlags]

theorem rotate_eq_hold (s : State) (x : Strm) :
    s.rotate x = s.hold x ⟨(s.strm x).t + 1, .rrb, (s.rrbOf x + 15) % 16, false, twinOf s x 4 3 26 false⟩ := rfl

theorem runCtl_rot (s : State) (x : Strm) : closed x (s.runCtl x .rot) = nextBundle x (s.rotate x) := by
  unfold nextBundle
  rw [rotate_eq_hold, pc_hold]
  rfl

theorem exec_rot_alone (e : Issue) (s : State) (hmay : (ready e s).mayIssue e.strm = true)
    (hlegal : (atIssue e s).illCode e.strm (fetched (.free .rot) 0 0 0) = 0) :
    exec (.rot e 0 0 0) s = completes s (nextBundle e.strm ((atIssue e s).rotate e.strm)) := by
  change completes s (s.issue e (fetched (.free .rot) 0 0 0)) = _
  rw [issue_legal s e (fetched (.free .rot) 0 0 0) .rot hmay rfl hlegal, ← runCtl_rot]
  have hslots : (atIssue e s).runSlots e.strm (Slot.getOp .nop (fetched (.free .rot) 0 0 0).m)
      (Slot.getOp .nop (fetched (.free .rot) 0 0 0).a) (Slot.getOp .nop (fetched (.free .rot) 0 0 0).l) = atIssue e s :=
    runSlots_nop _ _
  rw [hslots]

/-- Settles O26: names by `dPhys`, landing by `landD`, and the rotation by `exec_rot_alone`. -/
theorem rotatingNames : Obligations.rotating_names := by
  unfold Obligations.rotating_names
  refine ⟨fun _ _ _ hk => dPhys_of_ge hk _, fun _ _ _ hk => dPhys_of_lt hk _, landD, ?rot,
    fun r _ => ⟨fun hk _ => dPhys_rotate_succ hk r, dPhys_rotate_last r⟩⟩
  intro e s hmay hlegal
  rw [exec_rot_alone e s hmay hlegal, rotate_eq_hold]

/-! ### A start of the Rake (R205) -/

theorem foldl_ce {α : Type} (f : State → α → State) (hf : ∀ s a, (f s a).ce = s.ce) (l : List α) (s : State) :
    (l.foldl f s).ce = s.ce := by
  induction l generalizing s with
  | nil => rfl
  | cons a r ih => rw [List.foldl_cons, ih, hf]

@[simp] theorem showB_ce (s : State) : s.showB.ce = s.ce := by simp [State.showB]

@[simp] theorem dcntStart_ce (s : State) : s.dcntStart.ce = s.ce := foldl_ce _ (fun s _ => wr_ce s _ _) _ s

theorem startB_ce (s : State) : s.startB.ce =
    { s.ce with p := { s.ce.p with run := true, pc := s.bEntry, t := 0, issued := 0, rep := 0, repNew := false, cache := [], held := [] },
                bStop := false, bEnd := none, bStopped := false } := by
  unfold State.startB
  rw [showB_ce, setFlag_ce]

/-- The engine right after a start: reset, but for the transient counts, the window of PP and where the B-program stands. -/
def startedCe (transients : List Nat) (ppWin : Nat) (run : Bool) (pc : Nat) : Ce :=
  { Ce.init with transients := transients, ppWin := ppWin, p := { Stream.init with run := run, pc := pc } }

theorem ceStart_ce (s : State) : ∃ w run pc, s.ceStart.ce = startedCe s.ce.transients w run pc := by
  unfold State.ceStart
  dsimp only
  split
  · rw [startB_ce, dcntStart_ce, setFlag_ce, setFlag_ce, setFlag_ce]
    exact ⟨_, true, _, rfl⟩
  · rw [showB_ce, dcntStart_ce, setFlag_ce, setFlag_ce, setFlag_ce]
    exact ⟨_, false, 0, rfl⟩

@[simp] theorem zeroVector_ce (s : State) (m : Nat) : (s.zeroVector m).ce = s.ce := rfl
@[simp] theorem laneShare_ce (s : State) (m : Nat) : (s.laneShare m).ce = s.ce := rfl
@[simp] theorem shareBoundary_ce (s : State) (m : Nat) : (s.shareBoundary m).ce = s.ce := rfl
@[simp] theorem limitRecord_ce (s : State) (m : Nat) : (s.limitRecord m).ce = s.ce := by simp [State.limitRecord]
@[simp] theorem reload_ce (s : State) (m : Nat) : (s.reload m).ce = s.ce := rfl

@[simp] theorem tickRecord_ce (s : State) (f : Nat) (record : List Byte) : (s.tickRecord f record).ce = s.ce := by
  simp [State.tickRecord, State.setFill, State.putEntry]

@[simp] theorem zeroWords_ce (s : State) : s.zeroWords.ce = s.ce := foldl_ce _ (fun _ _ => tickRecord_ce _ _ _) _ s

@[simp] theorem statusTick_ce (s : State) : s.statusTick.ce = s.ce := foldl_ce _ (fun _ _ => tickRecord_ce _ _ _) _ s

@[simp] theorem busWords_ce (s : State) : s.busWords.ce = s.ce := by
  unfold State.busWords
  dsimp only
  split
  · rfl
  · rw [setXPair_ce, setXPair_ce]

@[simp] theorem lowerLock_ce (s : State) : s.lowerLock.ce = s.ce := rfl

@[simp] theorem enterLock_ce (s : State) (k : Nat) : (s.enterLock k).ce = s.ce := wr_ce s _ _

@[simp] theorem referenceBoundary_ce (s : State) : s.referenceBoundary.ce = s.ce := by
  unfold State.referenceBoundary
  dsimp only
  split
  · rfl
  · split <;> simp

/-- What a start of the Rake does with a used motor. -/
def startMotor (s : State) (m : Nat) : State := ((((s.zeroVector m).laneShare m).shareBoundary m).limitRecord m).reload m

theorem startMotor_ce (s : State) (m : Nat) : (startMotor s m).ce = s.ce := by
  rw [startMotor, reload_ce, limitRecord_ce, shareBoundary_ce, laneShare_ce, zeroVector_ce]

/-- What a start of the Rake does once the CE has started: the motors, the transmit words, the bus words, the STATUS record and
the lock reference. -/
def afterCeStart (s : State) : State :=
  (s.usedMotors.foldl startMotor s).zeroWords.busWords.statusTick.referenceBoundary

theorem afterCeStart_ce (s : State) : (afterCeStart s).ce = s.ce := by
  rw [afterCeStart, referenceBoundary_ce, statusTick_ce, busWords_ce, zeroWords_ce]
  exact foldl_ce startMotor startMotor_ce _ s

theorem rakeStart_eq_afterCeStart (s : State) : ∃ z : State, s.rakeStart = afterCeStart z.ceStart := by
  unfold State.rakeStart afterCeStart
  exact ⟨_, rfl⟩

/-- Settles O34: after `ceStart` nothing that a start does changes the engine. -/
theorem rakeStartClearsTheEngine : Obligations.rake_start_clears_the_engine := by
  unfold Obligations.rake_start_clears_the_engine
  intro s x n
  obtain ⟨z, hz⟩ := rakeStart_eq_afterCeStart s
  obtain ⟨w, run, pc, hce⟩ := ceStart_ce z
  rw [← afterCeStart_ce, ← hz] at hce
  cases x <;> simp [State.strm, State.flagsOf, State.lcOf, State.rrbOf, hce, startedCe, Ce.init, Stream.init, lookup]

end Sys2Proof.Datapath

/-! SUPPORT. The instructions of the A slot that round, compare, divide and take roots: what a bundle of one A-slot operation leaves
(R214, R234, R258), and the arithmetic of ASR, CMP, DIV and RSQRT (R242 to R245). -/

namespace Sys2Proof.SlotA

open Sys2Proof Sys2Proof.Machine Sys2Proof.Safety Sys2Proof.Laws

/-! ### A bundle of one A-slot operation -/

/-- The results of a slot, held for the bundle that now issues. -/
def holdAll (s : State) (x : Strm) (conf : Bool) (effs : List Effect) : State :=
  effs.foldl (State.holdEffect x (s.strm x).t conf) s

theorem pc_holdAll (s : State) (x : Strm) (conf : Bool) (effs : List Effect) :
    ((holdAll s x conf effs).strm x).pc = (s.strm x).pc :=
  List.foldlRecOn (motive := fun u => (u.strm x).pc = (s.strm x).pc) effs _ rfl fun u hu _ _ =>
    (pc_hold u x _).trans hu

/-- An operation of the A slot alone that writes results and flags: its results are held, then its flags, and a tag conflict is
recorded last. -/
theorem runSlots_of_aSlot {s : State} {x : Strm} {op : AOp} {effs : List Effect} {fl : FlagWrite} {conf : Bool}
    (hop : s.aSlot x op = { SlotOut.empty with effs := effs, fl := fl, conf := conf }) :
    s.runSlots x .nop op .nop = conflict x conf ((holdAll s x conf effs).holdFlags x (s.strm x).t 1 fl conf) := by
  have hslot := flagSlot_a fl x (s.strm x).t conf (holdAll s x conf effs)
  simp only [State.runSlots, hop, State.mSlot, State.lSlot, SlotOut.empty, State.noteReads, List.foldl_nil, FlagWrite.none_,
    none_or, or_none, Bool.false_and, Bool.false_or, Bool.or_false, holdFlags_mask, conflict, pc_holdFlags, pc_holdAll,
    Bool.false_eq_true, if_false]
  rw [← hslot]
  rfl

theorem issue_of_aSlot {s : State} {e : Issue} {op : AOp} {effs : List Effect} {fl : FlagWrite} {conf : Bool}
    (hmay : (ready e s).mayIssue e.strm = true)
    (hop : (atIssue e s).aSlot e.strm op = { SlotOut.empty with effs := effs, fl := fl, conf := conf })
    (hone : twice (dNumbers ((atIssue e s).aSlot e.strm op)) = false) :
    s.issue e (fetchedOps .nop op .nop) = nextBundle e.strm (conflict e.strm conf
      ((holdAll (atIssue e s) e.strm conf effs).holdFlags e.strm ((atIssue e s).strm e.strm).t 1 fl conf)) := by
  rw [run_one s e .nop op .nop hmay (legal_a _ _ op hone), runSlots_of_aSlot hop]

/-- An operation of the A slot alone with one D result leaves `afterD`. -/
theorem issue_of_dResult {s : State} {e : Issue} {op : AOp} {dd : BitVec 5} {r : Int} {tag conf : Bool} {lat : Nat}
    {fl : FlagWrite} (hmay : (ready e s).mayIssue e.strm = true)
    (hop : (atIssue e s).aSlot e.strm op
      = { SlotOut.empty with effs := [dResult 1 ((atIssue e s).dName e.strm dd) r tag lat], fl := fl, conf := conf }) :
    s.issue e (fetchedOps .nop op .nop) = afterD e s 1 dd r tag conf lat fl := by
  have hone : twice (dNumbers ((atIssue e s).aSlot e.strm op)) = false := by rw [hop]; rfl
  rw [issue_of_aSlot hmay hop hone]
  cases hT : e.strm.isT <;> simp [afterD, holdAll, State.holdEffect, dResult, dHeld, twinOf, Dest.of, hT]

/-! ### Shifts to the right (R242) -/

theorem roundDiv_one (v : Int) : roundDiv v 1 = v := by
  simp [roundDiv]

/-- A word divided by a positive number and rounded is a word. -/
theorem roundDiv_mem_word {v M : Int} {d : Nat} (hd : 0 < d) (hM : 0 < M) (hlo : -M ≤ v) (hhi : v < M) :
    -M ≤ roundDiv v d ∧ roundDiv v d < M := by
  have hnear : 2 * |roundDiv v d * d - v| ≤ d := by
    rw [Int.abs_eq_natAbs]
    exact_mod_cast (roundDiv_near v d hd).1
  have hd' : (1 : Int) ≤ d := by exact_mod_cast hd
  have hwide : (M - 1) * 1 ≤ (M - 1) * d := by gcongr; omega
  generalize roundDiv v d = r at hnear ⊢
  constructor
  · by_contra hlow
    have hfar : r * d ≤ (-M - 1) * d := by gcongr; omega
    linarith [neg_abs_le (r * d - v)]
  · by_contra hhigh
    have hfar : M * d ≤ r * d := by gcongr; omega
    linarith [le_abs_self (r * d - v)]

theorem roundDiv_mul_self (q : Int) {d : Nat} (hd : 0 < d) : roundDiv (q * d) d = q := by
  have hd' : (d : Int) ≠ 0 := by exact_mod_cast hd.ne'
  simp [roundDiv, Int.mul_ediv_cancel _ hd', hd]

/-- A word of `32` bits, cut to a multiple of `2 ^ k`, is a word. -/
theorem floor_mem_word {v : Int} {k : Nat} (hk : k < 32) (hlo : -2 ^ 31 ≤ v) (hhi : v < 2 ^ 31) :
    -2 ^ 31 ≤ v / 2 ^ k * 2 ^ k ∧ v / 2 ^ k * 2 ^ k < 2 ^ 31 := by
  have hpow : (0 : Int) < 2 ^ k := by positivity
  have hsplit : (2 : Int) ^ 31 = 2 ^ (31 - k) * 2 ^ k := by rw [← pow_add, Nat.sub_add_cancel (by omega)]
  refine ⟨?_, (Int.ediv_mul_le v hpow.ne').trans_lt hhi⟩
  have hfloor : -2 ^ (31 - k) ≤ v / 2 ^ k := (Int.le_ediv_iff_mul_le hpow).mpr (by linarith)
  nlinarith

/-- A word with its low `k` bits masked off is its floor at `2 ^ k`. -/
theorem toInt_maskLow (w : Word) {k : Nat} (hk : k < 32) :
    (w &&& (BitVec.allOnes 32 <<< k)).toInt = w.toInt / 2 ^ k * 2 ^ k := by
  have hpow : (2 : Int) ^ k ≠ 0 := by positivity
  have hsplit : ((2 ^ 32 : Nat) : Int) = 2 ^ k * 2 ^ (32 - k) := by
    rw [← pow_add, Nat.add_sub_cancel' (by omega)]
    rfl
  obtain ⟨c, hc⟩ : ∃ c : Int, w.toInt = w.toNat + (2 ^ 32 : Nat) * c := by
    rw [BitVec.toInt_eq_toNat_cond]
    split_ifs
    · exact ⟨0, by simp⟩
    · exact ⟨-1, by push_cast; ring⟩
  have hfloor : w.toInt / 2 ^ k * 2 ^ k = (w.toNat / 2 ^ k * 2 ^ k : Nat) + (2 ^ 32 : Nat) * c := by
    rw [hc, hsplit, mul_assoc, Int.add_mul_ediv_left _ _ hpow]
    push_cast
    ring
  obtain ⟨hlo, hhi⟩ := floor_mem_word hk (BitVec.le_toInt w) (BitVec.toInt_lt (x := w))
  rw [← BitVec.shiftLeft_ushiftRight, BitVec.toInt_shiftLeft, BitVec.toNat_ushiftRight, Nat.shiftRight_eq_div_pow,
    Nat.shiftLeft_eq, ← Int.add_mul_bmod_self_left _ _ c, ← hfloor]
  exact Int.bmod_eq_of_le (by omega) (by omega)

/-- Settles O20: the result by `issue_of_dResult`, its range by `roundDiv_mem_word`, the truncation by `toInt_maskLow`. -/
theorem asrRoundsWithinTheWord : Obligations.asr_rounds_within_the_word := by
  unfold Obligations.asr_rounds_within_the_word
  intro e sat dd da k w s hmay
  have hpow : 0 < 2 ^ k.toNat := Nat.two_pow_pos _
  obtain ⟨hlo, hhi⟩ := roundDiv_mem_word (M := 2 ^ 31) hpow (by decide) (BitVec.le_toInt ((atIssue e s).dRead e.strm da).v)
    (BitVec.toInt_lt (x := ((atIssue e s).dRead e.strm da).v))
  refine ⟨?exec, hlo, hhi, rfl, ?floor⟩
  case exec =>
    have hop := issue_of_dResult (op := .asr sat dd da k) (dd := dd) (lat := 3) (conf := false) hmay rfl
    exact next_congr (hop.trans (by rw [FlagWrite.none_, or_none]))
  case floor =>
    rw [toInt_maskLow w k.isLt, rne]
    exact_mod_cast roundDiv_mul_self (w.toInt / 2 ^ k.toNat) hpow

/-! ### Comparison and selection (R243) -/

theorem condOf_code (c : Cond) : condOf c.code = some c := by cases c <;> rfl

theorem condOf_reserved : ∀ v : BitVec 5, 6 ≤ v.toNat → condOf v = none := by decide

theorem condHolds_iff (a b : Int) :
    (condHolds .eq a b = true ↔ a = b) ∧ (condHolds .ne a b = true ↔ a ≠ b) ∧ (condHolds .lt a b = true ↔ a < b)
      ∧ (condHolds .le a b = true ↔ a ≤ b) ∧ (condHolds .gt a b = true ↔ a > b) ∧ (condHolds .ge a b = true ↔ a ≥ b) := by
  simp only [condHolds, decide_eq_true_eq, gt_iff_lt, ge_iff_le, and_self]

/-- The flag write of CMP, held. -/
theorem holdFlags_TC (s : State) (x : Strm) (t : Nat) (c conf : Bool) :
    s.holdFlags x t 1 (flagsTC c) conf
      = s.hold x ⟨t + 3, .flags flagTC, c.toNat, false, if x.isT then some ⟨t, 1, 4, 27, conf⟩ else none⟩ := by
  cases c <;> rfl

/-- Settles O21: the codes by `condOf_code` and `condOf_reserved`, CMP by `issue_of_aSlot`, landing by `landTC`, and SEL by
`issue_of_dResult`. -/
theorem compareConditions : Obligations.compare_conditions := by
  unfold Obligations.compare_conditions
  refine ⟨⟨rfl, rfl, rfl, rfl, rfl, rfl⟩, condOf_code, condOf_reserved, condHolds_iff, ⟨rfl, rfl, rfl, rfl, rfl, rfl⟩, ?_⟩
  intro e sat c dd da db s hmay
  refine ⟨?cmp, landTC _ _ _ _ rfl rfl, ?sel⟩
  case cmp =>
    have hop := issue_of_aSlot (op := .cmp sat c da db) (effs := []) hmay rfl rfl
    rw [holdFlags_TC] at hop
    exact next_congr hop
  case sel => exact next_congr (issue_of_dResult (op := .sel sat dd da db) hmay rfl)

/-! ### Quotients (R244) -/

theorem satW_neg (v : Int) : satW 32 true (-v) = (-(satW 32 true v).1, (satW 32 true v).2) := by
  refine Prod.ext (clamp_neg 2147483647 v (by decide)) ?_
  change (decide (-v < -2147483647) || decide (2147483647 < -v)) = (decide (v < -2147483647) || decide (2147483647 < v))
  rw [Bool.or_comm, ← Bool.decide_or, ← Bool.decide_or, decide_eq_decide]
  omega

/-- The exact quotient of R244, scaled by 2³¹, rounded to nearest with ties to even. -/
def quotient (a b : Int) : Int := roundDiv ((if b < 0 then -a else a) * 2147483648) b.natAbs

theorem divQ31_of_ne {a b : Int} (hb : b ≠ 0) : divQ31 a b = satW 32 true (quotient a b) := if_neg hb

theorem divQ31_zero (a : Int) :
    divQ31 a 0 = (if a = 0 then 0 else if 0 < a then 2147483647 else -2147483647, decide (a ≠ 0)) := if_pos rfl

theorem quotient_neg (a : Int) {b : Int} (hb : b ≠ 0) : quotient (-a) b = -quotient a b := by
  unfold quotient
  rw [← roundDiv_neg _ _ (Int.natAbs_pos.mpr hb)]
  congr 1
  split_ifs <;> ring

/-- The distance of the rounded quotient from the exact one, times the divisor. -/
theorem quotient_near (a : Int) {b : Int} (hb : b ≠ 0) :
    2 * (quotient a b * b - a * 2 ^ 31).natAbs ≤ b.natAbs
      ∧ (2 * (quotient a b * b - a * 2 ^ 31).natAbs = b.natAbs → quotient a b % 2 = 0) := by
  have hnear := roundDiv_near ((if b < 0 then -a else a) * 2147483648) b.natAbs (Int.natAbs_pos.mpr hb)
  change 2 * (quotient a b * _ - _).natAbs ≤ _ ∧ (2 * (quotient a b * _ - _).natAbs = _ → quotient a b % 2 = 0) at hnear
  have hdist : (quotient a b * b - a * 2 ^ 31).natAbs
      = (quotient a b * b.natAbs - (if b < 0 then -a else a) * 2147483648).natAbs := by
    split_ifs with hneg
    · rw [Int.ofNat_natAbs_of_nonpos hneg.le, ← Int.natAbs_neg]
      ring_nf
    · rw [Int.natAbs_of_nonneg (not_lt.mp hneg)]
      ring_nf
  rwa [hdist]

theorem divQ31_neg (a b : Int) : divQ31 (-a) b = (-(divQ31 a b).1, (divQ31 a b).2) := by
  by_cases hb : b = 0
  · subst hb
    rw [divQ31_zero, divQ31_zero]
    refine Prod.ext ?_ (by simp)
    dsimp only
    split_ifs <;> omega
  · rw [divQ31_of_ne hb, divQ31_of_ne hb, quotient_neg a hb, satW_neg]

/-- Settles O22: the bundle by `issue_of_dResult`, the quotient by `quotient_near` and `divQ31_neg`. -/
theorem quotients : Obligations.quotients := by
  unfold Obligations.quotients
  refine ⟨fun e dd da db s hmay => next_congr (issue_of_dResult (op := .div dd da db) hmay rfl), fun a b => ?_⟩
  refine ⟨?zeroByZero, ?posByZero, ?negByZero, fun hb => ⟨quotient a b, divQ31_of_ne hb, quotient_near a hb⟩, divQ31_neg a b⟩
  case zeroByZero => rintro rfl rfl; rfl
  case posByZero =>
    rintro rfl ha
    simp [divQ31_zero, ha, ha.ne']
  case negByZero =>
    rintro rfl ha
    simp [divQ31_zero, ha.ne, ha.le.not_gt]

/-! ### Reciprocal square roots (R245) -/

/-- The floor of √(2⁷⁷ / a). -/
def rootFloor (a : Nat) : Nat := isqrt (2 ^ 77 / a)

theorem rootFloor_spec {a : Nat} (ha : 0 < a) :
    rootFloor a ^ 2 * a ≤ 2 ^ 77 ∧ 2 ^ 77 < (rootFloor a + 1) ^ 2 * a := by
  obtain ⟨hle, hlt⟩ := isqrt_spec (2 ^ 77 / a) ((Nat.div_le_self _ _).trans_lt (by decide))
  rw [← sq] at hle hlt
  exact ⟨(Nat.le_div_iff_mul_le ha).mp hle, (Nat.div_lt_iff_lt_mul ha).mp hlt⟩

theorem rootFloor_pos {a : Nat} (ha : 0 < a) (hword : a < 2 ^ 31) : 0 < rootFloor a := by
  obtain ⟨-, hlt⟩ := rootFloor_spec ha
  by_contra hzero
  rw [Nat.eq_zero_of_not_pos hzero] at hlt
  omega

/-- `r` is the nearest whole number to √(2⁷⁷ / a), the even one of two. -/
def nearestRoot (a r : Nat) : Prop :=
  (2 * r - 1) ^ 2 * a ≤ 2 ^ 79 ∧ 2 ^ 79 ≤ (2 * r + 1) ^ 2 * a
    ∧ ((2 * r - 1) ^ 2 * a = 2 ^ 79 ∨ (2 * r + 1) ^ 2 * a = 2 ^ 79 → r % 2 = 0)

/-- The floor is nearest where the midpoint above it is not below the root. -/
theorem nearestRoot_floor {a : Nat} (ha : 0 < a) (hword : a < 2 ^ 31) (hmid : 2 ^ 79 ≤ (2 * rootFloor a + 1) ^ 2 * a)
    (heven : 2 ^ 79 = (2 * rootFloor a + 1) ^ 2 * a → rootFloor a % 2 = 0) : nearestRoot a (rootFloor a) := by
  obtain ⟨hle, -⟩ := rootFloor_spec ha
  have hpos := rootFloor_pos ha hword
  generalize rootFloor a = f at *
  have hbelow : (2 * f - 1) ^ 2 * a < 2 ^ 79 := by
    have hsq : (2 * f - 1) ^ 2 < (2 * f) ^ 2 := Nat.pow_lt_pow_left (by omega) (by decide)
    nlinarith
  exact ⟨hbelow.le, hmid, fun h => h.elim (fun h => absurd h hbelow.ne) fun h => heven h.symm⟩

/-- The floor plus one is nearest where the midpoint below it is not above the root. -/
theorem nearestRoot_succ_floor {a : Nat} (ha : 0 < a) (hmid : (2 * rootFloor a + 1) ^ 2 * a ≤ 2 ^ 79)
    (hodd : (2 * rootFloor a + 1) ^ 2 * a = 2 ^ 79 → rootFloor a % 2 ≠ 0) : nearestRoot a (rootFloor a + 1) := by
  obtain ⟨-, hlt⟩ := rootFloor_spec ha
  generalize rootFloor a = f at *
  have habove : 2 ^ 79 < (2 * (f + 1) + 1) ^ 2 * a := by nlinarith
  exact ⟨hmid, habove.le, fun h => h.elim (fun h => Nat.succ_mod_two_eq_zero_iff.mpr (Nat.mod_two_ne_zero.mp (hodd h)))
    fun h => absurd h habove.ne'⟩

theorem rsqrtExact_nearest {a : Nat} (ha : 0 < a) (hword : a < 2 ^ 31) :
    ∃ r : Nat, 0 < r ∧ rsqrtExact a = r ∧ nearestRoot a r := by
  have hpos := rootFloor_pos ha hword
  have hfloor := nearestRoot_floor ha hword
  have hsucc := nearestRoot_succ_floor ha
  rw [sq] at hfloor hsucc
  unfold rsqrtExact
  extract_lets f d m
  split_ifs with habove hbelow heven
  · exact ⟨f, hpos, rfl, hfloor habove.le fun h => absurd h habove.ne⟩
  · exact ⟨f + 1, f.succ_pos, rfl, hsucc hbelow.le fun h => absurd h hbelow.ne⟩
  · exact ⟨f, hpos, rfl, hfloor (not_lt.mp hbelow) fun _ => heven⟩
  · exact ⟨f + 1, f.succ_pos, rfl, hsucc (not_lt.mp habove) fun _ => heven⟩

/-- Above 2⁻¹⁶ the root fits the fraction. -/
theorem nearestRoot_lt {a r : Nat} (hroot : nearestRoot a r) (hbig : 2 ^ 15 < a) : r < 2 ^ 31 := by
  obtain ⟨hbelow, -, -⟩ := hroot
  by_contra hlarge
  have hsq : (2 ^ 32 - 1) ^ 2 ≤ (2 * r - 1) ^ 2 := Nat.pow_le_pow_left (by omega) 2
  have hprod := Nat.mul_le_mul hsq hbig
  omega

/-- At 2⁻¹⁶ and below it does not. -/
theorem le_nearestRoot {a r : Nat} (hroot : nearestRoot a r) (hsmall : a ≤ 2 ^ 15) : 2 ^ 31 ≤ r := by
  obtain ⟨-, habove, -⟩ := hroot
  by_contra hlittle
  have hsq : (2 * r + 1) ^ 2 ≤ (2 ^ 32 - 1) ^ 2 := Nat.pow_le_pow_left (by omega) 2
  have hprod := Nat.mul_le_mul hsq hsmall
  omega

theorem satW_nat_fits {r : Nat} (h : r < 2 ^ 31) : (satW 32 true r).2 = false := by
  simp [satW]
  omega

theorem satW_nat_saturates {r : Nat} (h : 2 ^ 31 ≤ r) : satW 32 true r = (2 ^ 31 - 1, true) := by
  simp [satW, clampInt]
  omega

theorem rsqrtQ31_of_nonpos {a : Int} (ha : a ≤ 0) : rsqrtQ31 a = (2 ^ 31 - 1, true) := if_pos ha

theorem rsqrtQ31_of_pos {a : Int} (ha : 0 < a) (hword : a < 2 ^ 31) :
    ∃ r : Nat, 0 < r ∧ rsqrtQ31 a = satW 32 true r ∧ nearestRoot a.toNat r := by
  obtain ⟨r, hr, hexact, hroot⟩ := rsqrtExact_nearest (a := a.toNat) (by omega) (by omega)
  exact ⟨r, hr, (if_neg (not_le.mpr ha)).trans (by rw [hexact]), hroot⟩

/-- Settles O23: the bundle by `issue_of_dResult`, the root by `rsqrtQ31_of_pos`, and its range by `nearestRoot_lt` and
`le_nearestRoot`. -/
theorem reciprocalSquareRoots : Obligations.reciprocal_square_roots := by
  unfold Obligations.reciprocal_square_roots
  refine ⟨fun e dd da s hmay => next_congr (issue_of_dResult (op := .rsqrt dd da) hmay rfl), fun a hword => ?_⟩
  refine ⟨rsqrtQ31_of_nonpos, fun ha => rsqrtQ31_of_pos ha hword, fun hbig => ?fits, fun ha hsmall => ?saturates⟩
  case fits =>
    obtain ⟨r, -, hr, hroot⟩ := rsqrtQ31_of_pos (by omega) hword
    rw [hr]
    exact satW_nat_fits (nearestRoot_lt hroot (by omega))
  case saturates =>
    obtain ⟨r, -, hr, hroot⟩ := rsqrtQ31_of_pos ha hword
    rw [hr]
    exact satW_nat_saturates (le_nearestRoot hroot (by omega))

end Sys2Proof.SlotA


/-! SUPPORT. What no command changes (R484) and what every command keeps: the identity, and the canonical form of the memories. One
lemma per function of the model, in the model's order; each follows its function's definition. -/

namespace Sys2Proof.Frames

open Sys2Proof Sys2Proof.Machine Sys2Proof.Safety Sys2Proof.Laws

/-! ### The relation between a state and what commands leave of it -/

/-- Every byte memory is in its canonical form, memory by memory. -/
structure Canonical (s : State) : Prop where
  xmem : s.xmem.wf 0 = true
  ymem0 : s.ymem0.wf 0 = true
  ymem1 : s.ymem1.wf 0 = true
  pm0 : s.pm0.wf 0 = true
  pm1 : s.pm1.wf 0 = true
  mpSram : s.mpSram.wf 0xFF = true
  sram : s.sram.wf 0 = true
  mram : s.mram.wf 0 = true
  otp : s.otp.wf 0 = true
  flash : s.flash.wf 0xFF = true

theorem memoriesWf_iff (s : State) : memoriesWf s = true ↔ Canonical s := by
  simp only [memoriesWf, Bool.and_eq_true]
  constructor
  · rintro ⟨⟨⟨⟨⟨⟨⟨⟨⟨hx, hy0⟩, hy1⟩, hp0⟩, hp1⟩, hmp⟩, hsram⟩, hmram⟩, hotp⟩, hflash⟩
    exact ⟨hx, hy0, hy1, hp0, hp1, hmp, hsram, hmram, hotp, hflash⟩
  · rintro ⟨hx, hy0, hy1, hp0, hp1, hmp, hsram, hmram, hotp, hflash⟩
    exact ⟨⟨⟨⟨⟨⟨⟨⟨⟨hx, hy0⟩, hy1⟩, hp0⟩, hp1⟩, hmp⟩, hsram⟩, hmram⟩, hotp⟩, hflash⟩

/-- `s` has come from `z` by what commands do: the identity and a key hash that is not blank stay, and so does the canonical
  form. -/
structure Kept (z s : State) : Prop where
  part : s.part = z.part
  halfId : s.halfId = z.halfId
  strap : s.strap = z.strap
  otp : s.otp = z.otp
  fuse : { s.fuse with keyHash := none } = { z.fuse with keyHash := none }
  keyHash : blankHash z.fuse.keyHash = false → s.fuse.keyHash = z.fuse.keyHash
  canonical : Canonical z → Canonical s

/-- A function that may fail keeps what is to be kept where it succeeds. -/
def KeptIfSome (z : State) (o : Option State) : Prop := ∀ s, o = some s → Kept z s

section

variable {z s : State}

theorem Kept.refl : Kept z z := ⟨rfl, rfl, rfl, rfl, rfl, fun _ => rfl, id⟩

/-- What is neither identity nor byte memory may change. -/
theorem Kept.frame {pending now cec drawn regs shadows tmr1 tmr2 eccs touched keepArea autoArm sys rake fc gd pwr chans posM
    posPort posHall
    posPartner partnerAt afe out ce net pan brine wire safe logQueue img mgmt ho} (h : Kept z s) :
    Kept z ⟨pending, s.part, s.halfId, s.strap, now, cec, drawn, regs, shadows, tmr1, tmr2, s.xmem, s.ymem0, s.ymem1, s.pm0,
      s.pm1, eccs,
      touched, s.mpSram, s.sram, s.mram, keepArea, s.otp, s.flash, autoArm, sys, rake, fc, gd, pwr, chans, posM, posPort, posHall,
      posPartner, partnerAt, afe, out, ce, net, pan, brine, wire, safe, logQueue, img, s.fuse, mgmt, ho⟩ := by
  obtain ⟨hpart, hhalf, hstrap, hotp, hfuse, hkey, hcanonical⟩ := h
  refine ⟨hpart, hhalf, hstrap, hotp, hfuse, hkey, fun hz => ?_⟩
  obtain ⟨hx, hy0, hy1, hp0, hp1, hmp, hsram, hmram, hotp, hflash⟩ := hcanonical hz
  exact ⟨hx, hy0, hy1, hp0, hp1, hmp, hsram, hmram, hotp, hflash⟩

theorem Kept.ite {c : Prop} [Decidable c] {t : State} (hs : Kept z s) (ht : Kept z t) : Kept z (if c then s else t) := by
  split
  · exact hs
  · exact ht

theorem Kept.iteSnd {α : Type} {c : Prop} [Decidable c] {p q : α × State} (hp : Kept z p.2) (hq : Kept z q.2) :
    Kept z (if c then p else q).2 := by
  split
  · exact hp
  · exact hq

theorem Kept.iteSndSnd {α β : Type} {c : Prop} [Decidable c] {p q : α × β × State} (hp : Kept z p.2.2) (hq : Kept z q.2.2) :
    Kept z (if c then p else q).2.2 := by
  split
  · exact hp
  · exact hq

theorem Kept.sndOf {α : Type} {p : α × State} {a} (h : Kept z p.2) (hp : p = (a, s)) : Kept z s := by
  subst hp
  exact h

theorem Kept.thirdOf {α β : Type} {p : α × β × State} {a b} (h : Kept z p.2.2) (hp : p = (a, b, s)) : Kept z s := by
  subst hp
  exact h

theorem Kept.foldl {α : Type} {f : State → α → State} {l : List α} (h : Kept z s) (hf : ∀ t a, Kept z t → Kept z (f t a)) :
    Kept z (l.foldl f s) :=
  List.foldlRecOn l f h fun t ht a _ => hf t a ht

theorem Kept.foldr {α : Type} {f : α → State → State} {l : List α} (h : Kept z s) (hf : ∀ a t, Kept z t → Kept z (f a t)) :
    Kept z (l.foldr f s) :=
  List.foldrRecOn l f h fun t ht a _ => hf a t ht

theorem KeptIfSome.some (h : Kept z s) : KeptIfSome z (some s) := by
  rintro _ ⟨⟩
  exact h

theorem KeptIfSome.none : KeptIfSome z none := fun s hs => absurd hs (Option.some_ne_none s).symm

theorem KeptIfSome.ite {c : Prop} [Decidable c] {o p : Option State} (ho : KeptIfSome z o) (hp : KeptIfSome z p) :
    KeptIfSome z (if c then o else p) := by
  split
  · exact ho
  · exact hp

theorem KeptIfSome.bind {o : Option State} {f : State → Option State} (ho : KeptIfSome z o)
    (hf : ∀ t, Kept z t → KeptIfSome z (f t)) : KeptIfSome z (o.bind f) := by
  intro s hs
  obtain ⟨t, ht, hts⟩ := Option.bind_eq_some_iff.mp hs
  exact hf t (ho t ht) s hts

theorem KeptIfSome.map {o : Option State} {f : State → State} (ho : KeptIfSome z o) (hf : ∀ t, Kept z t → Kept z (f t)) :
    KeptIfSome z (o.map f) := by
  intro s hs
  obtain ⟨t, ht, rfl⟩ := Option.map_eq_some_iff.mp hs
  exact hf t (ho t ht)

/-! ### Memories that are rebuilt from parts -/

/-- Cells shifted upward from `base`. -/
theorem canonical_shift_up {d : Byte} {m : Mem} (base : Nat) (h : m.wf d = true) :
    Mem.wf (m.map fun c => (base + c.1, c.2)) d = true := by
  induction m with
  | nil => rfl
  | cons p r ih =>
    obtain ⟨hv, hlt, hr⟩ := (canon_cons ..).1 h
    refine (canon_cons ..).2 ⟨hv, ?_, ih hr⟩
    simp only [List.forall_mem_map]
    exact fun q hq => Nat.add_lt_add_left (hlt q hq) base

/-- Cells at `base` and above, shifted downward by it. -/
theorem canonical_shift_down {d : Byte} {m : Mem} (base : Nat) (h : m.wf d = true) (hlow : ∀ c ∈ m, base ≤ c.1) :
    Mem.wf (m.map fun c => (c.1 - base, c.2)) d = true := by
  induction m with
  | nil => rfl
  | cons p r ih =>
    obtain ⟨hv, hlt, hr⟩ := (canon_cons ..).1 h
    refine (canon_cons ..).2 ⟨hv, ?_, ih hr fun c hc => hlow c (List.mem_cons_of_mem _ hc)⟩
    simp only [List.forall_mem_map]
    intro q hq
    have hp := hlow p List.mem_cons_self
    have hpq := hlt q hq
    omega

theorem canonical_append {d : Byte} {m n : Mem} (hm : m.wf d = true) (hn : n.wf d = true) (hlt : ∀ c ∈ m, ∀ e ∈ n, c.1 < e.1) :
    Mem.wf (m ++ n) d = true := by
  induction m with
  | nil => exact hn
  | cons p r ih =>
    obtain ⟨hv, hpr, hr⟩ := (canon_cons ..).1 hm
    refine (canon_cons ..).2 ⟨hv, ?_, ih hr fun c hc => hlt c (List.mem_cons_of_mem _ hc)⟩
    intro q hq
    rcases List.mem_append.mp hq with hq | hq
    · exact hpr q hq
    · exact hlt p List.mem_cons_self q hq

theorem regionCells_wf {s : State} (r : Nat) (h : s.flash.wf 0xFF = true) : (s.regionCells r).wf 0xFF = true := by
  refine canonical_shift_down (regionBase r) (canon_filter _ _ _ h) fun c hc => ?_
  have hin := (List.mem_filter.mp hc).2
  simp only [Bool.and_eq_true, decide_eq_true_eq] at hin
  exact hin.1

theorem regionCells_lt {s : State} {r : Nat} {c : Host.Cell} (h : c ∈ s.regionCells r) : c.1 < regionSize := by
  obtain ⟨q, hq, rfl⟩ := List.mem_map.mp h
  have hin := (List.mem_filter.mp hq).2
  simp only [Bool.and_eq_true, decide_eq_true_eq] at hin
  have hpos : 0 < regionSize := by decide
  change q.1 - regionBase r < regionSize
  omega

theorem slotCells_wf {s : State} (slot : Nat) (h : s.flash.wf 0xFF = true) : (s.slotCells slot).wf 0xFF = true :=
  canon_filter _ _ _ (regionCells_wf _ h)

/-- A region of the flash replaced by cells of one region's size. -/
theorem replaced_region_wf {s : State} {base : Nat} {m : Mem} (h : s.flash.wf 0xFF = true) (hm : m.wf 0xFF = true)
    (hlt : ∀ c ∈ m, c.1 < regionSize) :
    Mem.wf ((s.flash.filter fun c => c.1 < base) ++ (m.map fun c => (base + c.1, c.2))
      ++ s.flash.filter fun c => base + regionSize ≤ c.1) 0xFF = true := by
  refine canonical_append (canonical_append (canon_filter _ _ _ h) (canonical_shift_up base hm) ?_) (canon_filter _ _ _ h) ?_
  · intro c hc e he
    have hlow := (List.mem_filter.mp hc).2
    simp only [decide_eq_true_eq] at hlow
    obtain ⟨q, _, rfl⟩ := List.mem_map.mp he
    change c.1 < base + q.1
    omega
  · intro c hc e he
    have hhigh := (List.mem_filter.mp he).2
    simp only [decide_eq_true_eq] at hhigh
    rcases List.mem_append.mp hc with hc | hc
    · have hlow := (List.mem_filter.mp hc).2
      simp only [decide_eq_true_eq] at hlow
      have hpos : 0 < regionSize := by decide
      omega
    · obtain ⟨q, hq, rfl⟩ := List.mem_map.mp hc
      have hq := hlt q hq
      change base + q.1 < e.1
      omega

/-! A memory may be replaced by one in canonical form. -/

theorem Kept.xmem {m} (h : Kept z s) (hm : Canonical s → Mem.wf m 0 = true) : Kept z { s with xmem := m } :=
  { h with canonical := fun hz => { h.canonical hz with xmem := hm (h.canonical hz) } }

theorem Kept.ymem0 {m} (h : Kept z s) (hm : Canonical s → Mem.wf m 0 = true) : Kept z { s with ymem0 := m } :=
  { h with canonical := fun hz => { h.canonical hz with ymem0 := hm (h.canonical hz) } }

theorem Kept.ymem1 {m} (h : Kept z s) (hm : Canonical s → Mem.wf m 0 = true) : Kept z { s with ymem1 := m } :=
  { h with canonical := fun hz => { h.canonical hz with ymem1 := hm (h.canonical hz) } }

theorem Kept.pm0 {m} (h : Kept z s) (hm : Canonical s → Mem.wf m 0 = true) : Kept z { s with pm0 := m } :=
  { h with canonical := fun hz => { h.canonical hz with pm0 := hm (h.canonical hz) } }

theorem Kept.pm1 {m} (h : Kept z s) (hm : Canonical s → Mem.wf m 0 = true) : Kept z { s with pm1 := m } :=
  { h with canonical := fun hz => { h.canonical hz with pm1 := hm (h.canonical hz) } }

theorem Kept.mpSram {m} (h : Kept z s) (hm : Canonical s → Mem.wf m 0xFF = true) : Kept z { s with mpSram := m } :=
  { h with canonical := fun hz => { h.canonical hz with mpSram := hm (h.canonical hz) } }

theorem Kept.sram {m} (h : Kept z s) (hm : Canonical s → Mem.wf m 0 = true) : Kept z { s with sram := m } :=
  { h with canonical := fun hz => { h.canonical hz with sram := hm (h.canonical hz) } }

theorem Kept.mram {m} (h : Kept z s) (hm : Canonical s → Mem.wf m 0 = true) : Kept z { s with mram := m } :=
  { h with canonical := fun hz => { h.canonical hz with mram := hm (h.canonical hz) } }

theorem Kept.flash {m} (h : Kept z s) (hm : Canonical s → Mem.wf m 0xFF = true) : Kept z { s with flash := m } :=
  { h with canonical := fun hz => { h.canonical hz with flash := hm (h.canonical hz) } }

/-! ### The functions of the model -/

theorem Kept.wr {f v} (h : Kept z s) : Kept z (s.wr f v) := by
  unfold State.wr
  split
  · exact h.frame
  · exact h.frame
  · exact h.frame
theorem Kept.setFlag {f b} (h : Kept z s) : Kept z (s.setFlag f b) := h.wr
theorem Kept.wrInt {f x} (h : Kept z s) : Kept z (s.wrInt f x) := h.wr
theorem Kept.setBit {f i b} (h : Kept z s) : Kept z (s.setBit f i b) := h.wr
theorem Kept.count {f} (h : Kept z s) : Kept z (s.count f) := ite h.wr h
theorem Kept.countN {f n} (h : Kept z s) : Kept z (s.countN f n) := h.wr
theorem Kept.countWrap {f} (h : Kept z s) : Kept z (s.countWrap f) := h.wr
theorem Kept.setShadow {f v} (h : Kept z s) : Kept z (s.setShadow f v) := h.frame
theorem Kept.dropShadow {f} (h : Kept z s) : Kept z (s.dropShadow f) := h.frame
theorem Kept.advanceTo {phase} (h : Kept z s) : Kept z (s.advanceTo phase) := h.frame
theorem Kept.passCec (h : Kept z s) : Kept z s.passCec := h.frame
theorem Kept.setHalf {n} (h : Kept z s) : Kept z (s.setHalf n) := h.wr.wr
theorem Kept.logEvent {typ writer aux data} (h : Kept z s) : Kept z (s.logEvent typ writer aux data) := h.frame
theorem Kept.setXWord {a w} (h : Kept z s) : Kept z (s.setXWord a w) :=
  (h.xmem fun hs => setWord_wf _ _ _ _ hs.xmem).frame
theorem Kept.setXPair {a w} (h : Kept z s) : Kept z (s.setXPair a w) := h.setXWord.setXWord
theorem Kept.touch {key rank old} (h : Kept z s) : Kept z (s.touch key rank old) := ite h.frame h.frame
theorem Kept.atTime {t} {f : State → State} (h : Kept z s) (hf : ∀ t, Kept z t → Kept z (f t)) : Kept z (s.atTime t f) :=
  (hf _ h.frame).frame
theorem Kept.writeX {rank a w} (h : Kept z s) : Kept z (s.writeX rank a w) := ite h h.touch.setXWord
theorem Kept.writeXPair {rank a w} (h : Kept z s) : Kept z (s.writeXPair rank a w) := h.writeX.writeX
theorem Kept.loadTrims (h : Kept z s) : Kept z s.loadTrims := (h.foldl fun _ _ h' => h'.wr.wr).foldl fun _ _ h' => h'.wr.wr
theorem Kept.ignored {off} (h : Kept z s) : Kept z (s.ignored off) := h.setFlag.wr
theorem Kept.setGate {g b} (h : Kept z s) : Kept z (s.setGate g b) := h.setBit
theorem Kept.noteOff {fault gs} (h : Kept z s) : Kept z (s.noteOff fault gs) := h.frame
theorem Kept.turnOff {fault gs} (h : Kept z s) : Kept z (s.turnOff fault gs) :=
  (h.noteOff.foldl fun _ _ h' => h'.setGate.setBit).frame
theorem Kept.gatesOff {gs} (h : Kept z s) : Kept z (s.gatesOff gs) := h.turnOff
theorem Kept.faultOff {gs} (h : Kept z s) : Kept z (s.faultOff gs) := h.turnOff
theorem Kept.setCut {p c} (h : Kept z s) : Kept z (s.setCut p c) := h.frame
theorem Kept.senseCut {p closed} (h : Kept z s) : Kept z (s.senseCut p closed) := h.setBit
theorem Kept.openCut {p} (h : Kept z s) : Kept z (s.openCut p) := ite h (ite h (ite h.setCut.senseCut h.setCut))
theorem Kept.closeCut {p} (h : Kept z s) : Kept z (s.closeCut p) := h.setCut.senseCut
theorem Kept.slvdsWatch (h : Kept z s) : Kept z s.slvdsWatch := ite h h.frame
theorem Kept.openHs (h : Kept z s) : Kept z s.openHs := h.setFlag.slvdsWatch
theorem Kept.openLs (h : Kept z s) : Kept z s.openLs := h.setFlag.slvdsWatch
theorem Kept.openSluice (h : Kept z s) : Kept z s.openSluice := h.openHs.openLs
theorem Kept.closeSluice (h : Kept z s) : Kept z s.closeSluice := h.setFlag.setFlag
theorem Kept.chopOn (h : Kept z s) : Kept z s.chopOn := h.setFlag.frame
theorem Kept.chopOff (h : Kept z s) : Kept z s.chopOff := h.setFlag
theorem Kept.chopFollow (h : Kept z s) : Kept z s.chopFollow := ite (ite h h.chopOn) (ite h.chopOff h)
theorem Kept.abortTest (h : Kept z s) : Kept z s.abortTest := by
  unfold State.abortTest
  split
  · exact h
  · exact h.frame.chopFollow
theorem Kept.freeCuts {m} (h : Kept z s) : Kept z (s.freeCuts m) := ite (h.foldl fun _ _ h' => h'.openCut) h
theorem Kept.motorToSafe {fault m} (h : Kept z s) : Kept z (State.motorToSafe fault s m) := h.turnOff.freeCuts
theorem Kept.setFill {f n} (h : Kept z s) : Kept z (s.setFill f n) := h.wr.setBit.setBit
theorem Kept.dropEntry {f} (h : Kept z s) : Kept z (s.dropEntry f) := h.count.setFlag
theorem Kept.discard {f n} (h : Kept z s) : Kept z (s.discard f n) := h.countN
theorem Kept.putEntry {f unit e record} (h : Kept z s) : Kept z (s.putEntry f unit e record) :=
  h.sram fun hs => setBytes_wf _ _ _ _ hs.sram
theorem Kept.newHead {f} (h : Kept z s) : Kept z (s.newHead f) := h.frame
theorem Kept.removeHead {f} (h : Kept z s) : Kept z (s.removeHead f) := ite h h.wr.setFill.newHead
theorem Kept.takeLength {f len} (h : Kept z s) : Kept z (s.takeLength f len) :=
  (ite h.wr.discard.countN.wr.newHead h.wr.discard.countN).setFill
theorem Kept.applyLength {f} (h : Kept z s) : Kept z (s.applyLength f) := by
  unfold State.applyLength
  refine ite ?_ h
  refine ite ?_ h.setFlag.takeLength
  split
  · exact h.takeLength
  · exact h
theorem Kept.advanceWrite {f} (h : Kept z s) : Kept z (s.advanceWrite f) := ite h.setFill.wr.applyLength h.setFill.wr
theorem Kept.makeRoom {f} (h : Kept z s) : Kept z (s.makeRoom f).2 :=
  iteSnd h.frame.removeHead.dropEntry (iteSnd h (iteSnd h.removeHead.dropEntry h.dropEntry))
theorem Kept.settlePop {owed f} (h : Kept z s) : Kept z (s.settlePop owed f) := ite h.removeHead h
theorem Kept.append {f e record} (h : Kept z s) : Kept z (s.append f e record) :=
  ite h.makeRoom.putEntry.advanceWrite.settlePop h.makeRoom
theorem Kept.clearSlot {f i} (h : Kept z s) : Kept z (s.clearSlot f i) :=
  (h.frame.sram fun hs => setByte_wf _ _ _ _ hs.sram).setFill
theorem Kept.storeLatest {f e record} (h : Kept z s) : Kept z (s.storeLatest f e record) := by
  unfold State.storeLatest
  dsimp only
  split
  · exact h.putEntry
  · exact h.putEntry.frame.setFill
  · exact h.dropEntry
theorem Kept.receiveRecord {f e record} (h : Kept z s) : Kept z (s.receiveRecord f e record) := ite h (ite h.storeLatest h.append)
theorem Kept.produce {f stat record} (h : Kept z s) : Kept z (s.produce f stat record) :=
  ite h (ite (ite h.makeRoom.frame.putEntry.advanceWrite.settlePop h.makeRoom) h.dropEntry)
theorem Kept.flowEnable {f} (h : Kept z s) : Kept z (flowEnable f s) :=
  ite h (ite h.setFlag.wr.wr.ignored h.setFlag.wr.wr.wr.wr.setFill)
theorem Kept.emptyPan {f} (h : Kept z s) : Kept z (s.emptyPan f) := h.frame.newHead.wr.setFill
theorem Kept.flowDisable {f} (h : Kept z s) : Kept z (flowDisable f s) := ite h.discard.countN.emptyPan.setFlag.wr.setFlag h
theorem Kept.plenWrite {f len} (h : Kept z s) : Kept z (plenWrite f len s) :=
  ite h (ite h.wr.wr (ite h.ignored (ite h.wr.frame.setFlag (h.wr.foldl fun _ _ h' => h'.clearSlot).discard.wr.setFill)))
theorem Kept.opErr (h : Kept z s) : Kept z s.opErr := h.setFlag
theorem Kept.putWritten {f w b} (h : Kept z s) : Kept z (s.putWritten f w b) := h.putEntry
theorem Kept.pushHere {f} (h : Kept z s) : Kept z (s.pushHere f) := ite h.makeRoom.putWritten.advanceWrite.settlePop h.makeRoom
theorem Kept.panPush {f} (h : Kept z s) : Kept z (panPush f s) := by
  unfold Machine.panPush
  refine ite h (ite ?_ h.opErr)
  dsimp only
  split
  next w before _ =>
    have hroom : Kept z ((State.putWritten { s with pan := { s.pan with lastAppend := none } } f w before).makeRoom f).2 :=
      h.frame.putWritten.makeRoom
    exact ite (ite (hroom.sram fun hs => setBytes_wf _ _ _ _ hs.sram).advanceWrite hroom) h.pushHere
  · exact h.pushHere
theorem Kept.panPop {f} (h : Kept z s) : Kept z (panPop f s) := ite (ite h.removeHead.frame h.removeHead) h.opErr
theorem Kept.panFlush {f} (h : Kept z s) : Kept z (panFlush f s) :=
  ite (ite (h.foldl fun _ _ h' => h'.clearSlot).discard h.discard.emptyPan) h.opErr
theorem Kept.panClear {f slot} (h : Kept z s) : Kept z (panClear f slot s) := ite (ite h.clearSlot h) h.opErr
theorem Kept.tickRecord {f record} (h : Kept z s) : Kept z (s.tickRecord f record) := h.putEntry.setFill.frame
theorem Kept.txTickFromX {f} (h : Kept z s) : Kept z (s.txTickFromX f) := ite h.tickRecord h.setFlag
theorem Kept.showTransit (h : Kept z s) : Kept z s.showTransit := by
  unfold State.showTransit
  exact h.wr.wr
theorem Kept.poolFull (h : Kept z s) : Kept z s.poolFull := h.count.setFlag
theorem Kept.toTransit {t} (h : Kept z s) : Kept z (s.toTransit t) := ite h.frame.showTransit h.poolFull
theorem Kept.otherToTransit {p frame} (h : Kept z s) : Kept z (s.otherToTransit p frame) := ite h.frame.showTransit h.poolFull
theorem Kept.quietRefresh (h : Kept z s) : Kept z s.quietRefresh := h.setFlag
theorem Kept.fcRefresh (h : Kept z s) : Kept z s.fcRefresh :=
  (h.quietRefresh.wr.setFlag.wr.wr.wr.foldl fun _ _ h' => h'.wr).setFlag.frame
theorem Kept.logRequest {tgt ev w} (h : Kept z s) : Kept z (s.logRequest tgt ev w) := h.logEvent
theorem Kept.dropRequest {tgt w} (h : Kept z s) : Kept z (s.dropRequest tgt w) := h.setFlag.logRequest
theorem Kept.dropPending (h : Kept z s) : Kept z s.dropPending := ite h.setFlag.wr.dropRequest h
theorem Kept.abortRequest {tgt} (h : Kept z s) : Kept z (s.abortRequest tgt) := h.setFlag.logRequest
theorem Kept.endTransition (h : Kept z s) : Kept z s.endTransition := h.setFlag.frame
theorem Kept.aliveLow (h : Kept z s) : Kept z s.aliveLow := h.setFlag.frame
theorem Kept.abortTransition (h : Kept z s) : Kept z s.abortTransition := by
  unfold State.abortTransition
  refine Kept.abortTest ?_
  refine Kept.frame ?_
  refine Kept.endTransition ?_
  refine Kept.dropPending ?_
  split
  · exact h.abortRequest
  · exact h
theorem Kept.outputsSafe {fault} (h : Kept z s) : Kept z (s.outputsSafe fault) :=
  (h.foldl fun _ _ h' => h'.motorToSafe).openSluice
theorem Kept.inSafe {byFc} (h : Kept z s) : Kept z (s.inSafe byFc) := h.outputsSafe.setHalf.setFlag.aliveLow.fcRefresh
theorem Kept.enterSafe {byFc} (h : Kept z s) : Kept z (s.enterSafe byFc) := h.abortTransition.inSafe
theorem Kept.startCan (h : Kept z s) : Kept z s.startCan := h.frame.foldl fun _ _ h' => h'.wr.wr.wr
theorem Kept.setDomains {mask} (h : Kept z s) : Kept z (s.setDomains mask) := (ite h.startCan h).wr
theorem Kept.applyDomains (h : Kept z s) : Kept z s.applyDomains := h.setDomains
theorem Kept.enterLockout (h : Kept z s) : Kept z s.enterLockout :=
  h.applyDomains.abortTransition.outputsSafe.setHalf.setFlag.logEvent.aliveLow.fcRefresh.frame
theorem Kept.askHalf {code} (h : Kept z s) : Kept z (s.askHalf code) := ite h.abortTest.frame (ite h.enterLockout h.enterSafe)
theorem Kept.reactOutputs {src inst level} (h : Kept z s) : Kept z (s.reactOutputs src inst level) :=
  ite (h.faultOff.foldl fun _ _ h' => h'.openCut) (ite (h.foldl fun _ _ h' => h'.motorToSafe) (ite (h.foldl fun _ _ h' =>
    h'.motorToSafe) (ite (h.foldl fun _ _ h' => h'.motorToSafe).openSluice h)))
theorem Kept.reactHalf {level} (h : Kept z s) : Kept z (s.reactHalf level) := ite h.askHalf h
theorem Kept.activate {r} (h : Kept z s) : Kept z (s.activate r) := (ite h h.frame).reactOutputs.reactHalf.fcRefresh
theorem Kept.effect {r} (h : Kept z s) : Kept z (s.effect r) := ite h (ite h.frame h.activate)
theorem Kept.atBoundary {r} (h : Kept z s) : Kept z (s.atBoundary r) := ite h.frame h.effect
theorem Kept.takeReaction {r} (h : Kept z s) : Kept z (s.takeReaction r) := ite h.effect h.atBoundary
theorem Kept.setSource {src inst on} (h : Kept z s) : Kept z (s.setSource src inst on) := h.frame
theorem Kept.keepOccur {src inst} (h : Kept z s) : Kept z (s.keepOccur src inst) := h.frame
theorem Kept.logOccur {src inst level} (h : Kept z s) : Kept z (s.logOccur src inst level) := by
  unfold State.logOccur
  dsimp only
  split
  · exact ite h.frame h.logEvent.frame
  · exact h.logEvent.frame
theorem Kept.writeFirst {src inst level} (h : Kept z s) : Kept z (s.writeFirst src inst level) := by
  unfold State.writeFirst
  exact h.setFlag.wr.wr.wr.wr.wr.wr
theorem Kept.latchFirst {src inst level} (h : Kept z s) : Kept z (s.latchFirst src inst level) :=
  ite h (ite (ite h.setFlag.count.writeFirst h.setFlag.count) h.writeFirst)
theorem Kept.keepReact {src inst level} (h : Kept z s) : Kept z (s.keepReact src inst level) := ite h h.frame
theorem Kept.noteSide {src inst} (h : Kept z s) : Kept z (s.noteSide src inst) :=
  ite (ite h h.frame) (ite (ite (ite (ite (ite h h.frame) (ite h h.frame).frame) (ite h h.frame)) (ite (ite h h.frame) (ite (ite
    h h.frame) (ite h h.frame).frame))) h)
theorem Kept.postRequest {src inst level} (h : Kept z s) : Kept z (s.postRequest src inst level) :=
  h.setFlag.setFlag.wr.wr.wr.countWrap.produce.frame
theorem Kept.endRequest (h : Kept z s) : Kept z s.endRequest := h.setFlag.setFlag
theorem Kept.cancelRequest (h : Kept z s) : Kept z s.cancelRequest := ite h.endRequest.effect h
theorem Kept.markEvent {src} (h : Kept z s) : Kept z (s.markEvent src) := h.setBit
theorem Kept.reportUsed {src inst} (h : Kept z s) : Kept z (s.reportUsed src inst) :=
  ite h.keepOccur.markEvent.noteSide.logOccur.latchFirst.keepReact.postRequest (ite (ite
    h.keepOccur.markEvent.noteSide.logOccur.latchFirst.keepReact.count
    h.keepOccur.markEvent.noteSide.logOccur.latchFirst.keepReact).cancelRequest (ite
    h.keepOccur.markEvent.noteSide.logOccur.latchFirst.keepReact.count
    h.keepOccur.markEvent.noteSide.logOccur.latchFirst.keepReact)).takeReaction
theorem Kept.report {src inst} (h : Kept z s) : Kept z (s.report src inst) := ite h.reportUsed h
theorem Kept.raise {src inst} (h : Kept z s) : Kept z (s.raise src inst) := ite h h.reportUsed.setSource
theorem Kept.lower {src inst} (h : Kept z s) : Kept z (s.lower src inst) := h.setSource
theorem Kept.draw (h : Kept z s) : Kept z (s.draw).2 := h.frame
theorem Kept.drawBytes {n} (h : Kept z s) : Kept z (s.drawBytes n).2 := h.frame
theorem Kept.logRedundancy {ev writer} (h : Kept z s) : Kept z (s.logRedundancy ev writer) := h.logEvent
theorem Kept.evidenceFollows (h : Kept z s) : Kept z s.evidenceFollows := h.setFlag.setFlag
theorem Kept.checkDisagree (h : Kept z s) : Kept z s.checkDisagree := ite (ite h.setFlag.logRedundancy.frame h.setFlag) h
theorem Kept.setLimp {left} (h : Kept z s) : Kept z (s.setLimp left) := h.wr.wr
theorem Kept.setLimpRun {b} (h : Kept z s) : Kept z (s.setLimpRun b) := h.setFlag.setFlag
theorem Kept.setRestartUsed {b} (h : Kept z s) : Kept z (s.setRestartUsed b) := h.setFlag.setFlag
theorem Kept.setLimpEnd {expired ramp} (h : Kept z s) : Kept z (s.setLimpEnd expired ramp) := h.setFlag.setFlag.wr
theorem Kept.limpEpisode (h : Kept z s) : Kept z s.limpEpisode :=
  ite h.setLimpRun.setRestartUsed.setLimpEnd.setLimp (ite h.setLimpRun.setRestartUsed.setLimpEnd.setLimp h)
theorem Kept.limpTick {len} (h : Kept z s) : Kept z (s.limpTick len) := ite h.setLimpEnd.setLimp h
theorem Kept.armedOrLimp (h : Kept z s) : Kept z s.armedOrLimp := ite h.setHalf (ite h.setHalf h)
theorem Kept.redundancyUpdate (h : Kept z s) : Kept z s.redundancyUpdate := by
  unfold State.redundancyUpdate
  split
  · exact h
  · exact (ite (ite h.checkDisagree.setFlag.wr.setFlag.setFlag h.checkDisagree.setFlag.wr.setFlag).setFlag.logRedundancy (ite
      h.checkDisagree.setFlag.wr.setFlag.setFlag h.checkDisagree.setFlag.wr.setFlag)).armedOrLimp
theorem Kept.peerAliveEdge (h : Kept z s) : Kept z (peerAliveEdge s) := ite h.setFlag.frame.checkDisagree h
theorem Kept.peerAliveTimeout (h : Kept z s) : Kept z (peerAliveTimeout s) := ite h.setFlag.checkDisagree h
theorem Kept.statusFlowSilent (h : Kept z s) : Kept z (statusFlowSilent s) := ite h.setFlag h
theorem Kept.takeStatus {inSvc copy} (h : Kept z s) : Kept z (s.takeStatus inSvc copy) :=
  (ite h.setFlag.frame h.setFlag.frame.wr).checkDisagree
theorem Kept.takeFrame {inSvc copy} (h : Kept z s) : Kept z (s.takeFrame inSvc copy) := (ite h.setFlag h).wr.frame
theorem Kept.limpRestart {w} (h : Kept z s) : Kept z (limpRestart w s) :=
  ite h.ignored (ite h.ignored.logRedundancy h.setRestartUsed.setLimp)
theorem Kept.limpExpiry {restarted} (h : Kept z s) : Kept z (limpExpiry restarted s) :=
  ite h (ite h.setFlag.setLimpRun.logRedundancy.setLimpEnd h)
theorem Kept.plainSafe (h : Kept z s) : Kept z s.plainSafe := ite h.setFlag.frame h.enterSafe
theorem Kept.limpRampEnd (h : Kept z s) : Kept z (limpRampEnd s) := ite h.abortTransition.plainSafe h
theorem Kept.testPulse {k} (h : Kept z s) : Kept z (testPulse k s) := ite h.frame h
theorem Kept.testPulseSample {k low ain mv} (h : Kept z s) : Kept z (testPulseSample k low ain mv s) := by
  unfold Machine.testPulseSample
  refine ite ?_ h
  refine ite ?_ ?_
  · refine Kept.raise ?_
    refine Kept.setBit ?_
    split
    · exact h.frame.frame.lower
    · exact h.frame.frame.setBit.count.wr.report.setSource
  · split
    · exact h.frame.frame.lower
    · exact h.frame.frame.setBit.count.wr.report.setSource
theorem Kept.ssupRange {k mv} (h : Kept z s) : Kept z (ssupRange k mv s) := ite h (ite h.setBit.raise h.lower)
theorem Kept.renewSetCrc (h : Kept z s) : Kept z s.renewSetCrc := h.wr
theorem Kept.logUnlock {ev w} (h : Kept z s) : Kept z (s.logUnlock ev w) := h.logEvent
theorem Kept.keyWrite {w v} (h : Kept z s) : Kept z (keyWrite w v s) := by
  unfold Machine.keyWrite
  refine ite h.ignored ?_
  split
  · exact h.frame
  · exact ite h.frame (ite h.wr.frame h.ignored)
theorem Kept.keyTimeout (h : Kept z s) : Kept z (keyTimeout s) := by
  unfold Machine.keyTimeout
  split
  · exact ite h.frame h
  · exact h
theorem Kept.dropKey (h : Kept z s) : Kept z s.dropKey := h.frame
theorem Kept.keyCheck (h : Kept z s) : Kept z (keyCheck s) := by
  unfold Machine.keyCheck
  split
  · exact ite h.dropKey.wr (ite h.dropKey.wr.logUnlock (ite h.dropKey.wr.wr.wr.wr.logUnlock.frame (ite h.dropKey.wr.count.wr
      h.dropKey.wr.count).logUnlock))
  · exact h
theorem Kept.closeUnlock (h : Kept z s) : Kept z s.closeUnlock := ite h.wr.wr h
theorem Kept.leaveKeyStates (h : Kept z s) : Kept z s.leaveKeyStates := ite h.dropKey.wr h.closeUnlock
theorem Kept.keyStateCheck (h : Kept z s) : Kept z s.keyStateCheck := ite h h.leaveKeyStates
theorem Kept.unlockLock (h : Kept z s) : Kept z (unlockLock s) := h.closeUnlock
theorem Kept.unlockTimeout (h : Kept z s) : Kept z (unlockTimeout s) := ite h.closeUnlock.frame h
theorem Kept.pwSet {w} (h : Kept z s) : Kept z (pwSet w s) := ite h.wr.frame.logUnlock.renewSetCrc h.ignored
theorem Kept.logMember {w f old new} (h : Kept z s) : Kept z (s.logMember w f old new) := ite h h.logEvent
theorem Kept.refuse {tgt w code} (h : Kept z s) : Kept z (s.refuse tgt w code) := h.setFlag.wr.wr.logRequest
theorem Kept.begin {t w} (h : Kept z s) : Kept z (s.begin t w) := h.setFlag.frame
theorem Kept.pend {tgt w} (h : Kept z s) : Kept z (s.pend tgt w) := (ite h.setFlag.logRequest h).setFlag.wr.wr.frame
theorem Kept.requestSafe {w} (h : Kept z s) : Kept z (s.requestSafe w) :=
  (ite h.frame (ite h h.abortTransition.plainSafe.frame)).logRequest
theorem Kept.judge {tgt w} (h : Kept z s) : Kept z (s.judge tgt w) :=
  ite (ite h.wr.begin h.wr.refuse) (ite (ite h.wr.begin (ite (ite h.wr.begin h.wr.refuse) h.wr.refuse)) (ite (ite h.wr.begin
    h.wr.refuse) (ite (ite h.wr.requestSafe h.wr.refuse) h.wr.refuse)))
theorem Kept.request {tgt w} (h : Kept z s) : Kept z (s.request tgt w) := ite h.refuse (ite h.pend h.judge)
theorem Kept.enterStandby {mayAutoArm} (h : Kept z s) : Kept z (s.enterStandby mayAutoArm) :=
  ite h.endTransition.setHalf.setFlag.frame.aliveLow.fcRefresh.judge h.endTransition.setHalf.setFlag.frame.aliveLow.fcRefresh
theorem Kept.setArmBlock {n} (h : Kept z s) : Kept z (s.setArmBlock n) :=
  h.setFlag.setFlag.setFlag.setFlag.setFlag.setFlag.setFlag
theorem Kept.logArming {refused blocks} (h : Kept z s) : Kept z (s.logArming refused blocks) := h.logEvent
theorem Kept.refuseArming {blocks} (h : Kept z s) : Kept z (s.refuseArming blocks) :=
  h.setArmBlock.endTransition.openSluice.refuse.logArming
theorem Kept.grantArming (h : Kept z s) : Kept z s.grantArming :=
  h.setArmBlock.closeSluice.setHalf.endTransition.leaveKeyStates.frame.logArming.logRequest.fcRefresh
theorem Kept.testStep {k} (h : Kept z s) : Kept z (s.testStep k) :=
  (ite h.setFlag.setFlag.wr.chopOn h.setFlag.setFlag.wr.chopOff).frame
theorem Kept.startSluiceTest {cause} (h : Kept z s) : Kept z (s.startSluiceTest cause) := h.wr.count.gatesOff.frame.testStep
theorem Kept.armingBoundary (h : Kept z s) : Kept z s.armingBoundary := by
  unfold State.armingBoundary
  split
  · exact ite h.startSluiceTest.frame h.refuseArming
  · exact ite h.grantArming h.refuseArming
  · exact h
theorem Kept.seriesSwitchOpenDelay (h : Kept z s) : Kept z (seriesSwitchOpenDelay s) := by
  unfold Machine.seriesSwitchOpenDelay
  split
  · exact ite h.openSluice.endTransition h
  · exact h
theorem Kept.disarm (h : Kept z s) : Kept z s.disarm :=
  (h.foldl fun _ _ h' => h'.motorToSafe).setHalf.aliveLow.frame.logRequest.fcRefresh
theorem Kept.restartBlocks (h : Kept z s) : Kept z s.restartBlocks := h.endTransition.frame
theorem Kept.sleepAborted (h : Kept z s) : Kept z s.sleepAborted := h.frame
theorem Kept.onlyD0 (h : Kept z s) : Kept z s.onlyD0 :=
  { h with
    canonical := fun hz =>
      { mram := (h.canonical hz).mram, otp := (h.canonical hz).otp, flash := (h.canonical hz).flash,
        xmem := rfl, ymem0 := rfl, ymem1 := rfl, pm0 := rfl, pm1 := rfl, mpSram := rfl, sram := rfl } }
theorem Kept.applyPart (h : Kept z s) : Kept z s.applyPart := by
  unfold State.applyPart
  refine Kept.wr ?_
  split
  · split
    · exact h
    · exact h.wr.wr.wr.wr.foldl fun _ _ h' => h'.wr
  · refine Kept.wr ?_
    refine Kept.wr ?_
    split
    · exact h
    · exact h.wr.wr.wr.wr.foldl fun _ _ h' => h'.wr
theorem Kept.sleepDown (h : Kept z s) : Kept z s.sleepDown :=
  h.logRequest.onlyD0.setHalf.endTransition.setDomains.frame.aliveLow.frame
theorem Kept.showIdentity (h : Kept z s) : Kept z s.showIdentity := by
  unfold State.showIdentity
  exact h.wr.wr.wr.wr.wr.wr.wr.wr.wr.wr.wr.wr.wr
theorem Kept.beginBoot (h : Kept z s) : Kept z s.beginBoot :=
  h.onlyD0.applyPart.showIdentity.loadTrims.setHalf.setDomains.setFlag.wr.frame
theorem Kept.showRecoveries (h : Kept z s) : Kept z s.showRecoveries := h.wr
theorem Kept.recover (h : Kept z s) : Kept z s.recover := h.count.frame.showRecoveries.logEvent
theorem Kept.logRelease {r} (h : Kept z s) : Kept z (s.logRelease r) := h.logEvent
theorem Kept.afterRelease {rs} (h : Kept z s) : Kept z (s.afterRelease rs) := h.frame
theorem Kept.freeChannels {ms} (h : Kept z s) : Kept z (s.freeChannels ms) := ite h (h.foldl fun _ _ h' => ite h'.wr h')
theorem Kept.dropReactions {rs} (h : Kept z s) : Kept z (s.dropReactions rs) :=
  (h.foldl fun _ _ h' => h'.logRelease).frame.afterRelease.fcRefresh.freeChannels
theorem Kept.releaseMotors {rs} (h : Kept z s) : Kept z (s.releaseMotors rs) := by
  induction rs generalizing s with
  | nil => exact h
  | cons r rs ih => exact ite h (ite (ite h.askHalf h) (ih h.dropReactions.recover))
theorem Kept.dropEqual (h : Kept z s) : Kept z s.dropEqual := ite h.dropRequest h
theorem Kept.reactionRelease (h : Kept z s) : Kept z (reactionRelease s) :=
  ite (ite (ite h.quietRefresh.dropReactions.releaseMotors.enterLockout
    h.quietRefresh.dropReactions.releaseMotors.dropReactions.dropEqual.recover.enterStandby.freeChannels)
    h.quietRefresh.dropReactions.releaseMotors.dropReactions) h.quietRefresh.dropReactions.releaseMotors.dropReactions
theorem Kept.leaveLockout (h : Kept z s) : Kept z s.leaveLockout :=
  ite (ite h.wr.frame.dropReactions.enterStandby.freeChannels h.wr.frame.setHalf.setFlag.fcRefresh) h
theorem Kept.hostAnswer {w seq react} (h : Kept z s) : Kept z (hostAnswer w seq react s) :=
  ite h.wr.wr.endRequest.count.atBoundary h.count
theorem Kept.graceExpiry {answered} (h : Kept z s) : Kept z (graceExpiry answered s) := ite h.endRequest.count.atBoundary h
theorem Kept.clearFirst (h : Kept z s) : Kept z s.clearFirst := by
  unfold State.clearFirst
  exact h.setFlag.setFlag.wr.wr.wr.wr
theorem Kept.firstClr (h : Kept z s) : Kept z (firstClr s) := by
  unfold Machine.firstClr
  dsimp only
  split
  · exact h.clearFirst
  · exact h.clearFirst.writeFirst.setFlag
theorem Kept.fcSelf {lost} (h : Kept z s) : Kept z (fcSelf lost s) :=
  ite h
    h.keepOccur.markEvent.logOccur.setFlag.cancelRequest.latchFirst.keepReact.setSource.frame.faultOff.openSluice.abortTest.askHalf.fcRefresh
theorem Kept.aliveToggle (h : Kept z s) : Kept z (aliveToggle s) := ite h.setFlag.frame h.aliveLow
theorem Kept.clkMon {k bad} (h : Kept z s) : Kept z (clkMon k bad s) := ite h.raise h.lower
theorem Kept.mpWdog {silent} (h : Kept z s) : Kept z (mpWdog silent s) := ite h.raise h.lower
theorem Kept.setChan {m c} (h : Kept z s) : Kept z (s.setChan m c) := h.frame
theorem Kept.forceFollows (h : Kept z s) : Kept z s.forceFollows := h.gatesOff.frame
theorem Kept.pwmEdge {g t sensed} (h : Kept z s) : Kept z (pwmEdge g t sensed s) := by
  unfold Machine.pwmEdge
  refine ite (ite h.advanceTo h.advanceTo.setGate).frame ?_
  refine ite (ite h.advanceTo h.advanceTo.setGate).frame.setGate ?_
  split
  · exact ite (ite (ite h.advanceTo h.advanceTo.setGate).frame.count (ite h.advanceTo h.advanceTo.setGate).frame).setGate (ite
      h.advanceTo h.advanceTo.setGate).frame.frame
  · exact (ite h.advanceTo h.advanceTo.setGate).frame.frame
theorem Kept.gdHs {g} (h : Kept z s) : Kept z (gdHs g s) := h.setGate.frame.setBit.report
theorem Kept.gdXcmd {p} (h : Kept z s) : Kept z (gdXcmd p s) := ite h h.frame.setBit.count.report
theorem Kept.vdsFollowsGate {g} (h : Kept z s) : Kept z (s.vdsFollowsGate g) := ite h h.setBit.lower
theorem Kept.gdVds {g above} (h : Kept z s) : Kept z (gdVds g above s) :=
  ite (ite h.setBit.setBit.count.raise.vdsFollowsGate h) h.setBit.lower
theorem Kept.gdBsuv {g low} (h : Kept z s) : Kept z (gdBsuv g low s) :=
  ite h.setBit.setBit.faultOff.frame.raise h.setBit.lower.frame.fcRefresh
theorem Kept.bsuvBoundary (h : Kept z s) : Kept z s.bsuvBoundary := h.frame
theorem Kept.bsuvStage (h : Kept z s) : Kept z (bsuvStage s) := h.foldl fun _ _ h' => h'.activate.activate
theorem Kept.gdCp {low} (h : Kept z s) : Kept z (gdCp low s) := ite h.setFlag.setFlag.raise h.setFlag.lower
theorem Kept.gdCut {p bad} (h : Kept z s) : Kept z (gdCut p bad s) := ite h.senseCut.setBit.raise h.senseCut.lower
theorem Kept.cutoffForcedOpen {p} (h : Kept z s) : Kept z (cutoffForcedOpen p s) := by
  unfold Machine.cutoffForcedOpen
  split
  · exact ite h.setCut.senseCut.setBit h
  · exact h
theorem Kept.cutBoundary (h : Kept z s) : Kept z s.cutBoundary := by
  unfold State.cutBoundary
  refine h.foldl fun _ _ h' => ?_
  split
  · exact ite h'.setCut.senseCut h'.setCut
  · exact h'
theorem Kept.chopperOn (h : Kept z s) : Kept z (chopperOn s) := h.frame.abortTest.chopFollow
theorem Kept.chopperOff (h : Kept z s) : Kept z (chopperOff s) := ite h.frame.chopFollow h.frame
theorem Kept.gdChot (h : Kept z s) : Kept z (gdChot s) := ite h.chopOff.frame.setFlag.count.raise h
theorem Kept.chopperRestEnd (h : Kept z s) : Kept z (chopperRestEnd s) := by
  unfold Machine.chopperRestEnd
  split
  · exact ite (ite h.frame.lower.chopFollow h.frame.lower) h
  · exact h
theorem Kept.gdCho (h : Kept z s) : Kept z (gdCho s) := ite h.frame.setFlag.count.setFlag.report h
theorem Kept.gdChs {current} (h : Kept z s) : Kept z (gdChs current s) :=
  ite (ite h.setFlag.setFlag.openHs.raise h.setFlag) h.setFlag.lower
theorem Kept.busResult {c} (h : Kept z s) : Kept z (s.busResult c) := h.setFlag.frame
theorem Kept.gdOvs (h : Kept z s) : Kept z (gdOvs s) := ite h.setFlag.setFlag.count.frame.raise h
theorem Kept.gdOvsRelease (h : Kept z s) : Kept z (gdOvsRelease s) := ite h.setFlag.lower.frame h
theorem Kept.ovsBoundary (h : Kept z s) : Kept z s.ovsBoundary := h.frame
theorem Kept.gdOvabs (h : Kept z s) : Kept z (gdOvabs s) := ite h h.setFlag.setFlag.count.frame.openHs.abortTest.raise
theorem Kept.gdOvabsRelease (h : Kept z s) : Kept z (gdOvabsRelease s) := h.setFlag.lower.frame
theorem Kept.gdSlvds {hs above} (h : Kept z s) : Kept z (gdSlvds hs above s) := ite h.setFlag.setFlag.raise h.setFlag.slvdsWatch
theorem Kept.senseSluice {x} (h : Kept z s) : Kept z (s.senseSluice x) := h.setFlag.setFlag
theorem Kept.sluiceTestEnd {x} (h : Kept z s) : Kept z (sluiceTestEnd x s) := by
  unfold Machine.sluiceTestEnd
  split
  · exact h
  · exact ite h.testStep.senseSluice (ite (ite h.wr.wr.wr.setFlag.senseSluice.openSluice.frame.chopFollow.closeSluice
      h.wr.wr.wr.setFlag.senseSluice.openSluice.frame.chopFollow).frame h.wr.wr.wr.setFlag.senseSluice.openSluice.frame.chopFollow)
theorem Kept.sluiceTestRun (h : Kept z s) : Kept z (sluiceTestRun s) := ite h.setFlag.startSluiceTest h.ignored
theorem Kept.commitMotor {m} (h : Kept z s) : Kept z (s.commitMotor m) :=
  ite h.setFlag.report (ite (ite (ite h.setChan.setFlag h.setChan).setFlag (ite h.setChan.setFlag h.setChan)) (ite (ite
    h.setChan.setFlag h.setChan).setFlag (ite h.setChan.setFlag h.setChan)).wr.wr.wr).setXPair
theorem Kept.commitSplit {m} (h : Kept z s) : Kept z (s.commitSplit m) := by
  unfold State.commitSplit
  dsimp only
  refine ite ?_ h
  split
  · exact h.setChan
  · exact h.setChan
theorem Kept.shareBoundary {m} (h : Kept z s) : Kept z (s.shareBoundary m) := h.setChan
theorem Kept.limitRecord {m} (h : Kept z s) : Kept z (s.limitRecord m) :=
  h.setXPair.setXPair.setXPair.setXPair.setXPair.setXPair.setXPair.setXPair
theorem Kept.reload {m} (h : Kept z s) : Kept z (s.reload m) := h.setChan.setChan
theorem Kept.setCh {m st} (h : Kept z s) : Kept z (s.setCh m st) := h.wr
theorem Kept.setPos {m p} (h : Kept z s) : Kept z (s.setPos m p) := h.frame
theorem Kept.preload {n v} (h : Kept z s) : Kept z (s.preload n v) := ite h.setXPair.setFlag h
theorem Kept.channelCuts {m} (h : Kept z s) : Kept z (s.channelCuts m) :=
  ite h (ite h.freeCuts (h.foldl fun _ _ h' => ite h' (ite h'.openCut (ite h' h'.closeCut))))
theorem Kept.channelGates {m} (h : Kept z s) : Kept z (s.channelGates m) := by
  unfold State.channelGates
  dsimp only
  split
  · exact h.gatesOff
  · exact ite h h.gatesOff
  · exact h
theorem Kept.settle {m} (h : Kept z s) : Kept z (s.settle m) := h.channelCuts.channelGates.limitRecord.reload
theorem Kept.settleUsed (h : Kept z s) : Kept z s.settleUsed := h.foldl fun _ _ h' => h'.settle
theorem Kept.releaseBoundary (h : Kept z s) : Kept z s.releaseBoundary := ite h.reactionRelease h.reactionRelease.settleUsed
theorem Kept.enterCatch {m} (h : Kept z s) : Kept z (s.enterCatch m) := h.setCh.setChan
theorem Kept.enterIdle {m} (h : Kept z s) : Kept z (s.enterIdle m) := h.setCh.setChan
theorem Kept.enterRun {m} (h : Kept z s) : Kept z (s.enterRun m) := h.setCh.setChan
theorem Kept.enterStart {m} (h : Kept z s) : Kept z (s.enterStart m) := ite h.setCh.setChan (ite h.setCh.setChan h.setCh.setChan)
theorem Kept.failStart {m} (h : Kept z s) : Kept z (s.failStart m) := h.wr.setCh.setChan
theorem Kept.enterSync {m omega} (h : Kept z s) : Kept z (s.enterSync m omega) := by
  unfold State.enterSync
  extract_lets ang amp u src v
  have hv : Kept z v := h.enterRun.setChan
  have hq : Kept z (if v.vbus = 0 then (v.draw.1, v.draw.2) else (roundDiv (amp * 3 * 2 ^ 31) (2 * v.vbus).natAbs, v) : Int ×
    State).2 :=
    iteSnd hv.draw hv
  exact ite hq.preload.preload.preload hv
theorem Kept.catchDecision {m} (h : Kept z s) : Kept z (catchDecision m s) :=
  ite h (ite h.wr.setCh.setFlag.count.setChan.report.settle (ite (ite h.wr.enterRun h.wr.enterStart).settle (ite
    h.wr.enterSync.settle h.wr.setCh.setChan.settle)))
theorem Kept.brakeSegmentEnd {m} (h : Kept z s) : Kept z (brakeSegmentEnd m s) := ite h.enterCatch.settle h
theorem Kept.refuseShortEnd {m} (h : Kept z s) : Kept z (refuseShortEnd m s) := ite h.setChan.settle h
theorem Kept.alignEnd {m} (h : Kept z s) : Kept z (alignEnd m s) := ite h.setCh.setChan.settle h
theorem Kept.pauseEnd {m} (h : Kept z s) : Kept z (pauseEnd m s) :=
  ite (ite h.enterCatch.settle h.enterIdle.setFlag.count.report.settle) h
theorem Kept.handover {m} (h : Kept z s) : Kept z (s.handover m) := ite h.enterRun.preload h.enterRun
theorem Kept.startHandover {m} (h : Kept z s) : Kept z (startHandover m s) := ite h.handover.settle h
theorem Kept.startTimeout {m} (h : Kept z s) : Kept z (startTimeout m s) := ite h.failStart.settle h
theorem Kept.hstepWrite {m kind dur param} (h : Kept z s) : Kept z (hstepWrite m kind dur param s) := h.wr.wr.wr.setChan
theorem Kept.beginStep {m x} (h : Kept z s) : Kept z (s.beginStep m x) := h.wr.setChan
theorem Kept.hstepStepEnd {m} (h : Kept z s) : Kept z (hstepStepEnd m s) := by
  unfold Machine.hstepStepEnd
  dsimp only
  split
  · exact h
  · refine ite h ?_
    refine ite (ite h.handover h.failStart).settle ?_
    split
    · exact h.beginStep.settle
    · exact h.setChan.setFlag.settle
theorem Kept.fieldLock {m} (h : Kept z s) : Kept z (fieldLock m s) := ite h.setFlag.count.setChan.raise h
theorem Kept.fieldLockHold {m} (h : Kept z s) : Kept z (fieldLockHold m s) := ite h.setChan.raise h
theorem Kept.lockBoundary {m len} (h : Kept z s) : Kept z (s.lockBoundary m len) :=
  ite h.setChan (ite h.setChan h.setChan.lower.lower)
theorem Kept.pulsesDone {m c} (h : Kept z s) : Kept z (s.pulsesDone m c) := h.setChan
theorem Kept.pulseTick {m held} (h : Kept z s) : Kept z (s.pulseTick m held) :=
  ite h.setChan (ite h.setChan (ite h.setChan h.setChan))
theorem Kept.pulseNext {m} (h : Kept z s) : Kept z (s.pulseNext m) := ite (ite h.failStart h.setChan) (ite h.pulsesDone h)
theorem Kept.accelerate {m len} (h : Kept z s) : Kept z (s.accelerate m len) := ite h.setChan h.setChan
theorem Kept.pulsePeak {m held} (h : Kept z s) : Kept z (s.pulsePeak m held) := by
  unfold State.pulsePeak
  refine Kept.setChan ?_
  split
  · exact ite h h.wr
  · exact h
theorem Kept.offIntervals {m} (h : Kept z s) : Kept z (s.offIntervals m) := ite h.setChan h.setChan
theorem Kept.channelObserve {m} (h : Kept z s) : Kept z (s.channelObserve m) := by
  unfold State.channelObserve
  dsimp only
  split
  · refine ite h ?_
    split
    · exact h.setChan
    · exact h.setChan
  · exact ite h h.setChan
  · exact h
theorem Kept.channelTick {m len} (h : Kept z s) : Kept z (s.channelTick m len) := by
  unfold State.channelTick
  dsimp only
  split
  · exact ite h.setChan (ite h.setChan.enterCatch (ite h.setChan.setChan h.setChan))
  · exact ite h.setChan.enterCatch h.setChan
  · exact ite h.setChan.pulseTick.pulseNext (ite h.setChan.accelerate.failStart h.setChan.accelerate)
  · exact h.setChan.setChan
  · exact h.setChan.accelerate
  · split
    · split
      · exact h.setChan.accelerate.beginStep
      · exact h.setChan.accelerate
    · exact ite h.setChan.accelerate.failStart h.setChan.accelerate
  · exact h.setChan
theorem Kept.channelCommands {m dirChanged} (h : Kept z s) : Kept z (s.channelCommands m dirChanged) :=
  ite (ite h h.enterIdle) (ite (ite h h.wr.enterCatch) (ite h.enterCatch h))
theorem Kept.channelBoundary {m len held} (h : Kept z s) : Kept z (s.channelBoundary m len held) :=
  (ite (ite (ite h.setFlag.setChan.pulsePeak.channelObserve h.setFlag.setChan.pulsePeak.channelObserve.setCh.setChan) (ite (ite
    h.setFlag.setChan.pulsePeak.channelObserve.pulseTick h.setFlag.setChan.pulsePeak.channelObserve) (ite
    h.setFlag.setChan.pulsePeak.channelObserve.enterIdle (ite h.setFlag.setChan.pulsePeak.channelObserve
    h.setFlag.setChan.pulsePeak.channelObserve.channelTick).channelCommands))) (ite (ite
    h.setFlag.setChan.pulsePeak.channelObserve h.setFlag.setChan.pulsePeak.channelObserve.setCh.setChan) (ite (ite
    h.setFlag.setChan.pulsePeak.channelObserve.pulseTick h.setFlag.setChan.pulsePeak.channelObserve) (ite
    h.setFlag.setChan.pulsePeak.channelObserve.enterIdle (ite h.setFlag.setChan.pulsePeak.channelObserve
    h.setFlag.setChan.pulsePeak.channelObserve.channelTick).channelCommands))).lockBoundary).offIntervals.channelCuts.channelGates
theorem Kept.setPort {p x} (h : Kept z s) : Kept z (s.setPort p x) := h.frame
theorem Kept.setHall {n x} (h : Kept z s) : Kept z (s.setHall n x) := h.frame
theorem Kept.show16 {f v} (h : Kept z s) : Kept z (s.show16 f v) := ite h.wr h.draw.wr
theorem Kept.showSpans (h : Kept z s) : Kept z s.showSpans := h.foldl fun _ _ h' => h'.show16
theorem Kept.encoderRequest (h : Kept z s) : Kept z (encoderRequest s) := h.advanceTo.foldl fun _ _ h' => ite h'.setBit.setPort h'
theorem Kept.closePorts (h : Kept z s) : Kept z s.closePorts := h.foldl fun _ _ h' => ite h' h'.setBit.setPort
theorem Kept.deliverAge {p x} (h : Kept z s) : Kept z (s.deliverAge p x) := h.show16.setPort
theorem Kept.countEnc {p code} (h : Kept z s) : Kept z (s.countEnc p code) := by
  unfold State.countEnc
  split
  · exact h.count
  · exact h.count
  · exact h.count
  · exact h.count
  · exact h.count
  · exact h
theorem Kept.keepWord {p x} (h : Kept z s) : Kept z (s.keepWord p x) := h.deliverAge.setPort
theorem Kept.judgeWord {p t0 w} (h : Kept z s) : Kept z (s.judgeWord p t0 w) :=
  ite h.setFlag.wr.keepWord h.setFlag.wr.countEnc.keepWord
theorem Kept.encoderWordRelease {p w} (h : Kept z s) : Kept z (encoderWordRelease p w s) := by
  unfold Machine.encoderWordRelease
  dsimp only
  split
  · exact (ite h.frame.setBit h.frame.setBit.judgeWord).setPort
  · exact h
theorem Kept.countComm {m} (h : Kept z s) : Kept z (s.countComm m) := h.wr.setPos
theorem Kept.hallComm {n k fwd} (h : Kept z s) : Kept z (s.hallComm n k fwd) :=
  h.foldl fun _ _ h' => ite h'.setPos h'.countComm.setPos
theorem Kept.hallCodeTaken {n code} (h : Kept z s) : Kept z (hallCodeTaken n code s) :=
  ite h (ite (h.wr.setFlag.count.setHall.foldl fun _ _ h' => h'.report) (ite h.wr.wr.setHall (ite h.wr.wr (ite
    h.wr.wr.setHall.hallComm (ite h.wr.wr.setHall.hallComm (h.wr.wr.setFlag.count.setHall.foldl fun _ _ h' => h'.report))))))
theorem Kept.showFree {m x} (h : Kept z s) : Kept z (s.showFree m x) := h.wrInt.wr.setFlag.setFlag
theorem Kept.showPosition {m} (h : Kept z s) : Kept z (s.showPosition m) :=
  ite (ite h.wrInt.wrInt.setFlag.setFlag.setFlag.showFree.raise h.wrInt.wrInt.setFlag.setFlag.lower) h.showFree
theorem Kept.posWord {m i w} (h : Kept z s) : Kept z (s.posWord m i w) := h.writeXPair
theorem Kept.angleInto {m k fwd} (h : Kept z s) : Kept z (s.angleInto m k fwd) :=
  (ite h.setPos (ite h.countComm.setPos h.countComm)).setPos
theorem Kept.angleComm {m} (h : Kept z s) : Kept z (s.angleComm m) := by
  unfold State.angleComm
  dsimp only
  split
  · exact h.setPos
  · exact ite (h.foldl fun _ _ h' => h'.angleInto) (h.foldl fun _ _ h' => h'.angleInto)
theorem Kept.countSource {m i src v} (h : Kept z s) : Kept z (s.countSource m i src v) := h.setPos
theorem Kept.countOutlier {m i} (h : Kept z s) : Kept z (s.countOutlier m i) := by
  unfold State.countOutlier
  split
  · exact h.count
  · exact h.count
  · exact h.count
  · exact h
theorem Kept.advancePos {m d} (h : Kept z s) : Kept z (s.advancePos m d) := by
  unfold State.advancePos
  dsimp only
  split
  · exact h.setPos.setFlag.setFlag.showPosition.logEvent
  · split
    · exact h.setPos.setFlag.showPosition
    · exact ite h.setPos.setFlag.showPosition h.setPos.showPosition
theorem Kept.countOutcome {m st} (h : Kept z s) : Kept z (s.countOutcome m st) :=
  ite (ite (ite h.setPos h.setPos.lower).lower (ite h.setPos h.setPos.lower)).lower (ite (ite h.setPos h.setPos.lower).lower (ite
    h.setPos h.setPos.lower))
theorem Kept.showVote {m v valid} (h : Kept z s) : Kept z (s.showVote m v valid) :=
  ite (ite (ite h.wr.setFlag.wr.wr.setFlag h.wr.setFlag.wr.wr).setFlag.count (ite h.wr.setFlag.wr.wr.setFlag
    h.wr.setFlag.wr.wr)).setFlag (ite (ite h.wr.setFlag.wr.wr.setFlag h.wr.setFlag.wr.wr).setFlag.count (ite
    h.wr.setFlag.wr.wr.setFlag h.wr.setFlag.wr.wr))
theorem Kept.posRecord {m} (h : Kept z s) : Kept z (s.posRecord m) :=
  h.posWord.posWord.posWord.posWord.posWord.posWord.posWord.posWord.posWord.posWord
theorem Kept.voteMotor {m} (h : Kept z s) : Kept z (s.voteMotor m) :=
  (h.setPos.wr.wrInt.showVote.countOutlier.advancePos.foldl fun _ _ h' => ite h'
    h'.countSource).countOutcome.angleComm.setPos.posRecord
theorem Kept.lateWord {p} (h : Kept z s) : Kept z (s.lateWord p) := ite h.wr.count.setPort h
theorem Kept.deliverWord {p} (h : Kept z s) : Kept z (s.deliverWord p) := by
  unfold State.deliverWord
  split
  · exact h.deliverAge
  · exact h
theorem Kept.positionVote (h : Kept z s) : Kept z (positionVote s) :=
  ((h.advanceTo.foldl fun _ _ h' => h'.lateWord.deliverWord).foldl fun _ _ h' => h'.voteMotor).foldl fun _ _ h' =>
    h'.setPort.setHall
theorem Kept.sourceDrop {m i} (h : Kept z s) : Kept z (sourceDrop m i s) := ite h.setBit.raise h
theorem Kept.posDis {m} (h : Kept z s) : Kept z (posDis m s) := ite h.raise h
theorem Kept.posOne {m} (h : Kept z s) : Kept z (posOne m s) := ite h.raise h
theorem Kept.posNone {m} (h : Kept z s) : Kept z (posNone m s) := ite h.raise h
theorem Kept.readmit {m mask} (h : Kept z s) : Kept z (readmit m mask s) := h.foldl fun _ _ h' => ite h'.setBit.setBit.setPos h'
theorem Kept.sourceReadmitted {m i} (h : Kept z s) : Kept z (sourceReadmitted m i s) :=
  ite (ite h.setBit.setBit.setBit.setPos.lower h.setBit.setBit.setBit.setPos) h
theorem Kept.loadPosition {m w} (h : Kept z s) : Kept z (loadPosition m w s) := h.setFlag.setPos
theorem Kept.softLimitTake (h : Kept z s) : Kept z s.softLimitTake :=
  h.foldl fun _ _ h' => ite (ite h' h'.setPos.showPosition) h'.setFlag
theorem Kept.turnPorts (h : Kept z s) : Kept z s.turnPorts := h.foldl fun _ _ h' => h'.setPort
theorem Kept.posStart (h : Kept z s) : Kept z s.posStart :=
  (h.foldl fun _ _ h' => h'.setBit.setPort).foldl fun _ _ h' => h'.wr.setPos
theorem Kept.showDerived (h : Kept z s) : Kept z s.showDerived := h.wr.wr.wr
theorem Kept.afeCheck (h : Kept z s) : Kept z s.afeCheck := ite h.showDerived.setFlag h.showDerived.setFlag.setFlag.setFlag
theorem Kept.afeCtrlStop (h : Kept z s) : Kept z (afeCtrlStop s) := ite h (ite h.ignored h.setFlag.setFlag)
theorem Kept.afeCtrlRun (h : Kept z s) : Kept z (afeCtrlRun s) := h.setFlag.afeCheck
theorem Kept.takeComparators (h : Kept z s) : Kept z s.takeComparators := h.frame
theorem Kept.afeStart (h : Kept z s) : Kept z s.afeStart := h.loadTrims.frame.takeComparators.afeCheck
theorem Kept.sample {codes} (h : Kept z s) : Kept z (sample codes s) := ite h.advanceTo.frame h.advanceTo
theorem Kept.markClip {n clipped} (h : Kept z s) : Kept z (s.markClip n clipped) := ite h.setBit.setFlag h
theorem Kept.writeChan {n w} (h : Kept z s) : Kept z (s.writeChan n w) := h.frame.writeXPair
theorem Kept.putResult {n w} (h : Kept z s) : Kept z (s.putResult n w) := ite h.writeChan (ite h.frame h).writeChan
theorem Kept.conversionComplete {c j raw} (h : Kept z s) : Kept z (conversionComplete c j raw s) :=
  ite (ite h.advanceTo.markClip.putResult.busResult h.advanceTo.markClip.putResult) h
theorem Kept.afeOc {k out} (h : Kept z s) : Kept z (afeOc k out s) :=
  ite h (ite (ite h (ite h.setBit.setBit.raise h.setBit.setBit)) h.setBit.lower)
theorem Kept.measured {ofs gain ofsNum ofsDen gainNum gainDen} (h : Kept z s) : Kept z (s.measured ofs gain ofsNum ofsDen gainNum
    gainDen) :=
  ite h.wrInt.wrInt.countWrap h.count.setFlag.report
theorem Kept.takeWindow {k x} (h : Kept z s) : Kept z (s.takeWindow k x) := h.measured.foldl fun _ _ h' => ite h' h'.measured
theorem Kept.calibrationWindow {x} (h : Kept z s) : Kept z (calibrationWindow x s) := by
  unfold Machine.calibrationWindow
  refine ite ?_ h
  refine ite ?_ h.advanceTo.frame.setFlag
  split
  · exact h.advanceTo.frame.frame.takeWindow
  · exact h.advanceTo.frame
theorem Kept.hostcalTimeout {k} (h : Kept z s) : Kept z (hostcalTimeout k s) := ite h.setFlag.frame h
theorem Kept.hostcalWritten {k} (h : Kept z s) : Kept z (s.hostcalWritten k) := h.frame
theorem Kept.afeBoundary (h : Kept z s) : Kept z s.afeBoundary := ite h.takeComparators.frame.report h.takeComparators.frame
theorem Kept.setCredit {trace n} (h : Kept z s) : Kept z (s.setCredit trace n) := ite h.wr h.wr
theorem Kept.failCommand (h : Kept z s) : Kept z s.failCommand := h.setFlag.frame
theorem Kept.txRun (h : Kept z s) : Kept z s.txRun := h.frame
theorem Kept.launch {x n} (h : Kept z s) : Kept z (s.launch x n) := by
  unfold State.launch
  dsimp only
  split
  · exact h.txRun.frame
  · exact h.txRun.frame
theorem Kept.sendFrame {x : List LaneSlot → Sent} {start b} (h : Kept z s) : Kept z (s.sendFrame x start b) := h.launch
theorem Kept.codeErrors {n} (h : Kept z s) : Kept z (s.codeErrors n) := by
  induction n generalizing s with
  | zero => exact h
  | succ n ih => exact ih h.count.setFlag
theorem Kept.showActivity {slots} (h : Kept z s) : Kept z (s.showActivity slots) := by
  unfold State.showActivity
  split
  · exact h.setFlag.setFlag
  · exact h
theorem Kept.hear {start n slots} (h : Kept z s) : Kept z (s.hear start n slots) := ite h.showActivity.codeErrors h
theorem Kept.launchPerTick {bytes : Nat → List Byte} (h : Kept z s) : Kept z (s.launchPerTick bytes) := by
  unfold State.launchPerTick
  dsimp only
  split
  · exact h.txRun.frame
  · exact ite h.txRun.frame h.txRun.frame
theorem Kept.dropFlight (h : Kept z s) : Kept z s.dropFlight := by
  unfold State.dropFlight
  exact (ite (ite h.failCommand h) (ite h.failCommand h).frame.showTransit).frame.showTransit.wr.wr
theorem Kept.wakeMeetsUp (h : Kept z s) : Kept z s.wakeMeetsUp := ite h.frame.ignored h
theorem Kept.enterLink {st} (h : Kept z s) : Kept z (s.enterLink st) :=
  ite (ite h.dropFlight h).wr.setFlag.frame.draw.draw.count.frame (ite (ite h.dropFlight h).wr.setFlag.frame.wr (ite (ite
    h.dropFlight h).wr.setFlag.frame.setFlag.setCredit.setCredit.wakeMeetsUp (ite h.dropFlight h).wr.setFlag.frame.frame))
theorem Kept.brineEnable {en} (h : Kept z s) : Kept z (brineEnable en s) :=
  ite h.ignored (ite (ite h.setFlag.enterLink h.setFlag) (ite h.setFlag h.setFlag.enterLink))
theorem Kept.retrain (h : Kept z s) : Kept z (retrain s) := ite h.ignored (ite h h.enterLink)
theorem Kept.beacon (h : Kept z s) : Kept z (beacon s) := ite h.draw.frame h
theorem Kept.takeSet {x trip} (h : Kept z s) : Kept z (s.takeSet x trip) := ite h.frame.frame (ite h.frame h.frame.wr.frame.frame)
theorem Kept.trainingSetRx {lane0 lane1 trip wrong} (h : Kept z s) : Kept z (trainingSetRx lane0 lane1 trip wrong s) := by
  unfold Machine.trainingSetRx
  refine ite ?_ h
  refine ite (ite h.codeErrors h).setFlag.setFlag.enterLink.frame ?_
  split
  · exact ite (ite h.codeErrors h).setFlag.setFlag.takeSet (ite h.codeErrors h).setFlag.setFlag
  · exact (ite h.codeErrors h).setFlag.setFlag
theorem Kept.trainDone (h : Kept z s) : Kept z (trainDone s) := ite h.enterLink h
theorem Kept.trainTimeout (h : Kept z s) : Kept z (trainTimeout s) := ite h.enterLink h
theorem Kept.sendWake (h : Kept z s) : Kept z s.sendWake := ite h.frame h
theorem Kept.wakeTx (h : Kept z s) : Kept z (wakeTx s) := ite h.ignored h.sendWake
theorem Kept.brineOut {commit} (h : Kept z s) : Kept z (s.brineOut commit) := (ite h h.setFlag).frame
theorem Kept.brineExchange (h : Kept z s) : Kept z (brineExchange s) := ite h.advanceTo.wr.launchPerTick h.advanceTo
theorem Kept.useSplit {m split tick} (h : Kept z s) : Kept z (s.useSplit m split tick) :=
  ite h.setChan.shareBoundary.limitRecord h.setChan
theorem Kept.takeSplit {b tick m} (h : Kept z s) : Kept z (s.takeSplit b tick m) := ite h.setChan.useSplit h
theorem Kept.undoSplit {tick m} (h : Kept z s) : Kept z (s.undoSplit tick m) := ite h.useSplit h
theorem Kept.acceptFrame {b tick late} (h : Kept z s) : Kept z (s.acceptFrame b tick late) :=
  ite (ite (ite ((ite h.setFlag h).wr.wr.frame.takeFrame.foldl fun _ _ h' => h'.takeSplit).setFlag ((ite h.setFlag
    h).wr.wr.frame.takeFrame.foldl fun _ _ h' => h'.takeSplit).frame).frame.enterLink (ite ((ite h.setFlag
    h).wr.wr.frame.takeFrame.foldl fun _ _ h' => h'.takeSplit).setFlag ((ite h.setFlag h).wr.wr.frame.takeFrame.foldl fun _ _ h'
    => h'.takeSplit).frame).frame) (ite ((ite h.setFlag h).wr.wr.frame.takeFrame.foldl fun _ _ h' => h'.takeSplit).setFlag ((ite
    h.setFlag h).wr.wr.frame.takeFrame.foldl fun _ _ h' => h'.takeSplit).frame)
theorem Kept.crcError (h : Kept z s) : Kept z s.crcError := h.count.setFlag
theorem Kept.brineLate (h : Kept z s) : Kept z s.brineLate := h.setFlag
theorem Kept.judgePerTick {b} (h : Kept z s) : Kept z (s.judgePerTick b) :=
  ite h.crcError (ite h.frame.crcError (ite h.frame.setFlag (ite h.frame.setFlag (ite h.frame.setFlag.brineLate (ite
    h.frame.frame.brineLate h.frame.frame.acceptFrame)))))
theorem Kept.perTickFrameRx {slots at_} (h : Kept z s) : Kept z (perTickFrameRx slots at_ s) := by
  unfold Machine.perTickFrameRx
  dsimp only
  refine ite h.hear ?_
  split
  · exact h.hear.advanceTo.judgePerTick
  · exact h.hear.advanceTo
theorem Kept.writeFrame {b} (h : Kept z s) : Kept z (s.writeFrame b) := h.foldl fun _ _ h' => h'.setXPair
theorem Kept.brineRxXwrite (h : Kept z s) : Kept z (brineRxXwrite s) := by
  unfold Machine.brineRxXwrite
  split
  · exact h
  · exact ite h.frame.advanceTo.writeFrame.frame (h.frame.brineLate.frame.foldl fun _ _ h' => h'.undoSplit)
theorem Kept.holdSplit {m} (h : Kept z s) : Kept z (s.holdSplit m) := ite h.count h
theorem Kept.lostFrame (h : Kept z s) : Kept z s.lostFrame :=
  ite (ite h.count.count.frame.frame.setFlag.report h.count.count.frame.frame) h.count.count.frame
theorem Kept.brineFrameMissing (h : Kept z s) : Kept z (brineFrameMissing s) :=
  ite h (ite h.advanceTo (ite ((ite h.advanceTo.setXPair h.advanceTo.setXPair.brineLate).foldl fun _ _ h' =>
    h'.holdSplit).lostFrame h.advanceTo.setXPair))
theorem Kept.brineBoundary (h : Kept z s) : Kept z s.brineBoundary := ite h.enterLink h.frame
theorem Kept.postCommand {code payload} (h : Kept z s) : Kept z (s.postCommand code payload) :=
  ite h.failCommand (ite h h.frame.sendFrame)
theorem Kept.commandFrameTx {code payload} (h : Kept z s) : Kept z (commandFrameTx code payload s) := h.postCommand
theorem Kept.answerCommand {seq ok} (h : Kept z s) : Kept z (s.answerCommand seq ok) := h.draw.drawBytes.sendFrame
theorem Kept.deliverCommand {b} (h : Kept z s) : Kept z (s.deliverCommand b) :=
  ite h.answerCommand (ite h.frame.answerCommand h.answerCommand)
theorem Kept.repeatCommand {c} (h : Kept z s) : Kept z (s.repeatCommand c) := ite h.failCommand h.count.frame.sendFrame
theorem Kept.takeAnswer {seq ok} (h : Kept z s) : Kept z (s.takeAnswer seq ok) := by
  unfold State.takeAnswer
  split
  · exact ite h (ite h.frame h.repeatCommand)
  · exact h
theorem Kept.takeCommand {slots} (h : Kept z s) : Kept z (s.takeCommand slots) := by
  unfold State.takeCommand
  dsimp only
  split
  · exact ite h.hear (ite h.hear.crcError (ite h.hear.deliverCommand h.hear.takeAnswer))
  · exact h.hear
theorem Kept.commandFrameRx {slots} (h : Kept z s) : Kept z (commandFrameRx slots s) := h.takeCommand
theorem Kept.commandAck {slots} (h : Kept z s) : Kept z (commandAck slots s) := h.takeCommand
theorem Kept.commandRetryTimeout (h : Kept z s) : Kept z (commandRetryTimeout s) := by
  unfold Machine.commandRetryTimeout
  split
  · exact ite h.repeatCommand h
  · exact h
theorem Kept.loadUnits (h : Kept z s) : Kept z s.loadUnits := by
  unfold State.loadUnits
  refine ite h ?_
  split
  · exact h.frame
  · exact h
theorem Kept.bulkUnitTx {cls1 trace} (h : Kept z s) : Kept z (bulkUnitTx cls1 trace s) := by
  unfold Machine.bulkUnitTx
  dsimp only
  refine ite h ?_
  refine ite (ite h h.setCredit.sendFrame) ?_
  split
  · exact h.loadUnits
  · exact ite h.loadUnits.setCredit.frame.sendFrame.frame.showTransit h.loadUnits.setCredit.frame.sendFrame
theorem Kept.creditSet {slots} (h : Kept z s) : Kept z (creditSet slots s) := by
  unfold Machine.creditSet
  dsimp only
  split
  · exact ite (ite h.showActivity.codeErrors h) (ite h.showActivity.codeErrors h).setCredit
  · exact ite h.showActivity.codeErrors h
theorem Kept.setPtp {p x} (h : Kept z s) : Kept z (s.setPtp p x) := ite h.frame h.frame
theorem Kept.chooseMaster (h : Kept z s) : Kept z s.chooseMaster := ite h h.frame.wr
theorem Kept.sendGptp {p m} (h : Kept z s) : Kept z (s.sendGptp p m) := h.frame
theorem Kept.answerPeer {p} (h : Kept z s) : Kept z (s.answerPeer p) := h.setPtp.foldl fun _ _ h' => h'.sendGptp.sendGptp
theorem Kept.askPeer {p} (h : Kept z s) : Kept z (s.askPeer p) := ite h.setPtp.sendGptp h
theorem Kept.sendMaster {p v} (h : Kept z s) : Kept z (s.sendMaster p v) := ite h.setPtp.sendGptp h
theorem Kept.sendSync {p} {of_ : Int → Int × Int} (h : Kept z s) : Kept z (s.sendSync p of_) := h.setPtp.sendGptp.sendGptp
theorem Kept.sendTime {p} (h : Kept z s) : Kept z (s.sendTime p) := by
  unfold State.sendTime
  refine ite (ite h.sendSync h) ?_
  refine ite ?_ h
  split
  · exact h.sendSync
  · exact h
theorem Kept.gptpTurn {p} (h : Kept z s) : Kept z (s.gptpTurn p) := by
  unfold State.gptpTurn
  dsimp only
  refine ite h ?_
  split
  · exact ite h.answerPeer.askPeer.sendMaster.sendTime h.answerPeer.askPeer
  · exact h.answerPeer.askPeer
theorem Kept.heardPort {q} (h : Kept z s) : Kept z (s.heardPort q) := h.frame
theorem Kept.takeMaster {q v path} (h : Kept z s) : Kept z (s.takeMaster q v path) := ite h h.setPtp.chooseMaster
theorem Kept.takeTime {q seq origin correction} (h : Kept z s) : Kept z (s.takeTime q seq origin correction) := by
  unfold State.takeTime
  dsimp only
  split
  · exact ite h.setPtp.setPtp.wr.wrInt.frame h
  · exact h
theorem Kept.gptpFrame {q domain m} (h : Kept z s) : Kept z (gptpFrame q domain m s) := by
  unfold Machine.gptpFrame
  refine ite h ?_
  refine ite h.heardPort ?_
  split
  · exact h.heardPort.takeMaster
  · exact ite h.heardPort.setPtp h.heardPort
  · exact h.heardPort.takeTime
  · exact h.heardPort.setPtp
  · exact ite h.heardPort.setPtp h.heardPort
  · split
    · exact ite h.heardPort.setPtp h.heardPort
    · exact h.heardPort
theorem Kept.gptpSyncLoss (h : Kept z s) : Kept z (gptpSyncLoss s) := by
  unfold Machine.gptpSyncLoss
  refine ite ?_ h
  refine Kept.chooseMaster ?_
  refine Kept.wr ?_
  refine Kept.frame ?_
  split
  · exact h.setPtp
  · exact h
theorem Kept.gptpLinkDown {p} (h : Kept z s) : Kept z (s.gptpLinkDown p) := h.setPtp.chooseMaster
theorem Kept.showRoute {n} (h : Kept z s) : Kept z (s.showRoute n) := by
  unfold State.showRoute
  exact h.setFlag.wr
theorem Kept.showRing (h : Kept z s) : Kept z s.showRing := by
  unfold State.showRing
  exact h.wr
theorem Kept.clearSeen {n q} (h : Kept z s) : Kept z (s.clearSeen n q) := h.setFlag.frame.showRoute
theorem Kept.emit {p f} (h : Kept z s) : Kept z (s.emit p f) := h.frame
theorem Kept.sendOwn {p f} (h : Kept z s) : Kept z (s.sendOwn p f) := ite h.emit h.frame
theorem Kept.nextSeq0 (h : Kept z s) : Kept z (s.nextSeq0).2 := h.frame
theorem Kept.routeMiss {f} (h : Kept z s) : Kept z (s.routeMiss f) := ite h.count.setFlag.produce h.count.setFlag
theorem Kept.relay {p f} (h : Kept z s) : Kept z (s.relay p f) := ite h.emit h.toTransit
theorem Kept.sendCopy {own f p} (h : Kept z s) : Kept z (s.sendCopy own f p) := ite h.sendOwn h.relay
theorem Kept.sendRing {own n f} (h : Kept z s) : Kept z (s.sendRing own n f) := by
  unfold State.sendRing
  split
  · exact h.routeMiss
  · exact h.foldl fun _ _ h' => h'.sendCopy
theorem Kept.toBrine {f} (h : Kept z s) : Kept z (s.toBrine f) := h.toTransit
theorem Kept.toGateway {own f} (h : Kept z s) : Kept z (s.toGateway own f) := h.sendRing
theorem Kept.crossOut {own f} (h : Kept z s) : Kept z (s.crossOut own f) := by
  unfold State.crossOut
  split
  · exact h.routeMiss
  · exact ite h.toBrine h.routeMiss
  · exact h.toGateway
  · exact ite h.toBrine h.toGateway
theorem Kept.originate {f} (h : Kept z s) : Kept z (s.originate f) := ite h.crossOut h.sendRing
theorem Kept.sendAnnounce (h : Kept z s) : Kept z s.sendAnnounce := h.nextSeq0.frame.foldl fun _ _ h' => h'.sendOwn
theorem Kept.logIdentity {addr serial} (h : Kept z s) : Kept z (s.logIdentity addr serial) := h.logEvent
theorem Kept.yieldAddr {f} (h : Kept z s) : Kept z (s.yieldAddr f) := h.logIdentity.wr.wr.setFlag.frame
theorem Kept.judgeClaim {f} (h : Kept z s) : Kept z (s.judgeClaim f) :=
  ite h (ite (ite h.yieldAddr h) (ite (ite h.sendAnnounce (ite h.yieldAddr h)) h))
theorem Kept.keepIdentity {f} (h : Kept z s) : Kept z (s.keepIdentity f) := ite h (ite h h.logIdentity.setFlag.frame)
theorem Kept.learnRoute {q f} (h : Kept z s) : Kept z (s.learnRoute q f) := ite h h.setFlag.wr.frame.showRoute
theorem Kept.noteSeq {f} (h : Kept z s) : Kept z (s.noteSeq f) := h.frame
theorem Kept.forwardOn {p idle f} (h : Kept z s) : Kept z (s.forwardOn p idle f) := ite h (ite h.emit (ite h.toTransit h))
theorem Kept.forward {q idle f} (h : Kept z s) : Kept z (s.forward q idle f) :=
  ite h (ite (ite h.count (ite (ite h.crossOut h) h.forwardOn)) (ite (ite h.forwardOn h.count) (ite h (ite h.forwardOn h.count))))
theorem Kept.takeNew {f} (h : Kept z s) : Kept z (s.takeNew f).2 := iteSnd h.count (iteSnd h.count h.noteSeq)
theorem Kept.arrive {q idle f} (h : Kept z s) : Kept z (s.arrive q idle f).2 :=
  iteSnd h (iteSnd (ite h.heardPort h).count (iteSnd (ite h.heardPort h).forward.takeNew (ite h.heardPort h).forward))
theorem Kept.setE2e {k e} (h : Kept z s) : Kept z (s.setE2e k e) := h.frame
theorem Kept.noteE2e {k f} (h : Kept z s) : Kept z (s.noteE2e k f) := ite (ite h.count h).setE2e h
theorem Kept.deliverRecord {f} (h : Kept z s) : Kept z (s.deliverRecord f) := by
  unfold State.deliverRecord
  split
  · exact h.count
  · exact h.noteE2e.wr.receiveRecord
theorem Kept.deliverData {f} (h : Kept z s) : Kept z (s.deliverData f) := ite h.takeStatus h.deliverRecord
theorem Kept.noteBad {f} (h : Kept z s) : Kept z (s.noteBad f) := by
  unfold State.noteBad
  split
  · exact ite h.setE2e h
  · exact h
theorem Kept.dataFrame {q idle f} (h : Kept z s) : Kept z (dataFrame q idle f s) := by
  have ha := h.arrive (q := q) (idle := idle) (f := f)
  unfold Machine.dataFrame
  dsimp only
  split
  next heq => exact (ha.sndOf heq).deliverData
  next heq => exact ite (ha.sndOf heq).noteBad (ha.sndOf heq)
theorem Kept.regRsp {q idle f} (h : Kept z s) : Kept z (regRsp q idle f s) := by
  have ha := h.arrive (q := q) (idle := idle) (f := f)
  unfold Machine.regRsp
  split
  next heq => exact (ha.sndOf heq).deliverRecord
  next heq => exact ha.sndOf heq
theorem Kept.mboxRsp {q idle f} (h : Kept z s) : Kept z (mboxRsp q idle f s) := h.regRsp
theorem Kept.frameForward {q idle f} (h : Kept z s) : Kept z (frameForward q idle f s) :=
  ite h.arrive (ite h (ite (ite h.heardPort h).count (ite h.heardPort h).forward))
theorem Kept.announce {q idle f} (h : Kept z s) : Kept z (announce q idle f s) := by
  unfold Machine.announce
  extract_lets mine u t
  have hu : Kept z u := ite h.judgeClaim h
  have ht : Kept z t := ite hu.learnRoute.showRing hu
  have ha := ht.arrive (q := q) (idle := idle) (f := f)
  split
  next heq => exact (ha.sndOf heq).keepIdentity
  next heq => exact ha.sndOf heq
theorem Kept.ringEvt {q idle f} (h : Kept z s) : Kept z (ringEvt q idle f s) := by
  have ha := h.arrive (q := q) (idle := idle) (f := f)
  unfold Machine.ringEvt
  split
  next heq => exact ((ha.sndOf heq).setFlag.foldl fun _ _ ht => ht.clearSeen).showRing
  next heq => exact ha.sndOf heq
theorem Kept.neighbor {q f} (h : Kept z s) : Kept z (neighbor q f s) := (ite h.setFlag.lower.lower.showRing h).arrive
theorem Kept.otherEthertype {q frame} (h : Kept z s) : Kept z (otherEthertype q frame s) :=
  ite h (ite (ite h.heardPort.otherToTransit h.heardPort) h.heardPort.count)
theorem Kept.portLinkUp {p speed} (h : Kept z s) : Kept z (portLinkUp p speed s) := ite h.setFlag.wr.chooseMaster h
theorem Kept.neighborLoss {p linkDown} (h : Kept z s) : Kept z (neighborLoss p linkDown s) :=
  ite ((ite (ite h.setFlag.gptpLinkDown h).setFlag.setFlag.raise (ite h.setFlag.gptpLinkDown
    h).setFlag.setFlag.raise.raise).foldl fun _ _ h' => ite h'.clearSeen h').frame.showRing (ite h.setFlag.gptpLinkDown h)
theorem Kept.addressHold (h : Kept z s) : Kept z (addressHold s) := ite h.wr.frame h
theorem Kept.routeAgeing (h : Kept z s) : Kept z (routeAgeing s) := (h.foldl fun _ _ h' => h'.clearSeen).showRing
theorem Kept.laneShare {m} (h : Kept z s) : Kept z (s.laneShare m) := h.setChan
theorem Kept.takeLanes {m} (h : Kept z s) : Kept z (s.takeLanes m) :=
  ite (ite h.setChan.laneShare.raise h.setChan.laneShare.lower) h
theorem Kept.refill {f} (h : Kept z s) : Kept z (s.refill f) := h.wrInt
theorem Kept.keepSchedule {off} (h : Kept z s) : Kept z (s.keepSchedule off) := ite h.frame h
theorem Kept.sendNeighbor {p} (h : Kept z s) : Kept z (s.sendNeighbor p) := h.nextSeq0.sendOwn
theorem Kept.presence (h : Kept z s) : Kept z s.presence :=
  ite (h.gptpTurn.gptpTurn.foldl fun _ _ h' => h'.sendNeighbor).frame.sendAnnounce (h.gptpTurn.gptpTurn.foldl fun _ _ h' =>
    h'.sendNeighbor)
theorem Kept.localStart (h : Kept z s) : Kept z s.localStart := h.frame.presence.frame.foldl fun _ _ h' => h'.emit
theorem Kept.fabricCycleStart (h : Kept z s) : Kept z (fabricCycleStart s) :=
  ite (((ite h h.setFlag).frame.foldl fun _ _ h' => h'.refill).foldl fun _ _ h' => h'.takeLanes).chooseMaster (((ite h
    h.setFlag).frame.foldl fun _ _ h' => h'.refill).foldl fun _ _ h' => h'.takeLanes).chooseMaster.localStart
theorem Kept.stepSeq {f} (h : Kept z s) : Kept z (s.stepSeq f) := h.countWrap
theorem Kept.scheduledWindow {k} (h : Kept z s) : Kept z (scheduledWindow k s) := by
  unfold Machine.scheduledWindow
  split
  · exact h
  · exact ite (ite h.stepSeq.crossOut (h.stepSeq.foldl fun _ _ h' => h'.emit)) h
theorem Kept.bulkPhaseStart (h : Kept z s) : Kept z (bulkPhaseStart s) :=
  ite h (h.frame.presence.frame.foldl fun _ _ h' => ite h'.nextSeq0.sendOwn h'.nextSeq0)
theorem Kept.noteHead {f what} (h : Kept z s) : Kept z (s.noteHead f what) := h.frame
theorem Kept.dropHead {f} (h : Kept z s) : Kept z (s.dropHead f) := ite h h.dropEntry.noteHead
theorem Kept.headSeq {f} (h : Kept z s) : Kept z (s.headSeq f).2 := iteSnd h h.stepSeq.noteHead
theorem Kept.pathDone {f path} (h : Kept z s) : Kept z (s.pathDone f path) := ite h.noteHead.removeHead h.noteHead
theorem Kept.charge {f len} (h : Kept z s) : Kept z (s.charge f len) := h.wrInt
theorem Kept.sendTick {f} (h : Kept z s) : Kept z (s.sendTick f) := h.charge.stepSeq.frame.originate
theorem Kept.sendHead {f p} (h : Kept z s) : Kept z (s.sendHead f p) := by
  unfold State.sendHead
  dsimp only
  refine ite h.dropHead.pathDone ?_
  split
  · exact (ite h.headSeq.charge h.headSeq).originate.pathDone
  · exact (ite h.headSeq.charge h.headSeq).frame.emit.pathDone
theorem Kept.sendStored {p r f} (h : Kept z s) : Kept z (s.sendStored p r f) := ite h.emit.frame.showTransit h.emit.frame
theorem Kept.sendOther {p} (h : Kept z s) : Kept z (s.sendOther p) := by
  unfold State.sendOther
  split
  · exact ite h.frame.showTransit h
  · exact h
theorem Kept.sendNext {p} (h : Kept z s) : Kept z (s.sendNext p) := by
  unfold State.sendNext
  split
  · exact ite h.sendStored h
  · split
    · exact h.sendOther
    · exact ite (ite h.frame.sendTick h.frame.sendHead) h
theorem Kept.bulkFrameSend {p} (h : Kept z s) : Kept z (bulkFrameSend p s) := ite h (ite h.gptpTurn h).sendNext
theorem Kept.e2eCheck (h : Kept z s) : Kept z (e2eCheck s) := by
  unfold Machine.e2eCheck
  dsimp only
  split
  · exact (h.foldl fun _ _ h' => h'.setE2e).setFlag.wr.wr.raise
  · exact (h.foldl fun _ _ h' => h'.setE2e).lower
theorem Kept.showCan {c} (h : Kept z s) : Kept z (s.showCan c) := ite h h.wr
theorem Kept.canEvent {c e} (h : Kept z s) : Kept z (State.canEvent c s e) := by
  unfold State.canEvent
  refine ite h ?_
  split
  · exact ite h.frame.wr.wr.wr h.frame
  · exact h
  · exact h
  · exact ite h.frame.wr.wr h.wr.showCan
  · exact h.count.showCan
  · exact h.countN.showCan
theorem Kept.canSent {c} (h : Kept z s) : Kept z (s.canSent c) := h.wr.showCan
theorem Kept.canHeard {c} (h : Kept z s) : Kept z (s.canHeard c) := ite h.draw.wr.showCan h.wr.showCan
theorem Kept.sendCan {c k seq typ reqId payload} (h : Kept z s) : Kept z (s.sendCan c k seq typ reqId payload) := h.frame.canSent
theorem Kept.canFrameTx {c k evs} (h : Kept z s) : Kept z (canFrameTx c k evs s) :=
  ite (ite (ite (h.foldl fun _ _ h' => h'.canEvent).stepSeq.sendCan (h.foldl fun _ _ h' => h'.canEvent).dropEntry) (ite (ite
    (h.foldl fun _ _ h' => h'.canEvent).headSeq.sendCan.pathDone (h.foldl fun _ _ h' => h'.canEvent).dropHead.pathDone) (h.foldl
    fun _ _ h' => h'.canEvent))) (h.foldl fun _ _ h' => h'.canEvent)
theorem Kept.setStrm {x st} (h : Kept z s) : Kept z (s.setStrm x st) := by
  unfold State.setStrm
  split
  · exact h.frame
  · exact h.frame
  · exact h.frame
theorem Kept.setRrb {x v} (h : Kept z s) : Kept z (s.setRrb x v) := ite h.frame h.frame
theorem Kept.setLc {x k v} (h : Kept z s) : Kept z (s.setLc x k v) := ite h.frame h.frame
theorem Kept.setFlags {x v} (h : Kept z s) : Kept z (s.setFlags x v) := ite h.frame h.frame
theorem Kept.strike {k} (h : Kept z s) : Kept z (s.strike k) := h.frame
theorem Kept.setYWord {bank a w} (h : Kept z s) : Kept z (s.setYWord bank a w) :=
  ite (h.ymem0 fun hs => setWord_wf _ _ _ _ hs.ymem0).frame (h.ymem1 fun hs => setWord_wf _ _ _ _ hs.ymem1).frame
theorem Kept.writeY {bank a w} (h : Kept z s) : Kept z (s.writeY bank a w) := h.touch.setYWord
theorem Kept.present {x l} (h : Kept z s) : Kept z (s.present x l) := by
  unfold State.present
  split
  · exact h.frame
  · exact h.frame
  · exact h
theorem Kept.writeDest {x dst v tag} (h : Kept z s) : Kept z (s.writeDest x dst v tag) := by
  unfold State.writeDest
  dsimp only
  split
  · exact h.setStrm
  · exact h.setStrm
  · exact h.setStrm
  · exact h.setStrm
  · exact h.setStrm
  · exact h.setStrm
  · exact h.setStrm
  · exact h.setLc
  · exact h.setRrb
  · exact h.setFlags
  · exact h.writeXPair
theorem Kept.landOne {x n} (h : Kept z s) : Kept z (State.landOne x s n) := by
  unfold State.landOne
  dsimp only
  split
  · exact h.writeDest.present
  · exact h.writeDest
theorem Kept.landUpTo {x c} (h : Kept z s) : Kept z (s.landUpTo x c) := h.setStrm.foldl fun _ _ h' => h'.landOne
theorem Kept.hold {x n} (h : Kept z s) : Kept z (s.hold x n) := h.setStrm
theorem Kept.holdEffect {x t conf e} (h : Kept z s) : Kept z (State.holdEffect x t conf s e) := h.hold
theorem Kept.noteEcc {k key} (h : Kept z s) : Kept z (s.noteEcc k key) := by
  unfold State.noteEcc
  refine ite h ?_
  split
  · exact h
  · exact h.count
  · exact h.setFlag.report
theorem Kept.noteReads {l} (h : Kept z s) : Kept z (s.noteReads l) := h.foldl fun _ _ h' => h'.noteEcc
theorem Kept.onceInTick {k} {f : State → State} (h : Kept z s) (hf : ∀ t, Kept z t → Kept z (f t)) : Kept z (s.onceInTick k f) :=
  ite h (hf _ h.frame)
theorem Kept.recordBundle {x pc code} (h : Kept z s) : Kept z (s.recordBundle x pc code) :=
  ite h (ite h.wr.wr.wr.frame h.wr.wr.wr)
theorem Kept.illegal {x pc code} (h : Kept z s) : Kept z (s.illegal x pc code) :=
  ite (h.recordBundle.setFlag.onceInTick (fun _ h' => h'.count.report)) h.recordBundle.setFlag.count
theorem Kept.tagConflict {x pc} (h : Kept z s) : Kept z (s.tagConflict x pc) :=
  ite (h.recordBundle.setFlag.onceInTick (fun _ h' => h'.report)) h.setFlag
theorem Kept.issueFault (h : Kept z s) : Kept z s.issueFault := h.onceInTick (fun _ h' => h'.count.report)
theorem Kept.showB (h : Kept z s) : Kept z s.showB := h.wr.setFlag.setFlag
theorem Kept.stopB {pp} (h : Kept z s) : Kept z (s.stopB pp) := h.frame.setFlag.showB
theorem Kept.resumeB (h : Kept z s) : Kept z s.resumeB := ite h.frame.showB h
theorem Kept.startB (h : Kept z s) : Kept z s.startB := h.frame.setFlag.showB
theorem Kept.endB {restart} (h : Kept z s) : Kept z (s.endB restart) := ite h.frame.startB h.frame.setFlag.showB
theorem Kept.boundaryB (h : Kept z s) : Kept z s.boundaryB := by
  unfold State.boundaryB
  refine ite h ?_
  split
  · exact h.endB
  · exact h
theorem Kept.toSlot {x1} (h : Kept z s) : Kept z (s.toSlot x1) := by
  unfold State.toSlot
  split
  · exact h.advanceTo
  · exact h.advanceTo
  · exact h
theorem Kept.emptyCache (h : Kept z s) : Kept z s.emptyCache := h.frame
theorem Kept.fetchBundle {x} (h : Kept z s) : Kept z (s.fetchBundle x) := ite h h.noteEcc
theorem Kept.goOn {x n next} (h : Kept z s) : Kept z (s.goOn x n next) := ite h.setStrm h.setStrm
theorem Kept.postModify {x t p} (h : Kept z s) : Kept z (State.postModify x t s p) := h.writeDest.present
theorem Kept.issueStore {x t o} (h : Kept z s) : Kept z (s.issueStore x t o) :=
  ite (ite (ite h.setFlag h).setFlag (ite h.setFlag h).present) (ite h.hold h.setFlag)
theorem Kept.holdFlags {x t slot fl conf} (h : Kept z s) : Kept z (s.holdFlags x t slot fl conf) := ite h h.hold
theorem Kept.runSlots {x mop aop lop} (h : Kept z s) : Kept z (s.runSlots x mop aop lop) := by
  unfold State.runSlots
  refine ite ?_ ?_
  · refine Kept.tagConflict ?_
    refine ite ?_ ?_
    · refine Kept.setFlag ?_
      split
      · exact ((((h.noteReads.foldl fun _ _ h' => h'.holdEffect).foldl fun _ _ h' => h'.holdEffect).foldl fun _ _ h' =>
          h'.holdEffect).holdFlags.foldl fun _ _ h' => h'.postModify).issueStore
      · exact (((h.noteReads.foldl fun _ _ h' => h'.holdEffect).foldl fun _ _ h' => h'.holdEffect).foldl fun _ _ h' =>
          h'.holdEffect).holdFlags.foldl fun _ _ h' => h'.postModify
    · split
      · exact ((((h.noteReads.foldl fun _ _ h' => h'.holdEffect).foldl fun _ _ h' => h'.holdEffect).foldl fun _ _ h' =>
          h'.holdEffect).holdFlags.foldl fun _ _ h' => h'.postModify).issueStore
      · exact (((h.noteReads.foldl fun _ _ h' => h'.holdEffect).foldl fun _ _ h' => h'.holdEffect).foldl fun _ _ h' =>
          h'.holdEffect).holdFlags.foldl fun _ _ h' => h'.postModify
  · refine ite ?_ ?_
    · refine Kept.setFlag ?_
      split
      · exact ((((h.noteReads.foldl fun _ _ h' => h'.holdEffect).foldl fun _ _ h' => h'.holdEffect).foldl fun _ _ h' =>
          h'.holdEffect).holdFlags.foldl fun _ _ h' => h'.postModify).issueStore
      · exact (((h.noteReads.foldl fun _ _ h' => h'.holdEffect).foldl fun _ _ h' => h'.holdEffect).foldl fun _ _ h' =>
          h'.holdEffect).holdFlags.foldl fun _ _ h' => h'.postModify
    · split
      · exact ((((h.noteReads.foldl fun _ _ h' => h'.holdEffect).foldl fun _ _ h' => h'.holdEffect).foldl fun _ _ h' =>
          h'.holdEffect).holdFlags.foldl fun _ _ h' => h'.postModify).issueStore
      · exact (((h.noteReads.foldl fun _ _ h' => h'.holdEffect).foldl fun _ _ h' => h'.holdEffect).foldl fun _ _ h' =>
          h'.holdEffect).holdFlags.foldl fun _ _ h' => h'.postModify
theorem Kept.holdLoop {x dst num v} (h : Kept z s) : Kept z (s.holdLoop x dst num v) := h.hold
theorem Kept.rotate {x} (h : Kept z s) : Kept z (s.rotate x) := h.holdLoop
theorem Kept.loopEnd {x k} (h : Kept z s) : Kept z (s.loopEnd x k).1 := h.setStrm.holdLoop
theorem Kept.runCtl {x c} (h : Kept z s) : Kept z (s.runCtl x c) := by
  unfold State.runCtl
  dsimp only
  split
  · exact h.goOn
  · exact h.setStrm.present.goOn
  · exact h.loopEnd.goOn
  · exact h.loopEnd.rotate.goOn
  · exact h.rotate.goOn
  · exact ite h.goOn.stopB h.goOn
theorem Kept.showT (h : Kept z s) : Kept z s.showT := h.setFlag
theorem Kept.dropStores {n} (h : Kept z s) : Kept z (s.dropStores n) := by
  have hundo := h.foldr (l := s.ce.old.filter fun o => decide (n < o.due))
    fun o t (ht : Kept z t) => ite (c := o.bank = 2) (ite (c := t.xWord o.addr = o.new) (ht.setXWord (a := o.addr) (w := o.old)) ht)
      (ite (c := t.yWord o.bank o.addr = o.new) (ht.setYWord (bank := o.bank) (a := o.addr) (w := o.old)) ht)
  exact ite hundo.frame.setFlag hundo.frame
theorem Kept.landIdle (h : Kept z s) : Kept z s.landIdle := h.setStrm.foldl fun _ _ h' => h'.atTime (fun _ h1 => h1.landOne)
theorem Kept.haltStream {x} (h : Kept z s) : Kept z (s.haltStream x) := by
  unfold State.haltStream
  dsimp only
  split
  · exact h.goOn.landIdle.frame.setFlag.showB
  · exact ite (ite h.goOn h.goOn.setFlag).setStrm.frame.showT (ite (ite h.goOn h.goOn.setFlag).setStrm.wr.dropStores.showT (ite
      h.goOn h.goOn.setFlag).setStrm.wr.dropStores.issueFault.showT)
theorem Kept.landNext {x} (h : Kept z s) : Kept z (s.landNext x) := h.landUpTo
theorem Kept.landDue {x} (h : Kept z s) : Kept z (s.landDue x) := ite h.landNext (h.atTime (fun _ h' => h'.landNext))
theorem Kept.checkIssue {x} (h : Kept z s) : Kept z (s.checkIssue x) := ite h.issueFault h
theorem Kept.issueWith {i f} {ctx : Nat → State → State} {comp : Nat → State → State} (h : Kept z s) (hctx : ∀ a0 t, Kept z t →
    Kept z (ctx a0 t)) (hcomp : ∀ a0 t, Kept z t → Kept z (comp a0 t)) : Kept z (s.issueWith i f ctx comp) := by
  unfold State.issueWith
  refine ite h ?_
  refine ite ?_ ?_
  · refine Kept.checkIssue ?_
    refine Kept.landNext ?_
    refine ite (h.toSlot.foldl fun _ _ h' => h'.strike).landDue.fetchBundle.illegal.setStrm.goOn ?_
    split
    · exact (h.toSlot.foldl fun _ _ h' => h'.strike).landDue.fetchBundle.runSlots.runCtl
    · exact (h.toSlot.foldl fun _ _ h' => h'.strike).landDue.fetchBundle.goOn.setStrm
    · exact ite (hctx _ _ (h.toSlot.foldl fun _ _ h' => h'.strike).landDue.fetchBundle).goOn (h.toSlot.foldl fun _ _ h' =>
        h'.strike).landDue.fetchBundle.setFlag.goOn
    · exact ite (hcomp _ _ (h.toSlot.foldl fun _ _ h' => h'.strike).landDue.fetchBundle).goOn (h.toSlot.foldl fun _ _ h' =>
        h'.strike).landDue.fetchBundle.setFlag.goOn
    · exact (h.toSlot.foldl fun _ _ h' => h'.strike).landDue.fetchBundle.haltStream
    · exact (h.toSlot.foldl fun _ _ h' => h'.strike).landDue.fetchBundle.goOn
  · refine Kept.passCec ?_
    refine Kept.showB ?_
    refine Kept.boundaryB ?_
    refine ite (h.toSlot.foldl fun _ _ h' => h'.strike).landDue.fetchBundle.illegal.setStrm.goOn ?_
    split
    · exact (h.toSlot.foldl fun _ _ h' => h'.strike).landDue.fetchBundle.runSlots.runCtl
    · exact (h.toSlot.foldl fun _ _ h' => h'.strike).landDue.fetchBundle.goOn.setStrm
    · exact ite (hctx _ _ (h.toSlot.foldl fun _ _ h' => h'.strike).landDue.fetchBundle).goOn (h.toSlot.foldl fun _ _ h' =>
        h'.strike).landDue.fetchBundle.setFlag.goOn
    · exact ite (hcomp _ _ (h.toSlot.foldl fun _ _ h' => h'.strike).landDue.fetchBundle).goOn (h.toSlot.foldl fun _ _ h' =>
        h'.strike).landDue.fetchBundle.setFlag.goOn
    · exact (h.toSlot.foldl fun _ _ h' => h'.strike).landDue.fetchBundle.haltStream
    · exact (h.toSlot.foldl fun _ _ h' => h'.strike).landDue.fetchBundle.goOn
theorem Kept.angleResolve (h : Kept z s) : Kept z (angleResolve s) :=
  ite ((h.advanceTo.noteReads.foldl fun _ _ h' => h'.writeXPair).foldl fun _ _ h' => h'.setBit) ((h.advanceTo.noteReads.foldl fun
    _ _ h' => h'.writeXPair).foldl fun _ _ h' => h'.setBit).count
theorem Kept.presentWord {x a v eff} (h : Kept z s) : Kept z (s.presentWord x a v eff) := h.present
theorem Kept.ctxRun {x n} (h : Kept z s) : Kept z (s.ctxRun x n) :=
  ite h.noteReads.presentWord.presentWord.presentWord.presentWord h
theorem Kept.compete {x m} (h : Kept z s) : Kept z (s.compete x m) :=
  ite (h.noteReads.presentWord.foldl fun _ _ h' => h'.presentWord).present h
theorem Kept.ctxAccept {e} (h : Kept z s) : Kept z (s.ctxAccept e) := by
  unfold State.ctxAccept
  split
  · exact ite h.setFlag.setFlag.setFlag.wr.frame.setFlag.wr.count.frame h.setFlag.setFlag.setFlag.wr.frame
  · exact h.frame
theorem Kept.ctxCommit (h : Kept z s) : Kept z s.ctxCommit :=
  ((h.foldl fun _ _ h' => h'.setFlag.setFlag.setFlag).foldl fun _ _ h' => ite h' h'.wr.count).frame
theorem Kept.dcntBoundary (h : Kept z s) : Kept z s.dcntBoundary :=
  (h.foldl fun _ _ h' => ite h' (ite h'.wr (ite h'.wr h'.wr))).frame
theorem Kept.dcntStart (h : Kept z s) : Kept z s.dcntStart := h.foldl fun _ _ h' => h'.wr
theorem Kept.ctxMove {n old new} (h : Kept z s) : Kept z (s.ctxMove n old new) :=
  ite (ite (ite h.frame h).frame (ite h.frame h)) (ite (ite h.frame h).frame (ite h.frame h)).setFlag
theorem Kept.issueNow {i f} (h : Kept z s) : Kept z (s.issueNow i f) :=
  h.issueWith (fun _ _ h' => h'.ctxRun) (fun _ _ h' => h'.compete)
theorem Kept.declareBroken {src} (h : Kept z s) : Kept z (s.declareBroken src) := h.setFlag.raise
theorem Kept.recordMismatch {cmp bidx slot kind dest da db} (h : Kept z s) : Kept z (s.recordMismatch cmp bidx slot kind dest da
    db) :=
  ite h (ite h.frame h).wr.wr.setFlag.wr.wr.wr.wr.wr.wr.count.frame
theorem Kept.verdicts {c1 c2} (h : Kept z s) : Kept z (s.verdicts c1 c2) :=
  ite (h.setFlag.onceInTick (fun _ h' => h'.report)) h.setFlag.declareBroken
theorem Kept.keepOld {bank a due old new} (h : Kept z s) : Kept z (s.keepOld bank a due old new) := h.frame
theorem Kept.landX {l} (h : Kept z s) : Kept z (s.landX l) := (ite h h.keepOld.keepOld).writeXPair
theorem Kept.landY {l} (h : Kept z s) : Kept z (s.landY l) := ite h h.keepOld.setYWord
theorem Kept.acceptWriteback {b eff} (h : Kept z s) : Kept z (s.acceptWriteback b eff) := by
  unfold State.acceptWriteback
  dsimp only
  refine ite h ?_
  split
  · exact (ite h.landX (ite h.landY h)).ctxAccept
  · exact ite h.landX (ite h.landY h)
theorem Kept.decidePair {a b f1 f2} (h : Kept z s) : Kept z (s.decidePair a b f1 f2) := by
  unfold State.decidePair
  split
  · exact ite h.verdicts.recordMismatch h.acceptWriteback
  · exact h.verdicts.recordMismatch
  · exact h.verdicts.recordMismatch
  · exact h
theorem Kept.decideNow {a b f1 f2} (h : Kept z s) : Kept z (s.decideNow a b f1 f2) := h.frame.decidePair
theorem Kept.decideTo {c n} (h : Kept z s) : Kept z (State.decideTo c n s) := by
  induction n generalizing s with
  | zero => exact h
  | succ n ih =>
    unfold State.decideTo
    split
    · exact ite (ih (h.atTime fun _ ht => ht.decideNow)) h
    · exact h
theorem Kept.compareTo {c} (h : Kept z s) : Kept z (s.compareTo c) := h.decideTo
theorem Kept.decideAll {n} (h : Kept z s) : Kept z (State.decideAll n s) := by
  induction n generalizing s with
  | zero => exact h
  | succ n ih =>
    unfold State.decideAll
    split
    · exact ih h.decideNow
    · exact h
theorem Kept.closeCompare (h : Kept z s) : Kept z s.closeCompare := h.decideAll
theorem Kept.showWindow (h : Kept z s) : Kept z s.showWindow := h.wr
theorem Kept.countTransient (h : Kept z s) : Kept z s.countTransient :=
  ite h (ite h.frame.showWindow.setFlag.declareBroken h.frame.showWindow)
theorem Kept.katNote {x n} (h : Kept z s) : Kept z (s.katNote x n) := by
  unfold State.katNote
  split
  · exact h.frame
  · exact h.frame
  · exact h
theorem Kept.katIssue {x} (h : Kept z s) : Kept z (s.katIssue x) := h.runSlots.goOn.landNext.katNote
theorem katEvent_keeps {k} {f : State → State} (he : s.katEvent = some (k, f)) {t : State} (ht : Kept z t) : Kept z (f t) := by
  unfold State.katEvent at he
  split at he
  · split at he <;> cases he
    · exact ht.decideNow
    · exact ht.katIssue
  · cases he
    exact ht.decideNow
  · cases he
    exact ht.katIssue
  · cases he
theorem Kept.katTo {c n} (h : Kept z s) : Kept z (State.katTo c n s) := by
  induction n generalizing s with
  | zero => exact h
  | succ n ih =>
    unfold State.katTo
    split
    next he => exact ite (ih (h.atTime fun _ ht => katEvent_keeps he ht)) h
    · exact h
theorem Kept.katFeed {n} (h : Kept z s) : Kept z (State.katFeed n s) := by
  induction n generalizing s with
  | zero => exact h
  | succ n ih =>
    unfold State.katFeed
    split
    · exact ite h (ih (h.atTime fun _ ht => ht.katIssue))
    · exact h
theorem Kept.beginKat {hits} (h : Kept z s) : Kept z (s.beginKat hits) := h.frame
theorem Kept.katTail (h : Kept z s) : Kept z s.katTail := h.landUpTo.katNote.landUpTo.katNote.closeCompare
theorem Kept.endKat (h : Kept z s) : Kept z s.endKat := h.katTail.frame
theorem Kept.beginPasses (h : Kept z s) : Kept z s.beginPasses := h.frame
theorem Kept.startPasses (h : Kept z s) : Kept z s.startPasses := ite h.frame h.beginPasses.showT
theorem Kept.katDone (h : Kept z s) : Kept z s.katDone := ite h.katTo.endKat.frame.startPasses h
theorem Kept.writebackCompare {f1 f2} (h : Kept z s) : Kept z (writebackCompare f1 f2 s) := by
  unfold Machine.writebackCompare
  dsimp only
  split
  · exact ite (ite h.katFeed h).advanceTo.decideNow (ite h.katFeed h)
  · exact ite h.katFeed h
theorem Kept.katVerdict (h : Kept z s) : Kept z (katVerdict s) :=
  ite (ite h.advanceTo.katDone.frame.wr.count.countTransient (h.advanceTo.katDone.frame.wr.wr.setFlag.wr.onceInTick (fun _ h' =>
    h'.declareBroken))) h
theorem Kept.issue {i f} (h : Kept z s) : Kept z (s.issue i f) := (ite h.katDone h).issueNow
theorem Kept.tProgramStart {hits} (h : Kept z s) : Kept z (tProgramStart hits s) :=
  ite (ite (ite h.advanceTo.stopB h.advanceTo).frame.beginKat (ite h.advanceTo.stopB h.advanceTo).frame.startPasses) h
theorem Kept.preemptionRequest (h : Kept z s) : Kept z (preemptionRequest s) := ite h.advanceTo.frame h.advanceTo
theorem Kept.bProgramStop (h : Kept z s) : Kept z (bProgramStop s) := ite h.stopB h
theorem Kept.bProgramResume (h : Kept z s) : Kept z (bProgramResume s) := ite (ite h.katDone h).resumeB (ite h.katDone h)
theorem Kept.stopPasses (h : Kept z s) : Kept z s.stopPasses := h.frame.wr.showT
theorem Kept.ceStart (h : Kept z s) : Kept z s.ceStart := by
  unfold State.ceStart
  exact ite h.setFlag.frame.setFlag.setFlag.dcntStart.startB h.setFlag.frame.setFlag.setFlag.dcntStart.showB
theorem Kept.ceBoundary (h : Kept z s) : Kept z s.ceBoundary := by
  unfold State.ceBoundary
  exact ite h.setFlag.dcntBoundary.frame.showWindow.boundaryB (ite h.setFlag.dcntBoundary.frame.showWindow.startB
    h.setFlag.dcntBoundary.frame.showWindow)
theorem Kept.showCommit (h : Kept z s) : Kept z s.showCommit := by
  unfold State.showCommit
  exact h.wr.wr
theorem Kept.noteShadow {g w} (h : Kept z s) : Kept z (s.noteShadow g w) := (ite h.frame (ite h h.setBit)).showCommit
theorem Kept.writeShadow {f v w} (h : Kept z s) : Kept z (s.writeShadow f v w) := h.setShadow.noteShadow
theorem Kept.clearWriter {g} (h : Kept z s) : Kept z (s.clearWriter g) := h.frame.setBit
theorem Kept.dropCommit {g} (h : Kept z s) : Kept z (s.dropCommit g) := h.frame.setBit
theorem Kept.commit {w mask} (h : Kept z s) : Kept z (commit w mask s) := h.wr.frame.showCommit
theorem Kept.discardCommand {mask} (h : Kept z s) : Kept z (Machine.discard mask s) :=
  (h.foldl fun _ _ h' => ((h'.foldl fun _ _ h1 => h1.dropShadow).clearWriter).dropCommit).showCommit
theorem Kept.rejectGroups {bad} (h : Kept z s) : Kept z (s.rejectGroups bad) := by
  unfold State.rejectGroups
  split
  · exact h
  · exact (ite h.setFlag.wr.wr.wr h.setFlag.wr.wr.wr.setFlag).foldl fun _ _ h' => h'.logEvent
theorem Kept.commitSnapshot (h : Kept z s) : Kept z (commitSnapshot s) :=
  ite (ite h.advanceTo h.frame) (ite h.advanceTo h.frame).frame.rejectGroups.wr.frame.showCommit
theorem Kept.showBudget (h : Kept z s) : Kept z s.showBudget := h.wr
theorem Kept.applyTick {mask} (h : Kept z s) : Kept z (s.applyTick mask) :=
  ite (h.foldl fun _ _ h' => h'.wr).showDerived.showBudget (h.foldl fun _ _ h' => h'.wr).showDerived.showBudget.frame
theorem Kept.applyCtx {mask} (h : Kept z s) : Kept z (s.applyCtx mask) :=
  (h.foldl fun _ _ h' => h'.wr).foldl fun _ _ h' => ite h'.wr.wr.ctxMove h'
theorem Kept.applyProg {mask} (h : Kept z s) : Kept z (s.applyProg mask) :=
  ite (ite (h.foldl fun _ _ h' => h'.wr).wr (h.foldl fun _ _ h' => h'.wr).wr.emptyCache) (ite (ite (h.foldl fun _ _ h' =>
    h'.wr).wr (h.foldl fun _ _ h' => h'.wr).wr.emptyCache).frame (ite (ite (h.foldl fun _ _ h' => h'.wr).wr (h.foldl fun _ _ h'
    => h'.wr).wr.emptyCache).endB (ite (ite (h.foldl fun _ _ h' => h'.wr).wr (h.foldl fun _ _ h' => h'.wr).wr.emptyCache).startB
    (ite (h.foldl fun _ _ h' => h'.wr).wr (h.foldl fun _ _ h' => h'.wr).wr.emptyCache))))
theorem Kept.applyGroup {mask g} (h : Kept z s) : Kept z (State.applyGroup mask s g) :=
  ((ite h.applyTick (ite h.applyCtx (ite h.applyProg (h.foldl fun _ _ h' => h'.wr)))).foldl fun _ _ h' => h'.dropShadow).clearWriter
theorem Kept.commitApply (h : Kept z s) : Kept z (commitApply s) :=
  ite h ((ite h h.frame).foldl fun _ _ h' => h'.applyGroup).wr.frame.showCommit
theorem Kept.logHandover (h : Kept z s) : Kept z s.logHandover := h.logEvent
theorem Kept.enterHo {st} (h : Kept z s) : Kept z (s.enterHo st) := h.wr.logHandover
theorem Kept.sendHo {code payload} (h : Kept z s) : Kept z (s.sendHo code payload) := ite h.postCommand h.frame
theorem Kept.failHo {reason} (h : Kept z s) : Kept z (s.failHo reason) := h.wr.frame.enterHo
theorem Kept.abortHo {reason} (h : Kept z s) : Kept z (s.abortHo reason) := ite h.sendHo.failHo h
theorem Kept.dropCommand (h : Kept z s) : Kept z s.dropCommand := h.frame
theorem Kept.hoReq (h : Kept z s) : Kept z (hoReq s) := by
  unfold Machine.hoReq
  split
  · exact h
  · exact ite (ite h.dropCommand.failHo h.dropCommand).sendHo.wr.wr.frame.enterHo (ite h.dropCommand.failHo h.dropCommand).sendHo
theorem Kept.hoAck (h : Kept z s) : Kept z (hoAck s) := by
  unfold Machine.hoAck
  split
  · exact h
  · exact ite h.dropCommand.frame.enterHo h.dropCommand
theorem Kept.hoNak (h : Kept z s) : Kept z (hoNak s) := by
  unfold Machine.hoNak
  split
  · exact h
  · exact ite h.dropCommand.failHo h.dropCommand
theorem Kept.hoRampDone (h : Kept z s) : Kept z (hoRampDone s) := ite h.sendHo.enterHo.frame.request h
theorem Kept.hoOutRx (h : Kept z s) : Kept z (hoOutRx s) := by
  unfold Machine.hoOutRx
  split
  · exact h
  · exact ite h.dropCommand.frame.logHandover h.dropCommand
theorem Kept.hoTimeout (h : Kept z s) : Kept z (hoTimeout s) := ite h.abortHo h
theorem Kept.hoAbort (h : Kept z s) : Kept z (hoAbort s) := by
  unfold Machine.hoAbort
  split
  · exact h
  · exact ite h.dropCommand.failHo h.dropCommand
theorem Kept.partnerBack (h : Kept z s) : Kept z s.partnerBack := ite h.frame.enterHo h
theorem Kept.hoBack (h : Kept z s) : Kept z (hoBack s) := ite h.dropCommand.partnerBack h
theorem Kept.updNext (h : Kept z s) : Kept z (updNext s) := ite h.dropCommand.setFlag h
theorem Kept.enterUpdate {byHandover} (h : Kept z s) : Kept z (s.enterUpdate byHandover) :=
  h.outputsSafe.setHalf.aliveLow.leaveKeyStates.fcRefresh.frame
theorem Kept.postHeld (h : Kept z s) : Kept z s.postHeld := by
  unfold State.postHeld
  split
  · exact h
  · exact ite h h.frame.postCommand
theorem Kept.hoChecks (h : Kept z s) : Kept z s.hoChecks := ite (ite h.abortHo (ite h.abortHo (ite h.abortHo h))) (ite h.failHo h)
theorem Kept.handoverBoundary (h : Kept z s) : Kept z s.handoverBoundary :=
  (ite (ite (ite (ite (ite h.hoChecks.frame.frame h.hoChecks.frame).frame (ite h.hoChecks.frame.frame
    h.hoChecks.frame)).partnerBack (ite (ite h.hoChecks.frame.frame h.hoChecks.frame).frame (ite h.hoChecks.frame.frame
    h.hoChecks.frame))) (ite (ite (ite (ite (ite h.hoChecks.frame.frame h.hoChecks.frame).frame (ite h.hoChecks.frame.frame
    h.hoChecks.frame)).partnerBack (ite (ite h.hoChecks.frame.frame h.hoChecks.frame).frame (ite h.hoChecks.frame.frame
    h.hoChecks.frame))) (ite (ite (ite h.hoChecks.frame.frame h.hoChecks.frame).frame (ite h.hoChecks.frame.frame
    h.hoChecks.frame)).partnerBack (ite (ite h.hoChecks.frame.frame h.hoChecks.frame).frame (ite h.hoChecks.frame.frame
    h.hoChecks.frame))).enterUpdate) (ite (ite (ite (ite h.hoChecks.frame.frame h.hoChecks.frame).frame (ite
    h.hoChecks.frame.frame h.hoChecks.frame)).partnerBack (ite (ite h.hoChecks.frame.frame h.hoChecks.frame).frame (ite
    h.hoChecks.frame.frame h.hoChecks.frame))) (ite (ite (ite h.hoChecks.frame.frame h.hoChecks.frame).frame (ite
    h.hoChecks.frame.frame h.hoChecks.frame)).partnerBack (ite (ite h.hoChecks.frame.frame h.hoChecks.frame).frame (ite
    h.hoChecks.frame.frame h.hoChecks.frame))).frame))).frame.sendHo.sendHo.enterHo (ite (ite (ite (ite h.hoChecks.frame.frame
    h.hoChecks.frame).frame (ite h.hoChecks.frame.frame h.hoChecks.frame)).partnerBack (ite (ite h.hoChecks.frame.frame
    h.hoChecks.frame).frame (ite h.hoChecks.frame.frame h.hoChecks.frame))) (ite (ite (ite (ite (ite h.hoChecks.frame.frame
    h.hoChecks.frame).frame (ite h.hoChecks.frame.frame h.hoChecks.frame)).partnerBack (ite (ite h.hoChecks.frame.frame
    h.hoChecks.frame).frame (ite h.hoChecks.frame.frame h.hoChecks.frame))) (ite (ite (ite h.hoChecks.frame.frame
    h.hoChecks.frame).frame (ite h.hoChecks.frame.frame h.hoChecks.frame)).partnerBack (ite (ite h.hoChecks.frame.frame
    h.hoChecks.frame).frame (ite h.hoChecks.frame.frame h.hoChecks.frame))).enterUpdate) (ite (ite (ite (ite
    h.hoChecks.frame.frame h.hoChecks.frame).frame (ite h.hoChecks.frame.frame h.hoChecks.frame)).partnerBack (ite (ite
    h.hoChecks.frame.frame h.hoChecks.frame).frame (ite h.hoChecks.frame.frame h.hoChecks.frame))) (ite (ite (ite
    h.hoChecks.frame.frame h.hoChecks.frame).frame (ite h.hoChecks.frame.frame h.hoChecks.frame)).partnerBack (ite (ite
    h.hoChecks.frame.frame h.hoChecks.frame).frame (ite h.hoChecks.frame.frame h.hoChecks.frame))).frame)))).postHeld
theorem Kept.lowerLock (h : Kept z s) : Kept z s.lowerLock := h.lower.lower
theorem Kept.enterLock {st} (h : Kept z s) : Kept z (s.enterLock st) := h.wr.frame
theorem Kept.loseLock (h : Kept z s) : Kept z s.loseLock := h.report.setSource
theorem Kept.referenceBoundary (h : Kept z s) : Kept z s.referenceBoundary :=
  ite h (ite h.wr.setFlag.enterLock.frame.lowerLock h.wr.setFlag.enterLock.frame)
theorem Kept.showPhase {err} (h : Kept z s) : Kept z (s.showPhase err) := ite h.wrInt h.draw.wr
theorem Kept.judgeLock {err} (h : Kept z s) : Kept z (s.judgeLock err) := by
  unfold State.judgeLock
  dsimp only
  split
  · exact ite h.enterLock.lowerLock h.frame
  · exact ite h.enterLock.setFlag.count.loseLock h.frame
  · exact h.enterLock
theorem Kept.phaseMeasurement {instant} (h : Kept z s) : Kept z (phaseMeasurement instant s) := by
  unfold Machine.phaseMeasurement
  refine ite ?_ h
  split
  · exact h
  · exact h.showPhase.frame.judgeLock
theorem Kept.holdoverEntry (h : Kept z s) : Kept z (holdoverEntry s) := ite h.enterLock.frame.loseLock h
theorem Kept.holdoverTimeout (h : Kept z s) : Kept z (holdoverTimeout s) := ite h.enterLock h
theorem Kept.lockStep {k} (h : Kept z s) : Kept z (lockStep k s) :=
  ite (ite h.advanceTo (ite h.advanceTo.frame h.advanceTo.frame)) h
theorem Kept.beginTick {even} (h : Kept z s) : Kept z (s.beginTick even) := ite h.frame h.setFlag.frame
theorem Kept.loseDomain {n} (h : Kept z s) : Kept z (s.loseDomain n) := by
  have hsram : Kept z { s with sram := [] } := h.sram fun _ => rfl
  exact ite hsram.frame.wr.wr (ite h.enterLink.frame h)
theorem Kept.domainBoundary (h : Kept z s) : Kept z s.domainBoundary :=
  ite (h.foldl fun _ _ h' => ite h'.loseDomain h').setDomains.frame h
theorem Kept.sleepStep {j} (h : Kept z s) : Kept z (s.sleepStep j) := ite h.wr.refuse.frame h.frame
theorem Kept.transitionBoundary (h : Kept z s) : Kept z s.transitionBoundary := by
  unfold State.transitionBoundary
  split
  · exact h.disarm
  · exact h.endTransition.inSafe
  · exact ite h.abortTransition (ite h.enterLockout h.logRequest.recover.enterStandby)
  · exact h.armingBoundary
  · exact h.armingBoundary
  · exact h.sleepStep
  · exact h.restartBlocks
  · exact ite (ite h h.abortRequest).dropPending.restartBlocks.inSafe (ite h h.abortRequest).dropPending.restartBlocks
  · exact h.sleepDown
  · exact h
theorem Kept.reactionBoundary (h : Kept z s) : Kept z s.reactionBoundary := by
  unfold State.reactionBoundary
  dsimp only
  split
  · exact h.frame.foldl fun _ _ h' => h'.effect
  · exact ite (h.frame.foldl fun _ _ h' => h'.effect).frame.enterLockout (ite (h.frame.foldl fun _ _ h' =>
      h'.effect).frame.leaveLockout (ite (h.frame.foldl fun _ _ h' => h'.effect).frame.beginBoot (ite (h.frame.foldl fun _ _ h'
      => h'.effect).frame.enterSafe (h.frame.foldl fun _ _ h' => h'.effect).frame)))
theorem Kept.busWords (h : Kept z s) : Kept z s.busWords := ite h h.setXPair.setXPair
theorem Kept.statusTick (h : Kept z s) : Kept z s.statusTick := h.foldl fun _ _ h' => h'.tickRecord
theorem Kept.nextExtreme {jumped} (h : Kept z s) : Kept z (s.nextExtreme jumped) := h.setFlag.frame
theorem Kept.lockBoundaryCounts (h : Kept z s) : Kept z s.lockBoundaryCounts := h.frame
theorem Kept.motorBoundary {len held m} (h : Kept z s) : Kept z (State.motorBoundary len held s m) :=
  (ite h h.channelBoundary).laneShare.shareBoundary.limitRecord.reload
theorem Kept.blocksBoundary {len held jumped} (h : Kept z s) : Kept z (s.blocksBoundary len held jumped) := by
  unfold State.blocksBoundary
  extract_lets u v w x y t r
  have hv : Kept z v := h.domainBoundary.keyStateCheck.quietRefresh.showRecoveries.brineBoundary.redundancyUpdate
  have hy : Kept z y := hv.limpTick.limpEpisode.handoverBoundary.bsuvBoundary.fcRefresh.nextExtreme
  have ht : Kept z t := hy.foldl fun _ _ h' => h'.motorBoundary
  exact ht.busWords.ceBoundary.softLimitTake.turnPorts.afeBoundary.statusTick
theorem Kept.tickBoundary (h : Kept z s) : Kept z (tickBoundary s) := by
  unfold Machine.tickBoundary
  extract_lets len even held u v w x y
  have hx : Kept z x := h.advanceTo.frame.countWrap.lower.lower.commitApply
  have hy : Kept z y := hx.lockBoundaryCounts.cutBoundary.ovsBoundary.reactionBoundary.transitionBoundary
  exact ite (ite hy.blocksBoundary.referenceBoundary.beginTick.frame hy) h
theorem Kept.overrun (h : Kept z s) : Kept z s.overrun := h.stopPasses.setFlag.count.wr.wr.report
theorem Kept.commitOutputs (h : Kept z s) : Kept z s.commitOutputs :=
  ((h.foldl fun _ _ h' => h'.commitMotor.commitSplit).foldl fun _ _ h' => h'.txTickFromX).ctxCommit
theorem Kept.outputCommit (h : Kept z s) : Kept z (outputCommit s) :=
  ite (ite (ite (ite h.advanceTo.katDone.compareTo h.advanceTo.katDone.compareTo.closeCompare).frame.overrun (ite
    h.advanceTo.katDone.compareTo h.advanceTo.katDone.compareTo.closeCompare).frame) (ite (ite h.advanceTo.katDone.compareTo
    h.advanceTo.katDone.compareTo.closeCompare).frame.overrun (ite h.advanceTo.katDone.compareTo
    h.advanceTo.katDone.compareTo.closeCompare).frame).commitOutputs).brineOut.frame h
theorem Kept.zeroVector {m} (h : Kept z s) : Kept z (s.zeroVector m) := h.setChan
theorem Kept.zeroWords (h : Kept z s) : Kept z s.zeroWords := (h.foldl fun _ _ h' => h'.tickRecord).frame
theorem Kept.rakeStart (h : Kept z s) : Kept z s.rakeStart := by
  unfold State.rakeStart
  exact (h.setFlag.wr.setFlag.wr.wr.setFlag.frame.showDerived.showBudget.afeStart.posStart.ceStart.foldl fun _ _ h' =>
    h'.zeroVector.laneShare.shareBoundary.limitRecord.reload).zeroWords.busWords.statusTick.referenceBoundary
theorem Kept.useSlot {c} (h : Kept z s) : Kept z (s.useSlot c) := h.frame
theorem Kept.newSlot {path node} (h : Kept z s) : Kept z (s.newSlot path node) := by
  unfold State.newSlot
  refine Kept.frame ?_
  split
  · exact ite h h.frame.countN
  · exact h
theorem Kept.sendResponse {r f} (h : Kept z s) : Kept z (s.sendResponse r f) := by
  unfold State.sendResponse
  dsimp only
  refine ite ?_ (ite h (ite h.nextSeq0.sendOwn h.nextSeq0.originate))
  split
  · exact ite h.nextSeq0.sendCan h
  · exact h
theorem Kept.admitRequest {r} (h : Kept z s) : Kept z (s.admitRequest r).2 := by
  unfold State.admitRequest
  dsimp only
  refine iteSnd h ?_
  split
  · split
    · exact (ite h h.newSlot).useSlot.count.sendResponse
    · exact (ite h h.newSlot).useSlot.frame.count
  · refine iteSnd (ite h h.newSlot).useSlot ?_
    split
    · exact (ite h h.newSlot).useSlot
    · exact (ite h h.newSlot).useSlot.count
theorem Kept.storeResponse {r f} (h : Kept z s) : Kept z (s.storeResponse r f) := ite h h.frame
theorem Kept.answerCopies {r f} (h : Kept z s) : Kept z (s.answerCopies r f) :=
  h.frame.foldl fun _ _ h' => h'.wr.count.sendResponse
theorem Kept.respond {r typ payload} (h : Kept z s) : Kept z (s.respond r typ payload) :=
  h.storeResponse.sendResponse.answerCopies
theorem Kept.putBuffer {i bs} (h : Kept z s) : Kept z (s.putBuffer i bs) := by
  induction bs generalizing s i with
  | nil => exact h
  | cons w r ih => exact ih h.wr
theorem Kept.hostResponse {status b} (h : Kept z s) : Kept z (s.hostResponse status b) := h.putBuffer.wr.wr.setFlag
theorem Kept.answer {r svc status detail data} (h : Kept z s) : Kept z (s.answer r svc status detail data) :=
  ite h.setFlag.hostResponse (ite h.respond h.respond)
theorem Kept.mboxPost {r b} (h : Kept z s) : Kept z (s.mboxPost r b) := ite h.answer h.frame
theorem Kept.hostRequest {w} (h : Kept z s) : Kept z (s.hostRequest w) := h.setFlag.mboxPost
theorem Kept.restartAnswers (h : Kept z s) : Kept z s.restartAnswers :=
  (h.frame.foldl fun _ _ h' => h'.answer).foldl fun _ _ h' => h'.answer
theorem Kept.halfResetDue (h : Kept z s) : Kept z s.halfResetDue := ite (ite h h.frame) h.beginBoot
theorem Kept.wakeSource {b} (h : Kept z s) : Kept z (s.wakeSource b) := by
  unfold State.wakeSource
  refine ite h ?_
  refine ite h.setBit ?_
  refine ite h.setBit.count.beginBoot ?_
  split
  · exact h.setBit.sleepAborted
  · exact h.setBit.sleepAborted
  · exact h.setBit
theorem Kept.wakePin {high} (h : Kept z s) : Kept z (wakePin high s) := ite h.wakeSource h
theorem Kept.canWake {c dom1 rec_ dom2} (h : Kept z s) : Kept z (canWake c dom1 rec_ dom2 s) := ite h.wakeSource h
theorem Kept.ethWake {p} (h : Kept z s) : Kept z (ethWake p s) := h.wakeSource
theorem Kept.brineWake {us} (h : Kept z s) : Kept z (brineWake us s) := ite h.wakeSource h
theorem Kept.judgeNew {tgt w} (h : Kept z s) : Kept z (s.judgeNew tgt w) :=
  ite (ite h.wr.logRequest.wakeSource h.wr.wakeSource.refuse) h.judge
theorem Kept.requestRow {tgt w} (h : Kept z s) : Kept z (s.requestRow tgt w) := ite h (ite h.judgeNew h.request)
theorem Kept.pendingRequest (h : Kept z s) : Kept z (pendingRequest s) := ite (ite h.dropPending h.setFlag.wr.judgeNew) h
theorem Kept.restoreWord {off w} (h : Kept z s) : Kept z (s.restoreWord off w) := h.foldl fun _ _ h' => h'.wr
theorem Kept.watchView {i} (h : Kept z s) : Kept z (s.watchView i) := h.restoreWord.restoreWord
theorem Kept.otherWake {b} (h : Kept z s) : Kept z (s.otherWake b) := ite h.requestRow h.wakeSource
theorem Kept.judgeSample {start x} (h : Kept z s) : Kept z (s.judgeSample start x) :=
  ite h.frame.countWrap.wr.setFlag.wakeSource (ite h.frame.countWrap.wr.wakeSource h.frame.countWrap.wr)
theorem Kept.watchCycle {enc hall raw wake} (h : Kept z s) : Kept z (watchCycle enc hall raw wake s) := by
  unfold Machine.watchCycle
  refine ite ?_ h
  refine ite ?_ ?_
  · split
    · refine ite ?_ ?_
      · refine Kept.frame ?_
        refine Kept.otherWake ?_
        refine Kept.frame ?_
        refine ite ?_ ?_
        · refine Kept.judgeSample ?_
          split
          · exact h.frame.frame.otherWake
          · exact h.frame
        · split
          · exact h.frame.frame.otherWake
          · exact h.frame
      · refine Kept.otherWake ?_
        refine Kept.frame ?_
        refine ite ?_ ?_
        · refine Kept.judgeSample ?_
          split
          · exact h.frame.frame.otherWake
          · exact h.frame
        · split
          · exact h.frame.frame.otherWake
          · exact h.frame
    · refine Kept.frame ?_
      refine ite ?_ ?_
      · refine Kept.judgeSample ?_
        split
        · exact h.frame.frame.otherWake
        · exact h.frame
      · split
        · exact h.frame.frame.otherWake
        · exact h.frame
  · refine ite ?_ ?_
    · refine Kept.judgeSample ?_
      split
      · exact h.frame.frame.otherWake
      · exact h.frame
    · split
      · exact h.frame.frame.otherWake
      · exact h.frame
theorem Kept.restartEdge {us either} (h : Kept z s) : Kept z (restartEdge us either s) := by
  unfold Machine.restartEdge
  dsimp only
  refine ite h ?_
  refine ite ?_ (ite (ite h.wr h).count (ite h.wr h))
  split
  · exact ite (ite (ite h.wr h).logEvent (ite h.wr h).logEvent.frame) (ite h.wr h).logEvent.leaveLockout.settleUsed
  · exact (ite h.wr h).logEvent.halfResetDue
  · exact (ite h.wr h).logEvent
theorem Kept.porAssert (h : Kept z s) : Kept z (porAssert s) := by
  have ht : Kept z { State.reset with
      pending := s.pending, part := s.part, halfId := s.halfId, strap := s.strap, drawn := s.drawn, mram := s.mram,
      keepArea := s.keepArea, otp := s.otp, flash := s.flash, fuse := s.fuse, wire := s.wire } :=
    { h with
      canonical := fun hz =>
        { mram := (h.canonical hz).mram, otp := (h.canonical hz).otp, flash := (h.canonical hz).flash,
          xmem := rfl, ymem0 := rfl, ymem1 := rfl, pm0 := rfl, pm1 := rfl, mpSram := rfl, sram := rfl } }
  exact ht.wr.setDomains.setFlag.setFlag.frame
theorem Kept.addrErr (h : Kept z s) : Kept z s.addrErr := h.setFlag
theorem Kept.putCopies {f a b c} (h : Kept z s) : Kept z (s.putCopies f a b c) := h.frame
theorem Kept.voteCheck {f} (h : Kept z s) : Kept z (s.voteCheck f) := ite (ite h.frame.fcSelf h.frame.report.setSource) h
theorem Kept.upset {u} (h : Kept z s) : Kept z (s.upset u) := by
  unfold State.upset
  split
  · exact h
  · refine ite ?_ ?_
    · refine Kept.fcSelf ?_
      split
      · exact h.putCopies
      · exact h.putCopies
      · exact h.putCopies
    · split
      · exact h.putCopies
      · exact h.putCopies
      · exact h.putCopies
theorem Kept.rewriteField {f} (h : Kept z s) : Kept z (s.rewriteField f) :=
  ite (ite h.voteCheck.wr.frame.renewSetCrc h.voteCheck.wr.frame) (ite h.voteCheck.wr.frame.renewSetCrc
    h.voteCheck.wr.frame).countN.wr
theorem Kept.tmrRewrite {upsets} (h : Kept z s) : Kept z (tmrRewrite upsets s) := by
  unfold Machine.tmrRewrite
  refine (h.foldl fun _ _ h' => h'.upset).foldl fun _ _ h' => ?_
  split
  · exact h'.rewriteField
  · exact h'
theorem Kept.writeMember {w f v} (h : Kept z s) : Kept z (s.writeMember w f v) :=
  ite (ite h.wr.frame.frame.logMember h.wr.frame.frame.logMember.renewSetCrc) h.wr.frame
theorem Kept.writeField {w f v} (h : Kept z s) : Kept z (s.writeField w f v) := by
  unfold State.writeField
  split
  · exact h
  · exact h
  · exact h.wr
  · exact h.wr
  · exact h
  · exact h.writeShadow
  · exact h.writeMember
  · exact h.wr
theorem Kept.writeFields {w rep fs v} (h : Kept z s) : Kept z (s.writeFields w rep fs v) :=
  ite (h.foldl fun _ _ h' => ite h' h'.writeField) (h.foldl fun _ _ h' => ite h' h'.writeField).ignored
theorem Kept.writeHash {w k v} (h : Kept z s) : Kept z (s.writeHash w k v) := ite h.frame h.ignored
theorem Kept.panOp {op} (h : Kept z s) : Kept z (s.panOp op) := by
  unfold State.panOp
  dsimp only
  split
  · exact h.panPush
  · exact h.panPop
  · exact h.panFlush
  · exact h.panClear
  · exact h
theorem Kept.afterWrite {w off v} (h : Kept z s) : Kept z (s.afterWrite w off v) :=
  ite h.forceFollows (ite (ite h h.commit) (ite (ite h h.discardCommand) (ite (ite (ite h h.afeCtrlStop) h.afeCtrlRun) (ite
    h.showDerived (ite h.hostcalWritten (ite h.closePorts (ite h.showSpans (ite (ite (ite h h.readmit).loadPosition (ite h
    h.readmit)) (ite h.hstepWrite (ite (ite h.fcRefresh.firstClr h.fcRefresh) (ite h.hostAnswer (ite h.evidenceFollows (ite (ite
    h.limpRestart h) (ite h.keyWrite (ite (ite (ite h.pwSet h).unlockLock (ite h.pwSet h)) (ite (ite h.sluiceTestRun h) (ite
    h.writeHash (ite (ite (ite (ite h h.brineEnable).retrain (ite h h.brineEnable)).wakeTx (ite (ite h h.brineEnable).retrain
    (ite h h.brineEnable))) (ite h.panOp (ite (ite h.requestRow h) (ite h.frame (ite (ite h.hostRequest h) (ite h.setFlag
    h)))))))))))))))))))))))
theorem Kept.setPmBank {b m} (h : Kept z s) (hm : Canonical s → Mem.wf m 0 = true) : Kept z (s.setPmBank b m) :=
  ite (h.pm0 hm) (h.pm1 hm)
theorem Kept.queueX {a v} (h : Kept z s) : Kept z (s.queueX a v) := ite h.setFlag h.setFlag.frame
theorem Kept.noteStruct {a v} (h : Kept z s) : Kept z (s.noteStruct a v) := ite h.setFlag.wr h
theorem Kept.writeFlow {w a v} (h : Kept z s) : Kept z (s.writeFlow w a v) :=
  ite h (ite (ite h.writeFields (ite h.writeFields.flowEnable h.writeFields.flowDisable)) (ite (ite h.writeFields
    h.writeFields.plenWrite) h.writeFields))
theorem pmBank_wf {b} (h : Canonical s) : (s.pmBank b).wf 0 = true := by
  unfold State.pmBank
  split
  · exact h.pm0
  · exact h.pm1
theorem Kept.idxWrite {w a v} (h : Kept z s) : Kept z (s.idxWrite w a v) :=
  ite (ite h.ignored (h.setPmBank fun hs => setWord_wf _ _ _ _ (pmBank_wf hs)).frame) (ite h.queueX (ite (ite h.writeY h.ignored)
    (ite h.noteStruct.writeFields (ite (ite h h.writeFields) (ite h.writeFlow (ite (h.sram fun hs => setWord_wf _ _ _ _ hs.sram)
      h.ignored))))))
theorem Kept.idxAdvance {a} (h : Kept z s) : Kept z (s.idxAdvance a) := ite h.setFlag h.setFlag.wr
theorem Kept.idxAccess {shadow wr} (h : Kept z s) : Kept z (s.idxAccess shadow wr).2 := by
  unfold State.idxAccess
  dsimp only
  split
  · exact h.setFlag.idxAdvance
  · refine iteSnd h.addrErr.idxAdvance ?_
    split
    · exact h.idxAdvance
    · exact h.idxWrite.idxAdvance
theorem Kept.xQueueDrain (h : Kept z s) : Kept z (xQueueDrain s) := by
  unfold Machine.xQueueDrain
  split
  · exact h
  · exact ite h.passCec.writeX.frame.setFlag h.passCec
theorem Kept.keepSys {old} (h : Kept z s) : Kept z (s.keepSys old) := ite h h.frame
theorem Kept.meetWrite {w off} (h : Kept z s) : Kept z (s.meetWrite w off) :=
  ite (ite h.ignored.keepSys h).addrErr.keepSys (ite h.ignored.keepSys h)
theorem Kept.asWriter {w off} {f : State → State} (h : Kept z s) (hf : ∀ t, Kept z t → Kept z (f t)) : Kept z (s.asWriter w off
    f) :=
  ite (hf _ h) (ite h.ignored.keepSys h.meetWrite)
theorem Kept.asFlowWriter {w} {f : State → State} (h : Kept z s) (hf : ∀ t, Kept z t → Kept z (f t)) : Kept z (s.asFlowWriter w
    f) :=
  h.asWriter (fun _ h' => ite (hf _ h') h'.addrErr)
theorem Kept.barredWrite {w off v} (h : Kept z s) : Kept z (s.barredWrite w off v) :=
  ite h (ite h.requestRow (ite h.hostAnswer h))
theorem Kept.swWrite {w off v} (h : Kept z s) : Kept z (s.swWrite w off v) := by
  unfold State.swWrite
  refine ite h.meetWrite.barredWrite ?_
  split
  · exact h.addrErr.keepSys
  · exact ite h.ignored.keepSys (ite h.idxAccess (ite h h.keepSchedule.writeFields.afterWrite.keepSys))
theorem Kept.swRead {shadow off} (h : Kept z s) : Kept z (s.swRead shadow off).2 := by
  unfold State.swRead
  split
  · exact h.addrErr.keepSys
  · exact iteSnd h.idxAccess (iteSnd h (iteSnd h (iteSnd h.frame (iteSnd h (h.foldl fun _ _ h' => h'.voteCheck)))))
theorem Kept.coincide {rep fs v taken hw} (h : Kept z s) : Kept z (s.coincide rep fs v taken hw) := by
  unfold State.coincide
  refine h.foldl fun _ _ h' => ?_
  split
  · exact h'
  · split
    · exact h'.wr
    · exact h'.wr
    · exact ite h'.wr h'.countN
    · exact h'.wr
    · exact h'.wr
    · exact ite h'.wr.setFlag.wr h'.wr
    · exact ite h'.wr.setFlag.wr h'.wr
    · exact ite h'.wr.setFlag.wr h'.wr
    · exact h'
theorem Kept.writeWith {w off v hw} (h : Kept z s) : Kept z (s.writeWith w off v hw) := h.swWrite.coincide
theorem Kept.registerWrite {w off v hw} (h : Kept z s) : Kept z (registerWrite w off v hw s) := h.writeWith
theorem Kept.idxAddrWrite {w v} (h : Kept z s) : Kept z (idxAddrWrite w v s) := h.swWrite
theorem Kept.idxDataAccess {w wr hw} (h : Kept z s) : Kept z (idxDataAccess w wr hw s) := by
  unfold Machine.idxDataAccess
  split
  · exact h.writeWith
  · exact h.swRead.frame
theorem Kept.orFlags {m} (h : Kept z s) : Kept z (s.orFlags m) :=
  ite (ite (ite h.setFlag h).setFlag (ite h.setFlag h)).setFlag (ite (ite h.setFlag h).setFlag (ite h.setFlag h))
theorem Kept.noFlags (h : Kept z s) : Kept z s.noFlags := h.setFlag.setFlag.setFlag
theorem Kept.traced {α : Type} {off st} {f : State → α × State} (h : Kept z s) (hf : ∀ t, Kept z t → Kept z (f t).2) :
    Kept z (s.traced off st f).2.2 := by
  unfold State.traced
  split
  · exact hf _ h
  · exact (hf _ h.noFlags).orFlags.keepSys
theorem Kept.serveAccess {a} (h : Kept z s) : Kept z (s.serveAccess a) := by
  unfold State.serveAccess
  split
  · exact h.swWrite.passCec
  · exact h.swRead.passCec
theorem Kept.servePath {k} (h : Kept z s) : Kept z (s.servePath k) := by
  unfold State.servePath
  split
  · exact h
  · exact h.frame.serveAccess
theorem Kept.serveRound {p} (h : Kept z s) : Kept z (s.serveRound p) := h.servePath.servePath
theorem Kept.serveOthers {p as_} (h : Kept z s) : Kept z (s.serveOthers p as_) := h.frame.serveRound
theorem Kept.serveRest {p n} (h : Kept z s) : Kept z (s.serveRest p n) := by
  induction n generalizing s with
  | zero => exact h
  | succ n ih => exact ite h (ih h.serveRound.servePath)
theorem Kept.writeWords {w off step st i bs vs} (h : Kept z s) : Kept z (s.writeWords w off step st i bs vs).2 := by
  induction vs generalizing s off st i with
  | nil => exact h
  | cons v r ih =>
    have ht : Kept z (s.traced off st fun s => ((), s.writeWith w off v (hwOf bs i))).2.2 := h.traced fun _ ht => ht.writeWith
    exact ih ht.passCec.serveOthers
theorem Kept.readWords {p shadow off step st i bs n} (h : Kept z s) : Kept z (s.readWords p shadow off step st i bs n).2.2 := by
  induction n generalizing s off st i with
  | zero => exact h
  | succ n ih => exact ih (h.traced fun _ ht => ht.swRead).passCec.serveOthers
theorem Kept.writeBurst {w off i bs vs} (h : Kept z s) : Kept z (s.writeBurst w off i bs vs).2 := h.writeWords
theorem Kept.readBurst {p shadow off i bs n} (h : Kept z s) : Kept z (s.readBurst p shadow off i bs n).2.2 := h.readWords
theorem Kept.sendMiso {b} (h : Kept z s) : Kept z (s.sendMiso b) := h.frame
theorem Kept.crcFail (h : Kept z s) : Kept z s.crcFail := h.count.setFlag.keepSys
theorem Kept.frameFail (h : Kept z s) : Kept z s.frameFail := h.count.keepSys
theorem Kept.spiWrite {mosi clocks n off seq bs} (h : Kept z s) : Kept z (s.spiWrite mosi clocks n off seq bs) :=
  ite (ite h.crcFail h).frameFail.sendMiso (ite (ite h.crcFail h).sendMiso (ite (ite h.crcFail h).addrErr.keepSys.sendMiso (ite
    h.crcFail h).writeBurst.sendMiso))
theorem Kept.spiRead {mosi clocks n off seq shadow bs} (h : Kept z s) : Kept z (s.spiRead mosi clocks n off seq shadow bs) := by
  have hu : Kept z (if clocks = 8 * (7 + 4 * n) then s else s.frameFail) := ite h h.frameFail
  unfold State.spiRead
  extract_lets _ u k
  split
  next heq =>
    refine ite (Kept.sendMiso (Kept.thirdOf ?_ heq)) (Kept.sendMiso (Kept.thirdOf ?_ heq))
    all_goals
      refine iteSndSnd hu.crcFail (iteSndSnd hu (iteSndSnd hu.addrErr.keepSys ?_))
      split
      next hread => exact hu.readBurst.thirdOf hread
theorem Kept.spiFrame {mosi clocks bs} (h : Kept z s) : Kept z (s.spiFrame mosi clocks bs) :=
  ite h (ite h.frameFail.sendMiso (ite h.spiWrite h.spiRead).serveRest)
theorem Kept.hostSpiWrite {mosi clocks bs} (h : Kept z s) : Kept z (hostSpiWrite mosi clocks bs s) := h.spiFrame
theorem Kept.hostSpiRead {mosi clocks bs upsets} (h : Kept z s) : Kept z (hostSpiRead mosi clocks bs upsets s) :=
  (h.foldl fun _ _ h' => h'.upset).spiFrame
theorem Kept.queueWords {a vs} (h : Kept z s) : Kept z (s.queueWords a vs) := by
  induction vs generalizing s a with
  | nil => exact h
  | cons v r ih => exact ih h.queueX.queueX
theorem Kept.xDelivery {f} (h : Kept z s) : Kept z (xDelivery f s) := ite (ite h.queueWords.removeHead h) h
theorem Kept.claim {addr} (h : Kept z s) : Kept z (s.claim addr) := h.wr.wr.frame
theorem Kept.putFlow {f b} (h : Kept z s) : Kept z (s.putFlow f b) := h.foldl fun _ _ h' => h'.writeFlow
theorem Kept.showLog (h : Kept z s) : Kept z s.showLog := by
  unfold State.showLog
  dsimp only
  split
  · exact h.wr.wr.wr
  · exact h.wr.wr.wr
theorem Kept.loseRegs {ds} (h : Kept z s) : Kept z (s.loseRegs ds) := h.frame
theorem Kept.enterBootFail {rom} (h : Kept z s) : Kept z (s.enterBootFail rom) :=
  ite (ite h.endTransition.setHalf.wr.loseRegs.setDomains.claim
    h.endTransition.setHalf.wr.loseRegs.setDomains).setFlag.frame.fcRefresh (ite
    h.endTransition.setHalf.wr.loseRegs.setDomains.claim h.endTransition.setHalf.wr.loseRegs.setDomains).setFlag.frame
theorem Kept.logBoot (h : Kept z s) : Kept z s.logBoot := h.logEvent
theorem Kept.atMs {ms} (h : Kept z s) : Kept z (s.atMs ms) := h.frame
theorem Kept.sluiceSelfTest {e} (h : Kept z s) : Kept z (s.sluiceSelfTest e) :=
  h.startSluiceTest.frame.sluiceTestEnd.setFlag.setFlag
theorem Kept.selfTests {e ms} (h : Kept z s) : Kept z (s.selfTests e ms) := by
  unfold State.selfTests
  split
  · exact h.setFlag.setFlag.atMs.logBoot.enterBootFail
  · exact h.wr.sluiceSelfTest.wr.setFlag.wr.atMs.logBoot.enterStandby
theorem Kept.stepEnd {normal worst} (h : Kept z s) : Kept z (s.stepEnd normal worst) := h.atMs
theorem Kept.applyFails (h : Kept z s) : Kept z s.applyFails := h.setFlag.stepEnd.logBoot.enterBootFail
theorem Kept.bootRom {e} (h : Kept z s) : Kept z (s.bootRom e) := by
  unfold State.bootRom
  exact h.applyPart.showIdentity.wr.frame.showLog.atMs.wr
theorem Kept.bootFirmware (h : Kept z s) : Kept z s.bootFirmware := by
  unfold State.bootFirmware
  split
  · exact h.wr.atMs.logBoot.enterBootFail
  · exact (h.wr.mpSram fun hs => slotCells_wf _ hs.flash).frame.stepEnd.applyDomains.wr
theorem Kept.bootRead (h : Kept z s) : Kept z s.bootRead := by
  unfold State.bootRead
  exact h.setFlag.wr.stepEnd.wr
theorem Kept.bootCopies (h : Kept z s) : Kept z s.bootCopies :=
  ite h.wr.wr.wr.stepEnd.logBoot.enterBootFail h.wr.wr.wr.stepEnd.setFlag.wr.frame.wr
theorem Kept.exitWake (h : Kept z s) : Kept z s.exitWake := ite h.sendWake h
theorem KeptIfSome.stageRecords {member n b} (h : Kept z s) : KeptIfSome z (stageRecords member n b s) := by
  induction n generalizing s b with
  | zero => exact .some h
  | succ n ih => exact .ite .none (ih h.swWrite)
theorem KeptIfSome.stageChan {b} (h : Kept z s) : KeptIfSome z (s.stageChan b) := by
  unfold State.stageChan
  split
  · exact .some h.frame
  · exact .ite .none (.some h.frame)
theorem KeptIfSome.stageRegs {b} (h : Kept z s) : KeptIfSome z (s.stageRegs b) := .ite .none (.stageRecords h)
theorem KeptIfSome.stageProg {b} (h : Kept z s) : KeptIfSome z (s.stageProg b) :=
  .ite .none (.some (h.pm0 fun hs => setBytes_wf _ _ _ _ hs.pm0))
theorem KeptIfSome.stageWords {limit n b} {put : Nat → Word → State → State} (hput : ∀ a v t, Kept z t → Kept z (put a v t))
    (h : Kept z s) : KeptIfSome z (stageWords limit put n b s) := by
  induction n generalizing s b with
  | zero => exact .ite (.some h) .none
  | succ n ih => exact .ite (.some h) (.ite .none (ih (h.foldl fun _ _ ht => hput _ _ _ ht)))
theorem KeptIfSome.stageX {b} (h : Kept z s) : KeptIfSome z (s.stageX b) := .stageWords (fun _ _ _ ht => ht.setXPair) h
theorem KeptIfSome.stageY {b} (h : Kept z s) : KeptIfSome z (s.stageY b) :=
  .stageWords (fun _ _ _ ht => ht.ymem0 fun hs => setWord_wf _ _ _ _ hs.ymem0) h
theorem KeptIfSome.stageContexts {k b seen} (h : Kept z s) : KeptIfSome z (stageContexts k b seen s) := by
  induction k generalizing s b seen with
  | zero => exact .some h
  | succ k ih => exact .ite .none (ih h.writeFields.writeFields.writeShadow)
theorem KeptIfSome.stageCtx {b} (h : Kept z s) : KeptIfSome z (s.stageCtx b) := .ite .none (.stageContexts h)
theorem KeptIfSome.stageRole {b} (h : Kept z s) : KeptIfSome z (s.stageRole b) := by
  unfold State.stageRole
  split
  · exact .some h.frame
  · exact .ite .none (.some (h.frame.claim.foldl fun _ _ ht => ht.wr))
theorem stageFlows_keeps {k b on p} (h : Kept z s) (hp : stageFlows k b on s = some p) : Kept z p.2 := by
  induction k generalizing s b on with
  | zero => cases hp; exact h
  | succ k ih =>
    unfold stageFlows at hp
    dsimp only at hp
    split at hp
    · cases hp
    · exact ih h.putFlow hp
theorem KeptIfSome.stageWindows {n b} (h : Kept z s) : KeptIfSome z (stageWindows n b s) := by
  induction n generalizing s b with
  | zero => exact .some h
  | succ n ih => exact .ite .none (ih h.swWrite.swWrite)
theorem KeptIfSome.enableFlows {on n} (h : Kept z s) : KeptIfSome z (enableFlows on n s) := by
  induction n generalizing s with
  | zero => exact .some h
  | succ n ih => exact .ite (.ite (ih h.flowEnable) .none) (ih h)
theorem KeptIfSome.stageSched {b} (h : Kept z s) : KeptIfSome z (s.stageSched b) := by
  unfold State.stageSched
  refine .ite .none (.ite (.some h) ?_)
  split
  · exact .none
  next hflows =>
    split
    · exact .none
    next hwindows => exact .enableFlows (KeptIfSome.stageWindows (stageFlows_keeps h hflows) _ hwindows)
theorem Kept.takePassword {gen salt hash} (h : Kept z s) : Kept z (s.takePassword gen salt hash) := by
  unfold State.takePassword
  exact (ite h.frame h).wr
theorem KeptIfSome.stageSafety {b} (h : Kept z s) : KeptIfSome z (s.stageSafety b) :=
  .ite .none ((KeptIfSome.stageRecords h.takePassword).map fun _ ht => ht.renewSetCrc)
theorem KeptIfSome.stageIf {b} {f : List Byte → State → Option State} (hf : ∀ b, KeptIfSome z (f b s)) (h : Kept z s) :
    KeptIfSome z (stageIf b f s) := by
  cases b with
  | none => exact .some h
  | some b => exact hf b
theorem KeptIfSome.stageImage {r} (h : Kept z s) : KeptIfSome z (s.stageImage r) := by
  refine (((((((((KeptIfSome.stageChan h).map ?_).bind ?_).bind ?_).bind ?_).bind ?_).bind ?_).bind ?_).bind ?_).bind ?_
  · exact fun _ ht => ht.applyDomains
  · exact fun _ ht => .stageIf (fun _ => .stageRegs ht) ht
  · exact fun _ ht => .stageIf (fun _ => .stageProg ht) ht
  · exact fun _ ht => .stageIf (fun _ => .stageX ht) ht
  · exact fun _ ht => .stageIf (fun _ => .stageY ht) ht
  · exact fun _ ht => .stageIf (fun _ => .stageCtx ht) ht
  · exact fun _ ht => .stageRole ht
  · exact fun _ ht => .stageIf (fun _ => .stageSched ht) ht
  · exact fun _ ht => .stageIf (fun _ => .stageSafety ht) ht
theorem Kept.bootApply (h : Kept z s) : Kept z s.bootApply := by
  unfold State.bootApply
  split
  · exact h.applyFails
  next t hstaged =>
    have ht : Kept z t := KeptIfSome.stageImage h _ hstaged
    have hcommit : Kept z (Machine.commitApply (Machine.commitSnapshot (Machine.commit 0x80 0xFF t))) :=
      ht.commit.commitSnapshot.commitApply
    exact ite hcommit.applyFails hcommit.exitWake.stepEnd.setHalf.rakeStart.wr
theorem Kept.bootStep {e} (h : Kept z s) : Kept z (s.bootStep e) := by
  unfold State.bootStep
  split
  · exact h.bootRom
  · exact h.bootFirmware
  · exact h.bootRead
  · exact h.bootCopies
  · exact h.bootApply
  · exact h.selfTests
  · exact h
theorem Kept.runBoot {e n} (h : Kept z s) : Kept z (s.runBoot e n) := by
  induction n generalizing s with
  | zero => exact h
  | succ n ih => exact ite (ih h.bootStep) h
theorem Kept.porRelease {e} (h : Kept z s) : Kept z (porRelease e s) := (ite h.frame.beginBoot h).runBoot
theorem Kept.bootTmo (h : Kept z s) : Kept z (bootTmo s) :=
  ite (ite (ite h.atMs.logBoot h.atMs).keepOccur.markEvent.logOccur (ite h.atMs.logBoot h.atMs)).enterBootFail h
theorem Kept.dropUnknown {q} (h : Kept z s) : Kept z (s.dropUnknown q) := by
  induction q generalizing s with
  | nil => exact h.frame
  | cons m r ih => exact ite h.frame (ih h.answer)
theorem Kept.serve {svc} {act : Reply → List Byte → State → State} (h : Kept z s) (hact : ∀ a0 a1 t, Kept z t → Kept z (act a0 a1
    t)) : Kept z (s.serve svc act) := by
  unfold State.serve
  dsimp only
  split
  · exact h.dropUnknown
  · exact ite h.dropUnknown (ite h.dropUnknown.frame.answer (ite h.dropUnknown.frame.answer (ite h.dropUnknown.frame.answer (hact
      _ _ _ h.dropUnknown.frame))))
theorem Kept.ok {r svc data} (h : Kept z s) : Kept z (s.ok r svc data) := h.answer
theorem Kept.ident (h : Kept z s) : Kept z (ident s) := h.serve (fun _ _ _ h' => h'.ok)
theorem Kept.status (h : Kept z s) : Kept z (status s) := h.serve (fun _ _ _ h' => h'.ok)
theorem Kept.sensors (h : Kept z s) : Kept z (sensors s) := h.serve (fun _ _ _ h' => h'.ok)
theorem Kept.loseEntry (h : Kept z s) : Kept z s.loseEntry := h.count.frame
theorem Kept.logWrite {held} (h : Kept z s) : Kept z (logWrite held s) := by
  have hline {a b} : Kept z { s with mram := s.mram.setBytes 0 a b } := h.mram fun hs => setBytes_wf _ _ _ _ hs.mram
  unfold Machine.logWrite
  split
  · exact h
  · exact ite h (ite h.loseEntry (ite hline.frame.wr.wr.frame (ite hline.frame.report.loseEntry hline.frame.report.frame.wr)))
theorem Kept.logRead (h : Kept z s) : Kept z (logRead s) := h.serve (fun _ _ _ h' => h'.ok)
theorem Kept.logMark (h : Kept z s) : Kept z (logMark s) := h.serve (fun _ _ _ h' => h'.logEvent.ok)
theorem Kept.logFlash {svc status region bytes writer} (h : Kept z s) : Kept z (s.logFlash svc status region bytes writer) :=
  h.logEvent
theorem Kept.startLong {r l} (h : Kept z s) : Kept z (s.startLong r l) := h.wr.wr.wr.setFlag.wr.logFlash.frame.answer
theorem Kept.flashErase (h : Kept z s) : Kept z (flashErase s) :=
  h.serve fun _ _ _ ht => ite ht.answer (ite ht.answer (ht.flash fun hs => clear_wf _ _ _ _ hs.flash).startLong)
theorem Kept.flashWrite {held} (h : Kept z s) : Kept z (flashWrite held s) :=
  h.serve fun _ _ _ ht => ite ht.answer (ht.flash fun hs => setBytes_wf _ _ _ _ hs.flash).logFlash.answer
theorem Kept.flashRead (h : Kept z s) : Kept z (flashRead s) := h.serve (fun _ _ _ h' => ite h'.answer h'.ok)
theorem Kept.verify (h : Kept z s) : Kept z (verify s) := h.serve (fun _ _ _ h' => ite h'.answer (ite h'.answer h'.startLong))
theorem Kept.imgCommit (h : Kept z s) : Kept z (imgCommit s) :=
  h.serve fun _ _ _ ht => ite ht.answer (ite (ht.startLong.wr.flash fun hs => clear_wf _ _ _ _ hs.flash) ht.startLong.wr)
theorem Kept.imgRepair (h : Kept z s) : Kept z (imgRepair s) :=
  h.serve (fun _ _ _ h' => ite h'.answer (ite h'.answer (ite h'.startLong h'.answer)))
theorem Kept.copyRegion {dst} (h : Kept z s) : Kept z (s.copyRegion dst) :=
  h.flash fun hs => replaced_region_wf hs.flash (regionCells_wf _ hs.flash) fun _ hc => regionCells_lt hc
theorem Kept.endLong {l status bytes} (h : Kept z s) : Kept z (s.endLong l status bytes) := h.wr.setFlag.wr.frame.logFlash
theorem Kept.longServiceDone {fails} (h : Kept z s) : Kept z (longServiceDone fails s) := by
  unfold Machine.longServiceDone
  split
  · exact h
  · exact ite h.endLong (ite h.wr.endLong (ite h.draw.endLong (ite h h.copyRegion).endLong))
theorem Kept.halfReset (h : Kept z s) : Kept z (halfReset s) := h.serve (fun _ _ _ h' => h'.ok.halfResetDue)
theorem Kept.updateEnter (h : Kept z s) : Kept z (updateEnter s) := h.serve (fun _ _ _ h' => h'.frame.ok)
theorem Kept.updateEnd (h : Kept z s) : Kept z (updateEnd s) := h.serve (fun _ _ _ h' => h'.ok.frame.halfResetDue)
theorem Kept.handoverService (h : Kept z s) : Kept z (Machine.handover s) :=
  h.serve fun _ _ _ h' => ite h'.abortHo.ok (ite h'.answer (ite h'.answer h'.wr.wr.frame.sendHo.enterHo.ok))
/-- The hash of the image key is programmed only where it is blank (R484). -/
theorem Kept.programKey {k} (h : Kept z s) (hblank : blankHash s.fuse.keyHash = true) :
    Kept z { s with fuse := { s.fuse with keyHash := k } } :=
  { h with
    fuse := h.fuse
    keyHash := fun hz => absurd hblank (by rw [h.keyHash hz, hz]; decide)
    canonical := fun hz => { h.canonical hz with } }
theorem Kept.provisionKey {held} (h : Kept z s) : Kept z (provisionKey held s) := by
  refine h.serve fun r a t ht => ?_
  dsimp only
  split
  · exact ht.answer
  next hused => exact (ht.programKey (by simpa using hused)).answer
theorem Kept.judgeTemp {temps limit src base} (h : Kept z s) : Kept z (s.judgeTemp temps limit src base) :=
  ite ((h.frame.foldl fun _ _ h' => ite h'.raise h').foldl fun _ _ h' => h'.lower) (h.frame.foldl fun _ _ h' => ite h'.raise h')
theorem Kept.sensorPoll {temps} (h : Kept z s) : Kept z (sensorPoll temps s) :=
  ite h (h.foldl fun _ _ h' => h'.wrInt.wrInt).judgeTemp.judgeTemp
theorem Kept.supplyPoll {vals} (h : Kept z s) : Kept z (supplyPoll vals s) := by
  unfold Machine.supplyPoll
  dsimp only
  refine ite h ?_
  refine h.foldl fun _ _ h' => ?_
  split
  · exact h'.wr
  · exact ite (ite h'.wr.setFlag.frame.raise h'.wr.setFlag.frame).lower (ite h'.wr.setFlag.frame.raise h'.wr.setFlag.frame)
theorem Kept.mpLockstep (h : Kept z s) : Kept z (mpLockstep s) := h.report.setFlag.restartAnswers
theorem Kept.runRecords {w bs fuel budget b} (h : Kept z s) : Kept z (s.runRecords w bs fuel budget b).2 := by
  induction fuel generalizing s budget b with
  | zero => exact h
  | succ fuel ih =>
    refine iteSnd h (iteSnd h (ih (iteSnd (h.traced fun _ ht => ite ht.ignored.addrErr ht.addrErr).keepSys (iteSnd ?_ ?_))))
    · split
      next hwrite => exact h.writeBurst.sndOf hwrite
    · split
      next hread => exact h.readBurst.thirdOf hread
theorem Kept.registerRequest {r payload bs} (h : Kept z s) : Kept z (s.registerRequest r payload bs) := by
  have ha := h.admitRequest (r := r)
  unfold State.registerRequest
  split
  next heq => exact ha.sndOf heq
  next t heq =>
    have hrun : Kept z (t.runRecords r.writer bs 64 64 payload).2 := (ha.sndOf heq).runRecords
    exact hrun.serveRest.respond
theorem Kept.mailboxRequest {r payload} (h : Kept z s) : Kept z (s.mailboxRequest r payload) := by
  have ha := h.admitRequest (r := r)
  unfold State.mailboxRequest
  split
  next heq => exact ha.sndOf heq
  next heq => exact (ha.sndOf heq).mboxPost
theorem Kept.regReq {q idle f bs} (h : Kept z s) : Kept z (regReq q idle f bs s) := by
  have ha := h.arrive (q := q) (idle := idle) (f := f)
  unfold Machine.regReq
  split
  next heq => exact ite (ha.sndOf heq).registerRequest (ha.sndOf heq)
  next heq => exact ha.sndOf heq
theorem Kept.mboxReq {q idle f} (h : Kept z s) : Kept z (mboxReq q idle f s) := by
  have ha := h.arrive (q := q) (idle := idle) (f := f)
  unfold Machine.mboxReq
  split
  next heq => exact ite (ha.sndOf heq).mailboxRequest (ha.sndOf heq)
  next heq => exact ha.sndOf heq
theorem Kept.canRecord {c flow seq record} (h : Kept z s) : Kept z (s.canRecord c flow seq record) :=
  ite h.wr.receiveRecord h.count
theorem Kept.canFrameRx {c evs f bs} (h : Kept z s) : Kept z (canFrameRx c evs f bs s) := by
  unfold Machine.canFrameRx
  dsimp only
  refine ite (h.foldl fun _ _ h' => h'.canEvent) ?_
  refine ite (h.foldl fun _ _ h' => h'.canEvent).canEvent ?_
  split
  · exact (h.foldl fun _ _ h' => h'.canEvent).canHeard
  · refine ite (h.foldl fun _ _ h' => h'.canEvent).canHeard.count ?_
    split
    · exact (h.foldl fun _ _ h' => h'.canEvent).canHeard.registerRequest
    · exact (h.foldl fun _ _ h' => h'.canEvent).canHeard.mailboxRequest
    · exact (h.foldl fun _ _ h' => h'.canEvent).canHeard.canRecord
    · exact (h.foldl fun _ _ h' => h'.canEvent).canHeard.canRecord
    · exact (h.foldl fun _ _ h' => h'.canEvent).canHeard.canRecord
    · exact (h.foldl fun _ _ h' => h'.canEvent).canHeard
theorem Kept.deliverCrossed {f bs} (h : Kept z s) : Kept z (s.deliverCrossed f bs) := by
  have ha := h.takeNew (f := f)
  unfold State.deliverCrossed
  split
  next heq => exact ha.sndOf heq
  next heq =>
    rw [heq] at ha
    split
    · exact ha.deliverData
    · exact ite ha.registerRequest ha
    · exact ha.deliverRecord
    · exact ha.deliverRecord
    · exact ite ha.mailboxRequest ha
    · exact ha
theorem Kept.crossIn {f bs} (h : Kept z s) : Kept z (s.crossIn f bs) := by
  unfold State.crossIn
  refine ite ?_ ?_
  · refine Kept.deliverCrossed ?_
    refine ite ?_ h
    refine ite h.count ?_
    split
    · exact h.routeMiss
    · exact h.toTransit
  · refine ite ?_ h
    refine ite h.count ?_
    split
    · exact h.routeMiss
    · exact h.toTransit
theorem Kept.giveCredit {cls n} (h : Kept z s) : Kept z (s.giveCredit cls n) := h.launch
theorem Kept.moveUnit {u bs} (h : Kept z s) : Kept z (s.moveUnit u bs) :=
  ite h.wr.giveCredit.frame.showTransit.crossIn h.wr.giveCredit.frame.showTransit
theorem Kept.moveUnits {bs us} (h : Kept z s) : Kept z (s.moveUnits bs us) := by
  induction us generalizing s with
  | nil => exact h.frame
  | cons u r ih => exact ite (ih h.moveUnit) h.frame
theorem Kept.drainUnits {bs} (h : Kept z s) : Kept z (s.drainUnits bs) := ite h h.moveUnits
theorem Kept.discardUnit {cls} (h : Kept z s) : Kept z (s.discardUnit cls) := h.setFlag.count.giveCredit
theorem Kept.unitClass {slots} (h : Kept z s) : Kept z (s.unitClass slots).2 := by
  unfold State.unitClass
  split
  · exact h
  · exact h.draw
theorem Kept.takeUnit {b bs} (h : Kept z s) : Kept z (s.takeUnit b bs) :=
  ite h.crcError.discardUnit (ite h.produce.giveCredit h.wr.moveUnits)
theorem Kept.bulkUnitRx {slots bs} (h : Kept z s) : Kept z (bulkUnitRx slots bs s) := by
  unfold Machine.bulkUnitRx
  refine ite h.hear ?_
  split
  · exact h.hear.takeUnit
  · exact h.hear.unitClass.discardUnit
theorem Kept.withFetchWord {nbits w} (h : Kept z s) : Kept z (s.withFetchWord nbits w) := by
  unfold State.withFetchWord
  split
  · exact h.frame
  · exact h

/-! ### What a step leaves -/

/-- Every command completes, with a state that keeps what is to be kept. -/
theorem exec_completes_kept (c : Instr) (s : State) : ∃ t, exec c s = completes s t ∧ Kept s t := by
  cases c with
  | nop | rep | ls | le | ler | rot | pp | ctxrun | compete | halt | mpy | mpa | mac | msu | mva | lda | clra | adda | suba
  | nega | muli | add | sub | min | max | sel | cmp | div | asr | asl | and | or | xor | addi | mov | neg | abs | sin | cos
  | rsqrt | not | ldxy | ldx | ldy | stx | sty | ldi | ldip | ldim | mvts | mvfs =>
    exact ⟨_, rfl, Kept.refl.issue⟩
  | writebackCompare => exact ⟨_, rfl, Kept.refl.writebackCompare⟩
  | katVerdict => exact ⟨_, rfl, Kept.refl.katVerdict⟩
  | tickBoundary => exact ⟨_, rfl, Kept.refl.tickBoundary⟩
  | sample => exact ⟨_, rfl, Kept.refl.sample⟩
  | conversionComplete => exact ⟨_, rfl, Kept.refl.conversionComplete⟩
  | preemptionRequest => exact ⟨_, rfl, Kept.refl.preemptionRequest⟩
  | bProgramStop => exact ⟨_, rfl, Kept.refl.bProgramStop⟩
  | tProgramStart => exact ⟨_, rfl, Kept.refl.tProgramStart⟩
  | outputCommit => exact ⟨_, rfl, Kept.refl.outputCommit⟩
  | bProgramResume => exact ⟨_, rfl, Kept.refl.bProgramResume⟩
  | angleResolve => exact ⟨_, rfl, Kept.refl.angleResolve⟩
  | lockStep => exact ⟨_, rfl, Kept.refl.lockStep⟩
  | phaseMeasurement => exact ⟨_, rfl, Kept.refl.phaseMeasurement⟩
  | holdoverEntry => exact ⟨_, rfl, Kept.refl.holdoverEntry⟩
  | holdoverTimeout => exact ⟨_, rfl, Kept.refl.holdoverTimeout⟩
  | hostSpiWrite => exact ⟨_, rfl, Kept.refl.hostSpiWrite⟩
  | hostSpiRead => exact ⟨_, rfl, Kept.refl.hostSpiRead⟩
  | registerWrite => exact ⟨_, rfl, Kept.refl.registerWrite⟩
  | idxAddrWrite => exact ⟨_, rfl, Kept.refl.idxAddrWrite⟩
  | idxDataAccess => exact ⟨_, rfl, Kept.refl.idxDataAccess⟩
  | xQueueDrain => exact ⟨_, rfl, Kept.refl.xQueueDrain⟩
  | commit => exact ⟨_, rfl, Kept.refl.asWriter fun _ ht => ht.commit⟩
  | commitSnapshot => exact ⟨_, rfl, Kept.refl.commitSnapshot⟩
  | commitApply => exact ⟨_, rfl, Kept.refl.commitApply⟩
  | discard => exact ⟨_, rfl, Kept.refl.asWriter fun _ ht => ht.discardCommand⟩
  | tmrRewrite => exact ⟨_, rfl, Kept.refl.tmrRewrite⟩
  | porRelease => exact ⟨_, rfl, Kept.refl.porRelease⟩
  | bootTmo => exact ⟨_, rfl, Kept.refl.bootTmo⟩
  | reqArmed => exact ⟨_, rfl, Kept.refl.swWrite⟩
  | reqStandby => exact ⟨_, rfl, Kept.refl.swWrite⟩
  | reqSafe => exact ⟨_, rfl, Kept.refl.swWrite⟩
  | reqWatch => exact ⟨_, rfl, Kept.refl.swWrite⟩
  | pendingRequest => exact ⟨_, rfl, Kept.refl.pendingRequest⟩
  | seriesSwitchOpenDelay => exact ⟨_, rfl, Kept.refl.seriesSwitchOpenDelay⟩
  | afeCtrlStop => exact ⟨_, rfl, Kept.refl.asWriter fun _ ht => ht.afeCtrlStop⟩
  | afeCtrlRun => exact ⟨_, rfl, Kept.refl.asWriter fun _ ht => ht.afeCtrlRun⟩
  | afeOc => exact ⟨_, rfl, Kept.refl.afeOc⟩
  | calibrationWindow => exact ⟨_, rfl, Kept.refl.calibrationWindow⟩
  | hostcalTimeout => exact ⟨_, rfl, Kept.refl.hostcalTimeout⟩
  | encoderRequest => exact ⟨_, rfl, Kept.refl.encoderRequest⟩
  | encoderWordRelease => exact ⟨_, rfl, Kept.refl.encoderWordRelease⟩
  | hallCodeTaken => exact ⟨_, rfl, Kept.refl.hallCodeTaken⟩
  | positionVote => exact ⟨_, rfl, Kept.refl.positionVote⟩
  | sourceDrop => exact ⟨_, rfl, Kept.refl.sourceDrop⟩
  | posDis => exact ⟨_, rfl, Kept.refl.posDis⟩
  | posOne => exact ⟨_, rfl, Kept.refl.posOne⟩
  | posNone => exact ⟨_, rfl, Kept.refl.posNone⟩
  | readmit => exact ⟨_, rfl, Kept.refl.asWriter fun _ ht => ht.readmit⟩
  | sourceReadmitted => exact ⟨_, rfl, Kept.refl.sourceReadmitted⟩
  | load => exact ⟨_, rfl, Kept.refl.asWriter fun _ ht => ht.loadPosition⟩
  | catchDecision => exact ⟨_, rfl, Kept.refl.catchDecision⟩
  | brakeSegmentEnd => exact ⟨_, rfl, Kept.refl.brakeSegmentEnd⟩
  | refuseShortEnd => exact ⟨_, rfl, Kept.refl.refuseShortEnd⟩
  | alignEnd => exact ⟨_, rfl, Kept.refl.alignEnd⟩
  | pauseEnd => exact ⟨_, rfl, Kept.refl.pauseEnd⟩
  | startTimeout => exact ⟨_, rfl, Kept.refl.startTimeout⟩
  | startHandover => exact ⟨_, rfl, Kept.refl.startHandover⟩
  | hstepWrite => exact ⟨_, rfl, Kept.refl.asWriter fun _ ht => ht.hstepWrite⟩
  | hstepStepEnd => exact ⟨_, rfl, Kept.refl.hstepStepEnd⟩
  | fieldLock => exact ⟨_, rfl, Kept.refl.fieldLock⟩
  | fieldLockHold => exact ⟨_, rfl, Kept.refl.fieldLockHold⟩
  | pwmEdge => exact ⟨_, rfl, Kept.refl.pwmEdge⟩
  | gdHs => exact ⟨_, rfl, Kept.refl.gdHs⟩
  | gdXcmd => exact ⟨_, rfl, Kept.refl.gdXcmd⟩
  | gdVds => exact ⟨_, rfl, Kept.refl.gdVds⟩
  | gdBsuv => exact ⟨_, rfl, Kept.refl.gdBsuv⟩
  | bsuvStage => exact ⟨_, rfl, Kept.refl.bsuvStage⟩
  | gdCp => exact ⟨_, rfl, Kept.refl.gdCp⟩
  | gdCut => exact ⟨_, rfl, Kept.refl.gdCut⟩
  | cutoffForcedOpen => exact ⟨_, rfl, Kept.refl.cutoffForcedOpen⟩
  | chopperOn => exact ⟨_, rfl, Kept.refl.chopperOn⟩
  | chopperOff => exact ⟨_, rfl, Kept.refl.chopperOff⟩
  | gdChot => exact ⟨_, rfl, Kept.refl.gdChot⟩
  | chopperRestEnd => exact ⟨_, rfl, Kept.refl.chopperRestEnd⟩
  | gdCho => exact ⟨_, rfl, Kept.refl.gdCho⟩
  | gdChs => exact ⟨_, rfl, Kept.refl.gdChs⟩
  | gdOvs => exact ⟨_, rfl, Kept.refl.gdOvs⟩
  | gdOvsRelease => exact ⟨_, rfl, Kept.refl.gdOvsRelease⟩
  | gdOvabs => exact ⟨_, rfl, Kept.refl.gdOvabs⟩
  | gdOvabsRelease => exact ⟨_, rfl, Kept.refl.gdOvabsRelease⟩
  | gdSlvds => exact ⟨_, rfl, Kept.refl.gdSlvds⟩
  | sluiceTestEnd => exact ⟨_, rfl, Kept.refl.sluiceTestEnd⟩
  | reactionRelease => exact ⟨_, rfl, Kept.refl.releaseBoundary⟩
  | fcSelf => exact ⟨_, rfl, Kept.refl.fcSelf⟩
  | hostAnswer => exact ⟨_, rfl, Kept.refl.swWrite⟩
  | graceExpiry => exact ⟨_, rfl, Kept.refl.graceExpiry⟩
  | firstClr => exact ⟨_, rfl, Kept.refl.asWriter fun _ ht => ht.firstClr⟩
  | restartEdge => exact ⟨_, rfl, Kept.refl.restartEdge⟩
  | aliveToggle => exact ⟨_, rfl, Kept.refl.aliveToggle⟩
  | clkMon => exact ⟨_, rfl, Kept.refl.clkMon⟩
  | mpWdog => exact ⟨_, rfl, Kept.refl.mpWdog⟩
  | mpLockstep => exact ⟨_, rfl, Kept.refl.mpLockstep⟩
  | sensorPoll => exact ⟨_, rfl, Kept.refl.sensorPoll⟩
  | supplyPoll => exact ⟨_, rfl, Kept.refl.supplyPoll⟩
  | peerAliveEdge => exact ⟨_, rfl, Kept.refl.peerAliveEdge⟩
  | peerAliveTimeout => exact ⟨_, rfl, Kept.refl.peerAliveTimeout⟩
  | statusFlowSilent => exact ⟨_, rfl, Kept.refl.statusFlowSilent⟩
  | limpRestart => exact ⟨_, rfl, Kept.refl.asWriter fun _ ht => ht.limpRestart⟩
  | limpExpiry => exact ⟨_, rfl, Kept.refl.limpExpiry⟩
  | limpRampEnd => exact ⟨_, rfl, Kept.refl.limpRampEnd⟩
  | testPulse => exact ⟨_, rfl, Kept.refl.testPulse⟩
  | testPulseSample => exact ⟨_, rfl, Kept.refl.testPulseSample⟩
  | ssupRange => exact ⟨_, rfl, Kept.refl.ssupRange⟩
  | sluiceTestRun => exact ⟨_, rfl, Kept.refl.asWriter fun _ ht => ht.sluiceTestRun⟩
  | keyWrite => exact ⟨_, rfl, Kept.refl.asWriter fun _ ht => ht.keyWrite⟩
  | keyTimeout => exact ⟨_, rfl, Kept.refl.keyTimeout⟩
  | keyCheck => exact ⟨_, rfl, Kept.refl.keyCheck⟩
  | unlockLock => exact ⟨_, rfl, Kept.refl.asWriter fun _ ht => ht.unlockLock⟩
  | unlockTimeout => exact ⟨_, rfl, Kept.refl.unlockTimeout⟩
  | pwSet => exact ⟨_, rfl, Kept.refl.asWriter fun _ ht => ht.pwSet⟩
  | brineExchange => exact ⟨_, rfl, Kept.refl.brineExchange⟩
  | perTickFrameRx => exact ⟨_, rfl, Kept.refl.perTickFrameRx⟩
  | brineRxXwrite => exact ⟨_, rfl, Kept.refl.brineRxXwrite⟩
  | brineFrameMissing => exact ⟨_, rfl, Kept.refl.brineFrameMissing⟩
  | brineEnable => exact ⟨_, rfl, Kept.refl.asWriter fun _ ht => ht.brineEnable⟩
  | beacon => exact ⟨_, rfl, Kept.refl.beacon⟩
  | trainingSetRx => exact ⟨_, rfl, Kept.refl.trainingSetRx⟩
  | trainDone => exact ⟨_, rfl, Kept.refl.trainDone⟩
  | trainTimeout => exact ⟨_, rfl, Kept.refl.trainTimeout⟩
  | retrain => exact ⟨_, rfl, Kept.refl.asWriter fun _ ht => ht.retrain⟩
  | commandFrameTx => exact ⟨_, rfl, Kept.refl.commandFrameTx⟩
  | commandFrameRx => exact ⟨_, rfl, Kept.refl.commandFrameRx⟩
  | commandAck => exact ⟨_, rfl, Kept.refl.commandAck⟩
  | commandRetryTimeout => exact ⟨_, rfl, Kept.refl.commandRetryTimeout⟩
  | bulkUnitTx => exact ⟨_, rfl, Kept.refl.bulkUnitTx.drainUnits⟩
  | bulkUnitRx => exact ⟨_, rfl, Kept.refl.bulkUnitRx⟩
  | creditSet => exact ⟨_, rfl, Kept.refl.creditSet⟩
  | wakeTx => exact ⟨_, rfl, Kept.refl.asWriter fun _ ht => ht.wakeTx⟩
  | frameForward => exact ⟨_, rfl, Kept.refl.frameForward⟩
  | data => exact ⟨_, rfl, Kept.refl.dataFrame⟩
  | regReq => exact ⟨_, rfl, Kept.refl.regReq⟩
  | regRsp => exact ⟨_, rfl, Kept.refl.regRsp⟩
  | mboxReq => exact ⟨_, rfl, Kept.refl.mboxReq⟩
  | mboxRsp => exact ⟨_, rfl, Kept.refl.mboxRsp⟩
  | announce => exact ⟨_, rfl, Kept.refl.announce⟩
  | ringEvt => exact ⟨_, rfl, Kept.refl.ringEvt⟩
  | neighbor => exact ⟨_, rfl, Kept.refl.neighbor⟩
  | gptpFrame => exact ⟨_, rfl, Kept.refl.gptpFrame⟩
  | otherEthertype => exact ⟨_, rfl, Kept.refl.otherEthertype⟩
  | neighborLoss => exact ⟨_, rfl, Kept.refl.neighborLoss⟩
  | addressHold => exact ⟨_, rfl, Kept.refl.addressHold⟩
  | routeAgeing => exact ⟨_, rfl, Kept.refl.routeAgeing⟩
  | fabricCycleStart => exact ⟨_, rfl, Kept.refl.fabricCycleStart⟩
  | scheduledWindow => exact ⟨_, rfl, Kept.refl.scheduledWindow⟩
  | bulkPhaseStart => exact ⟨_, rfl, Kept.refl.bulkPhaseStart⟩
  | bulkFrameSend => exact ⟨_, rfl, Kept.refl.bulkFrameSend.drainUnits⟩
  | e2eCheck => exact ⟨_, rfl, Kept.refl.e2eCheck⟩
  | canFrameRx => exact ⟨_, rfl, Kept.refl.canFrameRx⟩
  | flowEnable => exact ⟨_, rfl, Kept.refl.asFlowWriter fun _ ht => ht.flowEnable⟩
  | flowDisable => exact ⟨_, rfl, Kept.refl.asFlowWriter fun _ ht => ht.flowDisable⟩
  | plenWrite => exact ⟨_, rfl, Kept.refl.asFlowWriter fun _ ht => ht.plenWrite⟩
  | push => exact ⟨_, rfl, Kept.refl.asWriter fun _ ht => ht.panPush⟩
  | pop => exact ⟨_, rfl, Kept.refl.asWriter fun _ ht => ht.panPop⟩
  | flush => exact ⟨_, rfl, Kept.refl.asWriter fun _ ht => ht.panFlush⟩
  | clear => exact ⟨_, rfl, Kept.refl.asWriter fun _ ht => ht.panClear⟩
  | xDelivery => exact ⟨_, rfl, Kept.refl.xDelivery⟩
  | watchCycle => exact ⟨_, rfl, Kept.refl.watchCycle⟩
  | wakePin => exact ⟨_, rfl, Kept.refl.wakePin⟩
  | canWake => exact ⟨_, rfl, Kept.refl.canWake⟩
  | ethWake => exact ⟨_, rfl, Kept.refl.ethWake⟩
  | brineWake => exact ⟨_, rfl, Kept.refl.brineWake⟩
  | porAssert => exact ⟨_, rfl, Kept.refl.porAssert⟩
  | ident => exact ⟨_, rfl, Kept.refl.ident⟩
  | status => exact ⟨_, rfl, Kept.refl.status⟩
  | logRead => exact ⟨_, rfl, Kept.refl.logRead⟩
  | logMark => exact ⟨_, rfl, Kept.refl.logMark⟩
  | sensors => exact ⟨_, rfl, Kept.refl.sensors⟩
  | flashErase => exact ⟨_, rfl, Kept.refl.flashErase⟩
  | flashWrite => exact ⟨_, rfl, Kept.refl.flashWrite⟩
  | flashRead => exact ⟨_, rfl, Kept.refl.flashRead⟩
  | verify => exact ⟨_, rfl, Kept.refl.verify⟩
  | imgCommit => exact ⟨_, rfl, Kept.refl.imgCommit⟩
  | imgRepair => exact ⟨_, rfl, Kept.refl.imgRepair⟩
  | longServiceDone => exact ⟨_, rfl, Kept.refl.longServiceDone⟩
  | halfReset => exact ⟨_, rfl, Kept.refl.halfReset⟩
  | updateEnter => exact ⟨_, rfl, Kept.refl.updateEnter⟩
  | updateEnd => exact ⟨_, rfl, Kept.refl.updateEnd⟩
  | handover => exact ⟨_, rfl, Kept.refl.handoverService⟩
  | provisionKey => exact ⟨_, rfl, Kept.refl.provisionKey⟩
  | logWrite => exact ⟨_, rfl, Kept.refl.logWrite⟩
  | hoReq => exact ⟨_, rfl, Kept.refl.hoReq⟩
  | hoAck => exact ⟨_, rfl, Kept.refl.hoAck⟩
  | hoNak => exact ⟨_, rfl, Kept.refl.hoNak⟩
  | hoRampDone => exact ⟨_, rfl, Kept.refl.hoRampDone⟩
  | hoOut => exact ⟨_, rfl, Kept.refl.hoOutRx⟩
  | hoTimeout => exact ⟨_, rfl, Kept.refl.hoTimeout⟩
  | hoAbort => exact ⟨_, rfl, Kept.refl.hoAbort⟩
  | hoBack => exact ⟨_, rfl, Kept.refl.hoBack⟩
  | updNext => exact ⟨_, rfl, Kept.refl.updNext⟩
  | canFrameTx => exact ⟨_, rfl, Kept.refl.canFrameTx⟩
  | portLinkUp => exact ⟨_, rfl, Kept.refl.portLinkUp⟩
  | gptpSyncLoss => exact ⟨_, rfl, Kept.refl.gptpSyncLoss⟩

/-- The queue is neither identity nor memory. -/
theorem Kept.requeue {q : List Instr} (h : Kept z s) : Kept z { s with pending := q } := h.frame

theorem step_kept {t : State} (h : step s = .next t) : Kept s t := by
  rcases step_cases s with ⟨_, hidle⟩ | ⟨c, r, _, hrun⟩
  · rw [hidle] at h
    cases h
    exact Kept.refl.frame
  · obtain ⟨u, hu, hkept⟩ := exec_completes_kept c { s with pending := r }
    rw [hrun, hu] at h
    cases h
    exact { hkept.requeue with canonical := fun hs => hkept.requeue.canonical (Kept.refl.requeue.canonical hs) }

end

/-! ### The statements -/

/-- Settles O9, by `step_kept`. -/
theorem stepsKeepMemoriesCanonical : Obligations.steps_keep_memories_canonical := by
  unfold Obligations.steps_keep_memories_canonical
  intro s t hs hstep
  exact (memoriesWf_iff t).mpr ((step_kept hstep).canonical ((memoriesWf_iff s).mp hs))

/-- Settles O10, by `step_kept`. -/
theorem identityAndKeyArePermanent : Obligations.identity_and_key_are_permanent := by
  unfold Obligations.identity_and_key_are_permanent
  intro s t hstep
  obtain ⟨hpart, hhalf, hstrap, hotp, hfuse, hkey, _⟩ := step_kept hstep
  exact ⟨hpart, hhalf, hstrap, hotp, hfuse, hkey⟩

/-- Settles O1: `step` takes the front of the queue. -/
theorem frontCommandRuns : Obligations.front_command_runs := by
  unfold Obligations.front_command_runs
  intro c r s hqueue
  rcases step_cases s with ⟨hempty, _⟩ | ⟨c', r', hqueue', hrun⟩
  · rw [hqueue] at hempty
    cases hempty
  · rw [hqueue] at hqueue'
    cases hqueue'
    exact hrun

/-- Settles O2: with an empty queue `step_cases` leaves only the idle case. -/
theorem idleBlockLetsACecPass : Obligations.idle_block_lets_a_cec_pass := by
  unfold Obligations.idle_block_lets_a_cec_pass
  intro s hempty
  rcases step_cases s with ⟨_, hidle⟩ | ⟨c, r, hqueue, _⟩
  · exact hidle
  · rw [hempty] at hqueue
    cases hqueue

/-- Settles O3: every meaning ends in `completes`, which puts the queue back. -/
theorem everyCommandGoesOnAndKeepsTheQueue : Obligations.every_command_goes_on_and_keeps_the_queue := by
  unfold Obligations.every_command_goes_on_and_keeps_the_queue
  intro c s
  obtain ⟨t, ht, _⟩ := exec_completes_kept c s
  exact ⟨_, ht, rfl⟩

end Sys2Proof.Frames


/-! SUPPORT. Register fields, triplicated fields and memories: what reads give after writes (R84, R87, R88, R196). -/

namespace Sys2Proof.Registers

open Sys2Proof Sys2Proof.Machine Sys2Proof.Safety Sys2Proof.Laws

/-! ### Fields and counters -/

theorem wr_eq_with (s : State) (f : Fld) (v : Nat) : ∃ r a b : List (Nat × Nat), s.wr f v = { s with regs := r, tmr1 := a, tmr2 := b } := by
  unfold State.wr
  split
  · exact ⟨_, _, _, rfl⟩
  · exact ⟨_, _, _, rfl⟩
  · exact ⟨_, _, _, rfl⟩

theorem count_rd_self {s : State} {f : Fld} (h : s.rd f < 2 ^ f.width) : (s.count f).rd f = min (s.rd f + 1) (2 ^ f.width - 1) := by
  unfold State.count
  split
  next hroom => rw [wr_rd_self, Nat.mod_eq_of_lt hroom]; omega
  next => omega

/-- Settles O5, by `wr_rd_self`, `wr_rd_ne`, `wr_eq_with` and `count_rd_self`. -/
theorem registerFieldsReadBack : Obligations.register_fields_read_back := by
  unfold Obligations.register_fields_read_back
  intro s f v
  exact ⟨wr_rd_self s f v, fun g hg => wr_rd_ne s f g v hg, wr_eq_with s f v, fun _ h => count_rd_self h⟩

/-! ### Triplicated fields (R87, R88) -/

theorem copies_putCopies (s : State) (f : Fld) (a b c : Nat) : (s.putCopies f a b c).copies f = (a, b, c) := by
  simp [State.copies, State.putCopies, lookup_store]

theorem rd_putCopies {s : State} {f : Fld} {a b c : Nat} (hf : f.triple = true) :
    (s.putCopies f a b c).rd f = voteOf f.reset a b c := by
  rw [rd_triple _ f hf, copies_putCopies]

theorem lookup_store_ne {α : Type} [DecidableEq α] (m : List (Nat × α)) (d e v : α) {k j : Nat} (h : j ≠ k) :
    lookup (store m e k v) d j = lookup m d j := by
  unfold store
  split
  · rw [lookup_erase, if_neg h]
  · rw [lookup_place, if_neg h]

theorem rd_putCopies_ne {s : State} {f g : Fld} {a b c : Nat} (h : g.key ≠ f.key) : (s.putCopies f a b c).rd g = s.rd g := by
  simp only [State.rd, State.putCopies, lookup_store_ne _ _ _ _ h]

theorem voteOf_first {r a b c : Nat} (h : a = b ∨ a = c) : voteOf r a b c = a := if_pos h

theorem voteOf_second {r a b c : Nat} (h : b = c) : voteOf r a b c = b := by
  subst h
  unfold voteOf
  split <;> simp_all

theorem voteOf_differ {r a b c : Nat} (hab : a ≠ b) (hac : a ≠ c) (hbc : b ≠ c) : voteOf r a b c = r := by
  simp [voteOf, hab, hac, hbc]

/-- A triplicated field after a rewrite with `v`: all its copies hold `v`, and a three-way disagreement is forgotten. -/
def healed (s : State) (f : Fld) (v : Nat) : State :=
  { s.wr f v with sys := { s.sys with voteSeen := s.sys.voteSeen.filter (· != f.key) } }

theorem copies_healed (s : State) {f : Fld} {v : Nat} (hf : f.triple = true) (hv : v < 2 ^ f.width) :
    (healed s f v).copies f = (v, v, v) := wr_copies_self s f v hf hv

theorem rd_healed_ne (s : State) {f g : Fld} {v : Nat} (h : g.key ≠ f.key) : (healed s f v).rd g = s.rd g := wr_rd_ne s f g v h

theorem rd_of_copies {s : State} {f : Fld} {v : Nat} (hf : f.triple = true) (h : s.copies f = (v, v, v)) : s.rd f = v := by
  rw [rd_triple s f hf, h]
  exact voteOf_first (Or.inl rfl)

/-- Where two copies agree, the rewrite stores their value, and counts and records the third. -/
theorem rewriteField_majority {s : State} {f : Fld} {v a b c : Nat} (hp : s.copies f = (a, b, c))
    (hagree : allDiffer (a, b, c) = false) (hv : voteOf f.reset a b c = v) (hone : ([a, b, c].filter (· != v)).length = 1) :
    s.rewriteField f = ((healed s f v).countN SYS_VOTE.VOTE_ERR 1).wr SYS_VOTE.VOTE_LAST f.off := by
  have hcheck : s.voteCheck f = s := by simp [State.voteCheck, hp, hagree]
  simp only [State.rewriteField, hp, hv, hcheck, hagree, hone, healed]
  rfl

/-- Where all copies differ, the rewrite stores the reset value in all of them, and counts nothing. -/
theorem rewriteField_differ {s : State} {f : Fld} {a b c : Nat} (hp : s.copies f = (a, b, c))
    (hdiffer : allDiffer (a, b, c) = true) (hv : voteOf f.reset a b c = f.reset) :
    s.rewriteField f = healed (s.voteCheck f) f f.reset
      ∨ s.rewriteField f = (healed (s.voteCheck f) f f.reset).renewSetCrc := by
  simp only [State.rewriteField, hp, hv, hdiffer, healed]
  cases isSetOffset f.off
  · exact Or.inl (if_pos (Or.inr trivial))
  · exact Or.inr (if_pos (Or.inr trivial))

theorem voteCheck_seen {s : State} {f : Fld} (h : s.sys.voteSeen.contains f.key = true) : s.voteCheck f = s := by
  simp only [State.voteCheck, h, Bool.not_true, Bool.and_false, Bool.false_eq_true, if_false]

/-- One copy that differs is healed, counted and recorded. -/
theorem rewriteField_heals_one {s : State} {f : Fld} {v a b c : Nat} (hf : f.triple = true) (hv : v < 2 ^ f.width)
    (herr : f.key ≠ SYS_VOTE.VOTE_ERR.key) (hlast : f.key ≠ SYS_VOTE.VOTE_LAST.key) (hagree : allDiffer (a, b, c) = false)
    (hvote : voteOf f.reset a b c = v) (hone : ([a, b, c].filter (· != v)).length = 1) :
    let t := (s.putCopies f a b c).rewriteField f
    t.copies f = (v, v, v) ∧ t.rd f = v ∧ t.rd SYS_VOTE.VOTE_ERR = min (s.rd SYS_VOTE.VOTE_ERR + 1) 65535
      ∧ t.rd SYS_VOTE.VOTE_LAST = f.off % 2 ^ SYS_VOTE.VOTE_LAST.width := by
  intro t
  have ht : t = ((healed (s.putCopies f a b c) f v).countN SYS_VOTE.VOTE_ERR 1).wr SYS_VOTE.VOTE_LAST f.off :=
    rewriteField_majority (copies_putCopies s f a b c) hagree hvote hone
  have hcopies : t.copies f = (v, v, v) := by
    rw [ht, wr_copies_ne _ _ _ _ hlast, State.countN, wr_copies_ne _ _ _ _ herr, copies_healed _ hf hv]
  refine ⟨hcopies, rd_of_copies hf hcopies, ?_, by rw [ht, wr_rd_self]⟩
  rw [ht, wr_rd_ne _ _ _ _ (by decide), State.countN, wr_rd_self, rd_healed_ne _ (Ne.symm herr), rd_putCopies_ne (Ne.symm herr)]
  exact Nat.mod_eq_of_lt (Nat.lt_succ_of_le (Nat.min_le_right _ _))

/-- Settles O6: reads by `rd_putCopies`, the rewrite by `rewriteField_heals_one` and `rewriteField_differ`. -/
theorem triplicatedFieldsVote : Obligations.triplicated_fields_vote := by
  unfold Obligations.triplicated_fields_vote
  intro s f a b c hf
  refine ⟨fun h => (rd_putCopies hf).trans (voteOf_first h), fun h => (rd_putCopies hf).trans (voteOf_second h),
    fun hab hac hbc => (rd_putCopies hf).trans (voteOf_differ hab hac hbc), ?one, ?three⟩
  case one =>
    intro hab ha herr hlast p hp
    simp only [List.mem_cons, List.not_mem_nil, or_false] at hp
    rcases hp with rfl | rfl | rfl
    · exact rewriteField_heals_one hf ha herr hlast (by simp [allDiffer]) (voteOf_second rfl) (by simp [Ne.symm hab])
    · exact rewriteField_heals_one hf ha herr hlast (by simp [allDiffer]) (voteOf_first (Or.inr rfl)) (by simp [Ne.symm hab])
    · exact rewriteField_heals_one hf ha herr hlast (by simp [allDiffer]) (voteOf_first (Or.inl rfl)) (by simp [Ne.symm hab])
  case three =>
    intro hab hac hbc hreset hcrc
    have hvote : voteOf f.reset a b c = f.reset := voteOf_differ hab hac hbc
    have hdiffer : allDiffer (a, b, c) = true := by simp [allDiffer, hab, hac, hbc]
    generalize hu : s.putCopies f a b c = u
    have hcopies : (u.rewriteField f).copies f = (f.reset, f.reset, f.reset) := by
      rcases rewriteField_differ (hu ▸ copies_putCopies s f a b c) hdiffer hvote with h | h
      · rw [h, copies_healed _ hf hreset]
      · rw [h, State.renewSetCrc, wr_copies_ne _ _ _ _ hcrc, copies_healed _ hf hreset]
    refine ⟨hcopies, rd_of_copies hf hcopies, fun hseen herr => ?_⟩
    have hcheck : u.voteCheck f = u := voteCheck_seen (by rw [← hu]; exact hseen)
    have hrd : u.rd SYS_VOTE.VOTE_ERR = s.rd SYS_VOTE.VOTE_ERR := by rw [← hu, rd_putCopies_ne (Ne.symm herr)]
    rcases rewriteField_differ (hu ▸ copies_putCopies s f a b c) hdiffer hvote with h | h
    · rw [h, hcheck, rd_healed_ne _ (Ne.symm herr), hrd]
    · rw [h, hcheck, State.renewSetCrc, wr_rd_ne _ _ _ _ (by decide), rd_healed_ne _ (Ne.symm herr), hrd]

/-! ### Memories -/

theorem setByte_byte (m : Mem) (d v : Byte) (a b : Nat) : (m.setByte d a v).byte d b = if b = a then v else m.byte d b :=
  lookup_store m d a b v

theorem setBytes_byte_outside {m : Mem} {d : Byte} {bs : List Byte} {a b : Nat} (h : b < a ∨ a + bs.length ≤ b) :
    (m.setBytes d a bs).byte d b = m.byte d b := by
  rw [setBytes_byte, if_neg (by omega)]

theorem length_leBytes (n v : Nat) : (leBytes n v).length = n := by
  induction n generalizing v with
  | zero => rfl
  | succ n ih => simp [leBytes, ih]

theorem bytes_eq_map (m : Mem) (d : Byte) (a n : Nat) : m.bytes d a n = (List.range n).map fun i => m.byte d (a + i) := by
  induction n generalizing a with
  | zero => rfl
  | succ n ih => simp [Mem.bytes, ih, List.range_succ_eq_map, Function.comp_def, Nat.add_comm, Nat.add_left_comm]

theorem setBytes_bytes (m : Mem) (d : Byte) (a : Nat) (bs : List Byte) : (m.setBytes d a bs).bytes d a bs.length = bs := by
  rw [bytes_eq_map]
  refine List.ext_getElem (by simp) fun i hi hlt => ?_
  simp [setBytes_byte, List.getD_eq_getElem?_getD, hlt]

theorem setBundle_bundle (m : Mem) (d : Byte) (a : Nat) (q : Bundle) : (m.setBundle d a q).bundle d a = q := by
  have hbytes : (m.setBundle d a q).bytes d a 8 = leBytes 8 q.toNat := by
    have h := setBytes_bytes m d a (leBytes 8 q.toNat)
    rwa [length_leBytes] at h
  rw [Mem.bundle, hbytes, leNat_le]
  exact BitVec.eq_of_toNat_eq (by simpa using q.isLt)

/-- Settles O7, by the laws of memories. -/
theorem memoriesReadBack : Obligations.memories_read_back := by
  unfold Obligations.memories_read_back
  intro m d a b v w q
  refine ⟨setByte_byte m d v a b, setWord_word m d a w, fun h => setBytes_byte_outside ?_, setBundle_bundle m d a q,
    fun h => setBytes_byte_outside ?_,
    fun h => ⟨setByte_wf m d a v h, setWord_wf m d a w h, setBundle_wf m d a q h, fun n => clear_wf m d a n h⟩⟩
  · rwa [length_leBytes]
  · rwa [length_leBytes]

/-! ### Mirrors (R196, R254, R255) -/

theorem mirrorOf_eq {a : Nat} (ha : a % 4 = 0) (hlt : a < 32768) : mirrorOf a = 32764 - a := by
  obtain ⟨k, rfl⟩ := Nat.dvd_of_mod_eq_zero ha
  have hk : k < 8192 := by omega
  have hxor : 4 * k ^^^ 4 * 8191 = 4 * (k ^^^ 8191) := by
    simpa [Nat.shiftLeft_eq, Nat.mul_comm] using (Nat.shiftLeft_xor_distrib (a := k) (b := 8191) (i := 2)).symm
  have hcomp : k ^^^ 8191 = 8191 - k := by
    have hnot := congrArg BitVec.toNat (BitVec.xor_allOnes (x := BitVec.ofNat 13 k))
    rwa [BitVec.toNat_xor, BitVec.toNat_allOnes, BitVec.toNat_not, BitVec.toNat_ofNat, Nat.mod_eq_of_lt hk] at hnot
  have hval : mirrorOf (4 * k) = 4 * k ^^^ 4 * 8191 := rfl
  omega

/-- Settles O8: the mirror of a word address counts down from the last word, and other words lie apart from both. -/
theorem xWordsAreWrittenWithTheirMirrors : Obligations.x_words_are_written_with_their_mirrors := by
  unfold Obligations.x_words_are_written_with_their_mirrors
  intro s a b w ha hb halt hblt
  have hm : mirrorOf a = 32764 - a := mirrorOf_eq ha halt
  have hmm : mirrorOf (mirrorOf a) = a := by
    rw [mirrorOf_eq (by omega) (by omega)]
    omega
  have hother {c d : Nat} (hc : c % 4 = 0) (hd : d % 4 = 0) (hne : d ≠ c) (m : Mem) : (m.setWord 0 c w).word 0 d = m.word 0 d :=
    setWord_other m 0 c d w (by omega)
  refine ⟨?self, setWord_word _ 0 _ w, ?others, hmm, ?bit⟩
  case self =>
    change ((s.xmem.setWord 0 a w).setWord 0 (mirrorOf a) w).word 0 a = w
    rw [hother (by omega) ha (by omega), setWord_word]
  case others =>
    intro hne hnem
    change ((s.xmem.setWord 0 a w).setWord 0 (mirrorOf a) w).word 0 b = s.xmem.word 0 b
    rw [hother (by omega) hb hnem, hother ha hb hne]
  case bit =>
    rw [mirrorOf, Nat.testBit_xor, show Nat.testBit 0x7FFC 14 = true by decide, Bool.xor_true]

end Sys2Proof.Registers


/-! SUPPORT. What a bundle of one M-slot or A-slot operation leaves (R214, R234 to R241, R258), and the arithmetic of rounding,
saturation and the sine (R211 to R213, R246). -/

namespace Sys2Proof.OneOperation

open Sys2Proof Sys2Proof.Machine Sys2Proof.Safety Sys2Proof.Laws Sys2Proof.SlotA

/-! ### Rounding and saturation (R213) -/

theorem maxInt_nonneg (w : Nat) : (0 : Int) ≤ 2 ^ (w - 1) - 1 := by
  have : (0 : Int) < 2 ^ (w - 1) := by positivity
  omega

/-- Whether a value overflows a word does not change with its sign: the range of R213 is symmetric. -/
theorem satW_overflow_neg (w : Nat) (sat sat' : Bool) (v : Int) : (satW w sat (-v)).2 = (satW w sat' v).2 := by
  change (decide (-v < -(2 ^ (w - 1) - 1 : Int)) || decide ((2 ^ (w - 1) - 1 : Int) < -v))
    = (decide (v < -(2 ^ (w - 1) - 1 : Int)) || decide ((2 ^ (w - 1) - 1 : Int) < v))
  generalize (2 ^ (w - 1) - 1 : Int) = m
  rw [Bool.or_comm, ← Bool.decide_or, ← Bool.decide_or, decide_eq_decide]
  omega

theorem satW_saturated_neg (w : Nat) (v : Int) : satW w true (-v) = (-(satW w true v).1, (satW w true v).2) :=
  Prod.ext (clamp_neg _ v (maxInt_nonneg w)) (satW_overflow_neg w true true v)

theorem satW_wrapped_neg {w : Nat} (hw : 0 < w) {v : Int} (h : (satW w false v).1 ≠ -2 ^ (w - 1)) :
    satW w false (-v) = (-(satW w false v).1, (satW w false v).2) := by
  have hfield : fieldOf w v ≠ 2 ^ (w - 1) := fun hmin => h ((wrap_range w hw v).2.2.2.mpr hmin)
  exact Prod.ext (wrap_neg w hw v hfield) (satW_overflow_neg w false false v)

/-- Settles O24: by `roundDiv_neg`, `roundDiv_near`, `satW_saturated_neg` and `satW_wrapped_neg`. -/
theorem roundingAndSaturationCommuteWithNegation : Obligations.rounding_and_saturation_commute_with_negation := by
  unfold Obligations.rounding_and_saturation_commute_with_negation
  intro v k
  have hpow : 0 < 2 ^ k := Nat.two_pow_pos k
  obtain ⟨hdist, htie⟩ := roundDiv_near v (2 ^ k) hpow
  push_cast at hdist htie
  exact ⟨roundDiv_neg v _ hpow, satW_saturated_neg 32 v, satW_saturated_neg 72 v, satW_wrapped_neg (by decide), hdist, htie⟩

/-! ### A bundle of one M-slot operation -/

/-- An operation of the M slot alone: its results are held, then its flags, and a tag conflict is recorded last. -/
theorem runSlots_of_mSlot {s : State} {x : Strm} {op : MOp} {effs : List Effect} {fl : FlagWrite} {conf : Bool}
    (hop : s.mSlot x op = { SlotOut.empty with effs := effs, fl := fl, conf := conf }) :
    s.runSlots x op .nop .nop = conflict x conf ((holdAll s x conf effs).holdFlags x (s.strm x).t 0 fl conf) := by
  have hslot := flagSlot_m fl x (s.strm x).t conf (holdAll s x conf effs)
  simp only [State.runSlots, hop, State.aSlot, State.lSlot, SlotOut.empty, State.noteReads, List.foldl_nil, FlagWrite.none_,
    or_none, Bool.false_and, Bool.or_false, holdFlags_mask, conflict, pc_holdFlags, pc_holdAll,
    Bool.false_eq_true, if_false]
  rw [← hslot]
  rfl

theorem issue_of_mSlot {s : State} {e : Issue} {op : MOp} {effs : List Effect} {fl : FlagWrite} {conf : Bool}
    (hmay : (ready e s).mayIssue e.strm = true)
    (hop : (atIssue e s).mSlot e.strm op = { SlotOut.empty with effs := effs, fl := fl, conf := conf })
    (hone : twice (dNumbers ((atIssue e s).mSlot e.strm op)) = false) :
    s.issue e (fetchedOps op .nop .nop) = nextBundle e.strm (conflict e.strm conf
      ((holdAll (atIssue e s) e.strm conf effs).holdFlags e.strm ((atIssue e s).strm e.strm).t 0 fl conf)) := by
  rw [run_one s e op .nop .nop hmay (legal_m _ _ op hone), runSlots_of_mSlot hop]

theorem issue_of_mResult {s : State} {e : Issue} {op : MOp} {dd : BitVec 5} {r : Int} {tag conf : Bool} {lat : Nat}
    {fl : FlagWrite} (hmay : (ready e s).mayIssue e.strm = true)
    (hop : (atIssue e s).mSlot e.strm op
      = { SlotOut.empty with effs := [dResult 0 ((atIssue e s).dName e.strm dd) r tag lat], fl := fl, conf := conf }) :
    s.issue e (fetchedOps op .nop .nop) = afterD e s 0 dd r tag conf lat fl := by
  have hone : twice (dNumbers ((atIssue e s).mSlot e.strm op)) = false := by rw [hop]; rfl
  rw [issue_of_mSlot hmay hop hone]
  cases hT : e.strm.isT <;> simp [afterD, holdAll, State.holdEffect, dResult, dHeld, twinOf, Dest.of, hT]

/-- An operation of the M slot alone with an accumulator result leaves `afterAcc`. -/
theorem issue_of_accResult {s : State} {e : Issue} {op : MOp} {n : BitVec 2} {r : Int} {tag conf : Bool} {fl : FlagWrite}
    (hmay : (ready e s).mayIssue e.strm = true)
    (hop : (atIssue e s).mSlot e.strm op = { SlotOut.empty with effs := accResult n r tag, fl := fl, conf := conf }) :
    s.issue e (fetchedOps op .nop .nop) = afterAcc e s n r tag conf fl := by
  have hone : twice (dNumbers ((atIssue e s).mSlot e.strm op)) = false := by rw [hop]; rfl
  rw [issue_of_mSlot hmay hop hone]
  cases hT : e.strm.isT <;> simp [afterAcc, holdAll, State.holdEffect, accResult, twinOf, Dest.of, hT]

/-- Settles O17: D results by `issue_of_mResult`, accumulator results by `issue_of_accResult`. -/
theorem mSlotResults : Obligations.m_slot_results := by
  unfold Obligations.m_slot_results
  intro e sat dd da db n m sh s hmay
  refine ⟨?mpy, ?mpa, ?mac, ?msu, ?mva, ?lda, ?clra, ?adda, ?suba, ?nega, ?muli⟩
  case mpy => exact next_congr (issue_of_mResult (op := .mpy sat dd da db) hmay rfl)
  case mpa => exact next_congr (issue_of_accResult (op := .mpa sat n da db) hmay rfl)
  case mac =>
    have hop := issue_of_accResult (op := .mac sat n da db) (n := n) hmay rfl
    rw [Int.one_mul] at hop
    exact next_congr hop
  case msu =>
    have hop := issue_of_accResult (op := .msu sat n da db) (n := n) hmay rfl
    rw [Int.neg_one_mul, ← Int.sub_eq_add_neg] at hop
    exact next_congr hop
  case mva => exact next_congr (issue_of_mResult (op := .mva sat dd m sh) hmay rfl)
  case lda => exact next_congr (issue_of_accResult (op := .lda sat n da) hmay rfl)
  case clra => exact next_congr (issue_of_accResult (op := .clra n sat) hmay rfl)
  case adda =>
    have hop := issue_of_accResult (op := .adda sat n m) (n := n) hmay rfl
    rw [Int.one_mul] at hop
    exact next_congr hop
  case suba =>
    have hop := issue_of_accResult (op := .suba sat n m) (n := n) hmay rfl
    rw [Int.neg_one_mul, ← Int.sub_eq_add_neg] at hop
    exact next_congr hop
  case nega => exact next_congr (issue_of_accResult (op := .nega sat n m) hmay rfl)
  case muli => exact next_congr (issue_of_mResult (op := .muli sat dd da db) hmay rfl)

/-- MIN and MAX: which extreme pass B takes of two S operands (R237). -/
theorem opExtreme_eq (s : State) (x : Strm) (dd da db : BitVec 5) (least : Bool) :
    let a := s.dRead x da
    let b := s.dRead x db
    let low := min a.v.toInt b.v.toInt
    let high := max a.v.toInt b.v.toInt
    s.opExtreme x dd da db least = s.aResult x dd
      (if x.isB && a.s && b.s then (if least then high else low) else if least then low else high)
      (a.s || b.s) (a.s != b.s) 3 FlagWrite.none_ := by
  cases least <;> cases h : x.isB && (s.dRead x da).s && (s.dRead x db).s <;> simp [State.opExtreme, addTag, h]

/-- Settles O18: by `issue_of_dResult`. -/
theorem aSlotAdditiveResults : Obligations.a_slot_additive_results := by
  unfold Obligations.a_slot_additive_results
  intro e sat dd da db s hmay
  refine ⟨?add, ?sub, ?min, ?max⟩
  case add =>
    have hop := issue_of_dResult (op := .add sat dd da db) (dd := dd) (lat := 3) hmay rfl
    rw [Int.one_mul] at hop
    exact next_congr hop
  case sub =>
    have hop := issue_of_dResult (op := .sub sat dd da db) (dd := dd) (lat := 3) hmay rfl
    rw [Int.neg_one_mul, ← Int.sub_eq_add_neg] at hop
    exact next_congr hop
  case min =>
    have hop := issue_of_dResult (op := .min sat dd da db) (dd := dd) (lat := 3) hmay (opExtreme_eq _ _ _ _ _ true)
    exact next_congr hop
  case max =>
    have hop := issue_of_dResult (op := .max sat dd da db) (dd := dd) (lat := 3) hmay (opExtreme_eq _ _ _ _ _ false)
    exact next_congr hop

/-! ### The sine (R246) -/

/-- The interpolated value F of R246 on the quarter turn. -/
def quarterSine (u : Nat) : Int :=
  if u = 1073741824 then sinEntry 1024
  else sinEntry (u / 1048576) + roundDiv ((sinEntry (u / 1048576 + 1) - sinEntry (u / 1048576)) * (u % 1048576 : Nat)) 1048576

theorem sinF_eq_quarterSine {u : Nat} (h : u ≤ 1073741824) : sinF u = quarterSine u := by
  unfold sinF quarterSine
  by_cases hu : u = 1073741824
  · subst hu; rfl
  · rw [if_neg (by omega), if_neg hu]

theorem sinWord_first {a : Int} (h : 0 ≤ a) (hu : a.natAbs ≤ 1073741824) : sinWord a = quarterSine a.natAbs := by
  rw [← sinF_eq_quarterSine hu, sinWord, if_neg (not_lt.mpr h), if_neg (by omega)]

theorem sinWord_second {a : Int} (h : 0 ≤ a) (hlo : 1073741824 < a.natAbs) :
    sinWord a = quarterSine (2147483648 - a.natAbs) := by
  rw [← sinF_eq_quarterSine (by omega), sinWord, if_neg (not_lt.mpr h), if_pos hlo]

theorem sinWord_neg {a : Int} (h : a < 0) : sinWord a = -sinWord (-a) := by
  have hpos : ¬ -a < 0 := by omega
  simp only [sinWord, if_pos h, if_neg hpos, Int.natAbs_neg]

theorem cosWord_first {a : Int} (h : a.natAbs ≤ 1073741824) : cosWord a = quarterSine (1073741824 - a.natAbs) := by
  have harg : (1073741824 - (a.natAbs : Int)).natAbs = 1073741824 - a.natAbs := by omega
  rw [← sinF_eq_quarterSine (by omega), cosWord, if_neg (by omega), harg]

theorem cosWord_second {a : Int} (hlo : 1073741824 < a.natAbs) (hhi : a.natAbs ≤ 2147483648) :
    cosWord a = -quarterSine (a.natAbs - 1073741824) := by
  have harg : (1073741824 - (a.natAbs : Int)).natAbs = a.natAbs - 1073741824 := by omega
  rw [← sinF_eq_quarterSine (by omega), cosWord, if_pos (by omega), harg]

/-- The table row by row: entries rise, and the squares of complementary entries sum to one. -/
theorem sinRow_rises_on_circle : ∀ i < 32, ∀ j < 32,
    sinEntry (32 * i + j) < sinEntry (32 * i + j + 1)
      ∧ (sinEntry (32 * i + j) * sinEntry (32 * i + j) + sinEntry (1024 - (32 * i + j)) * sinEntry (1024 - (32 * i + j))
          - 4611686018427387904).natAbs ≤ 4294967296 := by decide +kernel

theorem sinEntry_rises_on_circle {k : Nat} (h : k < 1024) :
    sinEntry k < sinEntry (k + 1)
      ∧ (sinEntry k * sinEntry k + sinEntry (1024 - k) * sinEntry (1024 - k) - 4611686018427387904).natAbs ≤ 4294967296 := by
  have hrow := sinRow_rises_on_circle (k / 32) (by omega) (k % 32) (by omega)
  rwa [Nat.div_add_mod] at hrow

/-- An operation of the A slot alone whose only flags are N and Z. -/
theorem issue_of_nzResult {s : State} {e : Issue} {op : AOp} {dd : BitVec 5} {r : Int} {tag conf : Bool}
    (hmay : (ready e s).mayIssue e.strm = true)
    (hop : (atIssue e s).aSlot e.strm op = (atIssue e s).aResult e.strm dd r tag conf 3 FlagWrite.none_) :
    s.issue e (fetchedOps .nop op .nop) = afterD e s 1 dd r tag conf 3 (flagsNZ e.strm.isB tag r) := by
  rw [issue_of_dResult hmay hop, FlagWrite.none_, or_none]

/-- Settles O19: the operations by `issue_of_dResult`, SIN and COS by their quarter turns, the table by
`sinEntry_rises_on_circle`. -/
theorem aSlotUnaryAndIntegerResults : Obligations.a_slot_unary_and_integer_results := by
  unfold Obligations.a_slot_unary_and_integer_results
  refine ⟨fun e sat dd da db k s hmay => ⟨?asl, ?mov, ?neg, ?abs, ?sin, ?cos, ?and, ?or, ?xor, ?not, ?addi⟩, ?values⟩
  case asl => exact next_congr (issue_of_dResult (op := .asl sat dd da k) hmay rfl)
  case mov => exact next_congr (issue_of_nzResult (op := .mov sat dd da) hmay rfl)
  case neg => exact next_congr (issue_of_dResult (op := .neg sat dd da) hmay rfl)
  case abs => exact next_congr (issue_of_dResult (op := .abs sat dd da) hmay rfl)
  case sin => exact next_congr (issue_of_nzResult (op := .sin sat dd da) hmay rfl)
  case cos => exact next_congr (issue_of_nzResult (op := .cos sat dd da) hmay rfl)
  case and => exact next_congr (issue_of_nzResult (op := .and sat dd da db) hmay rfl)
  case or => exact next_congr (issue_of_nzResult (op := .or sat dd da db) hmay rfl)
  case xor => exact next_congr (issue_of_nzResult (op := .xor sat dd da db) hmay rfl)
  case not => exact next_congr (issue_of_nzResult (op := .not sat dd da) hmay rfl)
  case addi => exact next_congr (issue_of_dResult (op := .addi sat dd da db) hmay rfl)
  case values =>
    refine ⟨fun a ha => ⟨sinWord_first, sinWord_second, sinWord_neg, cosWord_first, fun hlo => cosWord_second hlo ha⟩,
      rfl, rfl, rfl, fun k => sinEntry_rises_on_circle⟩

end Sys2Proof.OneOperation


/-! SUPPORT. What a bundle of one L-slot operation leaves (R206, R210, R248), what control codes do beside operations and what
becomes of an illegal bundle (R221 to R227, R240, R250). -/

namespace Sys2Proof.LoadsAndControl

open Sys2Proof Sys2Proof.Machine Sys2Proof.Safety Sys2Proof.Laws Sys2Proof.SlotA

/-! ### A bundle of one L-slot operation -/

/-- What an operation of the L slot alone leaves, in the order of R258: reads noted, results and flags held, address registers
modified, the store issued, XMIN and a tag conflict recorded. -/
def lSlotLeaves (x : Strm) (s : State) (l : SlotOut) : State :=
  let t := (s.strm x).t
  let held := ((l.effs.foldl (State.holdEffect x t l.conf) (s.noteReads l.reads)).holdFlags x t 2 l.fl l.conf)
  let modified := l.posts.foldl (State.postModify x t) held
  let stored := match l.stored with
    | some o => modified.issueStore x t o
    | none => modified
  let marked := if l.xmin then stored.setFlag CE_TR_STAT.XMIN true else stored
  if l.conf then marked.tagConflict x (s.strm x).pc else marked

theorem runSlots_of_lSlot (s : State) (x : Strm) (op : LOp) :
    s.runSlots x .nop .nop op = lSlotLeaves x s (s.lSlot x op) := by
  simp only [State.runSlots, State.mSlot, State.aSlot, SlotOut.empty, FlagWrite.none_, List.foldl_nil, none_or,
    Bool.false_and, Bool.false_or, holdFlags_mask, lSlotLeaves]
  rfl

theorem issue_of_lSlot {s : State} {e : Issue} {op : LOp} (hmay : (ready e s).mayIssue e.strm = true)
    (hone : twice (dNumbers ((atIssue e s).lSlot e.strm op)) = false)
    (hmem : (accesses op).any (fun p => (atIssue e s).plBad e.strm p.1 p.2) = false) :
    s.issue e (fetchedOps .nop .nop op) = nextBundle e.strm (lSlotLeaves e.strm (atIssue e s) ((atIssue e s).lSlot e.strm op)) := by
  rw [run_one s e .nop .nop op hmay (legal_l _ _ op hone hmem), runSlots_of_lSlot]

/-- An operation of the L slot alone with one D result leaves `afterD`. -/
theorem issue_of_lResult {s : State} {e : Issue} {op : LOp} {dd : BitVec 5} {r : Int} {tag : Bool} {lat : Nat}
    (hmay : (ready e s).mayIssue e.strm = true) (hmem : accesses op = [])
    (hop : (atIssue e s).lSlot e.strm op
      = { SlotOut.empty with effs := [dResult 2 ((atIssue e s).dName e.strm dd) r tag lat] }) :
    s.issue e (fetchedOps .nop .nop op) = afterD e s 2 dd r tag false lat ⟨0, 0⟩ := by
  have hone : twice (dNumbers ((atIssue e s).lSlot e.strm op)) = false := by rw [hop]; rfl
  rw [issue_of_lSlot hmay hone (by rw [hmem]; rfl), hop]
  cases hT : e.strm.isT <;>
    simp [afterD, lSlotLeaves, State.holdEffect, dResult, dHeld, twinOf, Dest.of, hT, SlotOut.empty, State.noteReads, conflict, FlagWrite.none_]

/-- An operation of the L slot alone that writes a special register leaves `afterSpecial`. -/
theorem issue_of_specialWrite {s : State} {e : Issue} {op : LOp} {r : SReg} {v : Nat} {conf : Bool}
    (hmay : (ready e s).mayIssue e.strm = true) (hmem : accesses op = [])
    (hop : (atIssue e s).lSlot e.strm op = { specialWrite r v with conf := conf }) :
    s.issue e (fetchedOps .nop .nop op) = afterSpecial e s r v conf := by
  have hone : twice (dNumbers ((atIssue e s).lSlot e.strm op)) = false := by rw [hop]; cases r <;> rfl
  rw [issue_of_lSlot hmay hone (by rw [hmem]; rfl), hop]
  cases r with
  | flags =>
    simp [afterSpecial, specialWrite, lSlotLeaves, SlotOut.empty, State.noteReads, conflict]
  | p | pm | pl | lc | rrb =>
    cases hT : e.strm.isT <;>
      simp [afterSpecial, specialWrite, lSlotLeaves, State.holdEffect, twinOf, hT, SlotOut.empty, State.noteReads, conflict,
        FlagWrite.none_, holdFlags_none]

theorem issue_of_access {s : State} {e : Issue} {op : LOp} {p : Nat} {m : PMod} (hmay : (ready e s).mayIssue e.strm = true)
    (hmem : accesses op = [(p, m)]) (hpl : (atIssue e s).plBad e.strm p m = false)
    (hone : twice (dNumbers ((atIssue e s).lSlot e.strm op)) = false) :
    s.issue e (fetchedOps .nop .nop op)
      = nextBundle e.strm (lSlotLeaves e.strm (atIssue e s) ((atIssue e s).lSlot e.strm op)) :=
  issue_of_lSlot hmay hone (by simp [hmem, hpl])

/-- Settles O27: by `issue_of_access`. -/
theorem loadsComplete : Obligations.loads_complete := by
  unfold Obligations.loads_complete
  intro e dd dy p m px py mx my s hmay
  refine ⟨fun hpl => ⟨?ldx, ?ldy⟩, fun hx hy hne => ?ldxy⟩
  case ldx =>
    refine next_congr ((issue_of_access (op := .ldx dd p m) hmay rfl hpl rfl).trans ?_)
    simp [State.lSlot, State.opLdx, lSlotLeaves, SlotOut.empty, FlagWrite.none_, State.noteReads, holdFlags_none,
      State.holdEffect, dResult, Dest.of, dHeld, twinOf, State.access]
  case ldy =>
    refine next_congr ((issue_of_access (op := .ldy dd p m) hmay rfl hpl rfl).trans ?_)
    simp [State.lSlot, State.opLdy, lSlotLeaves, SlotOut.empty, FlagWrite.none_, State.noteReads, holdFlags_none,
      State.holdEffect, dResult, Dest.of, dHeld, twinOf, State.access]
  case ldxy =>
    have hone : twice (dNumbers ((atIssue e s).lSlot e.strm (.ldxy dd dy px py mx my))) = false := by
      simp [State.lSlot, State.opLdxy, State.opLdx, dResult, dNumbers, twice, hne]
    have hmem : (accesses (.ldxy dd dy px py mx my)).any (fun p => (atIssue e s).plBad e.strm p.1 p.2) = false := by
      simp [accesses, hx, hy]
    refine next_congr ((issue_of_lSlot hmay hone hmem).trans ?_)
    simp [State.lSlot, State.opLdxy, State.opLdx, lSlotLeaves, SlotOut.empty, FlagWrite.none_, State.noteReads, holdFlags_none,
      State.holdEffect, dResult, Dest.of, dHeld, twinOf, State.access]

/-- Settles O28: by `issue_of_access`, `issue_of_lResult` and `issue_of_specialWrite`. -/
theorem storesAndMovesComplete : Obligations.stores_and_moves_complete := by
  unfold Obligations.stores_and_moves_complete
  intro e ds dd p m h imm imm13 n k i4 r s hmay
  refine ⟨fun hpl => ⟨?stx, ?sty⟩, ?ldi, ?ldip, ?ldimPm, ?ldimPl, ?ldimLc, ?ldimRrb, ?mvts, ?mvfs⟩
  case stx =>
    refine next_congr ((issue_of_access (op := .stx ds p m) hmay rfl hpl rfl).trans ?_)
    simp [State.lSlot, State.opStx, lSlotLeaves, SlotOut.empty, FlagWrite.none_, State.noteReads, holdFlags_none, State.access]
  case sty =>
    refine next_congr ((issue_of_access (op := .sty ds p m) hmay rfl hpl rfl).trans ?_)
    by_cases hbad : e.strm.isT = true ∧ ((atIssue e s).dRead e.strm ds).s = true <;>
      simp [State.lSlot, State.opSty, lSlotLeaves, SlotOut.empty, FlagWrite.none_, State.noteReads, holdFlags_none, State.access,
        conflict, pc_post, hbad]
  case ldi => exact next_congr (issue_of_lResult (op := .ldi dd h imm) hmay rfl rfl)
  case ldip => exact next_congr (issue_of_specialWrite (op := .ldip p imm13) hmay rfl rfl)
  case ldimPm => exact next_congr (issue_of_specialWrite (op := .ldim (.pm n imm)) hmay rfl rfl)
  case ldimPl => exact next_congr (issue_of_specialWrite (op := .ldim (.pl n imm)) hmay rfl rfl)
  case ldimLc => exact next_congr (issue_of_specialWrite (op := .ldim (.lc k imm)) hmay rfl rfl)
  case ldimRrb => exact next_congr (issue_of_specialWrite (op := .ldim (.rrb i4)) hmay rfl rfl)
  case mvts => exact next_congr (issue_of_specialWrite (op := .mvts ds r) hmay rfl rfl)
  case mvfs => exact next_congr (issue_of_lResult (op := .mvfs dd r) hmay rfl rfl)

/-! ### Control codes beside operations (R221 to R227, R240) -/

/-- The loop counter of LE and LER before it is written back (R223). -/
def loopLeft (s : State) (x : Strm) (k : Bool) : Nat := (s.lcOf x k.toNat + 65535) % 65536

/-- The loops in the loop cache once LE or LER has ended a round of its own (R226, log 103). -/
def loopCache (s : State) (x : Strm) (k : Bool) : List (Nat × Nat) :=
  let st := s.strm x
  let first := lookup st.lsa 0 k.toNat
  let rest := st.cache.filter fun b => b.2 != st.pc
  if loopLeft s x k ≠ 0 ∧ first ≤ st.pc ∧ st.pc < first + 32 then (first, st.pc) :: rest else rest

/-- A loop's round ended: the cache is kept up and the counter, counted down, held until the next stream cycle. -/
def loopCounted (s : State) (x : Strm) (k : Bool) : State :=
  let st := s.strm x
  (s.setStrm x { st with cache := loopCache s x k }).hold x
    ⟨st.t + 1, .lc k.toNat, loopLeft s x k, false, twinOf s x 4 3 (24 + k.toNat) false⟩

def loopGoal (s : State) (x : Strm) (k : Bool) : Nat :=
  if loopLeft s x k ≠ 0 then lookup (s.strm x).lsa 0 k.toNat else (s.strm x).pc + 1

theorem loopEnd_eq (s : State) (x : Strm) (k : Bool) : s.loopEnd x k = (loopCounted s x k, loopGoal s x k) := by
  simp only [State.loopEnd, State.holdLoop, strm_setStrm, twinOf, loopCounted, loopGoal, loopCache, loopLeft]
  rfl

theorem runCtl_le (s : State) (x : Strm) (k : Bool) :
    s.runCtl x (.le k) = (loopCounted s x k).goOn x 1 (loopGoal s x k) := by
  simp only [State.runCtl, loopEnd_eq]

theorem runCtl_ler (s : State) (x : Strm) (k : Bool) :
    s.runCtl x (.ler k) = ((loopCounted s x k).rotate x).goOn x 1 (loopGoal s x k) := by
  simp only [State.runCtl, loopEnd_eq]

theorem closed_runCtl_ls (s : State) (x : Strm) (k : Bool) :
    let st := s.strm x
    closed x (s.runCtl x (.ls k)) = nextBundle x
      ((s.setStrm x { st with lsa := store st.lsa 0 k.toNat st.pc }).present x
        ⟨st.t + 1, ⟨st.t, 4, 3, 28 + k.toNat, false⟩, st.pc, none, 0, none⟩) := by
  simp only [nextBundle, State.runCtl, strm_present, strm_setStrm]

/-- A legal bundle runs its slots, then its control code. -/
theorem issue_free {s : State} {e : Issue} {c : Ctl} {ms as_ ls : BitVec 20} (hmay : (ready e s).mayIssue e.strm = true)
    (hlegal : (atIssue e s).illCode e.strm (fetched (.free c) ms as_ ls) = 0) :
    s.issue e (fetched (.free c) ms as_ ls) = closed e.strm (((atIssue e s).runSlots e.strm (Slot.getOp .nop (decodeM ms))
      (Slot.getOp .nop (decodeA as_)) (Slot.getOp .nop (decodeL ls))).runCtl e.strm c) :=
  issue_legal s e _ c hmay rfl hlegal

/-- Settles O29: by `issue_legal` and what each control code does after the slots. -/
theorem controlCodesBesideOperations : Obligations.control_codes_beside_operations := by
  unfold Obligations.control_codes_beside_operations
  intro e k ms as_ ls s hmay
  refine ⟨fun h => ?nop, fun h => ?ls, fun h => ?le, fun h => ?ler, fun h => ?rot, fun h => ?pp⟩
  case nop => exact next_congr (issue_free hmay h)
  case ls => exact next_congr ((issue_free hmay h).trans (closed_runCtl_ls _ _ k))
  case le =>
    have hback := issue_free hmay h
    rw [runCtl_le] at hback
    exact next_congr hback
  case ler =>
    have hturn := issue_free hmay h
    rw [runCtl_ler, Datapath.rotate_eq_hold] at hturn
    exact next_congr hturn
  case rot => exact next_congr ((issue_free hmay h).trans (Datapath.runCtl_rot _ _))
  case pp =>
    refine next_congr ((issue_free hmay h).trans ?_)
    simp only [State.runCtl, Bool.and_eq_true, Bool.not_eq_true']

/-! ### Control codes that take their bundle (R222, R226, R227) -/

theorem low_bits_of_setWidth {w : Nat} (n : BitVec w) (h : w ≤ 20) : (n.setWidth 20).extractLsb' 0 w = n := by
  ext i hi
  simp [BitVec.getLsbD_eq_getElem hi, show i < 20 by omega]

theorem high_bits_of_setWidth {w k : Nat} (n : BitVec w) : (n.setWidth 20).extractLsb' w k = 0 := by
  ext i hi
  simp

theorem fetched_compete : ∀ mo : Motor,
    (fetched .compete 0 0 (BitVec.ofNat 20 mo.val)).arg = mo.val
      ∧ (fetched .compete 0 0 (BitVec.ofNat 20 mo.val)).l = .op .nop
      ∧ (fetched .compete 0 0 (BitVec.ofNat 20 mo.val)).badForm = false := by decide

/-- A bundle with nothing but its control code has no other fault outside a REP. -/
theorem legal_of_form {s : State} {x : Strm} {c : CtlCode} {l : BitVec 20} (hrep : (s.strm x).rep = 0)
    (hl : (fetched c 0 0 l).l = .op .nop) (hform : (fetched c 0 0 l).badForm = false) :
    s.illCode x (fetched c 0 0 l) = 0 := by
  have hm : (fetched c 0 0 l).m = .op .nop := by cases c <;> rfl
  have ha : (fetched c 0 0 l).a = .op .nop := by cases c <;> rfl
  exact form0 s x _ hm ha hl hform hrep

/-- Settles O30: by `issue_ctl` and `legal_of_form`. -/
theorem controlCodesThatTakeTheBundle : Obligations.control_codes_that_take_the_bundle := by
  unfold Obligations.control_codes_that_take_the_bundle
  intro e n6 n7 mo s hmay hrep
  refine ⟨?rep, ?ctxrun, ?compete, ?halt⟩
  case halt => exact next_congr (issue_ctl s e (fetched .halt 0 0 0) hmay (legal_of_form hrep rfl rfl))
  case rep =>
    have harg : (fetched .rep 0 0 (n6.setWidth 20)).arg = n6.toNat := congrArg BitVec.toNat (low_bits_of_setWidth n6 (by decide))
    have hform : (fetched .rep 0 0 (n6.setWidth 20)).badForm = false := by
      simp only [fetched, high_bits_of_setWidth]; rfl
    have hrun := issue_ctl s e (fetched .rep 0 0 (n6.setWidth 20)) hmay (legal_of_form hrep rfl hform)
    rw [harg] at hrun
    exact next_congr hrun
  case ctxrun =>
    have harg : (fetched .ctxrun 0 0 (n7.setWidth 20)).arg = n7.toNat := congrArg BitVec.toNat (low_bits_of_setWidth n7 (by decide))
    have hform : (fetched .ctxrun 0 0 (n7.setWidth 20)).badForm = false := by
      simp only [fetched, high_bits_of_setWidth]; rfl
    have hrun := issue_ctl s e (fetched .ctxrun 0 0 (n7.setWidth 20)) hmay (legal_of_form hrep rfl hform)
    rw [harg] at hrun
    exact next_congr (hrun.trans (apply_ite (closed e.strm) _ _ _))
  case compete =>
    obtain ⟨harg, hl, hform⟩ := fetched_compete mo
    have hrun := issue_ctl s e (fetched .compete 0 0 (BitVec.ofNat 20 mo.val)) hmay (legal_of_form hrep hl hform)
    rw [harg] at hrun
    exact next_congr (hrun.trans (apply_ite (closed e.strm) _ _ _))

/-- In a REP a bundle of another control code earns code 0x07 where it earns no lower one. -/
theorem illCode_repeated {s : State} {x : Strm} {f : Fetched} (hm : f.m = .op .nop) (ha : f.a = .op .nop) (hl : f.l = .op .nop)
    (hform : f.badForm = false) (hctl : f.ctl ≠ .free .nop) (hrep : (s.strm x).rep ≠ 0) : s.illCode x f = 0x07 := by
  simp [State.illCode, hm, ha, hl, hform, hctl, hrep, Slot.code, Slot.getOp, State.mSlot, State.aSlot, State.lSlot, SlotOut.empty,
    FlagWrite.none_, writesFlags, loopDest, accesses, dNumbers, twice, lowerCode]

/-- Settles O31: by `issue_ill`. -/
theorem illegalBundlesAndIdleStreams : Obligations.illegal_bundles_and_idle_streams := by
  unfold Obligations.illegal_bundles_and_idle_streams
  refine ⟨fun e k ctl ms as_ ls s hmay => ?_, fun e f s hidle => ?idle⟩
  · refine ⟨fun h => next_congr (issue_ill s e _ hmay h), fun h => next_congr (issue_ill s e _ hmay h),
      fun h => next_congr (issue_ill s e _ hmay h), fun h => next_congr (issue_ill s e _ hmay h),
      fun h => next_congr (issue_ill s e _ hmay h), fun h => next_congr (issue_ill s e _ hmay h),
      fun h => next_congr (issue_ill s e _ hmay h), fun h => next_congr (issue_ill s e _ hmay h),
      fun h => next_congr (issue_ill s e _ hmay h), fun h => next_congr (issue_ill s e _ hmay h), ?repeated⟩
    case repeated =>
      exact illCode_repeated rfl rfl rfl rfl (by decide)
  case idle =>
    change (ready e s).issueNow e f = ready e s
    exact if_pos (by rw [hidle]; rfl)

end Sys2Proof.LoadsAndControl


/-! SUPPORT. What the slots of a bundle change (R200, R201, R210, R254). -/

namespace Sys2Proof.OwnStream

open Sys2Proof Sys2Proof.Machine Sys2Proof.Safety Sys2Proof.Laws

theorem noteReads_of_no_error {s : State} {reads : List (Nat × Nat)} (h : ∀ r ∈ reads, s.errAt r.2 = none) :
    s.noteReads reads = s := by
  unfold State.noteReads
  induction reads with
  | nil => rfl
  | cons r rest ih =>
    have hhead : s.noteEcc r.1 r.2 = s := by
      unfold State.noteEcc
      rw [h r List.mem_cons_self]
      exact ite_self s
    rw [List.foldl_cons, hhead]
    exact ih fun q hq => h q (List.mem_cons_of_mem r hq)

/-- Only the stream's own part has changed, and it still issues the same bundle. -/
def OwnNow (x : Strm) (s u : State) : Prop := Own x s u ∧ (u.strm x).t = (s.strm x).t

theorem ownNow_refl (x : Strm) (s : State) : OwnNow x s s := ⟨own_refl x s, rfl⟩

theorem ownNow_trans {x : Strm} {s u v : State} (h1 : OwnNow x s u) (h2 : OwnNow x u v) : OwnNow x s v :=
  ⟨own_trans h1.1 h2.1, h2.2.trans h1.2⟩

theorem ownNow_fold {α : Type} {x : Strm} {f : State → α → State} (hf : ∀ s a, OwnNow x s (f s a)) (l : List α) (s : State) :
    OwnNow x s (l.foldl f s) :=
  List.foldlRecOn (motive := OwnNow x s) l f (ownNow_refl x s) fun u hu a _ => ownNow_trans hu (hf u a)

theorem ownNow_holdEffect (x : Strm) (t : Nat) (conf : Bool) (s : State) (e : Effect) :
    OwnNow x s (State.holdEffect x t conf s e) := ⟨own_set x s _, t_hold s x _⟩

theorem ownNow_holdFlags (x : Strm) (t k : Nat) (f : FlagWrite) (conf : Bool) (s : State) : OwnNow x s (s.holdFlags x t k f conf) :=
  ⟨own_flags x t k f conf s, t_holdFlags s x t k f conf⟩

theorem ownNow_postModify (x : Strm) (t : Nat) (s : State) (p : Nat × Nat × Nat) : OwnNow x s (State.postModify x t s p) :=
  ⟨own_post x t s p, by cases x <;> rfl⟩

/-- What keeps a store of a stream its own: a pass stores to no context word, pass B in time besides, and the B-program an X word
of its window. -/
def OwnStore (x : Strm) (s : State) (o : StoreOut) : Prop :=
  match x with
  | .passA => o.kind = 6 → o.addr < 0x7000
  | .passB => (o.kind = 6 → o.addr < 0x7000) ∧ s.tooLate s.ce.b.t = false
  | .bprog => o.kind = 5 ∧ s.inBWindow o.addr = true

theorem own_issueStore {x : Strm} {s : State} {o : StoreOut} (h : OwnStore x s o) : Own x s (s.issueStore x (s.strm x).t o) := by
  have hcontext (hlow : o.kind = 6 → o.addr < 0x7000) : ¬(o.kind = 6 ∧ 0x7000 ≤ o.addr ∧ (!s.ce.katRun) = true) :=
    fun ⟨hk, haddr, _⟩ => absurd (hlow hk) (not_lt.mpr haddr)
  cases x with
  | passA =>
    have hissue : s.issueStore .passA (s.strm .passA).t o
        = s.present .passA ⟨(s.strm .passA).t, ⟨(s.strm .passA).t, 2, o.kind, 0, false⟩, o.val.toNat, none, o.addr, none⟩ := by
      simp only [State.issueStore, Strm.isT, Strm.isB, if_neg (hcontext h), if_true, Bool.false_eq_true, false_and, if_false]
    rw [hissue]
    exact own_present _ _ _
  | passB =>
    obtain ⟨hlow, hlate⟩ := h
    have hissue : s.issueStore .passB (s.strm .passB).t o
        = s.present .passB ⟨(s.strm .passB).t, ⟨(s.strm .passB).t, 2, o.kind, 0, false⟩, o.val.toNat, none, o.addr, none⟩ := by
      simp only [State.issueStore, Strm.isT, Strm.isB, if_neg (hcontext hlow), if_true, State.strm, hlate, Bool.false_eq_true,
        and_false, if_false]
    rw [hissue]
    exact own_present _ _ _
  | bprog =>
    rw [State.issueStore, if_neg (by decide)]
    rw [if_pos (show o.kind = 5 ∧ s.inBWindow o.addr = true from h)]
    exact own_set _ _ _

/-- A store may be issued on what the slots have left of the stream: they changed nothing that decides it. -/
theorem ownStore_of_ownNow {x : Strm} {s u : State} {o : StoreOut} (hown : OwnNow x s u) (h : OwnStore x s o) : OwnStore x u o := by
  obtain ⟨hown, ht⟩ := hown
  cases x with
  | passA => exact h
  | passB =>
    obtain ⟨st, buf, rfl⟩ := hown
    exact ⟨h.1, ht ▸ h.2⟩
  | bprog => obtain ⟨st, rfl⟩ := hown; exact h

/-- What the three slots hold and modify, before a store. -/
def slotsHeld (x : Strm) (s : State) (m a l : SlotOut) : State :=
  let t := (s.strm x).t
  let s := m.effs.foldl (State.holdEffect x t false) s
  let s := a.effs.foldl (State.holdEffect x t false) s
  let s := l.effs.foldl (State.holdEffect x t false) s
  l.posts.foldl (State.postModify x t) (s.holdFlags x t (flagSlot m.fl a.fl) ((m.fl.or a.fl).or l.fl) false)

theorem ownNow_slotsHeld (x : Strm) (s : State) (m a l : SlotOut) : OwnNow x s (slotsHeld x s m a l) := by
  have heffs (effs : List Effect) (u : State) := ownNow_fold (ownNow_holdEffect x (s.strm x).t false) effs u
  exact ownNow_trans (heffs m.effs s) (ownNow_trans (heffs a.effs _) (ownNow_trans (heffs l.effs _)
    (ownNow_trans (ownNow_holdFlags _ _ _ _ _ _) (ownNow_fold (ownNow_postModify x _) l.posts _))))

theorem own_runSlots {x : Strm} {m : MOp} {a : AOp} {l : LOp} {s : State}
    (hm : (s.mSlot x m).conf = false) (ha : (s.aSlot x a).conf = false) (hl : (s.lSlot x l).conf = false)
    (hmin : (s.lSlot x l).xmin = false) (hreads : ∀ r ∈ (s.lSlot x l).reads, s.errAt r.2 = none)
    (hstore : ∀ o, (s.lSlot x l).stored = some o → OwnStore x s o) : Own x s (s.runSlots x m a l) := by
  have hheld := ownNow_slotsHeld x s (s.mSlot x m) (s.aSlot x a) (s.lSlot x l)
  cases hs : (s.lSlot x l).stored with
  | none =>
    have hrun : s.runSlots x m a l = slotsHeld x s (s.mSlot x m) (s.aSlot x a) (s.lSlot x l) := by
      simp only [State.runSlots, hm, ha, hl, hmin, hs, noteReads_of_no_error hreads, Bool.false_and, Bool.or_false,
        Bool.false_eq_true, if_false, slotsHeld]
    rw [hrun]
    exact hheld.1
  | some o =>
    have hrun : s.runSlots x m a l
        = (slotsHeld x s (s.mSlot x m) (s.aSlot x a) (s.lSlot x l)).issueStore x (s.strm x).t o := by
      simp only [State.runSlots, hm, ha, hl, hmin, hs, noteReads_of_no_error hreads, Bool.false_and, Bool.or_false,
        Bool.false_eq_true, if_false, slotsHeld]
    have hissue := own_issueStore (ownStore_of_ownNow hheld (hstore o hs))
    rw [hheld.2] at hissue
    rw [hrun]
    exact own_trans hheld.1 hissue

/-- Settles O32: by `own_runSlots`. -/
theorem slotsTouchTheirOwnStream : Obligations.slots_touch_their_own_stream := by
  unfold Obligations.slots_touch_their_own_stream
  intro x m a l s hm ha hl hmin hreads
  refine ⟨?passA, ?passB, ?bprog⟩
  case passA => rintro rfl hstore; exact own_runSlots hm ha hl hmin hreads hstore
  case passB => rintro rfl hstore; exact own_runSlots hm ha hl hmin hreads hstore
  case bprog => rintro rfl hstore; exact own_runSlots hm ha hl hmin hreads hstore

end Sys2Proof.OwnStream


/-! SUPPORT. The two passes of the T-program reach exact negations of each other (R213, R235, R237, R254, R257, R259). -/

namespace Sys2Proof.Passes

open Sys2Proof Sys2Proof.Machine Sys2Proof.Safety Sys2Proof.Laws Sys2Proof.OneOperation

/-! ### Mirrored values -/

/-- The value pass B has where pass A has `v` under tag `t`. -/
def mirror (t : Bool) (v : Int) : Int := if t then -v else v

@[simp] theorem mirror_false (v : Int) : mirror false v = v := rfl

@[simp] theorem mirror_true (v : Int) : mirror true v = -v := rfl

theorem mirror_mul (t : Bool) (v c : Int) : mirror t v * c = mirror t (v * c) := by cases t <;> simp

theorem mul_mirror (t : Bool) (c v : Int) : c * mirror t v = mirror t (c * v) := by cases t <;> simp

theorem mirror_add (t : Bool) (v w : Int) : mirror t v + mirror t w = mirror t (v + w) := by
  cases t with
  | false => rfl
  | true => simp only [mirror_true]; ring

theorem neg_mirror (t : Bool) (v : Int) : -mirror t v = mirror t (-v) := by cases t <;> simp

theorem rne_mirror (t : Bool) (v : Int) (k : Nat) : rne (mirror t v) k = mirror t (rne v k) := by
  cases t with
  | false => rfl
  | true => exact roundDiv_neg v _ (Nat.two_pow_pos k)

theorem sinWord_odd (a : Int) : sinWord (-a) = -sinWord a := by
  rcases lt_trichotomy a 0 with h | rfl | h
  · rw [sinWord_neg h, neg_neg]
  · rfl
  · rw [sinWord_neg (by omega), neg_neg]

theorem sinWord_mirror (t : Bool) (a : Int) : sinWord (mirror t a) = mirror t (sinWord a) := by
  cases t with
  | false => rfl
  | true => exact sinWord_odd a

theorem cosWord_mirror (t : Bool) (a : Int) : cosWord (mirror t a) = cosWord a := by
  cases t with
  | false => rfl
  | true => simp only [mirror_true, cosWord, Int.natAbs_neg]

theorem natAbs_mirror (t : Bool) (a : Int) : (mirror t a).natAbs = a.natAbs := by
  cases t with
  | false => rfl
  | true => exact Int.natAbs_neg a

/-- A saturated or wrapped result is mirrored with its value, unless it is the word without a negation. -/
theorem satW_mirror {w : Nat} (hw : 0 < w) (t sat : Bool) (v : Int) (h : t = true → fieldOf w (satW w sat v).1 ≠ 2 ^ (w - 1)) :
    satW w sat (mirror t v) = (mirror t (satW w sat v).1, (satW w sat v).2) := by
  cases t with
  | false => rfl
  | true =>
    cases sat with
    | true => exact satW_saturated_neg w v
    | false =>
      have hfield := h rfl
      obtain ⟨_, _, hkeep, hmin⟩ := wrap_range w hw v
      rw [show fieldOf w (satW w false v).1 = fieldOf w v from hkeep] at hfield
      exact satW_wrapped_neg hw fun hv => hfield (hmin.mp hv)

theorem flagsNZ_mirror (t : Bool) (r : Int) : flagsNZ true t (mirror t r) = flagsNZ false t r := by
  cases t with
  | false => rfl
  | true =>
    simp only [flagsNZ, mirror_true, neg_eq_zero, Left.neg_pos_iff, Bool.and_true, if_true, Bool.false_eq_true, if_false]

/-! ### Results in agreement -/

theorem resultsAgree_self {e : Effect} (h : e.tag = false) : resultsAgree e e := by
  refine ⟨rfl, rfl, rfl, ?_⟩
  simp only [agrees, shown, shownTag, h]
  split_ifs <;> simp

/-- A result and its mirror agree where it has a negation in its register. -/
theorem agrees_mirror {d : Dest} {lat slot kind num : Nat} {tag vis : Bool} {r : Int} (hkind : kind ≤ 1)
    (h : tag = true → fieldOf (if kind = 1 then 72 else 32) r ≠ 2 ^ (if kind = 1 then 71 else 31)) :
    resultsAgree ⟨d, fieldOf (if kind = 1 then 72 else 32) r, tag, lat, slot, kind, num, vis⟩
      ⟨d, fieldOf (if kind = 1 then 72 else 32) (mirror tag r), tag, lat, slot, kind, num, vis⟩ := by
  refine ⟨rfl, rfl, rfl, ?_⟩
  cases tag with
  | false => simp [agrees, shown, shownTag, hkind]
  | true =>
    have hw : 0 < (if kind = 1 then 72 else 32) := by split_ifs <;> decide
    have hneg := wrap_neg (if kind = 1 then 72 else 32) hw r (by convert h rfl using 2; split_ifs <;> rfl)
    simp only [agrees, shown, shownTag, hkind, if_true, negated, mirror_true, hneg, neg_neg]
    simp

theorem dResult_agrees {slot p lat : Nat} {tag : Bool} {r : Int} (h : tag = true → fieldOf 32 r ≠ 2 ^ 31) :
    resultsAgree (dResult slot p r tag lat) (dResult slot p (mirror tag r) tag lat) :=
  agrees_mirror (kind := 0) (by decide) h

theorem accResult_agrees {n : BitVec 2} {tag : Bool} {r : Int} (h : tag = true → fieldOf 72 r ≠ 2 ^ 71) :
    List.Forall₂ resultsAgree (accResult n r tag) (accResult n (mirror tag r) tag) :=
  .cons (agrees_mirror (kind := 1) le_rfl h) (.cons (agrees_mirror (kind := 1) le_rfl h) .nil)

/-! ### Operands (R254) -/

theorem twinWords_mirror {w : Nat} {a b : BitVec w} {sa sb : Bool} (h : twinWords a b sa sb) :
    sb = sa ∧ b.toInt = mirror sa a.toInt := by
  obtain ⟨rfl, hc, hs⟩ := h
  refine ⟨rfl, ?_⟩
  cases sa with
  | false => rw [hc rfl]; rfl
  | true => exact hs rfl

section
variable {s : State} (htwin : passesTwin s)
include htwin

theorem rrbOf_twin : s.rrbOf .passB = s.rrbOf .passA := htwin.1.symm

theorem flagsOf_twin : s.flagsOf .passB = s.flagsOf .passA := htwin.2.1.symm

theorem dName_twin (k : BitVec 5) : s.dName .passB k = s.dName .passA k := by
  rw [State.dName, State.dName, rrbOf_twin htwin]

theorem dRead_twin (k : BitVec 5) : (s.dRead .passB k).s = (s.dRead .passA k).s
    ∧ (s.dRead .passB k).v.toInt = mirror (s.dRead .passA k).s (s.dRead .passA k).v.toInt := by
  have hname : s.dName .passA k < 32 := by
    unfold State.dName dPhys
    split_ifs <;> omega
  have hread : s.dRead .passB k = lookup s.ce.b.d ⟨0, false⟩ (31 - s.dName .passA k) := by
    rw [State.dRead, dName_twin htwin]; rfl
  obtain ⟨_, _, _, hd, _⟩ := htwin
  rw [hread]
  exact twinWords_mirror (hd _ hname)

theorem accNear_twin (n : BitVec 2) : (s.accNear .passB n).s = (s.accNear .passA n).s
    ∧ (s.accNear .passB n).v.toInt = mirror (s.accNear .passA n).s (s.accNear .passA n).v.toInt := by
  obtain ⟨_, _, _, _, hnear, _⟩ := htwin
  exact twinWords_mirror (hnear n.toNat n.isLt)

theorem accFar_twin (n : BitVec 2) : (s.accFar .passB n).s = (s.accFar .passA n).s
    ∧ (s.accFar .passB n).v.toInt = mirror (s.accFar .passA n).s (s.accFar .passA n).v.toInt := by
  obtain ⟨_, _, _, _, _, hfar, _⟩ := htwin
  exact twinWords_mirror (hfar n.toNat n.isLt)

theorem access_twin {n : Nat} (hn : n < 8) (m : PMod) : s.access .passB n m = s.access .passA n m := by
  obtain ⟨_, _, _, _, _, _, hp, _⟩ := htwin
  obtain ⟨hp, hpm, hpl⟩ := hp n hn
  simp only [State.access, State.pRead, State.pmRead, State.plRead, State.strm, Strm.pIdx, Strm.isB, if_true,
    Bool.false_eq_true, if_false, hp, hpm, hpl]

theorem specialRead_twin (r : SReg) : s.specialRead .passB r = s.specialRead .passA r := by
  obtain ⟨hrrb, hflags, hlc, _, _, _, hp, _⟩ := htwin
  cases r with
  | p n => exact congrArg Nat.cast (hp n.toNat n.isLt).1.symm
  | pm n => exact congrArg (signedOf 16) (hp n.toNat n.isLt).2.1.symm
  | pl n => exact congrArg Nat.cast (hp n.toNat n.isLt).2.2.symm
  | lc k => exact congrArg Nat.cast (hlc k.toNat).symm
  | rrb => exact congrArg Nat.cast hrrb.symm
  | flags => exact congrArg Nat.cast hflags.symm

theorem product_twin (da db : BitVec 5) :
    product .passB (s.dRead .passB da) (s.dRead .passB db)
      = mirror ((s.dRead .passA da).s || (s.dRead .passA db).s) (product .passA (s.dRead .passA da) (s.dRead .passA db)) := by
  obtain ⟨hsa, hva⟩ := dRead_twin htwin da
  obtain ⟨hsb, hvb⟩ := dRead_twin htwin db
  simp only [product, hsa, hva, hsb, hvb]
  cases (s.dRead .passA da).s <;> cases (s.dRead .passA db).s <;> simp [Strm.isB]

end

/-! ### Slots in agreement -/

/-- Slots with one D result each agree when, without a conflict, the results mirror each other and the flags are alike. -/
theorem slotsAgree_of_dResult {slot p lat : Nat} {tag conf : Bool} {r r' : Int} {fl fl' : FlagWrite}
    (h : conf = false → (tag = true → fieldOf 32 r ≠ 2 ^ 31) → r' = mirror tag r ∧ fl' = fl) :
    slotsAgree { SlotOut.empty with effs := [dResult slot p r tag lat], fl := fl, conf := conf }
      { SlotOut.empty with effs := [dResult slot p r' tag lat], fl := fl', conf := conf } := by
  refine ⟨rfl, fun hconf hneg => ?_⟩
  have hfield : tag = true → fieldOf 32 r ≠ 2 ^ 31 := hneg _ (List.mem_singleton_self _)
  obtain ⟨rfl, rfl⟩ := h hconf hfield
  exact ⟨rfl, rfl, rfl, rfl, .cons (dResult_agrees hfield) .nil⟩

/-- Slots with one accumulator result each agree when, without a conflict, the results mirror each other and the flags are
alike. -/
theorem slotsAgree_of_accResult {n : BitVec 2} {tag conf : Bool} {r r' : Int} {fl fl' : FlagWrite}
    (h : conf = false → (tag = true → fieldOf 72 r ≠ 2 ^ 71) → r' = mirror tag r ∧ fl' = fl) :
    slotsAgree { SlotOut.empty with effs := accResult n r tag, fl := fl, conf := conf }
      { SlotOut.empty with effs := accResult n r' tag, fl := fl', conf := conf } := by
  refine ⟨rfl, fun hconf hneg => ?_⟩
  have hfield : tag = true → fieldOf 72 r ≠ 2 ^ 71 := hneg _ List.mem_cons_self
  obtain ⟨rfl, rfl⟩ := h hconf hfield
  exact ⟨rfl, rfl, rfl, rfl, accResult_agrees hfield⟩

/-- A D result and V of one value, rounded to the word. -/
theorem slotsAgree_of_word {slot p lat : Nat} {sat tag conf : Bool} {v v' : Int} (h : conf = false → v' = mirror tag v) :
    slotsAgree { SlotOut.empty with effs := [dResult slot p (satW 32 sat v).1 tag lat], fl := flagsV (satW 32 sat v).2, conf := conf }
      { SlotOut.empty with effs := [dResult slot p (satW 32 sat v').1 tag lat], fl := flagsV (satW 32 sat v').2, conf := conf } :=
  slotsAgree_of_dResult fun hconf hfield => by
    rw [h hconf, satW_mirror (by decide) tag sat v hfield]
    exact ⟨rfl, rfl⟩

/-- An accumulator result and V of one value. -/
theorem slotsAgree_of_acc {n : BitVec 2} {sat tag conf : Bool} {v v' : Int} (h : conf = false → v' = mirror tag v) :
    slotsAgree { SlotOut.empty with effs := accResult n (satW 72 sat v).1 tag, fl := flagsV (satW 72 sat v).2, conf := conf }
      { SlotOut.empty with effs := accResult n (satW 72 sat v').1 tag, fl := flagsV (satW 72 sat v').2, conf := conf } :=
  slotsAgree_of_accResult fun hconf hfield => by
    rw [h hconf, satW_mirror (by decide) tag sat v hfield]
    exact ⟨rfl, rfl⟩

/-- Without a conflict the tags of an additive operation are one tag. -/
theorem tags_of_no_conflict {a b : Bool} (h : (a != b) = false) : b = a ∧ (a || b) = a := by
  cases a <;> cases b <;> simp_all

theorem slotsAgree_refl {o : SlotOut} (h : ∀ e ∈ o.effs, e.tag = false) : slotsAgree o o :=
  ⟨rfl, fun _ _ => ⟨rfl, rfl, rfl, rfl, List.forall₂_same.mpr fun e he => resultsAgree_self (h e he)⟩⟩

/-! ### The M slot -/

section
variable {s : State} (htwin : passesTwin s)
include htwin

theorem accumulate_agrees (sat : Bool) (n : BitVec 2) (da db : BitVec 5) (g : Int) :
    slotsAgree (s.accumulate .passA sat n da db g) (s.accumulate .passB sat n da db g) := by
  obtain ⟨hsc, hvc⟩ := accNear_twin htwin n
  simp only [State.accumulate, addTag, (dRead_twin htwin da).1, (dRead_twin htwin db).1, product_twin htwin, hsc, hvc]
  refine slotsAgree_of_acc fun hconf => ?_
  obtain ⟨hp, ht⟩ := tags_of_no_conflict hconf
  rw [ht, hp, mul_mirror, mul_mirror, mirror_add]

theorem accSum_agrees (sat : Bool) (n m : BitVec 2) (g : Int) :
    slotsAgree (s.accSum .passA sat n m g) (s.accSum .passB sat n m g) := by
  obtain ⟨hsn, hvn⟩ := accNear_twin htwin n
  obtain ⟨hsm, hvm⟩ := accFar_twin htwin m
  unfold State.accSum
  by_cases hnm : n = m
  · simp only [addTag, hnm, if_true] at hsn hvn ⊢
    simp only [hsn, hvn]
    refine slotsAgree_of_acc fun hconf => ?_
    rw [Bool.or_self, mul_mirror, mirror_add]
  · simp only [addTag, if_neg hnm, hsn, hvn, hsm, hvm]
    refine slotsAgree_of_acc fun hconf => ?_
    obtain ⟨hp, ht⟩ := tags_of_no_conflict hconf
    rw [ht, hp, mul_mirror, mirror_add]

theorem mSlot_agrees (m : MOp) : slotsAgree (s.mSlot .passA m) (s.mSlot .passB m) := by
  cases m with
  | nop => exact slotsAgree_refl (by simp [State.mSlot, SlotOut.empty])
  | mpy sat dd da db =>
    simp only [State.mSlot, State.opMpy, (dRead_twin htwin da).1, (dRead_twin htwin db).1, product_twin htwin, dName_twin htwin]
    exact slotsAgree_of_word fun _ => rne_mirror _ _ _
  | mpa sat n da db =>
    simp only [State.mSlot, State.opMpa, (dRead_twin htwin da).1, (dRead_twin htwin db).1, product_twin htwin]
    exact slotsAgree_of_acc fun _ => mul_mirror _ _ _
  | mac sat n da db => exact accumulate_agrees htwin sat n da db 1
  | msu sat n da db => exact accumulate_agrees htwin sat n da db (-1)
  | mva sat dd n sh =>
    simp only [State.mSlot, State.opMva, (accFar_twin htwin n).1, (accFar_twin htwin n).2, dName_twin htwin]
    exact slotsAgree_of_word fun _ => by rw [mirror_mul, rne_mirror]
  | lda sat n da =>
    simp only [State.mSlot, State.opLda, (dRead_twin htwin da).1, (dRead_twin htwin da).2]
    exact slotsAgree_of_accResult fun _ _ => ⟨mirror_mul _ _ _, rfl⟩
  | clra n t => exact slotsAgree_of_accResult fun _ _ => ⟨by cases t <;> rfl, rfl⟩
  | adda sat n m => exact accSum_agrees htwin sat n m 1
  | suba sat n m => exact accSum_agrees htwin sat n m (-1)
  | nega sat n m =>
    simp only [State.mSlot, State.opNega, (accFar_twin htwin m).1, (accFar_twin htwin m).2]
    exact slotsAgree_of_acc fun _ => neg_mirror _ _
  | muli sat dd da db =>
    obtain ⟨hsa, hva⟩ := dRead_twin htwin da
    obtain ⟨hsb, hvb⟩ := dRead_twin htwin db
    simp only [State.mSlot, State.opMuli, hsa, hva, hsb, hvb, dName_twin htwin]
    refine slotsAgree_of_word fun hconf => ?_
    obtain ⟨ha, hb⟩ := Bool.or_eq_false_iff.mp hconf
    rw [ha, hb]
    rfl

end

/-! ### The A slot -/

theorem flagsNZ_or_mirror (tag : Bool) (r : Int) (f : FlagWrite) :
    (flagsNZ (Strm.isB .passB) tag (mirror tag r)).or f = (flagsNZ (Strm.isB .passA) tag r).or f :=
  congrArg (FlagWrite.or · f) (flagsNZ_mirror tag r)

theorem divQ31_mirror (t : Bool) (a b : Int) : divQ31 (mirror t a) b = (mirror t (divQ31 a b).1, (divQ31 a b).2) := by
  cases t with
  | false => rfl
  | true => exact SlotA.divQ31_neg a b

theorem condHolds_mirror (c : Cond) (a b : Int) : condHolds (condMirror c) (-a) (-b) = condHolds c a b := by
  cases c <;> simp [condHolds, condMirror]

section
variable {s : State} (htwin : passesTwin s)
include htwin

/-- A-slot results that mirror each other, with the same flags beside N and Z. -/
theorem aResult_agrees {dd : BitVec 5} {r r' : Int} {tag conf : Bool} {lat : Nat} {more more' : FlagWrite}
    (h : conf = false → (tag = true → fieldOf 32 r ≠ 2 ^ 31) → r' = mirror tag r ∧ more' = more) :
    slotsAgree (s.aResult .passA dd r tag conf lat more) (s.aResult .passB dd r' tag conf lat more') := by
  unfold State.aResult
  rw [dName_twin htwin]
  refine slotsAgree_of_dResult fun hconf hfield => ?_
  obtain ⟨rfl, rfl⟩ := h hconf hfield
  exact ⟨rfl, flagsNZ_or_mirror tag r _⟩

/-- The same for a value rounded to the word, with V. -/
theorem aResult_agrees_of_word {dd : BitVec 5} {v v' : Int} {sat tag conf : Bool} {lat : Nat}
    (h : conf = false → v' = mirror tag v) :
    slotsAgree (s.aResult .passA dd (satW 32 sat v).1 tag conf lat (flagsV (satW 32 sat v).2))
      (s.aResult .passB dd (satW 32 sat v').1 tag conf lat (flagsV (satW 32 sat v').2)) :=
  aResult_agrees htwin fun hconf hfield => by
    rw [h hconf, satW_mirror (by decide) tag sat v hfield]
    exact ⟨rfl, rfl⟩

theorem opSum_agrees (sat : Bool) (dd da db : BitVec 5) (g : Int) :
    slotsAgree (s.opSum .passA sat dd da db g) (s.opSum .passB sat dd da db g) := by
  obtain ⟨hsa, hva⟩ := dRead_twin htwin da
  obtain ⟨hsb, hvb⟩ := dRead_twin htwin db
  simp only [State.opSum, addTag, hsa, hva, hsb, hvb]
  refine aResult_agrees_of_word htwin fun hconf => ?_
  obtain ⟨hp, ht⟩ := tags_of_no_conflict hconf
  rw [ht, hp, mul_mirror, mirror_add]

theorem opExtreme_agrees (dd da db : BitVec 5) (least : Bool) :
    slotsAgree (s.opExtreme .passA dd da db least) (s.opExtreme .passB dd da db least) := by
  obtain ⟨hsa, hva⟩ := dRead_twin htwin da
  obtain ⟨hsb, hvb⟩ := dRead_twin htwin db
  simp only [opExtreme_eq, hsa, hva, hsb, hvb]
  refine aResult_agrees htwin fun hconf _ => ⟨?_, rfl⟩
  obtain ⟨hp, ht⟩ := tags_of_no_conflict hconf
  rw [ht, hp]
  cases (s.dRead .passA da).s <;> cases least <;> simp [Strm.isB, min_neg_neg, max_neg_neg]

theorem opSel_agrees (dd da db : BitVec 5) : slotsAgree (s.opSel .passA dd da db) (s.opSel .passB dd da db) := by
  obtain ⟨hsa, hva⟩ := dRead_twin htwin da
  obtain ⟨hsb, hvb⟩ := dRead_twin htwin db
  simp only [State.opSel, addTag, hsa, hva, hsb, hvb, dName_twin htwin, flagsOf_twin htwin]
  refine slotsAgree_of_dResult fun hconf _ => ⟨?_, rfl⟩
  obtain ⟨hp, ht⟩ := tags_of_no_conflict hconf
  rw [ht, hp]
  exact (apply_ite (mirror _) _ _ _).symm

theorem opCmp_agrees (c : Cond) (da db : BitVec 5) : slotsAgree (s.opCmp .passA c da db) (s.opCmp .passB c da db) := by
  obtain ⟨hsa, hva⟩ := dRead_twin htwin da
  obtain ⟨hsb, hvb⟩ := dRead_twin htwin db
  simp only [State.opCmp, hsa, hva, hsb, hvb]
  refine ⟨rfl, fun hconf _ => ⟨?_, rfl, rfl, rfl, .nil⟩⟩
  obtain ⟨hp, -⟩ := tags_of_no_conflict hconf
  rw [hp]
  cases (s.dRead .passA da).s <;> simp [Strm.isB, condHolds_mirror]

theorem opDiv_agrees (dd da db : BitVec 5) : slotsAgree (s.opDiv .passA dd da db) (s.opDiv .passB dd da db) := by
  obtain ⟨hsa, hva⟩ := dRead_twin htwin da
  obtain ⟨hsb, hvb⟩ := dRead_twin htwin db
  have hdivisor : (if (s.dRead .passA db).s then -mirror (s.dRead .passA db).s (s.dRead .passA db).v.toInt
      else mirror (s.dRead .passA db).s (s.dRead .passA db).v.toInt) = (s.dRead .passA db).v.toInt := by
    cases (s.dRead .passA db).s <;> simp
  simp only [State.opDiv, hsa, hva, hsb, hvb, Strm.isB, Bool.true_and, Bool.false_and, Bool.false_eq_true, if_false, hdivisor,
    divQ31_mirror]
  refine aResult_agrees htwin fun _ _ => ⟨?_, rfl⟩
  cases (s.dRead .passA da).s <;> cases (s.dRead .passA db).s <;> simp

theorem opRsqrt_agrees (dd da : BitVec 5) : slotsAgree (s.opRsqrt .passA dd da) (s.opRsqrt .passB dd da) := by
  obtain ⟨hsa, hva⟩ := dRead_twin htwin da
  simp only [State.opRsqrt, hsa, hva, Strm.isB, Bool.true_and, Bool.false_and, Bool.false_eq_true, if_false]
  cases (s.dRead .passA da).s <;>
    exact aResult_agrees htwin fun _ _ => ⟨by simp, by simp⟩

theorem opBits_agrees {dd : BitVec 5} {w w' : Word} {tagged : Bool} (h : tagged = false → w' = w) :
    slotsAgree (s.opBits .passA dd w tagged) (s.opBits .passB dd w' tagged) :=
  aResult_agrees htwin fun hconf _ => by rw [h hconf, hconf]; exact ⟨rfl, rfl⟩

/-- A C-tagged operand is the same word in both passes. -/
theorem dRead_of_plain {k : BitVec 5} (h : (s.dRead .passA k).s = false) : (s.dRead .passB k).v = (s.dRead .passA k).v := by
  have hv := (dRead_twin htwin k).2
  rw [h] at hv
  exact BitVec.eq_of_toInt_eq hv

theorem opLogic_agrees (dd da db : BitVec 5) (f : Word → Word → Word) :
    slotsAgree (s.opLogic .passA dd da db f) (s.opLogic .passB dd da db f) := by
  simp only [State.opLogic, (dRead_twin htwin da).1, (dRead_twin htwin db).1]
  refine opBits_agrees htwin fun hplain => ?_
  obtain ⟨ha, hb⟩ := Bool.or_eq_false_iff.mp hplain
  rw [dRead_of_plain htwin ha, dRead_of_plain htwin hb]

theorem aSlot_agrees (a : AOp) : slotsAgree (s.aSlot .passA a) (s.aSlot .passB a) := by
  cases a with
  | nop => exact slotsAgree_refl (by simp [State.aSlot, SlotOut.empty])
  | add sat dd da db => exact opSum_agrees htwin sat dd da db 1
  | sub sat dd da db => exact opSum_agrees htwin sat dd da db (-1)
  | min sat dd da db => exact opExtreme_agrees htwin dd da db true
  | max sat dd da db => exact opExtreme_agrees htwin dd da db false
  | sel sat dd da db => exact opSel_agrees htwin dd da db
  | cmp sat c da db => exact opCmp_agrees htwin c da db
  | div dd da db => exact opDiv_agrees htwin dd da db
  | rsqrt dd da => exact opRsqrt_agrees htwin dd da
  | and sat dd da db => exact opLogic_agrees htwin dd da db _
  | or sat dd da db => exact opLogic_agrees htwin dd da db _
  | xor sat dd da db => exact opLogic_agrees htwin dd da db _
  | asr sat dd da n =>
    simp only [State.aSlot, State.opAsr, (dRead_twin htwin da).1, (dRead_twin htwin da).2]
    exact aResult_agrees htwin fun _ _ => ⟨rne_mirror _ _ _, rfl⟩
  | asl sat dd da n =>
    simp only [State.aSlot, State.opAsl, (dRead_twin htwin da).1, (dRead_twin htwin da).2]
    exact aResult_agrees_of_word htwin fun _ => mirror_mul _ _ _
  | mov sat dd da =>
    simp only [State.aSlot, State.opMov, (dRead_twin htwin da).1, (dRead_twin htwin da).2]
    exact aResult_agrees htwin fun _ _ => ⟨rfl, rfl⟩
  | neg sat dd da =>
    simp only [State.aSlot, State.opNeg, (dRead_twin htwin da).1, (dRead_twin htwin da).2]
    exact aResult_agrees_of_word htwin fun _ => neg_mirror _ _
  | abs sat dd da =>
    simp only [State.aSlot, State.opAbs, (dRead_twin htwin da).1, (dRead_twin htwin da).2, natAbs_mirror]
    exact aResult_agrees htwin fun _ _ => ⟨by cases (s.dRead .passA da).s <;> rfl, rfl⟩
  | sin sat dd da =>
    simp only [State.aSlot, State.opSin, (dRead_twin htwin da).1, (dRead_twin htwin da).2]
    exact aResult_agrees htwin fun _ _ => ⟨sinWord_mirror _ _, rfl⟩
  | cos sat dd da =>
    simp only [State.aSlot, State.opCos, (dRead_twin htwin da).1, (dRead_twin htwin da).2, cosWord_mirror]
    exact aResult_agrees htwin fun _ _ => ⟨by cases (s.dRead .passA da).s <;> rfl, rfl⟩
  | not sat dd da =>
    simp only [State.aSlot, State.opNot, (dRead_twin htwin da).1]
    exact opBits_agrees htwin fun hplain => by rw [dRead_of_plain htwin hplain]
  | addi sat dd da i =>
    simp only [State.aSlot, State.opAddi, (dRead_twin htwin da).1, (dRead_twin htwin da).2]
    exact aResult_agrees_of_word htwin fun hplain => by rw [hplain]; rfl

end

/-! ### The L slot -/

/-- Pass A takes 0x8000_0000 of a T-program as the word above it, so that every loaded value has a negation (R256). -/
theorem loadValue_mirror (w : Word) : loadValue .passB w = mirror true (loadValue .passA w) := rfl

theorem tag_of_specialWrite {r : SReg} {v : Nat} : ∀ e ∈ (specialWrite r v).effs, e.tag = false := by
  cases r <;> simp [specialWrite, SlotOut.empty]

theorem specialWrite_agrees (r : SReg) (v : Nat) : slotsAgree (specialWrite r v) (specialWrite r v) :=
  slotsAgree_refl tag_of_specialWrite

theorem opLdim_agrees (k : ImmDst) : slotsAgree (opLdim k) (opLdim k) := by
  cases k <;> exact specialWrite_agrees _ _

section
variable {s : State} (htwin : passesTwin s)
include htwin

theorem xSeen_twin (a : Nat) : s.xSeen .passB a = s.xSeen .passA a := by
  obtain ⟨_, _, _, _, _, _, _, hx, _⟩ := htwin
  exact (hx a).symm

theorem ySeen_twin (a : Nat) : s.ySeen .passB a = s.ySeen .passA a := by
  obtain ⟨_, _, _, _, _, _, _, _, hy⟩ := htwin
  exact (hy a).symm

theorem xLoad_agrees {p n lat a : Nat} (hneg : negatable (dResult 2 n (loadValue .passA (s.xSeen .passA a)) true lat)) :
    resultsAgree (dResult 2 p (loadValue .passA (s.xSeen .passA a)) true lat)
      (dResult 2 p (loadValue .passB (s.xSeen .passB a)) true lat) := by
  rw [xSeen_twin htwin, loadValue_mirror]
  exact dResult_agrees hneg

theorem opLdx_agrees (dd : BitVec 5) {p : Nat} (hp : p < 8) (m : PMod) :
    slotsAgree (s.opLdx .passA dd p m) (s.opLdx .passB dd p m) := by
  simp only [State.opLdx, access_twin htwin hp, dName_twin htwin]
  refine ⟨rfl, fun _ hneg => ⟨rfl, rfl, rfl, ?_, .cons (xLoad_agrees htwin (hneg _ List.mem_cons_self)) .nil⟩⟩
  rw [xSeen_twin htwin]
  rfl

theorem opLdy_agrees (dd : BitVec 5) {p : Nat} (hp : p < 8) (m : PMod) :
    slotsAgree (s.opLdy .passA dd p m) (s.opLdy .passB dd p m) := by
  simp only [State.opLdy, access_twin htwin hp, dName_twin htwin, ySeen_twin htwin]
  exact ⟨rfl, fun _ _ => ⟨rfl, rfl, rfl, rfl, .cons (resultsAgree_self rfl) .nil⟩⟩

theorem opLdxy_agrees (dx dy : BitVec 5) (px py : BitVec 2) (mx my : PMod2) :
    slotsAgree (s.opLdxy .passA dx dy px py mx my) (s.opLdxy .passB dx dy px py mx my) := by
  have hx : px.toNat < 8 := by omega
  have hy : 4 + py.toNat < 8 := by omega
  simp only [State.opLdxy, State.opLdx, access_twin htwin hx, access_twin htwin hy, dName_twin htwin, ySeen_twin htwin]
  refine ⟨rfl, fun _ hneg => ⟨rfl, rfl, rfl, ?_,
    .cons (xLoad_agrees htwin (hneg _ List.mem_cons_self)) (.cons (resultsAgree_self rfl) .nil)⟩⟩
  rw [xSeen_twin htwin]
  rfl

/-- Pass B negates an S-tagged value on its way to memory, back to the word of pass A. -/
theorem stored_twin (k : BitVec 5) :
    (if (s.dRead .passB k).s then -(s.dRead .passB k).v else (s.dRead .passB k).v) = (s.dRead .passA k).v := by
  obtain ⟨htag, hv⟩ := dRead_twin htwin k
  rw [htag]
  cases hs : (s.dRead .passA k).s with
  | false => exact dRead_of_plain htwin hs
  | true =>
    rw [hs, mirror_true] at hv
    apply BitVec.eq_of_toInt_eq
    rw [if_pos rfl, BitVec.toInt_neg, hv, neg_neg, BitVec.toInt_bmod_cancel]

theorem opStx_agrees (ds : BitVec 5) {p : Nat} (hp : p < 8) (m : PMod) :
    slotsAgree (s.opStx .passA ds p m) (s.opStx .passB ds p m) := by
  simp only [State.opStx, access_twin htwin hp, Strm.isB, Bool.true_and, Bool.false_and, Bool.false_eq_true, if_false,
    stored_twin htwin]
  exact slotsAgree_refl (by simp [SlotOut.empty])

theorem opSty_agrees (ds : BitVec 5) {p : Nat} (hp : p < 8) (m : PMod) :
    slotsAgree (s.opSty .passA ds p m) (s.opSty .passB ds p m) := by
  simp only [State.opSty, access_twin htwin hp, (dRead_twin htwin ds).1, Strm.isT, Bool.true_and]
  refine ⟨rfl, fun hconf _ => ⟨rfl, rfl, ?_, rfl, .nil⟩⟩
  rw [dRead_of_plain htwin hconf]

theorem lSlot_agrees (l : LOp) : slotsAgree (s.lSlot .passA l) (s.lSlot .passB l) := by
  cases l with
  | nop => exact slotsAgree_refl (by simp [State.lSlot, SlotOut.empty])
  | ldxy dx dy px py mx my => exact opLdxy_agrees htwin dx dy px py mx my
  | ldx dd p m => exact opLdx_agrees htwin dd p.isLt m
  | ldy dd p m => exact opLdy_agrees htwin dd p.isLt m
  | stx ds p m => exact opStx_agrees htwin ds p.isLt m
  | sty ds p m => exact opSty_agrees htwin ds p.isLt m
  | ldi dd h imm =>
    simp only [State.lSlot, State.opLdi, dName_twin htwin]
    exact slotsAgree_refl (by simp [dResult])
  | ldip p imm => exact specialWrite_agrees _ _
  | ldim k => exact opLdim_agrees k
  | mvts ds r =>
    simp only [State.lSlot, State.opMvts, (dRead_twin htwin ds).1]
    refine ⟨rfl, fun hconf _ => ?_⟩
    rw [dRead_of_plain htwin hconf]
    exact ⟨rfl, rfl, rfl, rfl, List.forall₂_same.mpr fun e he => resultsAgree_self (tag_of_specialWrite e he)⟩
  | mvfs dd r =>
    simp only [State.lSlot, State.opMvfs, dName_twin htwin, specialRead_twin htwin]
    exact slotsAgree_refl (by simp [dResult])

end

/-- Settles O33: by `mSlot_agrees`, `aSlot_agrees` and `lSlot_agrees`. -/
theorem passesStayExactNegations : Obligations.passes_stay_exact_negations := by
  unfold Obligations.passes_stay_exact_negations
  exact fun m a l s htwin => ⟨mSlot_agrees htwin m, aSlot_agrees htwin a, lSlot_agrees htwin l⟩

end Sys2Proof.Passes


/-! SUPPORT. The bundle word: its slots' fields cut apart and put together again (R230 to R232, R238, R240, R247). -/

namespace Sys2Proof.BundleWords

open Sys2Proof

/-! ### Fields of a word -/

theorem extract_extract {w s₁ l₁ s₂ l₂ : Nat} (x : BitVec w) (h : s₂ + l₂ ≤ l₁) :
    (x.extractLsb' s₁ l₁).extractLsb' s₂ l₂ = x.extractLsb' (s₁ + s₂) l₂ := by
  ext i hi
  simp only [BitVec.getElem_extractLsb', BitVec.getLsbD_extractLsb', show s₂ + i < l₁ by omega, decide_true, Bool.true_and, Nat.add_assoc]

theorem ofBool_bit {w : Nat} (x : BitVec w) (i : Nat) : BitVec.ofBool (x.getLsbD i) = x.extractLsb' i 1 := by
  ext j hj
  obtain rfl : j = 0 := by omega
  simp

theorem bit_append_low {m n i : Nat} {a : BitVec m} {b : BitVec n} (h : i < n) : (a ++ b).getLsbD i = b.getLsbD i := by
  simp [BitVec.getLsbD_append, h]

theorem bit_append_high {m n i : Nat} {a : BitVec m} {b : BitVec n} (h : n ≤ i) : (a ++ b).getLsbD i = a.getLsbD (i - n) := by
  simp [BitVec.getLsbD_append, not_lt.mpr h]

theorem ne_zero_of_field {w : Nat} {x : BitVec w} (s l : Nat) (h : x.extractLsb' s l ≠ 0) : x ≠ 0 := by
  rintro rfl
  exact h (BitVec.eq_of_toNat_eq (by simp))

/-! ### Codes of fields -/

theorem code_of_condOf : ∀ (v : BitVec 5) (c : Cond), condOf v = some c → c.code = v := by decide

theorem pmodOf_code (m : PMod) : pmodOf m.code = some m := by cases m <;> rfl

theorem code_of_pmodOf : ∀ (v : BitVec 3) (m : PMod), pmodOf v = some m → m.code = v := by decide

theorem pmod2Of_code (m : PMod2) : pmod2Of m.code = m := by cases m <;> rfl

theorem code_pmod2Of : ∀ v : BitVec 2, (pmod2Of v).code = v := by decide

theorem sregOf_code (r : SReg) : sregOf r.code = some r := by
  cases r with
  | p n | pm n | pl n => revert n; decide
  | lc k => cases k <;> rfl
  | rrb | flags => rfl

theorem code_of_sregOf : ∀ (v : BitVec 5) (r : SReg), sregOf v = some r → r.code = v := by decide

theorem code_ctlOf : ∀ (v : BitVec 4) (c : Ctl), ctlOf v = .free c → c.code = v := by
  intro v c
  cases c with
  | ls k | le k | ler k => revert v k; decide
  | nop | rot | pp => revert v; decide

theorem ctlOf_code (c : Ctl) : ctlOf c.code = .free c := by
  cases c with
  | ls k | le k | ler k => cases k <;> rfl
  | nop | rot | pp => rfl

/-! ### Every operation's word decodes to it -/

theorem decodeM_encodeM (op : MOp) : decodeM (encodeM op) = .op op := by
  cases op with
  | nop => rfl
  | _ =>
    refine (if_neg (ne_zero_of_field 16 4 ?_)).trans ?_ <;>
      simp (disch := decide) only [encodeM, slotIf, BitVec.extractLsb'_append_eq_of_le, BitVec.extractLsb'_append_eq_of_add_le,
        bit_append_low, bit_append_high, Nat.reduceSub, BitVec.extractLsb'_eq_self, BitVec.reduceToNat] <;>
      simp

theorem decodeA_encodeA (op : AOp) : decodeA (encodeA op) = .op op := by
  cases op with
  | nop => rfl
  | _ =>
    refine (if_neg (ne_zero_of_field 15 4 ?_)).trans ?_ <;>
      simp (disch := decide) only [encodeA, unaryWord, decodeUnary, slotIf, slotOf, SlotA.condOf_code, Option.map_some,
        BitVec.extractLsb'_append_eq_of_le, BitVec.extractLsb'_append_eq_of_add_le, bit_append_high, Nat.reduceSub, BitVec.extractLsb'_eq_self, BitVec.reduceToNat] <;>
      simp

theorem decodeL_encodeL (op : LOp) : decodeL (encodeL op) = .op op := by
  cases op with
  | nop => rfl
  | ldim k =>
    cases k <;>
      refine (if_neg (ne_zero_of_field 18 2 ?_)).trans ?_ <;>
      simp (disch := decide) only [encodeL, decodeLdim, slotIf, BitVec.extractLsb'_append_eq_of_le,
        BitVec.extractLsb'_append_eq_of_add_le, bit_append_low, bit_append_high, Nat.reduceSub, BitVec.extractLsb'_eq_self,
        BitVec.reduceToNat] <;>
      simp
  | mvts ds r | mvfs ds r =>
    refine (if_neg (ne_zero_of_field 15 3 ?_)).trans ?_ <;>
      simp (disch := decide) only [encodeL, decodeMove, slotOf, sregOf_code, Option.map_some, BitVec.extractLsb'_append_eq_of_le,
        BitVec.extractLsb'_append_eq_of_add_le, Nat.reduceSub, BitVec.extractLsb'_eq_self,
        BitVec.reduceToNat] <;>
      simp
  | _ =>
    refine (if_neg (ne_zero_of_field 18 2 ?_)).trans ?_ <;>
      simp (disch := decide) only [encodeL, memWord, decodeMem, slotOf, pmodOf_code, pmod2Of_code, Option.map_some,
        BitVec.extractLsb'_append_eq_of_le,
        BitVec.extractLsb'_append_eq_of_add_le, bit_append_low, bit_append_high, Nat.reduceSub, BitVec.extractLsb'_eq_self,
        BitVec.reduceToNat] <;>
      simp

/-! ### A word that decodes to an operation is its word -/

theorem op_of_slotIf {α : Type} {z : Bool} {o o' : α} (h : slotIf z o = .op o') : z = true ∧ o = o' := by
  cases z with
  | false => exact absurd h (by simp [slotIf])
  | true => exact ⟨rfl, by simpa [slotIf] using h⟩

theorem field_eq {w s l n : Nat} {x : BitVec w} (h : (x.extractLsb' s l).toNat = n) : BitVec.ofNat l n = x.extractLsb' s l := by
  rw [← h, BitVec.ofNat_toNat, BitVec.setWidth_eq]

theorem zero_field {w s l : Nat} {x : BitVec w} (h : (x.extractLsb' s l == 0) = true) : 0#l = x.extractLsb' s l :=
  (beq_iff_eq.mp h).symm

theorem encodeM_of_decodeM {w : BitVec 20} {op : MOp} (h : decodeM w = .op op) : encodeM op = w := by
  unfold decodeM at h
  split_ifs at h with hw
  · exact Slot.op.inj h ▸ hw.symm
  · dsimp only at h
    split at h
    case h_1 | h_13 => exact absurd h (by simp)
    case h_2 hop | h_12 hop =>
      obtain rfl := Slot.op.inj h
      simp (disch := decide) only [encodeM, field_eq hop, ofBool_bit, BitVec.extractLsb'_append_extractLsb'_eq_extractLsb']
      exact BitVec.extractLsb'_eq_self
    case h_3 hop | h_4 hop | h_5 hop | h_6 hop | h_9 hop | h_10 hop | h_11 hop =>
      obtain ⟨hz, rfl⟩ := op_of_slotIf h
      simp (disch := decide) only [encodeM, field_eq hop, zero_field hz, ofBool_bit,
        BitVec.extractLsb'_append_extractLsb'_eq_extractLsb']
      exact BitVec.extractLsb'_eq_self
    case h_7 hop | h_8 hop =>
      obtain ⟨hz, rfl⟩ := op_of_slotIf h
      obtain ⟨hz₁, hz₂⟩ := (Bool.and_eq_true _ _).mp hz
      simp (disch := decide) only [encodeM, field_eq hop, zero_field hz₁, zero_field hz₂, ofBool_bit,
        BitVec.extractLsb'_append_extractLsb'_eq_extractLsb']
      exact BitVec.extractLsb'_eq_self

theorem op_of_slotOf {α : Type} {o : Option α} {op : α} (h : slotOf o = .op op) : o = some op := by
  cases o with
  | none => exact absurd h (by simp [slotOf])
  | some o => exact congrArg some (Slot.op.inj h)

theorem encodeA_of_decodeUnary {w : BitVec 20} {op : AOp} (hform : (w.extractLsb' 15 4).toNat = 10)
    (h : decodeUnary (w.getLsbD 19) (w.extractLsb' 10 5) (w.extractLsb' 5 5) (w.extractLsb' 0 5) = .op op) : encodeA op = w := by
  unfold decodeUnary at h
  split at h
  case h_8 => exact absurd h (by simp)
  case h_6 hsub =>
    obtain ⟨hz, rfl⟩ := op_of_slotIf h
    simp (disch := decide) only [encodeA, unaryWord, BitVec.ofNat_eq_ofNat, field_eq hform, field_eq hsub, ← hz, ofBool_bit,
      BitVec.extractLsb'_append_extractLsb'_eq_extractLsb']
    exact BitVec.extractLsb'_eq_self
  case h_1 hsub | h_2 hsub | h_3 hsub | h_4 hsub | h_5 hsub | h_7 hsub =>
    obtain rfl := Slot.op.inj h
    simp (disch := decide) only [encodeA, unaryWord, BitVec.ofNat_eq_ofNat, field_eq hform, field_eq hsub, ofBool_bit,
      BitVec.extractLsb'_append_extractLsb'_eq_extractLsb']
    exact BitVec.extractLsb'_eq_self

theorem encodeA_of_decodeA {w : BitVec 20} {op : AOp} (h : decodeA w = .op op) : encodeA op = w := by
  unfold decodeA at h
  split_ifs at h with hw
  · exact Slot.op.inj h ▸ hw.symm
  · dsimp only at h
    split at h
    case h_1 | h_16 => exact absurd h (by simp)
    case h_11 hop => exact encodeA_of_decodeUnary hop h
    case h_7 hop =>
      obtain ⟨c, hc, rfl⟩ := Option.map_eq_some_iff.mp (op_of_slotOf h)
      simp (disch := decide) only [encodeA, field_eq hop, code_of_condOf _ _ hc, ofBool_bit,
        BitVec.extractLsb'_append_extractLsb'_eq_extractLsb']
      exact BitVec.extractLsb'_eq_self
    case h_8 hop =>
      obtain ⟨hs, rfl⟩ := op_of_slotIf h
      have hone : (1#1) = w.extractLsb' 19 1 := by rw [← ofBool_bit, hs]; rfl
      simp (disch := decide) only [encodeA, field_eq hop, hone, BitVec.extractLsb'_append_extractLsb'_eq_extractLsb']
      exact BitVec.extractLsb'_eq_self
    case h_2 hop | h_3 hop | h_4 hop | h_5 hop | h_6 hop | h_9 hop | h_10 hop | h_12 hop | h_13 hop | h_14 hop | h_15 hop =>
      obtain rfl := Slot.op.inj h
      simp (disch := decide) only [encodeA, field_eq hop, ofBool_bit, BitVec.extractLsb'_append_extractLsb'_eq_extractLsb']
      exact BitVec.extractLsb'_eq_self

theorem memWord_of_fields {w : BitVec 20} {m : PMod} (hform : (w.extractLsb' 18 2).toNat = 2) (hm : m.code = w.extractLsb' 5 3)
    (hz : w.extractLsb' 0 5 = 0) :
    memWord (w.extractLsb' 16 2) (w.extractLsb' 11 5) (w.extractLsb' 8 3) m = w := by
  simp (disch := decide) only [memWord, field_eq hform, hm, show 0#5 = w.extractLsb' 0 5 from hz.symm,
    BitVec.extractLsb'_append_extractLsb'_eq_extractLsb']
  exact BitVec.extractLsb'_eq_self

theorem eq_three {x : BitVec 2} (h0 : x.toNat ≠ 0) (h1 : x.toNat ≠ 1) (h2 : x.toNat ≠ 2) : 3#2 = x :=
  BitVec.eq_of_toNat_eq (by have := x.isLt; simp only [BitVec.toNat_ofNat]; omega)

theorem eq_zero {x : BitVec 2} (h3 : x.toNat ≠ 3) (h2 : x.toNat ≠ 2) (h1 : x.toNat ≠ 1) : 0#2 = x :=
  BitVec.eq_of_toNat_eq (by have := x.isLt; simp only [BitVec.toNat_ofNat]; omega)

theorem encodeL_of_decodeMem {w : BitVec 20} {op : LOp} (hform : (w.extractLsb' 18 2).toNat = 2) (h : decodeMem w = .op op) :
    encodeL op = w := by
  unfold decodeMem at h
  split_ifs at h with hz
  obtain ⟨m, hm, rfl⟩ := Option.map_eq_some_iff.mp (op_of_slotOf h)
  have hword := memWord_of_fields hform (code_of_pmodOf _ _ hm) hz
  split
  case h_4 h0 h1 h2 => rwa [← eq_three h0 h1 h2] at hword
  case h_1 hsub | h_2 hsub | h_3 hsub => rwa [← field_eq hsub] at hword

/-- The head of an LDIM word. -/
theorem ldim_head {w : BitVec 20} (hform : (w.extractLsb' 18 2).toNat = 1) (h17 : w.getLsbD 17 = true) (h16 : w.getLsbD 16 = true) :
    0b01#2 ++ 0b11#2 = w.extractLsb' 16 4 := by
  have h3 : 0b11#2 = w.extractLsb' 17 1 ++ w.extractLsb' 16 1 := by rw [← ofBool_bit, ← ofBool_bit, h17, h16]; rfl
  rw [h3, field_eq hform]
  simp (disch := decide) only [BitVec.extractLsb'_append_extractLsb'_eq_extractLsb']

theorem encodeL_of_decodeLdim {w : BitVec 20} {op : LOp} (hhead : 0b01#2 ++ 0b11#2 = w.extractLsb' 16 4)
    (h : decodeLdim w = .op op) : encodeL op = w := by
  unfold decodeLdim at h
  split at h
  case h_1 hkind | h_2 hkind =>
    obtain rfl := Slot.op.inj h
    rw [encodeL, hhead]
    simp (disch := decide) only [field_eq hkind, BitVec.extractLsb'_append_extractLsb'_eq_extractLsb']
    exact BitVec.extractLsb'_eq_self
  case h_3 hkind =>
    obtain ⟨hz, rfl⟩ := op_of_slotIf h
    rw [encodeL, hhead]
    simp (disch := decide) only [field_eq hkind, zero_field hz, ofBool_bit, BitVec.extractLsb'_append_extractLsb'_eq_extractLsb']
    exact BitVec.extractLsb'_eq_self
  case h_4 h0 h1 h2 =>
    obtain ⟨hz, rfl⟩ := op_of_slotIf h
    obtain ⟨hz₁, hz₂⟩ := (Bool.and_eq_true _ _).mp hz
    rw [encodeL, hhead]
    simp (disch := decide) only [eq_three h0 h1 h2, zero_field hz₁, zero_field hz₂,
      BitVec.extractLsb'_append_extractLsb'_eq_extractLsb']
    exact BitVec.extractLsb'_eq_self

theorem encodeL_of_decodeMove {w : BitVec 20} {op : LOp} (hform : 0b00#2 = w.extractLsb' 18 2) (h : decodeMove w = .op op) :
    encodeL op = w := by
  unfold decodeMove at h
  split at h
  case h_1 | h_4 => exact absurd h (by simp)
  case h_2 hsub | h_3 hsub =>
    split_ifs at h with hz
    obtain ⟨r, hr, rfl⟩ := Option.map_eq_some_iff.mp (op_of_slotOf h)
    simp (disch := decide) only [encodeL, hform, field_eq hsub, code_of_sregOf _ _ hr, show 0#5 = w.extractLsb' 0 5 from hz.symm,
      BitVec.extractLsb'_append_extractLsb'_eq_extractLsb']
    exact BitVec.extractLsb'_eq_self

theorem encodeL_of_decodeL {w : BitVec 20} {op : LOp} (h : decodeL w = .op op) : encodeL op = w := by
  unfold decodeL at h
  by_cases hw : w = 0
  · rw [if_pos hw] at h
    exact Slot.op.inj h ▸ hw.symm
  · rw [if_neg hw] at h
    split at h
    case h_1 hform =>
      obtain rfl := Slot.op.inj h
      simp (disch := decide) only [encodeL, field_eq hform, code_pmod2Of, BitVec.extractLsb'_append_extractLsb'_eq_extractLsb']
      exact BitVec.extractLsb'_eq_self
    case h_2 hform => exact encodeL_of_decodeMem hform h
    case h_3 hform =>
      split_ifs at h with h17 h16
      · exact encodeL_of_decodeLdim (ldim_head hform h17 h16) h
      · obtain rfl := Slot.op.inj h
        have htwo : 0b10#2 = w.extractLsb' 17 1 ++ w.extractLsb' 16 1 := by
          rw [← ofBool_bit, ← ofBool_bit, h17, Bool.eq_false_iff.mpr h16]; rfl
        rw [encodeL, htwo, field_eq hform]
        simp (disch := decide) only [BitVec.extractLsb'_append_extractLsb'_eq_extractLsb']
        exact BitVec.extractLsb'_eq_self
      · obtain rfl := Slot.op.inj h
        have hzero : 0#1 = w.extractLsb' 17 1 := by rw [← ofBool_bit, Bool.eq_false_iff.mpr h17]; rfl
        simp (disch := decide) only [encodeL, field_eq hform, hzero, ofBool_bit,
          BitVec.extractLsb'_append_extractLsb'_eq_extractLsb']
        exact BitVec.extractLsb'_eq_self
    case h_4 h3 h2 h1 => exact encodeL_of_decodeMove (eq_zero h3 h2 h1) h

/-! ### Bundles -/

theorem lowerCode_eq_zero {a b : Nat} : lowerCode a b = 0 ↔ a = 0 ∧ b = 0 := by
  unfold lowerCode
  split_ifs <;> omega

theorem fields_of_formCode {m a : BitVec 20} {z : Bool} (h : formCode m a z = 0) : m = 0 ∧ a = 0 ∧ z = true := by
  have hform := (lowerCode_eq_zero.mp h).2
  by_contra hne
  rw [if_neg hne] at hform
  exact absurd hform (by decide)

theorem ctlOf_eq_rep : ∀ v, ctlOf v = .rep → 0x1#4 = v := by decide

theorem ctlOf_eq_ctxrun : ∀ v, ctlOf v = .ctxrun → 0xA#4 = v := by decide

theorem ctlOf_eq_compete : ∀ v, ctlOf v = .compete → 0xB#4 = v := by decide

theorem ctlOf_eq_halt : ∀ v, ctlOf v = .halt → 0xF#4 = v := by decide

theorem decodeBundle_encodeBundle (b : LegalBundle) : decodeBundle (encodeBundle b) = .op b := by
  cases b with
  | ops c m a l =>
    simp (disch := decide) only [encodeBundle, decodeBundle, BitVec.extractLsb'_append_eq_of_le,
      BitVec.extractLsb'_append_eq_of_add_le, Nat.reduceSub, BitVec.extractLsb'_eq_self, ctlOf_code, decodeM_encodeM,
      decodeA_encodeA, decodeL_encodeL]
  | rep n | ctxrun n =>
    simp (disch := decide) only [encodeBundle, decodeBundle, extract_extract, BitVec.extractLsb'_append_eq_of_le,
      BitVec.extractLsb'_append_eq_of_add_le, Nat.reduceSub, Nat.zero_add, BitVec.extractLsb'_eq_self, BitVec.reduceExtractLsb']
    rfl
  | compete m => revert m; decide
  | halt => rfl

/-- The zeros below the control field of a bundle that its control code takes whole. -/
theorem zeros_eq {w : Bundle} {k n : Nat} (hm : w.extractLsb' 40 20 = 0) (ha : w.extractLsb' 20 20 = 0)
    (hl : w.extractLsb' (0 + k) n = 0) (hk : 20 = k + n := by decide) : 0#(20 + 20 + n) = w.extractLsb' k (20 + 20 + n) := by
  have hfields : w.extractLsb' 40 20 ++ w.extractLsb' 20 20 ++ w.extractLsb' (0 + k) n = w.extractLsb' k (20 + 20 + n) := by
    rw [BitVec.extractLsb'_append_extractLsb'_eq_extractLsb' (by decide), Nat.zero_add,
      BitVec.extractLsb'_append_extractLsb'_eq_extractLsb' hk]
  rw [← hfields, hm, ha, hl]
  exact BitVec.eq_of_toNat_eq (by simp)

theorem compete_word {w : Bundle} {k : Nat} (hc : ctlOf (w.extractLsb' 60 4) = .compete) (hz : 0#58 = w.extractLsb' 2 58)
    (hk : (w.extractLsb' (0 + 0) 2).toNat = k) : 0xB#4 ++ 0#58 ++ BitVec.ofNat 2 k = w := by
  simp (disch := decide) only [ctlOf_eq_compete _ hc, hz, field_eq hk, Nat.zero_add,
    BitVec.extractLsb'_append_extractLsb'_eq_extractLsb']
  exact BitVec.extractLsb'_eq_self

theorem encodeBundle_of_decodeBundle {w : Bundle} {b : LegalBundle} (h : decodeBundle w = .op b) : encodeBundle b = w := by
  unfold decodeBundle at h
  dsimp only at h
  split at h
  case h_1 c hc =>
    split at h
    case h_2 => exact absurd h (by simp)
    case h_1 m a l hm ha hl =>
      obtain rfl := Slot.op.inj h
      simp (disch := decide) only [encodeBundle, code_ctlOf _ _ hc, encodeM_of_decodeM hm, encodeA_of_decodeA ha,
        encodeL_of_decodeL hl, BitVec.extractLsb'_append_extractLsb'_eq_extractLsb']
      exact BitVec.extractLsb'_eq_self
  case h_2 hc =>
    split at h
    case h_2 => exact absurd h (by simp)
    case h_1 hform =>
      obtain ⟨hm, ha, hl⟩ := fields_of_formCode hform
      obtain rfl := Slot.op.inj h
      rw [extract_extract w (by decide)] at hl ⊢
      simp (disch := decide) only [encodeBundle, ctlOf_eq_rep _ hc, zeros_eq hm ha (beq_iff_eq.mp hl),
        BitVec.extractLsb'_append_extractLsb'_eq_extractLsb']
      exact BitVec.extractLsb'_eq_self
  case h_3 hc =>
    split at h
    case h_2 => exact absurd h (by simp)
    case h_1 hform =>
      obtain ⟨hm, ha, hl⟩ := fields_of_formCode hform
      obtain rfl := Slot.op.inj h
      rw [extract_extract w (by decide)] at hl ⊢
      simp (disch := decide) only [encodeBundle, ctlOf_eq_ctxrun _ hc, zeros_eq hm ha (beq_iff_eq.mp hl),
        BitVec.extractLsb'_append_extractLsb'_eq_extractLsb']
      exact BitVec.extractLsb'_eq_self
  case h_4 hc =>
    split at h
    case h_4 => exact absurd h (by simp)
    case h_1 hform hmo | h_2 hform hmo | h_3 hform hmo =>
      obtain ⟨hm, ha, hl⟩ := fields_of_formCode hform
      obtain rfl := Slot.op.inj h
      rw [extract_extract w (by decide)] at hl hmo
      exact compete_word hc (zeros_eq hm ha (beq_iff_eq.mp hl)) hmo
  case h_5 hc =>
    split at h
    case h_2 => exact absurd h (by simp)
    case h_1 hform =>
      obtain ⟨hm, ha, hl⟩ := fields_of_formCode (lowerCode_eq_zero.mp hform).1
      obtain rfl := Slot.op.inj h
      simp (disch := decide) only [encodeBundle, ctlOf_eq_halt _ hc, zeros_eq (k := 0) hm ha (beq_iff_eq.mp hl),
        BitVec.extractLsb'_append_extractLsb'_eq_extractLsb']
      exact BitVec.extractLsb'_eq_self
  case h_6 => exact absurd h (by simp)

/-- Settles O15: by `decodeBundle_encodeBundle` and `encodeBundle_of_decodeBundle`. -/
theorem bundleWordsAndBundlesCorrespond : Obligations.bundle_words_and_bundles_correspond := by
  unfold Obligations.bundle_words_and_bundles_correspond
  exact fun w b => ⟨encodeBundle_of_decodeBundle, fun h => h ▸ decodeBundle_encodeBundle b⟩

/-- Settles O16: the words of legal bundles by `decodeBundle_encodeBundle`, the others and the check values by evaluation. -/
theorem bundleWordsAndCheckValues : Obligations.bundle_words_and_check_values := by
  unfold Obligations.bundle_words_and_check_values
  have hword (w : Bundle) (b : LegalBundle) (h : encodeBundle b = w) : decodeBundle w = .op b := h ▸ decodeBundle_encodeBundle b
  refine ⟨⟨hword _ _ rfl, hword _ _ rfl, hword _ _ rfl, by decide, hword _ _ rfl, hword _ _ rfl, hword _ _ rfl, by decide,
    hword _ _ rfl, by decide, by decide, by decide, by decide, fun _ _ => rfl⟩, ?crc8, ?crc32c⟩
  case crc8 => decide +kernel
  case crc32c => decide +kernel

end Sys2Proof.BundleWords


/-! SUPPORT. Writes that are taken or turned away (R72, R81, R117). -/

namespace Sys2Proof.Writes

open Sys2Proof Sys2Proof.Machine Sys2Proof.Safety Sys2Proof.Laws

theorem asWriter_taken {s : State} {w off : Nat} {f : State → State} (h : s.takesWrite w off = true) : s.asWriter w off f = f s := by
  unfold State.asWriter; exact if_pos h

theorem deadBrine_outside (s : State) {off : Nat} (h : off < 0x2800 ∨ 0x2C00 ≤ off) : s.deadBrine off = false := by
  unfold State.deadBrine
  rcases h with h | h
  · rw [decide_eq_false (not_le.mpr h), Bool.and_false, Bool.false_and]
  · rw [decide_eq_false (not_lt.mpr h), Bool.and_false]

theorem asWriter_met {s : State} {w off : Nat} {f : State → State} (hoff : off < 0x2800 ∨ 0x2C00 ≤ off)
    (h : s.takesWrite w off = false) : s.asWriter w off f = s.meetWrite w off := by
  unfold State.asWriter
  rw [h, deadBrine_outside s hoff]
  rfl

end Sys2Proof.Writes

/-! SUPPORT. The commit groups: what is taken, checked and applied (R90 to R94). -/

namespace Sys2Proof.CommitGroups

open Sys2Proof Sys2Proof.Machine Sys2Proof.Safety Sys2Proof.Laws Sys2Proof.Writes

/-! ### The lowest code of several (logs 108, 109) -/

theorem lowerCode_comm (a b : Nat) : lowerCode a b = lowerCode b a := by
  unfold lowerCode
  split_ifs <;> omega

theorem lowerCode_assoc (a b c : Nat) : lowerCode (lowerCode a b) c = lowerCode a (lowerCode b c) := by
  unfold lowerCode
  split_ifs <;> omega

@[simp] theorem lowerCode_zero_left (a : Nat) : lowerCode 0 a = a := rfl

@[simp] theorem lowerCode_zero_right (a : Nat) : lowerCode a 0 = a := by rw [lowerCode_comm]; rfl

/-- The code of one rule. -/
def ruleCode (k : Nat) (ok : Bool) : Nat := if ok then 0 else k

theorem ruleCode_and (k : Nat) (a b : Bool) : ruleCode k (a && b) = lowerCode (ruleCode k a) (ruleCode k b) := by
  cases a <;> cases b <;> simp [ruleCode, lowerCode]

theorem foldl_lowerCode (l : List (Nat × Bool)) (a : Nat) :
    l.foldl (fun a p => lowerCode a p.1) a = lowerCode a (l.foldl (fun a p => lowerCode a p.1) 0) := by
  induction l generalizing a with
  | nil => simp
  | cons p l ih => rw [List.foldl_cons, ih, List.foldl_cons, ih (lowerCode 0 p.1), lowerCode_zero_left, lowerCode_assoc]

@[simp] theorem lowestFailed_nil : lowestFailed [] = 0 := rfl

theorem lowestFailed_cons (k : Nat) (ok : Bool) (l : List (Nat × Bool)) :
    lowestFailed ((k, ok) :: l) = lowerCode (ruleCode k ok) (lowestFailed l) := by
  cases ok with
  | true => rfl
  | false => exact foldl_lowerCode _ k

theorem lowestFailed_append (l l' : List (Nat × Bool)) : lowestFailed (l ++ l') = lowerCode (lowestFailed l) (lowestFailed l') := by
  induction l with
  | nil => rfl
  | cons p l ih => rw [List.cons_append, lowestFailed_cons, lowestFailed_cons, ih, lowerCode_assoc]

theorem firstFailed_eq_find (l : List (Nat × Bool)) : firstFailed l = ((l.find? fun r => !r.2).map (·.1)).getD 0 := by
  induction l with
  | nil => rfl
  | cons p l ih => cases hp : p.2 <;> simp [firstFailed, hp, ih]

theorem lowestFailed_lower_bound {k : Nat} {l : List (Nat × Bool)} (h : ∀ p ∈ l, k < p.1) : lowestFailed l = 0 ∨ k < lowestFailed l := by
  induction l with
  | nil => exact .inl rfl
  | cons p l ih =>
    rw [lowestFailed_cons, ruleCode]
    have hp := h p List.mem_cons_self
    have hl := ih fun q hq => h q (List.mem_cons_of_mem p hq)
    unfold lowerCode
    split_ifs <;> omega

/-- Of rules in the rising order of their codes the first that is broken has the lowest code. -/
theorem find_eq_lowestFailed {l : List (Nat × Bool)} (hsort : l.Pairwise fun p q => p.1 < q.1) (hpos : ∀ p ∈ l, 0 < p.1) :
    ((l.find? fun r => !r.2).map (·.1)).getD 0 = lowestFailed l := by
  rw [← firstFailed_eq_find]
  induction l with
  | nil => rfl
  | cons p l ih =>
    obtain ⟨hp, hl⟩ := List.pairwise_cons.mp hsort
    rw [firstFailed, lowestFailed_cons, ih hl fun q hq => hpos q (List.mem_cons_of_mem p hq), ruleCode]
    have hbound := lowestFailed_lower_bound hp
    have hp0 := hpos p List.mem_cons_self
    unfold lowerCode
    split_ifs <;> omega

/-! ### The codes of a snapshot (R59, R91, R93) -/

/-- The T-program's issues as the check of the budget takes them: the header's where G_PROG is checked with it. -/
def issuesOf (s : State) (mask : Nat) : Nat :=
  let bank := s.cand mask CE_PROG.PBANK
  if inMask mask gProg = true ∧ s.headerCode bank = 0 then s.headerIssue bank else s.tIssue

/-- The passes fit between TSTART and OUT_PHASE (R47). -/
def fits (s : State) (mask : Nat) : Bool :=
  budgetFits (issuesOf s mask) (s.cand mask RAKE_OUT.OUT_PHASE) (s.cand mask RAKE_TSTART.TSTART)

/-- The dead times are below a quarter of the PWM period (R309). -/
def quarterKept (s : State) (mask : Nat) : Bool := deadQuarter s.usedMotors (s.cand mask)

theorem mem_groupsOf {mask g : Nat} (hg : g < 8) (hm : mask.testBit g = true) : g ∈ groupsOf mask :=
  List.mem_filter.mpr ⟨List.mem_range.mpr hg, hm⟩

theorem mem_groupCodes_mixed {s : State} {mask g : Nat} (hg : g < 8) (hm : mask.testBit g = true) (hmix : s.mixed g = true) :
    (g, 1) ∈ s.groupCodes mask := by
  refine List.mem_map.mpr ⟨g, mem_groupsOf hg hm, Prod.ext rfl (if_pos ?_)⟩
  simp only [inMask, hm, if_true, State.ownCode, hmix]

/-- A code of a group's own rules is joined by that of the rules it shares, whatever it is. -/
theorem join_own (own cross : Nat) : (if own = 0x01 then 0x01 else lowerCode own cross) = lowerCode own cross := by
  split_ifs with h
  · subst h
    cases cross with
    | zero => rfl
    | succ n => simp [lowerCode]
  · rfl

theorem code_of_broken (k : Nat) (ok : Bool) : (if ok = false then k else 0) = ruleCode k ok := by cases ok <;> rfl

theorem mem_groupCodes_tick {s : State} {mask : Nat} (hm : mask.testBit 0 = true) :
    (0, lowerCode (s.ownCode (s.cand mask) 0) (lowerCode (ruleCode 0x09 (fits s mask)) (ruleCode 0x0D (quarterKept s mask))))
      ∈ s.groupCodes mask := by
  refine List.mem_map.mpr ⟨0, mem_groupsOf (by decide) hm, Prod.ext rfl ?_⟩
  simp [inMask, gTick, gDead, gProg, hm, join_own, code_of_broken, fits, issuesOf, quarterKept]

theorem mem_groupCodes_dead {s : State} {mask : Nat} (hm : mask.testBit 1 = true) :
    (1, lowerCode (s.ownCode (s.cand mask) 1) (ruleCode 0x0D (quarterKept s mask))) ∈ s.groupCodes mask := by
  refine List.mem_map.mpr ⟨1, mem_groupsOf (by decide) hm, Prod.ext rfl ?_⟩
  simp [inMask, gTick, gDead, gProg, hm, join_own, code_of_broken, quarterKept]

theorem mem_groupCodes_plain {s : State} {mask g : Nat} (hlo : 2 ≤ g) (hhi : g < 7) (hm : mask.testBit g = true) :
    (g, s.ownCode (s.cand mask) g) ∈ s.groupCodes mask := by
  refine List.mem_map.mpr ⟨g, mem_groupsOf (by omega) hm, Prod.ext rfl ?_⟩
  simp [inMask, gTick, gDead, gProg, hm, show g ≠ 0 by omega, show g ≠ 1 by omega, show g ≠ 7 by omega]
  exact Eq.symm

theorem mem_groupCodes_prog {s : State} {mask : Nat} (hm : mask.testBit 7 = true) :
    (7, if s.ownCode (s.cand mask) 7 = 0 then ruleCode 0x09 (fits s mask) else s.ownCode (s.cand mask) 7) ∈ s.groupCodes mask := by
  refine List.mem_map.mpr ⟨7, mem_groupsOf (by decide) hm, Prod.ext rfl ?_⟩
  by_cases hown : s.ownCode (s.cand mask) 7 = 0
  · simp [inMask, gTick, gDead, gProg, hm, hown, code_of_broken, fits, issuesOf]
  · simp [inMask, gProg, hm, hown]
    exact Eq.symm

theorem mixed_iff {s : State} {g : Nat} : s.mixed g = true ↔ s.bit SYS_COMMIT_STAT.MIXED g = true
    ∨ s.groupWriter g ≠ 0xFF ∧ ∃ p ∈ s.sys.commitWriters, p.1 = g ∧ p.2 ≠ s.groupWriter g := by
  simp [State.mixed]

/-- The rules of each motor of a list, taken together: each code stands for all motors. -/
theorem lowestFailed_motors (ms : List Nat) (p q r : Nat → Bool) (a b c : Nat) :
    lowestFailed (ms.flatMap fun m => [(a, p m), (b, q m), (c, r m)])
      = lowerCode (ruleCode a (ms.all p)) (lowerCode (ruleCode b (ms.all q)) (ruleCode c (ms.all r))) := by
  have : Std.Associative lowerCode := ⟨lowerCode_assoc⟩
  have : Std.Commutative lowerCode := ⟨lowerCode_comm⟩
  induction ms with
  | nil => rfl
  | cons m ms ih =>
    rw [List.flatMap_cons, lowestFailed_append, ih]
    simp only [lowestFailed_cons, lowestFailed_nil, lowerCode_zero_right, List.all_cons, ruleCode_and]
    ac_rfl

theorem ownCode_tick {s : State} {c : Fld → Nat} (h : s.mixed 0 ≠ true) : s.ownCode c 0 = lowestFailed (s.tickCodes c) := if_neg h

/-- The rules of G_TICK in the order of their codes, with those it shares. -/
theorem tick_joined (b2 b3 b4 b5 b6 b7 b8 b9 bA bB bC bD bE : Bool) :
    lowerCode (lowestFailed ([(0x02, b2), (0x03, b3), (0x04, b4), (0x05, b5), (0x08, b8), (0x0E, bE)]
        ++ [(0x06, b6), (0x07, b7), (0x0A, bA), (0x0B, bB), (0x0C, bC)])) (lowerCode (ruleCode 0x09 b9) (ruleCode 0x0D bD))
      = ((List.find? (fun r => !r.2) [(0x02, b2), (0x03, b3), (0x04, b4), (0x05, b5), (0x06, b6), (0x07, b7), (0x08, b8), (0x09, b9),
        (0x0A, bA), (0x0B, bB), (0x0C, bC), (0x0D, bD), (0x0E, bE)]).map (·.1)).getD 0 := by
  have : Std.Associative lowerCode := ⟨lowerCode_assoc⟩
  have : Std.Commutative lowerCode := ⟨lowerCode_comm⟩
  rw [find_eq_lowestFailed (by simp) (by simp)]
  simp only [List.cons_append, List.nil_append, lowestFailed_cons, lowestFailed_nil, lowerCode_zero_right]
  ac_rfl

theorem code_congr {g : Nat} {l l' : List (Nat × Bool)} {codes : List (Nat × Nat)}
    (h : (g, ((l.find? fun r => !r.2).map (·.1)).getD 0) ∈ codes) (hl : l' = l) :
    (g, ((l'.find? fun r => !r.2).map (·.1)).getD 0) ∈ codes := hl ▸ h

/-- What a bank's header must hold to be good (R224, R253). -/
def headerGood (s : State) (bank : Nat) : Prop :=
  let bits (i lo n : Nat) : Nat := ((s.bundleAt bank i).extractLsb' lo n).toNat
  let pm := if bank = 0 then s.pm0 else s.pm1
  let entry (n : Nat) : Prop := 3 ≤ n ∧ n ≤ bits 1 16 14
  crc32c (pm.bytes 0 0 16 ++ pm.bytes 0 20 4) = bits 2 0 32 ∧ bits 1 8 8 = 1 ∧ entry (bits 0 16 14) ∧ entry (bits 0 0 14)
    ∧ 3 ≤ bits 1 48 16 ∧ bits 1 48 16 % 2 = 0
    ∧ bits 0 30 2 = 0 ∧ bits 0 14 2 = 0 ∧ bits 1 30 18 = 0 ∧ bits 1 0 8 = 0 ∧ bits 2 32 32 = 0

/-- A bank that holds no program image. -/
def bankEmpty (s : State) (bank : Nat) : Prop := ((s.bundleAt bank 0).extractLsb' 32 32).toNat ≠ 0x50524743

theorem headerCode_of_empty {s : State} {bank : Nat} (h : bankEmpty s bank) : s.headerCode bank = 0x30 := if_pos h

theorem headerCode_of_good {s : State} {bank : Nat} (h : ¬bankEmpty s bank) (hgood : headerGood s bank) : s.headerCode bank = 0 := by
  refine (if_neg h).trans (if_pos ?_)
  simp only [headerGood, ← BitVec.toNat_inj, and_assoc] at hgood ⊢
  exact hgood

theorem headerCode_of_bad {s : State} {bank : Nat} (h : ¬bankEmpty s bank) (hbad : ¬headerGood s bank) :
    s.headerCode bank = 0x31 := by
  refine (if_neg h).trans (if_neg ?_)
  simp only [headerGood, ← BitVec.toNat_inj, and_assoc] at hbad ⊢
  exact hbad

theorem headerCode_eq_zero_iff (s : State) (bank : Nat) : s.headerCode bank = 0 ↔ ¬bankEmpty s bank ∧ headerGood s bank := by
  by_cases hempty : bankEmpty s bank
  · simp [headerCode_of_empty hempty, hempty]
  · by_cases hgood : headerGood s bank
    · simp [headerCode_of_good hempty hgood, hempty, hgood]
    · simp [headerCode_of_bad hempty hgood, hgood]

theorem budget_eq_fits {s : State} {mask : Nat} {p q : Prop} [Decidable (mask.testBit 7 = true ∧ ¬p ∧ q)]
    (h : s.headerCode (s.cand mask CE_PROG.PBANK) = 0 ↔ ¬p ∧ q) :
    decide ((if mask.testBit 7 = true ∧ ¬p ∧ q then ((s.bundleAt (s.cand mask CE_PROG.PBANK) 1).extractLsb' 48 16).toNat
          else s.rd RAKE_BUDGET.T_ISSUE) = 0
        ∨ 2 * (if mask.testBit 7 = true ∧ ¬p ∧ q then ((s.bundleAt (s.cand mask CE_PROG.PBANK) 1).extractLsb' 48 16).toNat
          else s.rd RAKE_BUDGET.T_ISSUE) + 512 + s.cand mask RAKE_TSTART.TSTART ≤ s.cand mask RAKE_OUT.OUT_PHASE) = fits s mask := by
  have hissues : issuesOf s mask = if mask.testBit 7 = true ∧ ¬p ∧ q
      then ((s.bundleAt (s.cand mask CE_PROG.PBANK) 1).extractLsb' 48 16).toNat else s.rd RAKE_BUDGET.T_ISSUE :=
    if_congr (and_congr Iff.rfl h) rfl rfl
  rw [fits, hissues, budgetFits, Bool.decide_or, beq_eq_decide]

theorem ownCode_lim {s : State} {c : Fld → Nat} {m : Nat} (hm : m < 3) (h : s.mixed (2 + m) ≠ true) :
    s.ownCode c (2 + m) = (([(0x18, limOk c m)].find? fun r => !r.2).map (·.1)).getD 0 := by
  refine (if_neg h).trans ?_
  interval_cases m <;> cases hl : limOk c _ <;> simp [hl]

theorem ownCode_dead {s : State} {c : Fld → Nat} (h : s.mixed 1 ≠ true) :
    s.ownCode c 1 = lowestFailed (s.usedMotors.flatMap (deadCodes c)) := if_neg h

theorem ownCode_ctx {s : State} {c : Fld → Nat} (h : s.mixed 5 ≠ true) : s.ownCode c 5 = firstFailed (s.ctxCodes c) := if_neg h

theorem ownCode_mode {s : State} {c : Fld → Nat} (h : s.mixed 6 ≠ true) : s.ownCode c 6 = firstFailed (s.modeCodes c) := if_neg h

theorem ownCode_prog {s : State} {c : Fld → Nat} (h : s.mixed 7 ≠ true) : s.ownCode c 7 = s.headerCode (c CE_PROG.PBANK) := if_neg h

theorem ruleCode_eq_find (k : Nat) (ok : Bool) : ruleCode k ok = (([(k, ok)].find? fun r => !r.2).map (·.1)).getD 0 := by
  cases ok <;> rfl

/-- The rules of G_DEAD in the order of their codes, with the one it shares. -/
theorem dead_joined (ms : List Nat) (c : Fld → Nat) (bD : Bool) :
    lowerCode (lowestFailed (ms.flatMap (deadCodes c))) (ruleCode 0x0D bD)
      = (([(0x0D, bD), (0x10, ms.all fun m => decide (10 ≤ c (GDM_DEAD.DT m))),
        (0x11, ms.all fun m => decide (c (GDM_DEAD.HS_VTH m) ≤ 8)),
        (0x12, ms.all fun m => decide (1 ≤ c (GDM_DEAD.HS_TMO m)) && decide (c (GDM_DEAD.HS_TMO m) ≤ 100)
          && decide (c (GDM_DEAD.DT m) < 40 * c (GDM_DEAD.HS_TMO m)))].find? fun r => !r.2).map (·.1)).getD 0 := by
  have : Std.Associative lowerCode := ⟨lowerCode_assoc⟩
  have : Std.Commutative lowerCode := ⟨lowerCode_comm⟩
  rw [find_eq_lowestFailed (by simp) (by simp)]
  simp only [lowestFailed_cons, lowestFailed_nil, lowerCode_zero_right]
  have hmotors := lowestFailed_motors ms (fun m => decide (10 ≤ c (GDM_DEAD.DT m))) (fun m => decide (c (GDM_DEAD.HS_VTH m) ≤ 8))
    (fun m => decide (1 ≤ c (GDM_DEAD.HS_TMO m)) && decide (c (GDM_DEAD.HS_TMO m) ≤ 100)
      && decide (c (GDM_DEAD.DT m) < 40 * c (GDM_DEAD.HS_TMO m))) 0x10 0x11 0x12
  rw [show lowestFailed (ms.flatMap (deadCodes c)) = _ from hmotors]
  ac_rfl

theorem decide_imp_eq (p q : Prop) [Decidable p] [Decidable q] : decide (p → q) = (!decide p || decide q) := by
  by_cases hp : p <;> simp [hp]

/-- Settles O14: the commands by their own equations, the checks group by group with `find_eq_lowestFailed`. -/
theorem commitGroups : Obligations.commit_groups := by
  unfold Obligations.commit_groups
  refine ⟨fun w mask s => ⟨⟨?commit, ?commitMet⟩, ?discard, ?discardMet, ⟨?noSnap, ?snap⟩, ?noApply, ?apply⟩, fun mask s => ?checks⟩
  case commit => exact fun h => next_congr (asWriter_taken h)
  case commitMet => exact fun h => next_congr (asWriter_met (.inl (by decide)) h)
  case discard => exact fun h => next_congr (asWriter_taken h)
  case discardMet => exact fun h => next_congr (asWriter_met (.inl (by decide)) h)
  case noSnap => exact fun h => next_congr (if_pos h)
  case snap => exact fun h => next_congr (if_neg h)
  case noApply => exact fun h => next_congr (if_pos h)
  case apply => exact fun h => next_congr (if_neg h)
  case checks =>
    refine ⟨fun g hg hmix hm => mem_groupCodes_mixed hg hm (mixed_iff.mpr hmix), fun hmix hm => ?tick, fun hmix hm => ?dead,
      fun m hlt hmix hm => ?lim, fun hmix hm => ?ctx, fun hmix hm => ?mode, fun hmix hempty hm => ?progEmpty,
      fun hmix hfull hbad hm => ?progBad, fun hmix hfull hgood hm => ?prog⟩
    case tick =>
      have hcodes := mem_groupCodes_tick (s := s) hm
      rw [ownCode_tick fun h => hmix (mixed_iff.mp h), State.tickCodes, State.lengthCodes, tick_joined] at hcodes
      refine code_congr hcodes ?_
      simp only [List.cons.injEq, Prod.mk.injEq, true_and, and_true, beq_eq_decide, bne, Bool.decide_and, Bool.decide_or, decide_not,
        Bool.decide_eq_false, Bool.decide_eq_true, Bool.and_assoc, motors]
      refine ⟨rfl, ?budget, rfl, rfl⟩
      case budget =>
        rw [← Bool.decide_or]
        exact budget_eq_fits (headerCode_eq_zero_iff s _)
    case lim =>
      have hcodes := mem_groupCodes_plain (s := s) (g := 2 + m) (by omega) (by omega) hm
      rw [ownCode_lim hlt fun h => hmix (mixed_iff.mp h)] at hcodes
      simp only [limOk, beq_eq_decide, ← Bool.decide_and, ← Bool.decide_or, and_assoc] at hcodes
      exact hcodes
    case dead =>
      have hcodes := mem_groupCodes_dead (s := s) hm
      rw [ownCode_dead fun h => hmix (mixed_iff.mp h), dead_joined] at hcodes
      simp only [← Bool.decide_and, and_assoc] at hcodes
      exact hcodes
    case ctx =>
      have hcodes := mem_groupCodes_plain (s := s) (g := 5) (by decide) (by decide) hm
      rw [ownCode_ctx fun h => hmix (mixed_iff.mp h), firstFailed_eq_find] at hcodes
      refine code_congr hcodes ?_
      simp only [State.ctxCodes, List.cons.injEq, Prod.mk.injEq, true_and, and_true]
      congr 1
      funext n
      simp only [State.ctxOk, State.roleOk, State.isPi, State.ctxWould, ctxMasked, State.coef, beq_eq_decide, bne, Bool.decide_and,
        Bool.decide_or, decide_imp_eq, decide_not, Bool.decide_eq_false, Bool.decide_eq_true, Bool.and_assoc, Bool.or_assoc]
      rfl
    case mode =>
      have hcodes := mem_groupCodes_plain (s := s) (g := 6) (by decide) (by decide) hm
      rw [ownCode_mode fun h => hmix (mixed_iff.mp h), firstFailed_eq_find] at hcodes
      refine code_congr hcodes ?_
      simp only [State.modeCodes, beq_eq_decide, bne, Bool.decide_and,
        Bool.decide_or, decide_not, Bool.decide_eq_false, Bool.decide_eq_true, Bool.and_assoc]
    case progEmpty =>
      have hcodes := mem_groupCodes_prog (s := s) hm
      rw [ownCode_prog fun h => hmix (mixed_iff.mp h), headerCode_of_empty hempty] at hcodes
      exact hcodes
    case progBad =>
      have hcodes := mem_groupCodes_prog (s := s) hm
      rw [ownCode_prog fun h => hmix (mixed_iff.mp h), headerCode_of_bad hfull hbad] at hcodes
      exact hcodes
    case prog =>
      have hcodes := mem_groupCodes_prog (s := s) hm
      rw [ownCode_prog fun h => hmix (mixed_iff.mp h), headerCode_of_good hfull hgood, if_pos rfl, ruleCode_eq_find] at hcodes
      refine code_congr hcodes ?_
      simp only [List.cons.injEq, Prod.mk.injEq, true_and, and_true]
      exact budget_eq_fits (headerCode_eq_zero_iff s _)

end Sys2Proof.CommitGroups


/-! SUPPORT. Ideal edges of the PWM and the gates of a leg (R305, R308, R310, R312). -/

namespace Sys2Proof.PwmEdges

open Sys2Proof Sys2Proof.Machine Sys2Proof.Safety Sys2Proof.Laws

/-! ### What an edge leaves -/

/-- The complement keeps its gate through the edge: its ideal state has not ended, or FORCE holds it on. -/
def kept (s : State) (g step : Nat) : Bool := (s.advanceTo (step / 8)).forced (twinGate g) || (s.advanceTo (step / 8)).asked (twinGate g) step

/-- The state at the edge with the complement turned off, unless it is kept. -/
def complementOff (s : State) (g step : Nat) (sensed : Option Nat) : State :=
  if kept s g step then s.advanceTo (step / 8) else (s.advanceTo (step / 8)).setGate (twinGate g) sensed.isNone

/-- The state before the incoming gate is looked at: its own withholding and the complement's refusal have ended. -/
def beforeTurnOn (s : State) (g step : Nat) (sensed : Option Nat) : State :=
  let b := complementOff s g step sensed
  { b with gd := { b.gd with
      withheld := b.gd.withheld.filter (· != g), refused := b.gd.refused.filter (fun x => x != twinGate g || b.forced (twinGate g))
      edgeCode := place (place b.gd.edgeCode (twinGate g) (b.slewOf (twinGate g))) g (b.slewOf g) } }

/-- The gate waits for its complement to be sensed off. -/
def waits (g : Nat) (s : State) : State := { s with gd := { s.gd with waitingOn := s.gd.waitingOn ++ [g] } }

/-- The incoming gate stays off: its complement is kept on, or it may not turn on. -/
def staysOff (s : State) (g step : Nat) (sensed : Option Nat) : Bool :=
  let u := beforeTurnOn s g step sensed
  (kept s g step && u.gateOn (twinGate g)) || !u.mayTurnOn g step

section
variable {g step : Nat} {sensed : Option Nat} {s : State}

theorem pwmEdge_of_staysOff (h : staysOff s g step sensed = true) : pwmEdge g step sensed s = beforeTurnOn s g step sensed :=
  if_pos h

theorem pwmEdge_without_handshake (h : staysOff s g step sensed ≠ true)
    (hoff : (beforeTurnOn s g step sensed).handshakeOff (gateMotor g) = true) :
    pwmEdge g step sensed s = (beforeTurnOn s g step sensed).setGate g true :=
  (if_neg h).trans (if_pos hoff)

theorem pwmEdge_unsensed (h : staysOff s g step none ≠ true)
    (hon : (beforeTurnOn s g step none).handshakeOff (gateMotor g) ≠ true) :
    pwmEdge g step none s = waits g (beforeTurnOn s g step none) :=
  (if_neg h).trans (if_neg hon)

theorem pwmEdge_timed_out {ns : Nat} (h : staysOff s g step (some ns) ≠ true)
    (hon : (beforeTurnOn s g step (some ns)).handshakeOff (gateMotor g) ≠ true)
    (hlate : ¬ns ≤ 100 * (beforeTurnOn s g step (some ns)).rd (GDM_DEAD.HS_TMO (gateMotor g))) :
    pwmEdge g step (some ns) s = waits g (beforeTurnOn s g step (some ns)) :=
  (if_neg h).trans ((if_neg hon).trans (if_neg hlate))

theorem pwmEdge_in_time {ns : Nat} (h : staysOff s g step (some ns) ≠ true)
    (hon : (beforeTurnOn s g step (some ns)).handshakeOff (gateMotor g) ≠ true)
    (htime : ns ≤ 100 * (beforeTurnOn s g step (some ns)).rd (GDM_DEAD.HS_TMO (gateMotor g))) :
    pwmEdge g step (some ns) s = (if 5 * (beforeTurnOn s g step (some ns)).rd (GDM_DEAD.DT (gateMotor g)) < 2 * ns
      then (beforeTurnOn s g step (some ns)).count (GDM_CNT.HS_LATE_CNT (gateMotor g)) else beforeTurnOn s g step (some ns)).setGate
        g true :=
  (if_neg h).trans ((if_neg hon).trans (if_pos htime))

end

theorem mayTurnOn_iff (s : State) (g step : Nat) : s.mayTurnOn g step = true ↔ (s.asked g step = true ∨ s.forceAsks g = true)
    ∧ s.heldOff g = false ∧ g ∉ s.gd.refused ∧ g ∉ s.gd.blocked
    ∧ ¬((s.forced (twinGate g) = true ∨ s.asked (twinGate g) step = true) ∧ s.gateOn (twinGate g) = true) := by
  simp only [State.mayTurnOn, Bool.and_eq_true, Bool.or_eq_true, Bool.not_eq_true', Bool.and_eq_false_iff, List.contains_eq_mem,
    decide_eq_false_iff_not, not_and_or, Bool.not_eq_true, Bool.or_eq_false_iff, not_or, and_assoc]

theorem kept_iff (s : State) (g step : Nat) : kept s g step = true ↔
    (s.advanceTo (step / 8)).forced (twinGate g) = true ∨ (s.advanceTo (step / 8)).asked (twinGate g) step = true :=
  Bool.or_eq_true_iff

theorem staysOff_iff (s : State) (g step : Nat) (sensed : Option Nat) : staysOff s g step sensed = true ↔
    (kept s g step = true ∧ (beforeTurnOn s g step sensed).gateOn (twinGate g) = true)
      ∨ (beforeTurnOn s g step sensed).mayTurnOn g step = false := by
  simp [staysOff]

/-- Settles O46: by the equations of `pwmEdge` above. -/
theorem pwmEdges : Obligations.pwm_edges := by
  unfold Obligations.pwm_edges
  intro g step ns sensed s
  extract_lets out at_ kept' a u stays waits' v plain
  have ha (seen : Option Nat) : a seen = complementOff s g step seen := if_congr (kept_iff s g step).symm rfl rfl
  have hu (seen : Option Nat) : u seen = beforeTurnOn s g step seen := by
    simp only [u, ha]; rfl
  have hstays : stays ↔ staysOff s g step sensed = true := by
    rw [staysOff_iff, kept_iff, ← hu]
  have hplain : plain ↔ (beforeTurnOn s g step sensed).handshakeOff (gateMotor g) = true := by
    rw [← hu]
  refine ⟨mayTurnOn_iff s g step, ?stays, ?plain, ?unsensed, ?known⟩
  case stays =>
    intro h
    rw [hu]
    exact next_congr (pwmEdge_of_staysOff (hstays.mp h))
  case plain =>
    intro h hoff
    rw [hu]
    exact next_congr (pwmEdge_without_handshake (mt hstays.mpr h) (hplain.mp hoff))
  case unsensed =>
    rintro rfl h hon
    rw [hu]
    exact next_congr (pwmEdge_unsensed (mt hstays.mpr h) (mt hplain.mpr hon))
  case known =>
    rintro rfl h hon
    have hv : v = beforeTurnOn s g step (some ns) := hu (some ns)
    rw [hv]
    refine ⟨fun hlate => ?_, fun htime hslow => ?_, fun htime hfast => ?_⟩
    · exact next_congr (pwmEdge_timed_out (mt hstays.mpr h) (mt hplain.mpr hon) (not_le.mpr hlate))
    · exact next_congr ((pwmEdge_in_time (mt hstays.mpr h) (mt hplain.mpr hon) htime).trans (by rw [if_pos hslow]))
    · exact next_congr ((pwmEdge_in_time (mt hstays.mpr h) (mt hplain.mpr hon) htime).trans (by rw [if_neg (not_lt.mpr hfast)]))

/-! ### No leg is shorted -/

theorem twinGate_eq_iff (g h : Nat) : h ^^^ 1 = g ↔ h = twinGate g := by
  unfold twinGate
  constructor <;> rintro rfl <;> simp

theorem twinGate_ne (g : Nat) : twinGate g ≠ g := by
  intro h
  have := congrArg (g ^^^ ·) h
  simp [twinGate] at this

/-- Where only the gates of one leg have changed and not both of them are on, every leg is safe that was. -/
theorem legs_safe_of_gates {s t : State} {g : Nat} {G O : Bool} (hsafe : ∀ h, h < 18 → legSafe s h = true)
    (hgates : ∀ h, t.gateOn h = if h = g then G else if h = twinGate g then O else s.gateOn h) (hleg : ¬(G = true ∧ O = true)) :
    ∀ h, h < 18 → legSafe t h = true := by
  intro h hlt
  have hold := hsafe h hlt
  unfold legSafe at hold ⊢
  rw [hgates, hgates]
  have hother : h ^^^ 1 = twinGate g ↔ h = g := Nat.xor_left_inj
  by_cases hg : h = g
  · subst hg
    have hne : h ^^^ 1 ≠ h := twinGate_ne h
    rw [if_pos rfl, if_neg hne, if_pos (show h ^^^ 1 = twinGate h from rfl)]
    cases G <;> cases O <;> simp at hleg ⊢
  · by_cases ht : h = twinGate g
    · have hback : h ^^^ 1 = g := (twinGate_eq_iff g h).mpr ht
      rw [if_neg hg, if_pos ht, if_pos hback]
      cases G <;> cases O <;> simp at hleg ⊢
    · rw [if_neg hg, if_neg ht, if_neg (mt (twinGate_eq_iff g h).mp ht), if_neg (mt hother.mp hg)]
      exact hold

theorem gateOn_beforeTurnOn (s : State) (g step : Nat) (sensed : Option Nat) (h : Nat) :
    (beforeTurnOn s g step sensed).gateOn h
      = if h = twinGate g then (if kept s g step then s.gateOn h else sensed.isNone) else s.gateOn h := by
  change (complementOff s g step sensed).gateOn h = _
  unfold complementOff
  split_ifs with hk hh hh
  · rfl
  · rfl
  · rw [setGate_on, if_pos hh]
  · rw [setGate_on, if_neg hh]; rfl

theorem gateOn_count_late (s : State) (m h : Nat) : (s.count (GDM_CNT.HS_LATE_CNT m)).gateOn h = s.gateOn h := by
  have hkey : (GDM_STAT.GON (h / 6)).key ≠ (GDM_CNT.HS_LATE_CNT m).key := by
    simp [GDM_STAT.GON, GDM_CNT.HS_LATE_CNT, Fld.key]; omega
  unfold State.gateOn State.bit State.count
  split
  · rw [wr_rd_ne _ _ _ _ hkey]
  · rfl

theorem handshakeOff_beforeTurnOn (s : State) (g step : Nat) (sensed : Option Nat) (m : Nat) :
    (beforeTurnOn s g step sensed).handshakeOff m = s.handshakeOff m := by
  change (complementOff s g step sensed).handshakeOff m = _
  unfold complementOff
  split
  · rfl
  · have hmode : SYS_CTRL.BENCH_MODE.key ≠ (GDM_STAT.GON (twinGate g / 6)).key := by
      simp [GDM_STAT.GON, SYS_CTRL.BENCH_MODE, Fld.key]; omega
    have hbench : GD_BENCH.HS_DIS.key ≠ (GDM_STAT.GON (twinGate g / 6)).key := by
      simp [GDM_STAT.GON, GD_BENCH.HS_DIS, Fld.key]; omega
    unfold State.handshakeOff State.flag State.bit State.setGate State.setBit
    rw [wr_rd_ne _ _ _ _ hmode, wr_rd_ne _ _ _ _ hbench]
    rfl

/-- The complement's gate once an edge has begun. -/
def complementGate (s : State) (g step : Nat) (sensed : Option Nat) : Bool :=
  if kept s g step then s.gateOn (twinGate g) else sensed.isNone

theorem gates_of_unchanged {s t : State} {g step : Nat} {sensed : Option Nat}
    (h : ∀ h, t.gateOn h = (beforeTurnOn s g step sensed).gateOn h) (k : Nat) :
    t.gateOn k = if k = g then s.gateOn g else if k = twinGate g then complementGate s g step sensed else s.gateOn k := by
  rw [h, gateOn_beforeTurnOn]
  by_cases hk : k = g
  · rw [if_pos hk, hk, if_neg (Ne.symm (twinGate_ne g))]
  · rw [if_neg hk]
    by_cases ht : k = twinGate g
    · rw [if_pos ht, if_pos ht, ht]; rfl
    · rw [if_neg ht, if_neg ht]

theorem gates_of_turnOn {s u : State} {g step : Nat} {sensed : Option Nat}
    (h : ∀ h, u.gateOn h = (beforeTurnOn s g step sensed).gateOn h) (k : Nat) :
    (u.setGate g true).gateOn k
      = if k = g then true else if k = twinGate g then complementGate s g step sensed else s.gateOn k := by
  rw [setGate_on]
  by_cases hk : k = g
  · rw [if_pos hk, if_pos hk]
  · rw [if_neg hk, if_neg hk, gates_of_unchanged h, if_neg hk]

/-- What an edge makes of the gates of its leg: the complement is kept or turned off, and the incoming gate turns on only where
the complement is off. -/
theorem gates_after_edge (g step : Nat) (sensed : Option Nat) (s : State) :
    ∃ G : Bool, (G = s.gateOn g ∨ ¬(kept s g step = true ∧ s.gateOn (twinGate g) = true)
        ∧ (s.handshakeOff (gateMotor g) = true ∨ sensed.isSome = true))
      ∧ ∀ h, (pwmEdge g step sensed s).gateOn h
          = if h = g then G else if h = twinGate g then complementGate s g step sensed else s.gateOn h := by
  by_cases hstays : staysOff s g step sensed = true
  · rw [pwmEdge_of_staysOff hstays]
    exact ⟨_, .inl rfl, gates_of_unchanged fun _ => rfl⟩
  have hoff : ¬(kept s g step = true ∧ s.gateOn (twinGate g) = true) := by
    rintro ⟨hk, hon⟩
    refine hstays ((staysOff_iff s g step sensed).mpr (.inl ⟨hk, ?_⟩))
    rw [gateOn_beforeTurnOn, if_pos rfl, if_pos hk, hon]
  by_cases hplain : (beforeTurnOn s g step sensed).handshakeOff (gateMotor g) = true
  · rw [pwmEdge_without_handshake hstays hplain]
    rw [handshakeOff_beforeTurnOn] at hplain
    exact ⟨true, .inr ⟨hoff, .inl hplain⟩, gates_of_turnOn fun _ => rfl⟩
  cases sensed with
  | none =>
    rw [pwmEdge_unsensed hstays hplain]
    exact ⟨_, .inl rfl, gates_of_unchanged fun _ => rfl⟩
  | some ns =>
    by_cases htime : ns ≤ 100 * (beforeTurnOn s g step (some ns)).rd (GDM_DEAD.HS_TMO (gateMotor g))
    · rw [pwmEdge_in_time hstays hplain htime]
      refine ⟨true, .inr ⟨hoff, .inr rfl⟩, gates_of_turnOn fun h => ?_⟩
      split_ifs
      · exact gateOn_count_late _ _ h
      · rfl
    · rw [pwmEdge_timed_out hstays hplain htime]
      exact ⟨_, .inl rfl, gates_of_unchanged fun _ => rfl⟩

/-- Settles O47: by `gates_after_edge` and `legs_safe_of_gates`. -/
theorem edgesNeverShortALeg : Obligations.edges_never_short_a_leg := by
  unfold Obligations.edges_never_short_a_leg
  intro g step sensed s hg hsafe hsensed
  obtain ⟨G, hG, hgates⟩ := gates_after_edge g step sensed s
  refine ⟨_, rfl, legs_safe_of_gates hsafe hgates fun ⟨hon, hout⟩ => ?_⟩
  have hleg : ¬(s.gateOn g = true ∧ s.gateOn (twinGate g) = true) := by
    have hold := hsafe g hg
    unfold legSafe at hold
    rintro ⟨hg', ht⟩
    rw [hg', show g ^^^ 1 = twinGate g from rfl, ht] at hold
    exact absurd hold (by decide)
  rcases hG with rfl | ⟨hcomplement, hknown⟩
  · unfold complementGate at hout
    split_ifs at hout with hk
    · exact hleg ⟨hon, hout⟩
    · have := hsensed (.inr hon)
      cases sensed <;> simp_all
  · unfold complementGate at hout
    split_ifs at hout with hk
    · exact hcomplement ⟨hk, hout⟩
    · have : sensed.isSome = true := hknown.elim (fun h => hsensed (.inl h)) id
      cases sensed <;> simp_all

end Sys2Proof.PwmEdges


/-! SUPPORT. The state after POR release, the X write queue and the vote rewrite (R75, R87, R88). -/

namespace Sys2Proof.ResetAndQueue

open Sys2Proof Sys2Proof.Machine Sys2Proof.Safety Sys2Proof.Laws

theorem rd_reset (f : Fld) : State.reset.rd f = f.reset := by
  unfold State.rd
  cases f.cls <;> simp [State.reset, lookup, voteOf]

theorem legSafe_reset (g : Nat) : legSafe State.reset g = true := by
  have hoff : State.reset.gateOn g = false := by
    unfold State.gateOn State.bit
    rw [rd_reset]
    exact Nat.zero_testBit _
  rw [legSafe, hoff]
  rfl

/-- Settles O4. -/
theorem resetState : Obligations.reset_state := by
  unfold Obligations.reset_state
  refine ⟨rd_reset, rfl, by decide, fun a => ⟨rfl, rfl, rfl, rfl, rfl, rfl, rfl, rfl, rfl, rfl⟩, legSafe_reset, rfl, rfl⟩

/-! ### The X write queue (R75) -/

theorem xQueueDrain_empty {s : State} (h : s.sys.xQueue = []) : xQueueDrain s = s := by
  unfold xQueueDrain
  rw [h]

theorem xQueueDrain_cons {s : State} {a t : Nat} {v : Word} {r : List (Nat × Word × Nat)} (h : s.sys.xQueue = (a, v, t) :: r) :
    xQueueDrain s = if s.passCec.mayDrain = true ∧ t < s.passCec.now
      then ({ s.passCec.writeX rankQueue a v with sys := { s.passCec.sys with xQueue := r } } : State).setFlag IDX_STAT.QBUSY (!r.isEmpty)
      else s.passCec := by
  unfold xQueueDrain
  rw [h]

/-! ### The vote rewrite (R87, R88) -/

/-- One rewrite of TMR_REWRITE: the triplicated field of a key. -/
def heal (z : State) (k : Nat) : State := ((tripleOf k).map z.rewriteField).getD z

/-- The keys of the fields whose copies may disagree. -/
def disagreeing (u : State) : List Nat :=
  u.tmr1.map (·.1) ++ (u.tmr2.map (·.1)).filter fun k => !(u.tmr1.map (·.1)).contains k

theorem tmrRewrite_eq (ups : List (Nat × Nat × Nat × Nat)) (s : State) :
    tmrRewrite ups s = (disagreeing (ups.foldl State.upset s)).foldl heal (ups.foldl State.upset s) := by
  unfold tmrRewrite disagreeing
  dsimp only
  congr 1
  funext z k
  unfold heal
  cases tripleOf k <;> rfl

/-- Settles O13. -/
theorem xQueueAndVoteRewrite : Obligations.x_queue_and_vote_rewrite := by
  unfold Obligations.x_queue_and_vote_rewrite
  refine ⟨fun a v t r s => ⟨fun h => next_congr (xQueueDrain_empty h), fun h => ⟨?drains, ?waits⟩⟩, fun ups f x s => ⟨?all, ?none, ?one⟩⟩
  case drains => exact fun hmay ht => next_congr ((xQueueDrain_cons h).trans (if_pos ⟨hmay, ht⟩))
  case waits =>
    intro hwait
    refine next_congr ((xQueueDrain_cons h).trans (if_neg ?_))
    rintro ⟨hmay, ht⟩
    rcases hwait with h' | h'
    · exact absurd (hmay.symm.trans h') (by decide)
    · omega
  case all => exact next_congr (tmrRewrite_eq ups s)
  case none =>
    intro h1 h2
    refine next_congr ((tmrRewrite_eq ups s).trans ?_)
    simp [disagreeing, h1, h2]
  case one =>
    intro h1 h2 hf
    refine next_congr ((tmrRewrite_eq ups s).trans ?_)
    simp [disagreeing, h1, h2, heal, hf]

end Sys2Proof.ResetAndQueue


/-! SUPPORT. Software writes and reads of registers and of the indirect space (R71 to R74, R81, R84 to R86, R117). -/

namespace Sys2Proof.Accesses

open Sys2Proof Sys2Proof.Machine Sys2Proof.Safety Sys2Proof.Laws Sys2Proof.Writes

/-! ### Whether a write is taken -/

section
variable {s : State} {w off : Nat} {v : Word} {fs : List Fld}

/-- The half boots, and the block of the offset takes no write from this writer (R117). -/
theorem bootHeld_iff : s.bootHeld w off = true
    ↔ (s.half = .boot ∨ s.half = .selftest) ∧ w ≠ 0x80 ∧ off < 0x4000 ∧ ¬(0x3400 ≤ off ∧ off < 0x3C00) := by
  simp only [State.bootHeld, Bool.and_eq_true, Bool.or_eq_true, beq_iff_eq, bne_iff_ne, decide_eq_true_eq, Bool.not_eq_true',
    ← Bool.not_eq_true, and_assoc]

theorem turnedAway_eq_false_iff : s.turnedAway w off = false ↔ s.permitted w = true ∧ ¬(s.bootHeld w off = true) := by
  simp [State.turnedAway]

theorem meetWrite_unreached (hopen : s.turnedAway w off = false) (h : s.reach off = none) :
    s.meetWrite w off = s.addrErr.keepSys s := by
  simp [State.meetWrite, hopen, h]

theorem meetWrite_reached (hopen : s.turnedAway w off = false) (h : s.reach off = some fs) : s.meetWrite w off = s := by
  simp [State.meetWrite, hopen, h]

theorem meetWrite_passed_unreached (hshut : s.turnedAway w off = true) (h : ((s.ignored off).keepSys s).reach off = none) :
    s.meetWrite w off = ((s.ignored off).keepSys s).addrErr.keepSys ((s.ignored off).keepSys s) := by
  simp [State.meetWrite, hshut, h]

theorem meetWrite_passed (hshut : s.turnedAway w off = true) (h : ((s.ignored off).keepSys s).reach off = some fs) :
    s.meetWrite w off = (s.ignored off).keepSys s := by
  simp [State.meetWrite, hshut, h]

/-! ### What a write does -/

theorem swWrite_unreached (hopen : s.turnedAway w off = false) (h : s.reach off = none) : s.swWrite w off v = s.addrErr.keepSys s := by
  simp only [State.swWrite, hopen, h, Bool.false_eq_true, if_false]

theorem swWrite_dead (hopen : s.turnedAway w off = false) (h : s.reach off = some fs) (hdead : s.deadBrine off = true) :
    s.swWrite w off v = (s.ignored off).keepSys s := by
  simp only [State.swWrite, hopen, h, hdead, Bool.false_eq_true, if_false, if_true]

theorem swWrite_unlisted (hopen : s.turnedAway w off = false) (h : s.reach off = some fs) (hdead : s.deadBrine off = false)
    (hoff : off ≠ idxDataOff) (hreact : deadReact off = true) : s.swWrite w off v = s := by
  simp only [State.swWrite, hopen, h, hdead, hoff, hreact, Bool.false_eq_true, if_false, if_true]

theorem swWrite_taken (hopen : s.turnedAway w off = false) (h : s.reach off = some fs) (hdead : s.deadBrine off = false)
    (hoff : off ≠ idxDataOff) (hreact : deadReact off = false) :
    s.swWrite w off v = (((s.keepSchedule off).writeFields w off fs v).afterWrite w off v).keepSys s := by
  simp only [State.swWrite, hopen, h, hdead, hoff, hreact, Bool.false_eq_true, if_false]

theorem swWrite_idxData (hopen : s.turnedAway w idxDataOff = false) (h : s.reach idxDataOff = some fs) :
    s.swWrite w idxDataOff v = (s.idxAccess false (some (w, v))).2 := by
  have hdead : s.deadBrine idxDataOff = false := deadBrine_outside s (by decide)
  simp only [State.swWrite, hopen, h, hdead, Bool.false_eq_true, if_false, if_true]

theorem swWrite_turned_away (hshut : s.turnedAway w off = true) : s.swWrite w off v = (s.meetWrite w off).barredWrite w off v :=
  if_pos hshut

theorem barredWrite_unreached (h : s.reach off = none) : s.barredWrite w off v = s := by
  simp [State.barredWrite, h]

theorem barredWrite_permitted (h : s.permitted w = true) : s.barredWrite w off v = s := by
  simp [State.barredWrite, h]

theorem barredWrite_request (hoff : off = 0x3404) (h : s.permitted w = false) (hr : s.reach off = some fs)
    (hbit : v.toNat.testBit 4 = true) : s.barredWrite w off v = s.requestRow (v.toNat % 16) w := by
  subst hoff
  simp [State.barredWrite, h, hr, wbit, hbit]

theorem barredWrite_answer (hoff : off = 0x2064) (h : s.permitted w = false) (hr : s.reach off = some fs) :
    s.barredWrite w off v = hostAnswer w (v.toNat % 256) (v.toNat / 256 % 8) s := by
  subst hoff
  simp [State.barredWrite, h, hr]

theorem barredWrite_other (hreq : ¬(off = 0x3404 ∧ v.toNat.testBit 4 = true)) (hans : off ≠ 0x2064) :
    s.barredWrite w off v = s := by
  unfold State.barredWrite
  rw [if_neg hans]
  split_ifs with h1 h2
  · rfl
  · exact absurd h2 hreq
  · rfl

/-! ### The indirect windows (R73, R74) -/

theorem idxAccess_outside (shadow : Bool) (wr : Option (Nat × Word)) (h : idxDomain s.idxAddr = none) :
    s.idxAccess shadow wr = (0, (s.setFlag IDX_STAT.AERR true).idxAdvance s.idxAddr) := by
  simp only [State.idxAccess, h]

theorem idxAccess_off {d : Nat} (shadow : Bool) (wr : Option (Nat × Word)) (h : idxDomain s.idxAddr = some d)
    (hd : s.domOn d = false) : s.idxAccess shadow wr = (0, s.addrErr.idxAdvance s.idxAddr) := by
  simp only [State.idxAccess, h, hd, Bool.not_false, if_true]

theorem idxAccess_write {d : Nat} (shadow : Bool) (h : idxDomain s.idxAddr = some d) (hd : s.domOn d = true) :
    s.idxAccess shadow (some (w, v)) = (0, (s.idxWrite w s.idxAddr v).idxAdvance s.idxAddr) := by
  simp only [State.idxAccess, h, hd, Bool.not_true, Bool.false_eq_true, if_false]

theorem idxAccess_read {d : Nat} (shadow : Bool) (h : idxDomain s.idxAddr = some d) (hd : s.domOn d = true) :
    s.idxAccess shadow none = (s.idxWord shadow s.idxAddr, s.idxAdvance s.idxAddr) := by
  simp only [State.idxAccess, h, hd, Bool.not_true, Bool.false_eq_true, if_false]

theorem swRead_unreached (h : s.reach off = none) (shadow : Bool) : s.swRead shadow off = (0, s.addrErr.keepSys s) := by
  simp only [State.swRead, h]

theorem swRead_idxData (h : s.reach idxDataOff = some fs) (shadow : Bool) :
    s.swRead shadow idxDataOff = s.idxAccess shadow none := by
  simp only [State.swRead, h, if_true]

/-! ### Writes with the hardware's updates of their CEC (R85) -/

theorem writeWith_of_swWrite {hw : List (Nat × Nat)} {taken : Bool} {t : State} (hoff : off ≠ idxDataOff)
    (htaken : s.turnedAway w off = !taken) (hfs : (s.reach off).getD [] = fs) (h : s.swWrite w off v = t) :
    s.writeWith w off v hw = t.coincide off fs v taken hw := by
  simp only [State.writeWith, if_neg hoff, hfs, h, htaken, Bool.not_not]

theorem writeWith_idxData {hw : List (Nat × Nat)} {taken : Bool} {t : State} (htaken : s.turnedAway w idxDataOff = !taken)
    (h : s.swWrite w idxDataOff v = t) :
    s.writeWith w idxDataOff v hw = t.coincide idxDataOff ((indirectFieldsAt s.idxAddr).getD []) v taken hw := by
  simp only [State.writeWith, if_true, h, htaken, Bool.not_not]

/-- An update of one field in the CEC of a software write. -/
theorem coincide_one {rep : Nat} {f : Fld} {taken : Bool} {x : Nat} (h : (fs.find? fun g => g.lo == f.lo) = some f) :
    let t := s.coincide rep fs v taken [(f.lo, x)];
    (f.cls = .w1c → t = s.wr f (s.rd f ||| x))
    ∧ (f.cls = .w1s → t = s.wr f ((if taken then fieldBits v f else 0) ||| x))
    ∧ (f.cls = .cnt → wrapping f = true → t = s.wr f (s.rd f + x))
    ∧ (f.cls = .cnt → wrapping f = false → t = s.wr f (min (s.rd f + x) (2 ^ f.width - 1)))
    ∧ (f.cls = .ro ∨ f.cls = .roTmr → t = s.wr f x)
    ∧ (f.cls = .go ∨ f.cls = .shd → t = s)
    ∧ (f.cls = .rw ∨ f.cls = .live ∨ f.cls = .tmr →
      t = if taken then ((s.wr f x).setFlag SYS_ACC_STAT.SW_LOST true).wr SYS_ACC_INFO.LOST_OFFSET rep else s.wr f x) := by
  simp only [State.coincide, List.foldl_cons, List.foldl_nil, h]
  refine ⟨?_, ?_, ?_, ?_, ?_, ?_, ?_⟩
  · intro hc; simp only [hc]
  · intro hc; simp only [hc]
  · intro hc hwrap; simp only [hc, hwrap, if_true]
  · intro hc hwrap; simp only [hc, hwrap, Bool.false_eq_true, if_false, State.countN]
  · rintro (hc | hc) <;> simp only [hc]
  · rintro (hc | hc) <;> simp only [hc]
  · rintro (hc | hc | hc) <;> simp only [hc]

end

theorem boot_block_iff {s : State} {w off : Nat} :
    s.turnedAway w off = false ↔ s.permitted w = true
      ∧ ¬((s.half = .boot ∨ s.half = .selftest) ∧ w ≠ 0x80 ∧ off < 0x4000 ∧ ¬(0x3400 ≤ off ∧ off < 0x3C00)) := by
  rw [turnedAway_eq_false_iff, bootHeld_iff]

theorem indirect_block_iff {s : State} {w off : Nat} (hlo : 0x3C00 ≤ off) (hhi : off < 0x4000) :
    s.turnedAway w off = false ↔ s.permitted w = true ∧ ¬((s.half = .boot ∨ s.half = .selftest) ∧ w ≠ 0x80) := by
  rw [boot_block_iff]
  have hblock : (off < 0x4000 ∧ ¬(0x3400 ≤ off ∧ off < 0x3C00)) = True := eq_true (by omega)
  rw [hblock, and_true]

/-- Settles O12: register writes by `writeWith_of_swWrite`, updates by `coincide_one`, the windows by `idxAccess`. -/
theorem softwareAccesses : Obligations.software_accesses := by
  unfold Obligations.software_accesses
  refine ⟨fun w off v hw fs s => ?registers, fun rep f fs v taken x s h => coincide_one h, fun w v hw fs d s => ?windows⟩
  case registers =>
    extract_lets writes held open_ passed all
    have hopen : open_ ↔ s.turnedAway w off = false := boot_block_iff.symm
    have hshut : ¬open_ → s.turnedAway w off = true := fun h => by simpa using mt hopen.mpr h
    refine ⟨?taken, fun ho hr => meetWrite_unreached (hopen.mp ho) hr, fun ho hr => meetWrite_reached (hopen.mp ho) hr,
      fun hs hr => meetWrite_passed_unreached (hshut hs) hr, fun hs hr => meetWrite_passed (hshut hs) hr, fun hoff => ?writes⟩
    case taken =>
      rw [hopen, State.takesWrite]
      simp [Option.isSome_iff_ne_none, and_assoc]
    case writes =>
      have htakes (t : State) (ho : open_) (hw' : s.swWrite w off v = t) : writes true ((s.reach off).getD []) t :=
        next_congr (writeWith_of_swWrite hoff (hopen.mp ho) rfl hw')
      have hturns (t : State) (hs : ¬open_) (hw' : s.swWrite w off v = t) : writes false all t :=
        next_congr (writeWith_of_swWrite hoff (hshut hs) rfl hw')
      have hpasses (hs : ¬open_) (hr : passed.reach off = some fs) (hb : passed.barredWrite w off v = passed) :
          writes false all passed :=
        hturns _ hs (by rw [swWrite_turned_away (hshut hs), meetWrite_passed (hshut hs) hr, hb])
      refine ⟨fun ho hr hd hl => ?_, fun ho hr hd hl => ?_, fun ho hr hd => ?_, fun ho hr => ?_, fun hs hr hn => ?_,
        fun hs hr => ⟨fun hp => hpasses hs hr (barredWrite_permitted hp), fun hp hreq hbit => ?_, fun hp hans => ?_,
          fun hreq hans => hpasses hs hr (barredWrite_other hreq hans)⟩⟩
      · have h := htakes _ ho (swWrite_taken (hopen.mp ho) hr hd hoff hl)
        rwa [hr] at h
      · have h := htakes _ ho (swWrite_unlisted (hopen.mp ho) hr hd hoff hl)
        rwa [hr] at h
      · have h := htakes _ ho (swWrite_dead (hopen.mp ho) hr hd)
        rwa [hr] at h
      · have h := htakes _ ho (swWrite_unreached (hopen.mp ho) hr)
        rwa [hr] at h
      · exact hturns _ hs (by
          rw [swWrite_turned_away (hshut hs), meetWrite_passed_unreached (hshut hs) hr, barredWrite_unreached hn])
      · exact hturns _ hs (by
          rw [swWrite_turned_away (hshut hs), meetWrite_passed (hshut hs) hr, barredWrite_request hreq hp hr hbit])
      · exact hturns _ hs (by
          rw [swWrite_turned_away (hshut hs), meetWrite_passed (hshut hs) hr, barredWrite_answer hans hp hr])
  case windows =>
    extract_lets held open_ passed fields stores loads
    have hopen {off : Nat} (hlo : 0x3C00 ≤ off) (hhi : off < 0x4000) : open_ ↔ s.turnedAway w off = false :=
      (indirect_block_iff hlo hhi).symm
    have hshut {off : Nat} (hlo : 0x3C00 ≤ off) (hhi : off < 0x4000) (h : ¬open_) : s.turnedAway w off = true := by
      simpa using mt (hopen hlo hhi).mpr h
    have haddr := hopen (off := 0x3C00) (by decide) (by decide)
    have haddrShut := hshut (off := 0x3C00) (by decide) (by decide)
    have hdata := hopen (off := idxDataOff) (by decide) (by decide)
    have hdataShut := hshut (off := idxDataOff) (by decide) (by decide)
    refine ⟨fun ho hr => ?addr, fun ho hr => ?addrUnreached, fun hs hr => ?addrPassed, fun hs hr => ?addrPassedUnreached,
      fun ho hr => ?stored, fun ho hr => ?unreached, fun hs hr => ?passed, fun hs hr => ?passedUnreached,
      fun hr => ?notRead, fun hr => ?read⟩
    case addr =>
      exact next_congr (swWrite_taken (haddr.mp ho) hr (deadBrine_outside s (by decide)) (by decide) (by decide))
    case addrUnreached => exact next_congr (swWrite_unreached (haddr.mp ho) hr)
    case addrPassed =>
      refine next_congr ((swWrite_turned_away (haddrShut hs)).trans ?_)
      rw [meetWrite_passed (haddrShut hs) hr, barredWrite_other (fun h => absurd h.1 (by decide)) (by decide)]
    case addrPassedUnreached =>
      refine next_congr ((swWrite_turned_away (haddrShut hs)).trans ?_)
      rw [meetWrite_passed_unreached (haddrShut hs) hr, barredWrite_other (fun h => absurd h.1 (by decide)) (by decide)]
    case stored =>
      have hstore (t : State) (ht : (s.idxAccess false (some (w, v))).2 = t) : stores true t :=
        next_congr (writeWith_idxData (hdata.mp ho) ((swWrite_idxData (hdata.mp ho) hr).trans ht))
      exact ⟨fun h => hstore _ (by rw [idxAccess_outside _ _ h]), fun h hd => hstore _ (by rw [idxAccess_off _ _ h hd]),
        fun h hd => hstore _ (by rw [idxAccess_write _ h hd])⟩
    case unreached => exact next_congr (writeWith_idxData (hdata.mp ho) (swWrite_unreached (hdata.mp ho) hr))
    case passed =>
      refine next_congr (writeWith_idxData (hdataShut hs) ((swWrite_turned_away (hdataShut hs)).trans ?_))
      rw [meetWrite_passed (hdataShut hs) hr, barredWrite_other (fun h => absurd h.1 (by decide)) (by decide)]
    case passedUnreached =>
      refine next_congr (writeWith_idxData (hdataShut hs) ((swWrite_turned_away (hdataShut hs)).trans ?_))
      rw [meetWrite_passed_unreached (hdataShut hs) hr, barredWrite_other (fun h => absurd h.1 (by decide)) (by decide)]
    case notRead =>
      refine next_congr ?_
      simp only [idxDataAccess, swRead_unreached hr]
    case read =>
      have hload (x : Word) (t : State) (ht : s.idxAccess false none = (x, t)) : loads x t := by
        refine next_congr ?_
        simp only [idxDataAccess, swRead_idxData hr, ht]
      exact ⟨fun h => hload _ _ (idxAccess_outside _ _ h), fun h hd => hload _ _ (idxAccess_off _ _ h hd),
        fun h hd => hload _ _ (idxAccess_read _ h hd)⟩

end Sys2Proof.Accesses


/-! SUPPORT. Host SPI frames, and the accesses the round-robin serves around them (R76 to R79, R83). -/

namespace Sys2Proof.HostSpi

open Sys2Proof Sys2Proof.Machine Sys2Proof.Safety Sys2Proof.Laws

/-! ### The round-robin (R83) -/

theorem servePath_none {s : State} {k : Nat} (h : (s.sys.waiting.find? fun a => pathOf a.1 == k) = none) : s.servePath k = s := by
  simp only [State.servePath, h]

theorem servePath_some {s : State} {k : Nat} {a : Access} (h : (s.sys.waiting.find? fun a => pathOf a.1 == k) = some a) :
    s.servePath k = ({ s with sys := { s.sys with waiting := s.sys.waiting.erase a } } : State).serveAccess a := by
  simp only [State.servePath, h]

theorem serveRest_idle {s : State} (h : s.sys.waiting = []) (p n : Nat) : s.serveRest p n = s := by
  cases n with
  | zero => rfl
  | succ n => exact if_pos h

theorem serveRest_round {s : State} (h : s.sys.waiting ≠ []) (p n : Nat) :
    s.serveRest p (n + 1) = (((s.servePath ((p + 1) % 3)).servePath ((p + 2) % 3)).servePath p).serveRest p n := if_neg h

/-! ### Frames (R76 to R79) -/

section
variable {s : State} {mosi : List Byte} {clocks n off seq : Nat} {bs : List Beside}

theorem badMosi_eq_false {k : Nat} (h : ¬8 * (k + 1) ≤ clocks ∨ mosi.getD k 0 = crc8 (mosi.take k)) : badMosi mosi clocks k = false := by
  unfold badMosi
  rcases h with h | h
  · rw [decide_eq_false h, Bool.false_and]
  · rw [bne_eq_false_iff_eq.mpr h, Bool.and_false]

theorem badMosi_eq_true {k : Nat} (hc : 8 * (k + 1) ≤ clocks) (h : ¬mosi.getD k 0 = crc8 (mosi.take k)) :
    badMosi mosi clocks k = true := by
  unfold badMosi
  rw [decide_eq_true hc, bne_iff_ne.mpr h]
  rfl

theorem spiFrame_off (h : s.half = .off) : s.spiFrame mosi clocks bs = s := if_pos h

theorem spiFrame_short (h : s.half ≠ .off) (hc : clocks < 32 ∨ mosi.length < 4) :
    s.spiFrame mosi clocks bs = s.frameFail.sendMiso (zeros (clocks / 8)) := (if_neg h).trans (if_pos hc)

/-- A frame with its command: a write or a read, and then what still waits. -/
theorem spiFrame_command {t : State} (h : s.half ≠ .off) (hlen : 4 ≤ mosi.length) (hc : 32 ≤ clocks)
    (ht : let cmd := (mosi.getD 0 0).toNat
      let n := cmd % 32 + 1
      let off := (mosi.getD 1 0).toNat * 256 + (mosi.getD 2 0).toNat
      let seq := (mosi.getD 3 0).toNat % 16
      (if cmd.testBit 7 then s.spiWrite mosi clocks n off seq bs else s.spiRead mosi clocks n off seq (cmd.testBit 6) bs) = t) :
    s.spiFrame mosi clocks bs = t.serveRest 0 t.sys.waiting.length := by
  subst ht
  exact (if_neg h).trans (if_neg (by omega))

/-- A write frame by the verdict of its CRC and by its length (R77 to R79). -/
theorem spiWrite_good (hwhole : clocks = 8 * (7 + 4 * n)) (hbad : badMosi mosi clocks (4 + 4 * n) = false) (hoff : off % 4 = 0) :
    s.spiWrite mosi clocks n off seq bs = (s.writeBurst 0 off 0 bs (wordsBe n (mosi.drop 4))).2.sendMiso
      (zeros (5 + 4 * n) ++ trailer [] ((s.writeBurst 0 off 0 bs (wordsBe n (mosi.drop 4))).1 + seq)) := by
  simp only [State.spiWrite, hbad, Bool.false_eq_true, if_false]
  rw [if_neg (not_not.mpr hwhole), if_neg (not_not.mpr hoff)]

theorem spiWrite_unaligned (hwhole : clocks = 8 * (7 + 4 * n)) (hbad : badMosi mosi clocks (4 + 4 * n) = false) (hoff : off % 4 ≠ 0) :
    s.spiWrite mosi clocks n off seq bs = (s.addrErr.keepSys s).sendMiso (zeros (5 + 4 * n) ++ trailer [] (64 + seq)) := by
  simp only [State.spiWrite, hbad, Bool.false_eq_true, if_false]
  rw [if_neg (not_not.mpr hwhole), if_pos hoff]

theorem spiWrite_wrong_crc (hwhole : clocks = 8 * (7 + 4 * n)) (hbad : badMosi mosi clocks (4 + 4 * n) = true) :
    s.spiWrite mosi clocks n off seq bs = s.crcFail.sendMiso (zeros (5 + 4 * n) ++ trailer [] (128 + seq)) := by
  simp only [State.spiWrite, hbad, if_true]
  rw [if_neg (not_not.mpr hwhole)]

theorem spiWrite_wrong_length (hwhole : ¬clocks = 8 * (7 + 4 * n)) : s.spiWrite mosi clocks n off seq bs
    = (if badMosi mosi clocks (4 + 4 * n) then s.crcFail else s).frameFail.sendMiso (zeros (clocks / 8)) := if_pos hwhole

/-- What the head of a read frame leaves: the words it asks for, their status, and the state. -/
def readParts (s : State) (mosi : List Byte) (clocks n off : Nat) (shadow : Bool) (bs : List Beside) : List Byte × Nat × State :=
  if badMosi mosi clocks 4 then (zeros (4 * n), 128, s.crcFail)
  else if min n ((clocks - 40 + 31) / 32) = 0 then ([], 0, s)
  else if off % 4 ≠ 0 then (zeros (4 * n), 64, s.addrErr.keepSys s)
  else
    let r := s.readBurst 0 shadow off 0 bs (min n ((clocks - 40 + 31) / 32))
    (r.1.flatMap bytesBe, r.2.1, r.2.2)

/-- A read frame of the whole length answers its words with their trailer (R78). -/
theorem spiRead_whole {shadow : Bool} (hwhole : clocks = 8 * (7 + 4 * n)) :
    s.spiRead mosi clocks n off seq shadow bs = (readParts s mosi clocks n off shadow bs).2.2.sendMiso
      (zeros 5 ++ trailer (readParts s mosi clocks n off shadow bs).1 ((readParts s mosi clocks n off shadow bs).2.1 + seq)) := by
  have hlong : ¬clocks ≤ 40 := by omega
  simp only [State.spiRead, if_neg hlong, if_pos hwhole]
  rfl

/-- One that ends with its command, or before, answers nothing. -/
theorem spiRead_headless {shadow : Bool} (hwhole : ¬clocks = 8 * (7 + 4 * n)) (hlong : clocks ≤ 40) :
    s.spiRead mosi clocks n off seq shadow bs
      = (readParts s.frameFail mosi clocks n off shadow bs).2.2.sendMiso (zeros (clocks / 8)) := by
  simp only [State.spiRead, if_pos hlong, if_neg hwhole]
  rfl

/-- One cut short answers what its clocks carry (R79). -/
theorem spiRead_cut {shadow : Bool} (hwhole : ¬clocks = 8 * (7 + 4 * n)) (hlong : 40 < clocks) :
    s.spiRead mosi clocks n off seq shadow bs = (readParts s.frameFail mosi clocks n off shadow bs).2.2.sendMiso
      (zeros 5 ++ (readParts s.frameFail mosi clocks n off shadow bs).1.take (clocks / 8 - 5)) := by
  simp only [State.spiRead, if_neg (not_le.mpr hlong), if_neg hwhole]
  rfl

variable {shadow : Bool}

theorem readParts_wrong_crc (h : badMosi mosi clocks 4 = true) :
    readParts s mosi clocks n off shadow bs = (zeros (4 * n), 128, s.crcFail) := if_pos h

theorem readParts_nothing (h : badMosi mosi clocks 4 = false) (hc : clocks ≤ 40) :
    readParts s mosi clocks n off shadow bs = ([], 0, s) :=
  (if_neg (Bool.eq_false_iff.mp h)).trans (if_pos (by omega))

theorem readParts_unaligned (h : badMosi mosi clocks 4 = false) (hn : 0 < n) (hc : 40 < clocks) (hoff : off % 4 ≠ 0) :
    readParts s mosi clocks n off shadow bs = (zeros (4 * n), 64, s.addrErr.keepSys s) :=
  (if_neg (Bool.eq_false_iff.mp h)).trans ((if_neg (by omega)).trans (if_pos hoff))

theorem readParts_good (h : badMosi mosi clocks 4 = false) (hn : 0 < n) (hc : 40 < clocks) (hoff : off % 4 = 0) :
    readParts s mosi clocks n off shadow bs
      = ((s.readBurst 0 shadow off 0 bs (min n ((clocks - 40 + 31) / 32))).1.flatMap bytesBe,
        (s.readBurst 0 shadow off 0 bs (min n ((clocks - 40 + 31) / 32))).2) :=
  (if_neg (Bool.eq_false_iff.mp h)).trans ((if_neg (by omega)).trans (if_neg (not_not.mpr hoff)))

theorem words_of_whole (hwhole : clocks = 8 * (7 + 4 * n)) : min n ((clocks - 40 + 31) / 32) = n := by omega

end

/-- Settles O11: a frame is answered by the equation of its case, whichever row carries it, and then what still waits is
served. -/
theorem hostSpiFrames : Obligations.host_spi_frames := by
  unfold Obligations.host_spi_frames
  intro mosi clocks bs s
  extract_lets answers ends sys wait first cmd n off seq write whole carried good wrote read cut
  have answers_of {t : State} (h : s.spiFrame mosi clocks bs = t) : answers t :=
    ⟨next_congr h, fun ups q hq => next_congr (by unfold hostSpiRead; rw [hq]; exact h)⟩
  refine ⟨fun k => servePath_none, fun k a => servePath_some,
    fun p n => ⟨rfl, fun h => serveRest_idle h p n, fun h => serveRest_round h p n⟩,
    fun h => answers_of (spiFrame_off h), fun h hc => answers_of (spiFrame_short h hc), fun hon hlen hclk => ?_⟩
  have hn : 0 < n := Nat.succ_pos _
  have writes {t : State} (hw : write) (h : s.spiWrite mosi clocks n off seq bs = t) : ends t :=
    answers_of (spiFrame_command hon hlen hclk ((if_pos hw).trans h))
  have reads {t : State} (hw : ¬write) (h : s.spiRead mosi clocks n off seq (cmd.testBit 6) bs = t) : ends t :=
    answers_of (spiFrame_command hon hlen hclk ((if_neg hw).trans h))
  have right {k : Nat} (h : good k) : badMosi mosi clocks k = false := badMosi_eq_false (.inr h)
  have wrong {k : Nat} (hc : carried k) (h : ¬good k) : badMosi mosi clocks k = true := badMosi_eq_true hc h
  have long (h : whole) : 40 < clocks := by
    have h' : clocks = 8 * (7 + 4 * n) := h
    omega
  have wholly {k : Nat} (hk : k < 7 + 4 * n) (h : whole) : carried k := by
    have h' : clocks = 8 * (7 + 4 * n) := h
    change 8 * (k + 1) ≤ clocks
    omega
  have head (h : 40 ≤ clocks) : carried 4 := h
  refine ⟨fun hw hl hg ho => writes hw (spiWrite_good hl (right hg) ho),
    fun hw hl hg ho => writes hw (spiWrite_unaligned hl (right hg) ho),
    fun hw hl hg => writes hw (spiWrite_wrong_crc hl (wrong (wholly (by omega) hl) hg)),
    fun hw hl hg => writes hw ((spiWrite_wrong_length hl).trans (by rw [badMosi_eq_false hg]; rfl)),
    fun hw hl hc hg => writes hw ((spiWrite_wrong_length hl).trans (by rw [wrong hc hg]; rfl)),
    fun hw hl hg ho => reads hw ?good, fun hw hl hg ho => reads hw ?unaligned, fun hw hl hg => reads hw ?wrongCrc,
    fun hw hl hc hg => reads hw ?headless, fun hw hl hc hg => reads hw ?headlessWrong,
    fun hw hl hc hg ho => reads hw ?cutGood, fun hw hl hc hg ho => reads hw ?cutUnaligned, fun hw hl hc hg => reads hw ?cutWrong⟩
  case good => rw [spiRead_whole hl, readParts_good (right hg) hn (long hl) ho, words_of_whole hl]
  case unaligned => rw [spiRead_whole hl, readParts_unaligned (right hg) hn (long hl) ho]
  case wrongCrc => rw [spiRead_whole hl, readParts_wrong_crc (wrong (wholly (by omega) hl) hg)]
  case headless => rw [spiRead_headless hl hc, readParts_nothing (badMosi_eq_false hg) hc]
  case headlessWrong => rw [spiRead_headless hl hc.le, readParts_wrong_crc (wrong (head hc.ge) hg)]
  case cutGood => rw [spiRead_cut hl hc, readParts_good (right hg) hn hc ho]
  case cutUnaligned => rw [spiRead_cut hl hc, readParts_unaligned (right hg) hn hc ho]
  case cutWrong => rw [spiRead_cut hl hc, readParts_wrong_crc (wrong (head hc.le) hg)]

end Sys2Proof.HostSpi


/-! SUPPORT. The comparators and the verdict of the known-answer test (R259 to R262, R265, R266). -/

namespace Sys2Proof.Comparison

open Sys2Proof Sys2Proof.Machine Sys2Proof.Safety Sys2Proof.Laws

section
variable {s k u : State} {c : Nat} {a b : Option Landed} {x y : Landed} {f1 f2 : Nat}

/-! ### The next pair -/

theorem writebackCompare_idle {f1 f2 : Word} (hk : (if s.ce.katRun = true then s.katFeed katEvents else s) = k)
    (h : k.nextPair = none) : writebackCompare f1 f2 s = k := by
  simp only [writebackCompare, hk, h]

theorem writebackCompare_waits {f1 f2 : Word} (hk : (if s.ce.katRun = true then s.katFeed katEvents else s) = k)
    (h : k.nextPair = some (c, a, b)) (hkat : k.ce.katRun = false) (ht : k.timely c = false) : writebackCompare f1 f2 s = k := by
  simp only [writebackCompare, hk, h, hkat, ht, Bool.or_self, Bool.false_eq_true, if_false]

theorem writebackCompare_decides {f1 f2 : Word} (hk : (if s.ce.katRun = true then s.katFeed katEvents else s) = k)
    (h : k.nextPair = some (c, a, b)) (hd : k.ce.katRun = true ∨ k.timely c = true) :
    writebackCompare f1 f2 s = (k.advanceTo c).decideNow a b f1.toNat f2.toNat := by
  have hdue : (k.ce.katRun || k.timely c) = true := by simpa using hd
  simp only [writebackCompare, hk, h, hdue, if_true]

/-! ### The verdict on a pair (R259 to R262) -/

/-- A mismatch of both comparators is a transient candidate, one of a single comparator a broken datapath (R261). -/
theorem verdicts_eq (u : State) (c1 c2 : Bool) : u.verdicts c1 c2
    = if c1 = true ∧ c2 = true then (u.setFlag CE_TR_STAT.MM true).onceInTick 4 fun s => s.report srcTrMm 0
      else (u.setFlag CE_TR_STAT.CMPDIS true).declareBroken srcTrCmpdis := by
  simp only [State.verdicts, Bool.and_eq_true]

theorem decidePair_agreed (h1 : agrees x { y with val := y.val ^^^ f1 } = true) (h2 : agrees x { y with val := y.val ^^^ f2 } = true) :
    u.decidePair (some x) (some y) f1 f2 = u.acceptWriteback y x.eff := by
  simp only [State.decidePair, h1, h2, Bool.not_true, Bool.or_self, Bool.false_eq_true, if_false]

theorem decidePair_differs (h : agrees x { y with val := y.val ^^^ f1 } = false ∨ agrees x { y with val := y.val ^^^ f2 } = false) :
    u.decidePair (some x) (some y) f1 f2
      = (u.verdicts (!agrees x { y with val := y.val ^^^ f1 }) (!agrees x { y with val := y.val ^^^ f2 })).recordMismatch
          ((!agrees x { y with val := y.val ^^^ f1 }).toNat + 2 * (!agrees x { y with val := y.val ^^^ f2 }).toNat) x.twin.idx
          x.twin.slot (if f1 = 0 ∧ f2 = 0 ∧ tagOnly x y then 7 else shownKind x.twin.kind)
          (if 5 ≤ x.twin.kind then 0 else x.twin.dest) x.val (y.val ^^^ (f1 &&& f2)) := by
  have hdiff : (!agrees x { y with val := y.val ^^^ f1 } || !agrees x { y with val := y.val ^^^ f2 }) = true := by
    simpa using h
  exact if_pos hdiff

theorem acceptWriteback_suppressed {e : Option CtxEffect} (h : u.ce.mism = true ∨ u.ce.katRun = true) :
    u.acceptWriteback y e = u := if_pos (by simpa using h)

/-- Where an accepted writeback stores its word (R260, R198). -/
def landed (u : State) (y : Landed) : State :=
  if y.twin.kind = 5 then u.landX y else if y.twin.kind = 6 then u.landY y else u

theorem landY_eq (u : State) (y : Landed) : u.landY y = if y.addr < 0x7000 then
      (u.keepOld (u.rd CE_PROG.PBANK) y.addr (y.twin.idx + 3) (u.yWord (u.rd CE_PROG.PBANK) y.addr) (BitVec.ofNat 32 y.val)).setYWord
        (u.rd CE_PROG.PBANK) y.addr (BitVec.ofNat 32 y.val)
    else u := by
  by_cases h : y.addr < 0x7000
  · exact (if_neg (not_le.mpr h)).trans (if_pos h).symm
  · exact (if_pos (not_lt.mp h)).trans (if_neg h).symm

theorem landed_eq (u : State) (y : Landed) : landed u y = if y.twin.kind = 5 then u.landX y
    else if y.twin.kind = 6 ∧ y.addr < 0x7000 then
      (u.keepOld (u.rd CE_PROG.PBANK) y.addr (y.twin.idx + 3) (u.yWord (u.rd CE_PROG.PBANK) y.addr) (BitVec.ofNat 32 y.val)).setYWord
        (u.rd CE_PROG.PBANK) y.addr (BitVec.ofNat 32 y.val)
    else u := by
  unfold landed
  rw [landY_eq, ite_and]

theorem acceptWriteback_plain (hm : u.ce.mism = false) (hk : u.ce.katRun = false) : u.acceptWriteback y none = landed u y :=
  if_neg (by simp [hm, hk])

theorem acceptWriteback_effect {e : CtxEffect} (hm : u.ce.mism = false) (hk : u.ce.katRun = false) :
    u.acceptWriteback y (some e) = (landed u y).ctxAccept e := if_neg (by simp [hm, hk])

/-! ### The verdict of the known-answer test (R265, R266) -/

theorem katVerdict_idle (ho : s.ce.katOpen = false) (hr : s.ce.katRun = false) : katVerdict s = s :=
  if_neg (by simp [ho, hr])

/-- A test of the tick is judged at TSTART + 520, by its reason. -/
theorem katVerdict_judged (h : s.ce.katOpen = true ∨ s.ce.katRun = true)
    (hu : (s.advanceTo (s.rd RAKE_TSTART.TSTART + 520)).katDone = u) (hk : { u with ce := { u.ce with katOpen := false } } = k) :
    katVerdict s = if k.katReason = 0 then ((k.wr CE_TR_STAT.KAT_LAST 1).count CE_TR_CNT.KAT_PASS_CNT).countTransient
      else ((((k.wr CE_TR_KAT.KAT_BIDX ((k.ce.katBad.map (·.2)).getD 0 % 256)).wr CE_TR_STAT.KAT_LAST 2).setFlag CE_TR_STAT.KAT_FAIL
        true).wr CE_TR_KAT.KAT_REASON k.katReason).onceInTick 3 fun s => s.declareBroken srcTrKat := by
  subst hu hk
  exact if_pos (by simpa [or_comm] using h)

theorem katReason_pass (hb : u.ce.katBad = none) (ha : u.ce.katSigA = Config.katSignature) (hs : u.ce.katSigB = Config.katSignature) :
    u.katReason = 0 := by
  simp [State.katReason, hb, ha, hs]

theorem katReason_sigA (hb : u.ce.katBad = none) (ha : ¬u.ce.katSigA = Config.katSignature)
    (hs : u.ce.katSigB = Config.katSignature) : u.katReason = 3 := by
  simp [State.katReason, hb, ha, hs]

theorem katReason_sigB (hb : u.ce.katBad = none) (ha : u.ce.katSigA = Config.katSignature)
    (hs : ¬u.ce.katSigB = Config.katSignature) : u.katReason = 4 := by
  simp [State.katReason, hb, ha, hs]

theorem katReason_both (hb : u.ce.katBad = none) (ha : ¬u.ce.katSigA = Config.katSignature)
    (hs : ¬u.ce.katSigB = Config.katSignature) : u.katReason = 5 := by
  simp [State.katReason, hb, ha, hs]

theorem katReason_mismatch {cmp bundle : Nat} (hb : u.ce.katBad = some (cmp, bundle)) : u.katReason = if cmp = 3 then 1 else 2 := by
  simp only [State.katReason, hb]

end

/-- Settles O35: the row decides the next pair by the agreement of its comparators, and judges a test by its reason. -/
theorem writebacksAndKnownAnswerTest : Obligations.writebacks_and_known_answer_test := by
  unfold Obligations.writebacks_and_known_answer_test
  refine ⟨fun f1 f2 s => ?compare, fun s => ?verdict⟩
  case compare =>
    extract_lets -descend noted shownDest k
    have hk : (if s.ce.katRun = true then s.katFeed katEvents else s) = k := rfl
    have hnoted (c1 c2 : Bool) (z : State) : z.verdicts c1 c2 = noted c1 c2 z := verdicts_eq z c1 c2
    refine ⟨fun h => next_congr (writebackCompare_idle hk h), fun c a b h =>
      ⟨fun hkat ht => next_congr (writebackCompare_waits hk h hkat ht), fun hd => ?_⟩⟩
    have decides {t : State} (ht : (k.advanceTo c).decideNow a b f1.toNat f2.toNat = t) :
        exec (.writebackCompare f1 f2) s = completes s t := next_congr ((writebackCompare_decides hk h hd).trans ht)
    clear_value k
    extract_lets -descend bits
    refine ⟨fun x ha hb => ?alone, fun y ha hb => ?orphan, fun x y ha hb => ?pair⟩
    case alone =>
      subst ha hb
      extract_lets -descend u
      refine decides ?_
      rw [← hnoted]
      rfl
    case orphan =>
      subst ha hb
      extract_lets -descend u
      refine decides ?_
      rw [← hnoted]
      rfl
    case pair =>
      subst ha hb
      extract_lets -descend u g1 g2 c1 c2
      have pair {t : State} (ht : u.decidePair (some x) (some y) g1 g2 = t) :
          exec (.writebackCompare f1 f2) s = completes s t := decides ht
      refine ⟨fun h1 h2 => ?agreed, fun hdiff => pair ((decidePair_differs hdiff).trans (by rw [hnoted]))⟩
      have accepted {t : State} (ht : u.acceptWriteback y x.eff = t) :
          exec (.writebackCompare f1 f2) s = completes s t := pair ((decidePair_agreed h1 h2).trans ht)
      refine ⟨fun h => accepted (acceptWriteback_suppressed (u := u) h), fun hm hkat => ?_⟩
      extract_lets -descend w due bank seen stored
      have hstored : landed u y = stored := landed_eq u y
      have hm' : u.ce.mism = false := hm
      have hkat' : u.ce.katRun = false := hkat
      clear_value u stored
      constructor
      · intro he
        exact accepted (by rw [he, acceptWriteback_plain hm' hkat', hstored])
      · intro e he
        exact accepted (by rw [he, acceptWriteback_effect hm' hkat', hstored])
  case verdict =>
    extract_lets -descend u v good fails
    refine ⟨fun ho hr => next_congr (katVerdict_idle ho hr), fun h => ?_⟩
    have hv := katVerdict_judged h (u := u) rfl (k := v) rfl
    have failed {r bundle : Nat} (hr : v.katReason = r) (h0 : r ≠ 0) (hb : (u.ce.katBad.map (·.2)).getD 0 % 256 = bundle) :
        fails r bundle := by
      refine next_congr (hv.trans ?_)
      rw [hr, if_neg h0, ← hb]
    refine ⟨fun hb ha hs => next_congr (hv.trans (if_pos (katReason_pass hb ha hs))),
      fun hb ha hs => failed (katReason_sigA hb ha hs) (by decide) (by rw [hb]; rfl),
      fun hb ha hs => failed (katReason_sigB hb ha hs) (by decide) (by rw [hb]; rfl),
      fun hb ha hs => failed (katReason_both hb ha hs) (by decide) (by rw [hb]; rfl),
      fun cmp bundle hb => failed (katReason_mismatch hb) (by split <;> decide) (by rw [hb]; rfl)⟩

end Sys2Proof.Comparison


/-! SUPPORT. The tick: start of the passes, the B-program around them, the tick boundary, the output commit and the lock. -/

namespace Sys2Proof.TickEvents

open Sys2Proof Sys2Proof.Machine Sys2Proof.Safety Sys2Proof.Laws

section
variable {s z : State}

/-! ### Start of the passes (R45, R252) -/

/-- The passes of a T-program at its entry. -/
def begun (z : State) : State := State.setFlag { z with ce := { z.ce with
  a := z.ce.a.begin z.tEntry, b := z.ce.b.begin z.tEntry, flags := 0, flagsB := 0, lc2 := z.ce.lc1, rrb2 := z.ce.rrb1, tOver := false } }
  CE_STAT.T_RUN true

theorem startPasses_none (h : z.rd RAKE_BUDGET.T_ISSUE = 0) : z.startPasses = { z with ce := { z.ce with tOver := true } } := if_pos h

theorem startPasses_some (h : z.rd RAKE_BUDGET.T_ISSUE ≠ 0) : z.startPasses = begun z := if_neg h

theorem katDone_idle (h : s.ce.katRun = false) : s.katDone = s := if_neg (Bool.eq_false_iff.mp h)

theorem katDone_runs (h : s.ce.katRun = true) (hz : (State.katTo (s.ce.tStart + 511) katEvents s).endKat = z) :
    s.katDone = State.startPasses { z with ce := { z.ce with tStart := z.ce.tStart + 512 } } := by
  subst hz
  exact if_pos h

/-- Stopping the B-program leaves the budget of the tick. -/
theorem stopB_budget (s : State) (pp : Bool) : (s.stopB pp).rd RAKE_BUDGET.T_ISSUE = s.rd RAKE_BUDGET.T_ISSUE := by
  unfold State.stopB State.showB State.setFlag
  rw [wr_rd_ne _ _ _ _ (by decide), wr_rd_ne _ _ _ _ (by decide), wr_rd_ne _ _ _ _ (by decide), wr_rd_ne _ _ _ _ (by decide)]
  rfl

/-- The known-answer test leaves its verdict due, the flags clear, the loop state restored and the buffers empty. -/
theorem endKat_leaves (s : State) : s.endKat.ce.katOpen = true ∧ s.endKat.ce.katRun = false ∧ s.endKat.ce.flags = 0
    ∧ s.endKat.ce.flagsB = 0 ∧ s.endKat.ce.lc2 = s.endKat.ce.lc1 ∧ s.endKat.ce.rrb2 = s.endKat.ce.rrb1 ∧ s.endKat.ce.bufA = []
    ∧ s.endKat.ce.bufB = [] := ⟨rfl, rfl, rfl, rfl, rfl, rfl, rfl, rfl⟩

theorem tProgramStart_stopped {hits : List KatHit} (h : s.running = false) : tProgramStart hits s = s := if_neg (Bool.eq_false_iff.mp h)

theorem bRuns_iff {p : Bool} {q : Bool} : (p && !q) = true ↔ p = true ∧ q = false := by
  simp

/-- The state at TSTART in which a B-program that still ran has stopped. -/
def yielded (s : State) : State :=
  if s.ce.p.run = true ∧ s.ce.bStopped = false then (s.advanceTo (s.rd RAKE_TSTART.TSTART)).stopB false
  else s.advanceTo (s.rd RAKE_TSTART.TSTART)

theorem yielded_budget (s : State) : (yielded s).rd RAKE_BUDGET.T_ISSUE = s.rd RAKE_BUDGET.T_ISSUE := by
  unfold yielded
  split
  · exact stopB_budget _ _
  · rfl

/-- The buffers, flags and loop state that the passes of a tick begin with. -/
def cleared (v : State) (start : Nat) : State := { v with ce := { v.ce with
  bufA := [], bufB := [], old := [], katOpen := false, flags := 0, flagsB := 0, lc2 := v.ce.lc1, rrb2 := v.ce.rrb1, tStart := start } }

theorem tProgramStart_running {hits : List KatHit} (h : s.running = true) : tProgramStart hits s
    = if (yielded s).flag RAKE_STAT.KAT_DUE = true then (cleared (yielded s) (s.rd RAKE_TSTART.TSTART)).beginKat hits
      else (cleared (yielded s) (s.rd RAKE_TSTART.TSTART)).startPasses := by
  refine (if_pos h).trans ?_
  unfold yielded
  simp only [bRuns_iff]
  rfl

/-! ### The B-program in the tick (R46, R52, R227) -/

theorem preemptionRequest_asks (h : s.ce.p.run = true ∧ s.ce.bStopped = false) : preemptionRequest s
    = { s.advanceTo (s.rd RAKE_DERIVED.PREEMPT_PHASE) with
        ce := { (s.advanceTo (s.rd RAKE_DERIVED.PREEMPT_PHASE)).ce with bStop := true } } := if_pos (bRuns_iff.mpr h)

theorem preemptionRequest_idle (h : ¬(s.ce.p.run = true ∧ s.ce.bStopped = false)) :
    preemptionRequest s = s.advanceTo (s.rd RAKE_DERIVED.PREEMPT_PHASE) := if_neg (mt bRuns_iff.mp h)

theorem bProgramStop_iff (s : State) : (s.ce.bStop && s.ce.p.run && !s.ce.bStopped && s.ce.p.rep == 0) = true
    ↔ s.ce.bStop = true ∧ (s.ce.p.run = true ∧ s.ce.bStopped = false) ∧ s.ce.p.rep = 0 := by
  simp [and_assoc]

theorem bProgramResume_eq (hz : (if s.ce.tStart + 512 ≤ s.cec then s.katDone else s) = z) :
    bProgramResume s = if z.ce.tOver = true then z.resumeB else z := by
  subst hz
  rfl

end

/-- Settles O36. -/
theorem passesStartAndTheBProgramYields : Obligations.passes_start_and_the_b_program_yields := by
  unfold Obligations.passes_start_and_the_b_program_yields
  refine ⟨fun hits s => ?start, fun s => ?yields⟩
  case start =>
    extract_lets -descend go begun'
    have hbegun (z : State) : begun z = begun' z := rfl
    refine ⟨fun h => next_congr (tProgramStart_stopped h), fun h => ?_, katDone_idle, fun h => ?_⟩
    · extract_lets -descend start u v clear test
      have hv : yielded s = v := rfl
      have starts {t : State} (ht : (if v.flag RAKE_STAT.KAT_DUE = true then clear.beginKat hits else clear.startPasses) = t) :
          exec (.tProgramStart hits) s = completes s t := next_congr ((tProgramStart_running h).trans ht)
      have hbudget : clear.rd RAKE_BUDGET.T_ISSUE = s.rd RAKE_BUDGET.T_ISSUE := yielded_budget s
      exact ⟨fun hd hb => starts ((if_neg (Bool.eq_false_iff.mp hd)).trans (startPasses_none (hbudget.trans hb))),
        fun hd hb => starts ((if_neg (Bool.eq_false_iff.mp hd)).trans (startPasses_some (hbudget.trans_ne hb))),
        fun hd => starts (if_pos hd)⟩
    · extract_lets -descend e z
      have hdone : s.katDone = z.startPasses := katDone_runs h (z := e) rfl
      refine ⟨endKat_leaves _, ?_⟩
      clear_value e
      exact ⟨fun hb => hdone.trans (startPasses_none hb),
        fun hb => hdone.trans (startPasses_some hb)⟩
  case yields =>
    extract_lets -descend pre runs asked z
    have hresume := bProgramResume_eq (s := s) (z := z) rfl
    refine ⟨fun h => next_congr (preemptionRequest_asks h), fun h => next_congr (preemptionRequest_idle h),
      fun h => next_congr (if_pos ((bProgramStop_iff s).mpr h)), fun h => next_congr (if_neg (mt (bProgramStop_iff s).mp h)),
      fun ho hs => next_congr (hresume.trans ((if_pos ho).trans (if_pos hs))), fun h => next_congr (hresume.trans ?_)⟩
    rcases h with ho | hs
    · exact if_neg (Bool.eq_false_iff.mp ho)
    · rw [State.resumeB, if_neg (Bool.eq_false_iff.mp hs), ite_self]

/-! ### The tick boundary (R57) -/

/-- The state of a boundary before the blocks update: the tick has ended, the accepted commits apply, and waiting cut-offs, shorts,
reactions and the transition take effect. -/
def reacted (s : State) : State :=
  (commitApply (((({ s.advanceTo s.rake.tickLen with cec := 0 } : State).countWrap RAKE_TICK_COUNT.TICK_COUNT).lower srcRegVote 0).lower
    srcFcSelf 0)).lockBoundaryCounts.cutBoundary.ovsBoundary.reactionBoundary.transitionBoundary

theorem tickBoundary_ends {s : State} (h : s.running = true) (hx : (reacted s).running = false) : tickBoundary s = reacted s := by
  have hx' : ¬(reacted s).running = true := Bool.eq_false_iff.mp hx
  refine (if_pos h).trans ?_
  exact if_neg hx'

/-- The boundary once the blocks have updated and the next tick has begun, with its outputs open. -/
def nextTick (z : State) : State :=
  { z with rake := { z.rake with lastBoundary := z.now, boundaryBefore := z.rake.lastBoundary, measured := false, firstTick := false },
           out := { z.out with held := false, done := false } }

theorem tickBoundary_goes_on {s : State} (h : s.running = true) (hx : (reacted s).running = true) : tickBoundary s
    = nextTick (((reacted s).blocksBoundary s.rake.tickLen s.out.held
        (!decide (s.rake.tickLen = s.rd RAKE_TICK.TICK_PERIOD))).referenceBoundary.beginTick
          (decide (s.rake.tickLen = s.rd RAKE_TICK.TICK_PERIOD))) := by
  rw [tickBoundary, if_pos h]
  extract_lets len even held u v w x y b c
  have hy : reacted s = y := rfl
  rw [hy] at hx ⊢
  rw [if_pos hx]
  change _ = nextTick c
  rfl

/-- Settles O37: the definition, by whether a tick is counted before and after the reactions of the boundary. -/
theorem tickBoundaryOrder : Obligations.tick_boundary_order := by
  unfold Obligations.tick_boundary_order
  intro s
  refine ⟨fun h => next_congr (if_neg (Bool.eq_false_iff.mp h)), fun h => ?_⟩
  extract_lets -descend even u v w x
  refine ⟨fun hx => ?_, fun hx => next_congr (tickBoundary_ends h hx)⟩
  extract_lets -descend z rake
  have hz : tickBoundary s = nextTick z := tickBoundary_goes_on h hx
  exact next_congr hz

/-! ### The output commit (R24, R51, R262) -/

section
variable {s u v : State}

/-- The comparisons closed, unless a pass still runs. -/
def compared (u : State) : State := if u.ce.a.run = true ∨ u.ce.b.run = true then u else u.closeCompare

/-- The hold of the reactions taken, and an overrun noted where a pass still runs. -/
def judged (u : State) : State :=
  if u.ce.a.run = true ∨ u.ce.b.run = true then State.overrun { compared u with fc := { (compared u).fc with hold := false } }
  else { compared u with fc := { (compared u).fc with hold := false } }

theorem outputCommit_closed (h : s.running = false ∨ s.out.done = true) : outputCommit s = s :=
  if_neg (by rcases h with h | h <;> simp [h])

theorem outputCommit_open (hr : s.running = true) (hd : s.out.done = false)
    (hu : (s.advanceTo (s.rd RAKE_OUT.OUT_PHASE)).katDone.compareTo (s.rd RAKE_OUT.OUT_PHASE) = u) : outputCommit s
    = let hold := (judged u).mustHold (u.ce.a.run || u.ce.b.run) (compared u).fc.hold
      let t := (if hold then judged u else (judged u).commitOutputs).brineOut (!hold)
      { t with out := { t.out with held := hold, done := true } } := by
  subst hu
  refine (if_pos (by simp [hr, hd])).trans ?_
  simp only [judged, compared, Bool.or_eq_true]
  rfl

theorem mustHold_iff (v : State) (late due : Bool) : v.mustHold late due = true ↔ late = true ∨ v.rd RAKE_BUDGET.T_ISSUE = 0
    ∨ v.ce.mism = true ∨ v.ce.seen ≠ 0 ∨ v.flag CE_TR_STAT.BROKEN = true ∨ due = true := by
  simp [State.mustHold, State.tIssue, or_assoc]

theorem compareTo_empty {c : Nat} (ha : u.ce.bufA = []) (hb : u.ce.bufB = []) : u.compareTo c = u := by
  rw [State.compareTo, ha, hb]
  rfl

theorem closeCompare_empty (ha : u.ce.bufA = []) (hb : u.ce.bufB = []) : u.closeCompare = u := by
  rw [State.closeCompare, ha, hb]
  rfl

theorem clear_hold (h : u.fc.hold = false) : ({ u with fc := { u.fc with hold := false } } : State) = u := by
  rw [← h]

end

/-- Settles O38. -/
theorem outputCommitHoldsOrCommits : Obligations.output_commit_holds_or_commits := by
  unfold Obligations.output_commit_holds_or_commits
  intro s
  extract_lets -descend at_ done
  have hcases (hr : s.running = true) (hd : s.out.done = false) :
      let u := at_.katDone.compareTo (s.rd RAKE_OUT.OUT_PHASE)
      let holds := (u.ce.a.run = true ∨ u.ce.b.run = true) ∨ (judged u).rd RAKE_BUDGET.T_ISSUE = 0 ∨ (judged u).ce.mism = true
        ∨ (judged u).ce.seen ≠ 0 ∨ (judged u).flag CE_TR_STAT.BROKEN = true ∨ (compared u).fc.hold = true;
      (holds → exec .outputCommit s = completes s (done ((judged u).brineOut false) true))
      ∧ (¬holds → exec .outputCommit s = completes s (done ((judged u).commitOutputs.brineOut true) false)) := by
    extract_lets -descend u holds
    have hopen := outputCommit_open hr hd (u := u) rfl
    have hiff : (judged u).mustHold (u.ce.a.run || u.ce.b.run) (compared u).fc.hold = true ↔ holds := by
      rw [mustHold_iff, Bool.or_eq_true]
    refine ⟨fun h => next_congr (hopen.trans ?_), fun h => next_congr (hopen.trans ?_)⟩
    · rw [hiff.mpr h]
      rfl
    · rw [Bool.eq_false_iff.mpr (mt hiff.mp h)]
      rfl
  refine ⟨fun h => next_congr (outputCommit_closed h), hcases, fun hr hd hk ha hb hA hB ht hm hs hbr hh => ?_⟩
  have hu : at_.katDone.compareTo (s.rd RAKE_OUT.OUT_PHASE) = at_ := by
    rw [katDone_idle (s := at_) hk, compareTo_empty (u := at_) hA hB]
  have hlate : ¬(at_.ce.a.run = true ∨ at_.ce.b.run = true) := by
    change ¬(s.ce.a.run = true ∨ s.ce.b.run = true)
    simp [ha, hb]
  have hcompared : compared at_ = at_ := (if_neg hlate).trans (closeCompare_empty (u := at_) hA hB)
  have hjudged : judged at_ = at_ := (if_neg hlate).trans (by rw [hcompared]; exact clear_hold (u := at_) hh)
  obtain ⟨-, hcommits⟩ := hcases hr hd
  rw [hu, hcompared, hjudged] at hcommits
  refine hcommits ?_
  rintro (h | h | h | h | h | h)
  · exact hlate h
  · exact ht h
  · exact absurd (hm.symm.trans h) (by decide)
  · exact h hs
  · exact absurd (hbr.symm.trans h) (by decide)
  · exact absurd (hh.symm.trans h) (by decide)

end Sys2Proof.TickEvents


/-! SUPPORT. The lock of the tick (R62 to R64, R68, R69). -/

namespace Sys2Proof.LockOfTick

open Sys2Proof Sys2Proof.Machine Sys2Proof.Safety Sys2Proof.Laws

section
variable {s : State} {instant err : Int} {k : Nat}

/-- A measurement judged: it is kept with its time, the partner's report is used up, and the lock state follows. -/
def measuredWith (err : Int) (u : State) : State := State.judgeLock { u with
  rake := { u.rake with noMeas := 0, lastErr := (err, u.now) :: u.rake.lastErr.take 1, measured := true },
  brine := { u.brine with peer := none } } err

theorem phaseMeasurement_closed (h : ¬(s.running = true ∧ s.rd RAKE_STAT.LOCK_REF ≠ 0 ∧ s.rake.measured = false)) :
    phaseMeasurement instant s = s := if_neg h

theorem phaseMeasurement_none (h : s.running = true ∧ s.rd RAKE_STAT.LOCK_REF ≠ 0 ∧ s.rake.measured = false)
    (he : s.phaseError instant = none) : phaseMeasurement instant s = s := by
  rw [phaseMeasurement, if_pos h, he]

theorem phaseMeasurement_some (h : s.running = true ∧ s.rd RAKE_STAT.LOCK_REF ≠ 0 ∧ s.rake.measured = false)
    (he : s.phaseError instant = some err) : phaseMeasurement instant s = measuredWith err (s.showPhase err) := by
  rw [phaseMeasurement, if_pos h, he]
  rfl

theorem phaseError_partner (h : s.rd RAKE_STAT.LOCK_REF = 1) : s.phaseError instant
    = s.brine.peer.map fun p => wrapPeriod (8 * s.rd RAKE_TICK.TICK_PERIOD)
        (8 * (p.1 : Int) - (instant - s.rd BRINE_DLY.LINK_DLY - p.2)) := if_pos h

theorem phaseError_gptp (h : s.rd RAKE_STAT.LOCK_REF ≠ 1) : s.phaseError instant = some (wrapPeriod (8 * s.rd RAKE_TICK.TICK_PERIOD)
    (instant % (32 * s.net.fabCycle : Nat) - 8 * (s.rd RAKE_FAB.FAB_OFFSET : Int))) := if_neg h

theorem showPhase_shown (hlo : -32768 ≤ err) (hhi : err < 32768) : s.showPhase err = s.wrInt RAKE_STAT.PHASE_ERR err := if_pos ⟨hlo, hhi⟩

theorem showPhase_free (h : err < -32768 ∨ 32768 ≤ err) : s.showPhase err = s.draw.2.wr RAKE_STAT.PHASE_ERR s.draw.1 :=
  if_neg (by omega)

theorem holdoverEntry_silent (h : 4 ≤ s.rake.noMeas ∧ (s.rd RAKE_STAT.LOCK_STATE = 1 ∨ s.rd RAKE_STAT.LOCK_STATE = 2)) : holdoverEntry s
    = ({ s.enterLock 3 with rake := { (s.enterLock 3).rake with holdSince := (s.enterLock 3).now } } : State).loseLock := if_pos h

theorem holdoverEntry_else (h : ¬(4 ≤ s.rake.noMeas ∧ (s.rd RAKE_STAT.LOCK_STATE = 1 ∨ s.rd RAKE_STAT.LOCK_STATE = 2))) :
    holdoverEntry s = s := if_neg h

theorem lockStep_open (hr : s.running = true) (ho : s.slotOpen (1000 * k + 500) = true) {u : State}
    (hu : s.advanceTo (1000 * k + 500) = u) : lockStep k s
    = if u.stepWanted u.now = 0 then u
      else
        let rake := { u.rake with stepNow := u.rake.stepNow + u.stepWanted u.now,
                                  lastErr := u.rake.lastErr.map fun p => (p.1 + 8 * u.stepWanted u.now, p.2) }
        if u.stepWanted u.now = 1 then { u with now := u.now + 2, cec := u.cec + 1, rake := rake }
        else { u with now := u.now + 1, cec := u.cec + 2, rake := rake } := by
  subst hu
  exact if_pos (by rw [hr, ho]; rfl)

end

/-- Settles O39: every clause is the branch of its row that the hypotheses choose. -/
theorem lockEventsMoveTheLock : Obligations.lock_events_move_the_lock := by
  unfold Obligations.lock_events_move_the_lock
  intro instant k s
  extract_lets -descend judged measures open_ period silent ended state
  have measured {err : Int} (ho : open_) (he : s.phaseError instant = some err) : measures err := by
    have h := phaseMeasurement_some ho he
    exact ⟨fun hlo hhi => next_congr (h.trans (by rw [showPhase_shown hlo hhi]; rfl)),
      fun hout => next_congr (h.trans (by rw [showPhase_free hout]; rfl))⟩
  refine ⟨fun ho hp hn => next_congr (phaseMeasurement_none ho (by rw [phaseError_partner hp, hn]; rfl)),
    fun phase lofs ho hp hs => measured ho (by rw [phaseError_partner hp, hs]; rfl),
    fun ho hp => measured ho (phaseError_gptp hp), fun ho => next_congr (phaseMeasurement_closed ho),
    fun h => next_congr ((holdoverEntry_silent h).trans ?entered), fun h => next_congr (holdoverEntry_else h),
    fun h => next_congr (if_pos h), fun h => next_congr (if_neg h), fun hr ho => ?step, fun h => next_congr (if_neg ?closed)⟩
  case entered =>
    have hnow : (s.enterLock 3).now = s.now := wr_now s _ _
    rw [hnow]
    rfl
  case step =>
    extract_lets -descend u moved
    have hstep := lockStep_open hr ho (u := u) rfl
    refine ⟨fun h => next_congr (hstep.trans (if_pos h)), fun h => next_congr (hstep.trans ?_),
      fun h => next_congr (hstep.trans ?_)⟩
    · rw [h]
      rfl
    · rw [h]
      rfl
  case closed => rcases h with h | h <;> simp [h]

end Sys2Proof.LockOfTick


/-! SUPPORT. The analog front end: sampling, conversion, angles, stop, comparators and calibration (chapter 05). -/

namespace Sys2Proof.FrontEnd

open Sys2Proof Sys2Proof.Machine Sys2Proof.Safety Sys2Proof.Laws Sys2Proof.Writes

section
variable {s : State} {c j k raw : Nat} {out : Int}

theorem conversionComplete_stopped (h : s.flag AFE_STAT.RUNNING = false ∨ s.nslot c ≤ j) : conversionComplete c j raw s = s :=
  if_neg (by rcases h with h | h <;> simp [h])

theorem afeCheck_valid (h : s.showDerived.seqValid = true) : s.afeCheck
    = s.showDerived.setFlag AFE_STAT.RUNNING (s.showDerived.running && !s.showDerived.flag AFE_CTRL.STOP) := if_pos h

theorem afeCheck_invalid (h : s.showDerived.seqValid = false) : s.afeCheck
    = ((s.showDerived.setFlag AFE_CTRL.STOP true).setFlag AFE_STAT.SEQ_ERR true).setFlag AFE_STAT.RUNNING false :=
  if_neg (Bool.eq_false_iff.mp h)

/-- The angles of the three motors, written with their mirrors after the host pairs asked for have been read. -/
def anglesWritten (s : State) : State :=
  [0, 1, 2].foldl (fun (s : State) m => s.writeXPair rankCe (s.hostAddr (0x418 + 4 * m)) (s.resolvedAngle m))
    (s.noteReads (([0, 1, 2].filter fun m => s.flag CE_XMAP.HEN && s.bit CE_MODE.ANG_H m).flatMap fun m => s.pairReads (0x400 + 8 * m)))

theorem angleResolve_eq {s u : State} (hu : s.advanceTo (s.rd RAKE_TSTART.TSTART - 3) = u) : angleResolve s
    = if ([0, 1, 2].filter u.angleMissing).isEmpty = true
      then ([0, 1, 2].filter u.angleMissing).foldl (fun (s : State) m => s.setBit CE_HOST_STAT.ANG_MISS m true) (anglesWritten u)
      else (([0, 1, 2].filter u.angleMissing).foldl (fun (s : State) m => s.setBit CE_HOST_STAT.ANG_MISS m true)
        (anglesWritten u)).count CE_HOST_CNT.ANG_MISS_CNT := by
  unfold angleResolve
  rw [hu]
  clear hu
  unfold anglesWritten motors
  rfl

theorem angleResolve_complete {s u : State} (hu : s.advanceTo (s.rd RAKE_TSTART.TSTART - 3) = u)
    (h : [0, 1, 2].filter u.angleMissing = []) : angleResolve s = anglesWritten u := by
  rw [angleResolve_eq hu, h, if_pos List.isEmpty_nil, List.foldl_nil]

theorem angleResolve_missing {s u : State} (hu : s.advanceTo (s.rd RAKE_TSTART.TSTART - 3) = u)
    (h : [0, 1, 2].filter u.angleMissing ≠ []) : angleResolve s
    = (([0, 1, 2].filter u.angleMissing).foldl (fun (s : State) m => s.setBit CE_HOST_STAT.ANG_MISS m true)
        (anglesWritten u)).count CE_HOST_CNT.ANG_MISS_CNT := by
  rw [angleResolve_eq hu, if_neg (mt List.isEmpty_iff.mp h)]

/-! ### Stop (R130, R131) -/

theorem afeCtrlStop_stopped (h : s.flag AFE_CTRL.STOP = true) : afeCtrlStop s = s := if_pos h

theorem afeCtrlStop_inService (h : ¬s.flag AFE_CTRL.STOP = true) (hs : s.inService = true) : afeCtrlStop s = s.ignored 0x800 :=
  (if_neg h).trans (if_pos hs)

theorem afeCtrlStop_stops (h : ¬s.flag AFE_CTRL.STOP = true) (hs : s.inService = false) :
    afeCtrlStop s = (s.setFlag AFE_CTRL.STOP true).setFlag AFE_STAT.RUNNING false :=
  (if_neg h).trans (if_neg (Bool.eq_false_iff.mp hs))

/-! ### The comparators (R136) -/

/-- An amplifier output outside the window of its comparator. -/
abbrev Outside (s : State) (k : Nat) (out : Int) : Prop := out < 512 * (s.ocWindow k).1 ∨ 512 * (s.ocWindow k).2 < out

theorem afeOc_unseen (h : ¬(s.domOn 4 = true ∧ s.comparatorBlank k = false)) : afeOc k out s = s :=
  if_pos (by simpa [-not_and, not_and_or] using h)

theorem afeOc_seen (h : s.domOn 4 = true ∧ s.comparatorBlank k = false) {t : State}
    (ht : (if Outside s k out then
        if s.bit AFE_OC_STAT.OC_LIVE k = true then s
        else
          if ((s.setBit AFE_OC_STAT.OC k true).setBit AFE_OC_STAT.OC_LIVE k true).afe.ocEn.testBit k = true then
            ((s.setBit AFE_OC_STAT.OC k true).setBit AFE_OC_STAT.OC_LIVE k true).raise srcAfeOc k
          else (s.setBit AFE_OC_STAT.OC k true).setBit AFE_OC_STAT.OC_LIVE k true
      else (s.setBit AFE_OC_STAT.OC_LIVE k false).lower srcAfeOc k) = t) : afeOc k out s = t := by
  obtain ⟨hd, hb⟩ := h
  subst ht
  rw [afeOc]
  exact if_neg (by simp [hd, hb])

/-! ### Calibration (R138, R140) -/

/-- The state at the calibration phase of a due window. -/
def atWindow (s : State) : State := { s.advanceTo (s.rd AFE_CAL_CFG.CAL_PHASE) with
  afe := { (s.advanceTo (s.rd AFE_CAL_CFG.CAL_PHASE)).afe with sinceWindow := 0 } }

variable {x : CalMeas}

theorem calibrationWindow_fits
    (h : s.flag AFE_CTRL.CAL_EN = true ∧ s.flag AFE_STAT.RUNNING = true ∧ max 1 (s.rd AFE_CAL_CFG.CAL_EVERY) ≤ s.afe.sinceWindow)
    (hf : (atWindow s).calFits = true) (hk : (atWindow s).calAmp = some k) : calibrationWindow x s = State.takeWindow { atWindow s with
      afe := { (atWindow s).afe with nextAmp := (k + 1) % 9, window := some (k, (atWindow s).now) } } k x := by
  rw [calibrationWindow, if_pos h]
  extract_lets a afe b
  rw [if_pos (show b.calFits = true from hf), show b.calAmp = some k from hk]
  rfl

theorem calibrationWindow_unserved
    (h : s.flag AFE_CTRL.CAL_EN = true ∧ s.flag AFE_STAT.RUNNING = true ∧ max 1 (s.rd AFE_CAL_CFG.CAL_EVERY) ≤ s.afe.sinceWindow)
    (hf : (atWindow s).calFits = true) (hk : (atWindow s).calAmp = none) : calibrationWindow x s = atWindow s := by
  rw [calibrationWindow, if_pos h]
  extract_lets a afe b
  rw [if_pos (show b.calFits = true from hf), show b.calAmp = none from hk]
  rfl

theorem calibrationWindow_skipped
    (h : s.flag AFE_CTRL.CAL_EN = true ∧ s.flag AFE_STAT.RUNNING = true ∧ max 1 (s.rd AFE_CAL_CFG.CAL_EVERY) ≤ s.afe.sinceWindow)
    (hf : (atWindow s).calFits = false) : calibrationWindow x s = (atWindow s).setFlag AFE_STAT.CAL_SKIP true :=
  (if_pos h).trans (if_neg (Bool.eq_false_iff.mp hf))

end

/-- Settles O40: every clause is the branch of its row that the hypotheses choose. -/
theorem samplesAndFrontEnd : Obligations.samples_and_front_end := by
  unfold Obligations.samples_and_front_end
  refine ⟨fun codes c j raw s => ?tick, fun k w out x s => ?commands⟩
  case tick =>
    extract_lets -descend at_ ran asked read resolved missing
    exact ⟨fun h => next_congr (if_pos h), fun h => next_congr (if_neg (Bool.eq_false_iff.mp h)),
      fun h hj => next_congr (if_pos ⟨h, hj⟩), fun h => next_congr (conversionComplete_stopped h),
      fun h => next_congr (angleResolve_complete rfl h), fun h => next_congr (angleResolve_missing rfl h)⟩
  case commands =>
    extract_lets -descend wr stop u sees outside trip due late
    have taken {f : State → State} {t : State} (h : wr) (ht : f s = t) : s.asWriter w 0x0800 f = t := (asWriter_taken h).trans ht
    have met {f : State → State} (h : ¬wr) : s.asWriter w 0x0800 f = s.meetWrite w 0x0800 :=
      asWriter_met (by decide) (Bool.eq_false_iff.mpr h)
    exact ⟨fun h hs hi => next_congr (taken h (afeCtrlStop_stops hs hi)),
      fun h hs hi => next_congr (taken h (afeCtrlStop_inService hs hi)),
      fun h hs => next_congr (taken h (afeCtrlStop_stopped hs)),
      fun h hv => next_congr (taken h (afeCheck_valid hv)), fun h hv => next_congr (taken h (afeCheck_invalid hv)),
      fun h => ⟨next_congr (met h), next_congr (met h)⟩,
      fun h ho hl he => next_congr (afeOc_seen h ((if_pos ho).trans ((if_neg (Bool.eq_false_iff.mp hl)).trans (if_pos he)))),
      fun h ho hl he => next_congr (afeOc_seen h ((if_pos ho).trans ((if_neg (Bool.eq_false_iff.mp hl)).trans
        (if_neg (Bool.eq_false_iff.mp he))))),
      fun h ho hl => next_congr (afeOc_seen h ((if_pos ho).trans (if_pos hl))),
      fun h ho => next_congr (afeOc_seen h (if_neg ho)), fun h => next_congr (afeOc_unseen h),
      fun h => ⟨fun hf hk => next_congr (calibrationWindow_fits h hf hk),
        fun hf hk => next_congr (calibrationWindow_unserved h hf hk), fun hf => next_congr (calibrationWindow_skipped h hf)⟩,
      fun h => next_congr (if_neg h), fun h => next_congr (if_pos h), fun h => next_congr (if_neg h)⟩

end Sys2Proof.FrontEnd


/-! SUPPORT. Requests of power states, the boot, the ends of transitions, and the wake sources (chapter 18). -/

namespace Sys2Proof.PowerStates

open Sys2Proof Sys2Proof.Machine Sys2Proof.Safety Sys2Proof.Laws Sys2Proof.Writes Sys2Proof.Accesses

/-! ### A write of PWR_REQ (R464, R72) -/

section
variable {s : State} {w t : Nat} {fs : List Fld}

theorem request_fields (h : s.reach 0x3404 = some fs) : fs = [PWR_REQ.REQ, PWR_REQ.TARGET] := by
  have hfields : fieldsAt 0x3404 = some [PWR_REQ.REQ, PWR_REQ.TARGET] := by decide
  simp only [State.reach, hfields] at h
  grind

theorem refused_target (s : State) (w : Nat) (val : Fld → Nat) : s.refused w PWR_REQ.TARGET val = false := by
  have hrange : s.badRange PWR_REQ.TARGET (val PWR_REQ.TARGET) = false := rfl
  have hjoint : s.badJoint PWR_REQ.TARGET val = false := rfl
  rw [State.refused, hrange, hjoint]
  exact Bool.and_false _

/-- A write of PWR_REQ stores its target; REQ itself keeps nothing. -/
theorem writeFields_request {v : Word} (hv : fieldBits v PWR_REQ.TARGET = t) (ht : t ≠ 0) :
    s.writeFields w 0x3404 [PWR_REQ.REQ, PWR_REQ.TARGET] v = s.wr PWR_REQ.TARGET t := by
  have hint : intended v PWR_REQ.TARGET = t := by
    have hcount : fixedCount PWR_REQ.TARGET = false := by decide
    have hshift : ¬PWR_REQ.TARGET = AFE_CAL_CFG.CAL_SHIFT := by decide
    simp [intended, hv, ht, hcount, hshift]
  unfold State.writeFields
  extract_lets val bad u
  have hbad : bad = [] := List.filter_eq_nil_iff.mpr (List.forall_mem_cons.mpr ⟨Bool.false_ne_true,
    List.forall_mem_singleton.mpr (Bool.eq_false_iff.mp (refused_target s w val))⟩)
  have hu : u = s.wr PWR_REQ.TARGET (intended v PWR_REQ.TARGET) := by
    simp only [u, hbad]
    rfl
  rw [hbad, hu, hint]
  rfl

theorem afterWrite_request {v : Word} (hgo : v.toNat.testBit 4 = true) :
    s.afterWrite w 0x3404 v = s.requestRow (v.toNat % 16) w := by
  simp [State.afterWrite, wbit, hgo]

/-- The word with which a row requests its target. -/
abbrev requestWord (t : Nat) : Word := BitVec.ofNat 32 (16 + t)

/-- A word of PWR_REQ that requests `t`: GO is set, and the target is `t`. -/
structure Requests (v : Word) (t : Nat) : Prop where
  go : v.toNat.testBit 4 = true
  target : v.toNat % 16 = t
  field : fieldBits v PWR_REQ.TARGET = t
  some : t ≠ 0

theorem request_open (h : s.permitted w = true) : s.turnedAway w 0x3404 = false :=
  boot_block_iff.mpr ⟨h, fun hb => hb.2.2.2 (by decide)⟩

theorem request_shut (h : s.permitted w = false) : s.turnedAway w 0x3404 = true := by
  simp [State.turnedAway, h]

theorem swWrite_request {v : Word} (hv : Requests v t) (h : s.permitted w = true) (hr : s.reach 0x3404 = some fs) :
    s.swWrite w 0x3404 v = ((s.wr PWR_REQ.TARGET t).requestRow t w).keepSys s := by
  obtain ⟨hgo, htarget, hfield, hsome⟩ := hv
  have hkeep : s.keepSchedule 0x3404 = s := if_neg (by simp)
  rw [swWrite_taken (request_open h) hr (deadBrine_outside s (by decide)) (by decide) (by decide), hkeep, request_fields hr,
    writeFields_request hfield hsome, afterWrite_request hgo, htarget]

theorem swWrite_request_barred {v : Word} (hv : Requests v t) (h : s.permitted w = false)
    (hr : ((s.ignored 0x3404).keepSys s).reach 0x3404 = some fs) (hp : ((s.ignored 0x3404).keepSys s).permitted w = false) :
    s.swWrite w 0x3404 v = ((s.ignored 0x3404).keepSys s).requestRow t w := by
  obtain ⟨hgo, htarget, -, -⟩ := hv
  rw [swWrite_turned_away (request_shut h), meetWrite_passed (request_shut h) hr, barredWrite_request rfl hp hr hgo, htarget]

theorem swWrite_request_unreached {v : Word} (h : s.permitted w = false) (hr : ((s.ignored 0x3404).keepSys s).reach 0x3404 = none)
    (hn : (((s.ignored 0x3404).keepSys s).addrErr.keepSys ((s.ignored 0x3404).keepSys s)).reach 0x3404 = none) :
    s.swWrite w 0x3404 v = ((s.ignored 0x3404).keepSys s).addrErr.keepSys ((s.ignored 0x3404).keepSys s) := by
  rw [swWrite_turned_away (request_shut h), meetWrite_passed_unreached (request_shut h) hr, barredWrite_unreached hn]

/-! ### How a request is judged (R464) -/

theorem requestRow_request (h : s.half ≠ .off) (hw : ¬(s.half = .watch ∧ t = 4 ∧ w = 0)) : s.requestRow t w = s.request t w :=
  (if_neg h).trans (if_neg hw)

theorem requestRow_wake (h : s.half = .watch) (hw : w = 0) : s.requestRow 4 w
    = if (s.wr PWR_REQ_STAT.WRITER w).bit PWR_WAKE_EN.EN 1 = true
      then ((s.wr PWR_REQ_STAT.WRITER w).logRequest 4 0 w).wakeSource 1
      else ((s.wr PWR_REQ_STAT.WRITER w).wakeSource 1).refuse 4 w 1 := by
  have hoff : ¬s.half = .off := by rw [h]; decide
  exact (if_neg hoff).trans ((if_pos ⟨h, rfl, hw⟩).trans (if_pos ⟨h, rfl, hw⟩))

theorem request_barred (h : s.permitted w = false) : s.request t w = s.refuse t w 6 := if_pos (by simp [h])

theorem request_pends (h : s.permitted w = true) (ht : t ≠ 7) (hb : s.flag PWR_STATE.BUSY = true) :
    s.request t w = s.pend t w := (if_neg (by simp [h])).trans (if_pos ⟨ht, hb⟩)

theorem request_judged (h : s.permitted w = true) (hb : ¬(t ≠ 7 ∧ s.flag PWR_STATE.BUSY = true)) :
    s.request t w = s.judge t w := (if_neg (by simp [h])).trans (if_neg hb)

theorem judge_safe (h : s.half = .standby ∨ s.half = .armed ∨ s.half = .limp) :
    s.judge 7 w = (s.wr PWR_REQ_STAT.WRITER w).requestSafe w := if_pos h

theorem requestSafe_asleep (h : s.pwr.trans.inSleep = true) : s.requestSafe w
    = State.logRequest { s with pwr := { s.pwr with trans := .sleepAborting true (s.pwr.trans.target = none) } } 7 0 w := by
  simp only [State.requestSafe, h, if_true]

theorem requestSafe_again (h : s.pwr.trans = .toSafe) : s.requestSafe w = s.logRequest 7 0 w := by
  have hs : s.pwr.trans.inSleep = false := by rw [h]; rfl
  exact congrArg (State.logRequest · 7 0 w) ((if_neg (Bool.eq_false_iff.mp hs)).trans (if_pos h))

theorem requestSafe_enters (hs : s.pwr.trans.inSleep = false) (h : s.pwr.trans ≠ .toSafe) : s.requestSafe w
    = State.logRequest { s.abortTransition.plainSafe with pwr := { s.abortTransition.plainSafe.pwr with reqWriter := w } } 7 0 w := by
  simp only [State.requestSafe, hs, Bool.false_eq_true, if_false, h]

/-! ### The boot and the ends of transitions (R116, R340, R463 to R465) -/

theorem runBoot_steps {env : BootEnv} {n : Nat} (h : s.half = .boot ∨ s.half = .selftest)
    (hp : s.rd MGMT_BOOT_STAT.BOOT_PHASE + 1 < env.upTo) : s.runBoot env (n + 1) = (s.bootStep env).runBoot env n := if_pos ⟨h, hp⟩

theorem runBoot_rests {env : BootEnv} {n : Nat}
    (h : ¬(s.half = .boot ∨ s.half = .selftest) ∨ env.upTo ≤ s.rd MGMT_BOOT_STAT.BOOT_PHASE + 1) : s.runBoot env n = s := by
  cases n with
  | zero => rfl
  | succ n => exact if_neg fun hb => h.elim (· hb.1) (not_le.mpr hb.2)

/-- The state of a boot that has taken too long, with an outcome already resolved logged (R113). -/
def overdue (s : State) : State :=
  if (s.atMs 180).rd MGMT_BOOT_STAT.BOOT_PHASE = 4 ∨ (s.atMs 180).rd MGMT_BOOT_STAT.BOOT_PHASE = 5 then (s.atMs 180).logBoot
  else s.atMs 180

theorem bootTmo_fails (h : s.half = .boot ∨ s.half = .selftest) : bootTmo s
    = State.enterBootFail (if (overdue s).domOn 3 = true then (((overdue s).keepOccur srcBootTmo 0).markEvent srcBootTmo).logOccur
        srcBootTmo 0 (Config.logCode 0x01 srcBootTmo) else overdue s) false := if_pos h

theorem pendingRequest_none (h : ¬(s.flag PWR_STATE.PEND = true ∧ s.flag PWR_STATE.BUSY = false)) : pendingRequest s = s :=
  if_neg (by simpa using h)

theorem pendingRequest_held (h : s.flag PWR_STATE.PEND = true ∧ s.flag PWR_STATE.BUSY = false) : pendingRequest s
    = if s.rd PWR_STATE.PEND_TGT = s.rd PWR_STATE.STATE then s.dropPending
      else ((s.setFlag PWR_STATE.PEND false).wr PWR_STATE.PEND_TGT 0).judgeNew (s.rd PWR_STATE.PEND_TGT) s.pwr.pendWriter :=
  if_pos (by simpa using h)

theorem seriesSwitchOpenDelay_disarming (h : s.pwr.trans = .disarming t) :
    seriesSwitchOpenDelay s = if t ≤ s.now then s.openSluice.endTransition else s := by
  rw [seriesSwitchOpenDelay, h]

theorem seriesSwitchOpenDelay_else (h : ∀ t, s.pwr.trans ≠ .disarming t) : seriesSwitchOpenDelay s = s := by
  unfold seriesSwitchOpenDelay
  split
  · next t ht => exact absurd ht (h t)
  · rfl

end

/-- Settles O41: a row is a write of PWR_REQ, and a request is judged by the state of the half. -/
theorem powerStatesAndRequests : Obligations.power_states_and_requests := by
  unfold Obligations.power_states_and_requests
  refine ⟨fun w fs s z => ?requests, fun env n t s => ?transitions⟩
  case requests =>
    extract_lets -descend row passed noted may busy hostWake
    have rows {x : Nat → State} (h : ∀ v t, Requests v t → s.swWrite w 0x3404 v = x t) (t : Nat) : row t (x t) := by
      refine ⟨?_, ?_, ?_, ?_⟩
      · rintro rfl
        exact next_congr (h 0x15#32 5 ⟨by decide, by decide, by decide, by decide⟩)
      · rintro rfl
        exact next_congr (h 0x14#32 4 ⟨by decide, by decide, by decide, by decide⟩)
      · rintro rfl
        exact next_congr (h 0x17#32 7 ⟨by decide, by decide, by decide, by decide⟩)
      · rintro rfl
        exact next_congr (h 0x11#32 1 ⟨by decide, by decide, by decide, by decide⟩)
    refine ⟨fun hp hr => rows fun v t hv => swWrite_unreached (request_open hp) hr,
      fun hp hr => rows fun v t hv => swWrite_request hv hp hr,
      fun hp hr hn => rows fun v t hv => swWrite_request_barred hv hp hr hn,
      fun hp hr hn => rows fun v t hv => swWrite_request_unreached hp hr hn, fun hoff t => if_pos hoff, fun hon => ?_⟩
    have wakes {t : Nat} (h : ¬(hostWake ∧ t = 4)) : ¬(z.half = .watch ∧ t = 4 ∧ w = 0) := fun hw => h ⟨⟨hw.1, hw.2.2⟩, hw.2.1⟩
    have judged {t : Nat} (hm : may) (hb : ¬(t ≠ 7 ∧ busy)) (ht : ¬(hostWake ∧ t = 4)) : z.requestRow t w = z.judge t w :=
      (requestRow_request hon (wakes ht)).trans (request_judged hm hb)
    refine ⟨fun hm t ht => (requestRow_request hon (wakes ht)).trans (request_barred (Bool.eq_false_iff.mpr hm)),
      fun hm hb t h7 ht => (requestRow_request hon (wakes ht)).trans (request_pends hm h7 hb), fun hm hb => ?idle,
      fun hm hh => ?safe, fun hm h1 h2 h3 => ?notSafe, fun hw he => ?wake, fun hw he => ?noWake⟩
    case idle =>
      have other {t : Nat} (ht : t ≠ 4) : z.requestRow t w = z.judge t w := judged hm (fun h => hb h.2) (fun h => ht h.2)
      have standby (h : ¬hostWake) : z.requestRow 4 w = z.judge 4 w := judged hm (fun h => hb h.2) (fun h' => h h'.1)
      have awake (h : z.half ≠ .watch) : ¬hostWake := fun hw => h hw.1
      refine ⟨fun h => ⟨(other (by decide)).trans (if_pos h), (other (by decide)).trans (if_pos h), ?_⟩,
        fun h => ⟨(other (by decide)).trans (if_neg h), (other (by decide)).trans (if_neg h)⟩, fun h => ?_, fun h ht => ?_, fun h ht => ?_,
        fun h1 h2 h3 h4 hw => (standby hw).trans ?_⟩
      · rw [standby (awake (by rw [h]; decide))]
        exact (if_neg (by rw [h]; decide)).trans (if_neg (by rw [h]; decide))
      · rw [standby (awake (by rcases h with h | h <;> rw [h] <;> decide))]
        exact if_pos h
      · rw [standby (awake (by rw [h]; decide))]
        exact (if_neg (by rw [h]; decide)).trans ((if_pos h).trans (if_pos ht))
      · rw [standby (awake (by rw [h]; decide))]
        exact (if_neg (by rw [h]; decide)).trans ((if_pos h).trans (if_neg (not_lt.mpr ht)))
      · exact (if_neg (not_or.mpr ⟨h2, h3⟩)).trans (if_neg h4)
    case safe =>
      have asks : z.requestRow 7 w = noted.requestSafe w := (judged hm (fun h => h.1 rfl) (by simp)).trans (judge_safe hh)
      exact ⟨fun h => asks.trans (requestSafe_asleep (s := noted) h), fun h => asks.trans (requestSafe_again (s := noted) h),
        fun hs h => asks.trans (requestSafe_enters (s := noted) hs h)⟩
    case notSafe =>
      exact (judged hm (fun h => h.1 rfl) (by simp)).trans (if_neg (by simp [h1, h2, h3]))
    case wake => exact (requestRow_wake hw.1 hw.2).trans (if_pos he)
    case noWake => exact (requestRow_wake hw.1 hw.2).trans (if_neg (Bool.eq_false_iff.mp he))
  case transitions =>
    extract_lets -descend powered boots late over_ held target
    refine ⟨rfl, runBoot_steps, runBoot_rests, fun hon hb => next_congr ?rests,
      fun h hd => next_congr ((bootTmo_fails h).trans (congrArg (State.enterBootFail · false) (if_pos hd))),
      fun h hd => next_congr ((bootTmo_fails h).trans (congrArg (State.enterBootFail · false) (if_neg (Bool.eq_false_iff.mp hd)))),
      fun h => next_congr (if_neg h), fun h ht => next_congr ((pendingRequest_held h).trans (if_pos ht)),
      fun h ht => next_congr ((pendingRequest_held h).trans (if_neg ht)), fun h => next_congr (pendingRequest_none h),
      fun h ht => next_congr ((seriesSwitchOpenDelay_disarming h).trans (if_pos ht)),
      fun h ht => next_congr ((seriesSwitchOpenDelay_disarming h).trans (if_neg (not_le.mpr ht))),
      fun h => next_congr (seriesSwitchOpenDelay_else h)⟩
    case rests =>
      rw [porRelease, if_neg hon]
      exact runBoot_rests (.inl hb)

end Sys2Proof.PowerStates


/-! SUPPORT. Wake sources, the cycle of the sequencer in WATCH, and loss of the supply (R466, R470 to R472). -/

namespace Sys2Proof.WakeSources

open Sys2Proof Sys2Proof.Machine Sys2Proof.Safety Sys2Proof.Laws

/-- What a wake source does to a half (R466, R470). -/
def Effect (q : State) (b : Nat) (r : State) : Prop :=
  let caused := q.setBit PWR_WAKE_STAT.CAUSE b true
  let on := caused.bit PWR_WAKE_EN.EN b = true;
  (q.half = .off → r = q)
  ∧ (q.half ≠ .off → (¬on → r = caused)
    ∧ (on → caused.half = .watch → r = (caused.count PWR_WATCH_CNT.WAKE_CNT).beginBoot)
    ∧ (∀ k, on → caused.half ≠ .watch → caused.pwr.trans = .sleeping k ∨ caused.pwr.trans = .sleepDown → r = caused.sleepAborted)
    ∧ (on → caused.half ≠ .watch → (∀ k, caused.pwr.trans ≠ .sleeping k) → caused.pwr.trans ≠ .sleepDown → r = caused))


theorem effect_wakeSource (q : State) (b : Nat) : Effect q b (q.wakeSource b) := by
  refine ⟨fun h => if_pos h, fun h => ⟨fun hn => ?_, fun ho hw => ?_, fun k ho hw ht => ?_, fun ho hw hs hd => ?_⟩⟩
  · exact (if_neg h).trans (if_pos (by simpa using hn))
  · exact (if_neg h).trans ((if_neg (by simpa using ho)).trans (if_pos hw))
  · refine (if_neg h).trans ((if_neg (by simpa using ho)).trans ((if_neg hw).trans ?_))
    rcases ht with ht | ht <;> simp only [ht]
  · refine (if_neg h).trans ((if_neg (by simpa using ho)).trans ((if_neg hw).trans ?_))
    split
    · next k hk => exact absurd hk (hs k)
    · next hk => exact absurd hk hd
    · rfl

section
variable {s u q r : State} {start judged b t : Nat} {enc : EncWord} {hall raw : Nat} {wake : Option (Nat × Nat)}
  {x : Nat × Nat × Nat × Bool}

/-- What a source within the cycle leaves, at its time. -/
def wokenAt (u : State) (start : Nat) (k : Nat × Nat) : State := State.otherWake { u with now := start + k.2 } k.1

/-- A source before the sample is judged. -/
def earlySource (u : State) (start judged : Nat) (wake : Option (Nat × Nat)) : State :=
  (wake.filter fun k => k.2 < judged).elim u (wokenAt u start)

/-- A source in the twelve microseconds after the sample; they pass while the half stays in WATCH. -/
def lateSource (r : State) (start judged : Nat) (wake : Option (Nat × Nat)) : State :=
  (wake.filter fun k => judged ≤ k.2 && k.2 < judged + 4800).elim { r with now := r.now + 4800 } fun k =>
    if (wokenAt r start k).half = .watch then { wokenAt r start k with now := start + judged + 4800 } else wokenAt r start k

theorem earlySource_some (h : t < judged) : earlySource u start judged (some (b, t)) = wokenAt u start (b, t) := by
  simp [earlySource, Option.filter, h]

theorem earlySource_none (h : ∀ b t, wake = some (b, t) → judged ≤ t) : earlySource u start judged wake = u := by
  rcases wake with - | ⟨b, t⟩
  · rfl
  · simp [earlySource, Option.filter, not_lt.mpr (h b t rfl)]

theorem lateSource_some (hlo : judged ≤ t) (hhi : t < judged + 4800) : lateSource r start judged (some (b, t))
    = if (wokenAt r start (b, t)).half = .watch then { wokenAt r start (b, t) with now := start + judged + 4800 }
      else wokenAt r start (b, t) := by
  have hin : (some (b, t)).filter (fun k : Nat × Nat => judged ≤ k.2 && k.2 < judged + 4800) = some (b, t) := by
    simp [Option.filter, hlo, hhi]
  rw [lateSource, hin]
  rfl

theorem lateSource_none (h : ∀ b t, wake = some (b, t) → t < judged ∨ judged + 4800 ≤ t) :
    lateSource r start judged wake = { r with now := r.now + 4800 } := by
  have hout : wake.filter (fun k => judged ≤ k.2 && k.2 < judged + 4800) = none := by
    rcases wake with - | ⟨b, t⟩
    · rfl
    · have hbt := h b t rfl
      simp [Option.filter]
      omega
  rw [lateSource, hout]
  rfl

theorem watchCycle_idle (h : ¬(s.half = .watch ∧ s.rd PWR_WATCH.SRC ≠ 0)) : watchCycle enc hall raw wake s = s := if_neg h

/-- The cycle in its parts: `q` after an early source, `r` after the sample. -/
theorem watchCycle_runs (h : s.half = .watch ∧ s.rd PWR_WATCH.SRC ≠ 0) (hstart : max s.now s.pwr.watchAt = start)
    (hu : ({ s with pwr := { s.pwr with watchAt := start + max 1 (s.rd PWR_WATCH.PERIOD) * 400000 } } : State) = u)
    (hx : u.watchSample enc hall raw = x) (hj : (32 + 10 * max 1 (u.rd PWR_WATCH.SETTLE)) * 400 + x.1 = judged)
    (hq : earlySource u start judged wake = q) (hr : (if q.half = .watch then q.judgeSample start x else q) = r) :
    watchCycle enc hall raw wake s = if r.half = .watch then lateSource r start judged wake else r := by
  unfold watchCycle
  rw [if_pos h]
  extract_lets start' pwr' u' x' judged' early late q' r'
  have hq' : q' = early.elim u' (wokenAt u' start') := by
    unfold q'
    cases early <;> rfl
  have hr' : r' = r := by
    rw [← hr, ← hq, ← hj, ← hx, ← hu, ← hstart]
    unfold r'
    rw [hq']
    rfl
  rw [hr']
  by_cases hw : r.half = .watch
  · rw [if_pos hw, if_pos hw]
    subst hj hx hu hstart
    unfold lateSource
    change _ = Option.elim late _ _
    cases late <;> rfl
  · rw [if_neg hw, if_neg hw]

/-- The sample of a cycle: the reference it is judged by, the time of the judgement, and what it leaves. -/
theorem judgeSample_effect (q : State) (start : Nat) (x : Nat × Nat × Nat × Bool) :
    let known := q.pwr.reference
    let pwr := { q.pwr with reference := if x.2.2.2 = true then known else some (known.getD x.2.2.1) }
    let w := ({ q with now := start + (32 + 10 * max 1 (q.rd PWR_WATCH.SETTLE)) * 400 + x.1, pwr := pwr } : State)
    let v := (w.countWrap PWR_WATCH_CNT.CYC_CNT).wr PWR_WAKE_STAT.LAST x.2.1;
    (x.2.2.2 = true → q.judgeSample start x = (v.setFlag PWR_WAKE_STAT.ERR true).wakeSource 7)
    ∧ (x.2.2.2 = false → known = none → q.judgeSample start x = v)
    ∧ (∀ k, x.2.2.2 = false → known = some k → v.watchOutside k x.2.2.1 = true → q.judgeSample start x = v.wakeSource 7)
    ∧ (∀ k, x.2.2.2 = false → known = some k → v.watchOutside k x.2.2.1 = false → q.judgeSample start x = v) := by
  obtain ⟨tEnc, last, sample, bad⟩ := x
  extract_lets -descend known pwr w v
  have hdef : q.judgeSample start (tEnc, last, sample, bad)
      = if bad = true then (v.setFlag PWR_WAKE_STAT.ERR true).wakeSource 7
        else if known.any (v.watchOutside · sample) = true then v.wakeSource 7 else v := rfl
  refine ⟨fun hb => hdef.trans (if_pos hb), fun hb hk => ?_, fun k hb hk ho => ?_, fun k hb hk ho => ?_⟩
  · exact hdef.trans ((if_neg (Bool.eq_false_iff.mp hb)).trans (if_neg (by simp [hk])))
  · exact hdef.trans ((if_neg (Bool.eq_false_iff.mp hb)).trans (if_pos (by simpa [hk] using ho)))
  · exact hdef.trans ((if_neg (Bool.eq_false_iff.mp hb)).trans (if_neg (by simpa [hk] using ho)))

/-- Loss of the supply keeps the identity and what memories without power hold. -/
theorem porAssert_keeps (s : State) : (porAssert s).part = s.part ∧ (porAssert s).halfId = s.halfId ∧ (porAssert s).strap = s.strap
    ∧ (porAssert s).mram = s.mram ∧ (porAssert s).otp = s.otp ∧ (porAssert s).flash = s.flash ∧ (porAssert s).fuse = s.fuse :=
  ⟨rfl, rfl, rfl, rfl, rfl, rfl, rfl⟩

theorem porAssert_half (s : State) : (porAssert s).half = .off := by
  have hread : (porAssert s).rd PWR_STATE.STATE = 0 := by
    change (State.setFlag (State.setFlag (State.wr (State.wr _ PWR_STATE.STATE 0) PWR_STATE.DOM_ON 0) PWR_STATE.BUSY false)
      FC_STAT.FAULT false).rd PWR_STATE.STATE = 0
    unfold State.setFlag
    rw [wr_rd_ne _ _ _ _ (by decide), wr_rd_ne _ _ _ _ (by decide), wr_rd_ne _ _ _ _ (by decide), wr_rd_self]
    rfl
  rw [State.half, hread]
  rfl

end

/-- Settles O42: every source is `wakeSource` under its condition, and the cycle is taken apart at its two sources. -/
theorem wakeSources : Obligations.wake_sources := by
  unfold Obligations.wake_sources
  intro c p dom1 rec_ dom2 us hall raw high enc wake s
  extract_lets -descend effect canOk cycles
  have caused (q : State) (b : Nat) : effect q b (q.wakeSource b) := effect_wakeSource q b
  refine ⟨fun h => ⟨_, next_congr (if_pos h), caused s 0⟩, fun h => next_congr (if_neg h), fun h => ⟨_, next_congr (if_pos h), caused s _⟩,
    fun h => next_congr (if_neg h), ⟨_, rfl, caused s _⟩, fun hp hu => ⟨_, next_congr (if_pos ⟨hp, hu⟩), caused s 6⟩,
    fun h => next_congr (if_neg ?short), fun z b => ⟨fun h => if_pos h, fun h => ?other⟩, fun h => ?cycle,
    fun h => next_congr (watchCycle_idle h), ⟨_, rfl, ?lost⟩⟩
  case short =>
    rintro ⟨hp, hu⟩
    rcases h with h | h
    · rw [h] at hp
      exact absurd hp (by decide)
    · omega
  case other =>
    rw [State.otherWake, if_neg h]
    exact caused z b
  case cycle =>
    extract_lets -descend start u x judged woken
    obtain ⟨q, hq⟩ : ∃ q, earlySource u start judged wake = q := ⟨_, rfl⟩
    obtain ⟨r, hr⟩ : ∃ r, (if q.half = .watch then q.judgeSample start x else q) = r := ⟨_, rfl⟩
    obtain ⟨f, hf⟩ : ∃ f, (if r.half = .watch then lateSource r start judged wake else r) = f := ⟨_, rfl⟩
    refine ⟨q, r, f, next_congr ((watchCycle_runs h rfl rfl rfl rfl hq hr).trans hf), fun b at_ hw ht => ?_,
      fun hw => hq.symm.trans (earlySource_none hw), fun hn => hr.symm.trans (if_neg hn), fun hw => ?_,
      fun hn => hf.symm.trans (if_neg hn), fun hw => ⟨fun b at_ hk hlo hhi => ?_, fun hk => ?_⟩⟩
    · rw [hw] at hq
      exact hq.symm.trans (earlySource_some ht)
    · rw [if_pos hw] at hr
      subst hr
      extract_lets -descend known pwr w v
      obtain ⟨hbad, hfirst, houtside, hinside⟩ := judgeSample_effect q start x
      exact ⟨fun h => by rw [hbad h]; exact caused _ 7, hfirst, fun k h hk ho => by rw [houtside k h hk ho]; exact caused _ 7, hinside⟩
    · rw [if_pos hw, hk, lateSource_some hlo hhi] at hf
      exact ⟨fun hn => hf.symm.trans (if_pos hn), fun hn => hf.symm.trans (if_neg hn)⟩
    · rw [if_pos hw, lateSource_none hk] at hf
      exact hf.symm
  case lost =>
    obtain ⟨hpart, hid, hstrap, hmram, hotp, hflash, hfuse⟩ := porAssert_keeps s
    exact ⟨porAssert_half s, hpart, hid, hstrap, hmram, hotp, hflash, hfuse⟩

end Sys2Proof.WakeSources


/-! SUPPORT. Encoder words, Hall codes and the faults of the position vote (chapter 06). -/

namespace Sys2Proof.Positions

open Sys2Proof Sys2Proof.Machine Sys2Proof.Safety Sys2Proof.Laws Sys2Proof.Writes

section
variable {s b u : State} {p t0 m i : Nat} {x : EncWord}

/-! ### Encoder words (R143 to R147) -/

theorem pulseMeets_iff (s : State) (i settle t0 : Nat) : s.pulseMeets i settle t0 = true ↔ s.bit SAFE_TPA1.USE i = true ∧
    ∃ q, (s.safe.pulseAt.find? fun q => q.1 == s.inputSupply i) = some q ∧ t0 ≤ q.2 + (s.rd SAFE_TP.TP_WIDTH + 4 * settle) * 400 := by
  rw [State.pulseMeets, Bool.and_eq_true]
  refine and_congr_right fun _ => ?_
  cases (s.safe.pulseAt.find? fun q => q.1 == s.inputSupply i) with
  | none => simp
  | some q => exact decide_eq_true_iff.trans ⟨fun h => ⟨q, rfl, h⟩, fun ⟨r, hr, h⟩ => Option.some.inj hr ▸ h⟩

theorem encoderWordRelease_none (h : s.bit POS_CTRL.PORT_EN p = false ∨ (s.port p).reqAt = none) :
    encoderWordRelease p x s = s := by
  unfold encoderWordRelease
  extract_lets q
  split
  · next t0 he hr =>
      rcases h with h | h
      · exact absurd (he.symm.trans h) (by decide)
      · exact absurd (hr.symm.trans h) (Option.some_ne_none t0)
  · rfl

/-- The span of a request ends: the word is judged, unless its tick has passed. -/
theorem encoderWordRelease_ends (he : s.bit POS_CTRL.PORT_EN p = true) (hr : (s.port p).reqAt = some t0)
    (hb : State.setBit { s with now := max s.now (t0 + (s.port p).reqSpan), cec := s.cec + (t0 + (s.port p).reqSpan - s.now) }
      POS_STAT.BUSY p false = b) (hu : (if (s.port p).late = true then b else b.judgeWord p t0 x) = u) :
    encoderWordRelease p x s = u.setPort p { u.port p with reqAt := none, late := false } := by
  subst hu hb
  simp only [encoderWordRelease, he, hr]


/-- A word at the end of its span, by the phase and the divider of its request. -/
def wordOf (b : State) (p : Nat) (x : EncWord) (fate : WordFate) : PosWord :=
  ⟨(b.port p).reqPhase, (b.port p).reqDiv, (b.encSplit p (b.encWord p x)).1, (b.encSplit p (b.encWord p x)).2, fate⟩

/-- The warning bit of a word, shown. -/
def warned (b : State) (p : Nat) (x : EncWord) : State :=
  b.setFlag (POS_PORT_LAST.WARN p) (b.flag (POS_PORT_CFG.MODE p) && x.started && !x.nW)

theorem judgeWord_met (h : (warned b p x).pulseMeets p ((warned b p x).rd (POS_PORT_TIM.SETTLE p)) t0 = true) :
    b.judgeWord p t0 x = ((warned b p x).wr (POS_PORT_LAST.RESULT p) 6).keepWord p (wordOf b p x .discarded) := if_pos h

theorem judgeWord_checked (h : ¬(warned b p x).pulseMeets p ((warned b p x).rd (POS_PORT_TIM.SETTLE p)) t0 = true) {result : Nat}
    (hr : (warned b p x).encCheck p x (wordOf b p x .good) = result) : b.judgeWord p t0 x
    = (((warned b p x).wr (POS_PORT_LAST.RESULT p) result).countEnc p result).keepWord p
        (wordOf b p x (if result = 0 then .good else .failed)) := by
  subst hr
  exact if_neg h

/-! ### Hall codes (R148, R149) -/

variable {h code : Nat}

/-- A triple takes its code: it is enabled, and no test pulse meets it. -/
def HallTaken (s : State) (h : Nat) : Prop := s.flag (POS_HALL_CFG.HEN h) = true
  ∧ s.pulseMeets (3 + h) (s.rd (POS_PORT_TIM.SETTLE h)) s.now = false

/-- A code or a step that fails: the triple has no crossing, and its motors report. -/
def hallFailed (s z : State) (h : Nat) : State :=
  ((z.setHall h { s.hall h with crossed := none, bad := true }).sensorUsers 2 h).foldl (fun s m => s.report srcPosHall m)
    (z.setHall h { s.hall h with crossed := none, bad := true })

theorem hallCodeTaken_not (ht : ¬HallTaken s h) : hallCodeTaken h code s = s :=
  if_pos (by
    by_contra hn
    exact ht (by simpa [HallTaken] using hn))

theorem hallCodeTaken_illegal (ht : HallTaken s h) (hc : code % 8 = 0 ∨ code % 8 = 7) : hallCodeTaken h code s
    = hallFailed s (((s.wr (POS_HALL_STAT.CODE h) (code % 8)).setFlag (POS_HALL_STAT.ILL h) true).count (POS_HALL_STAT.ILL_CNT h)) h := by
  obtain ⟨hen, hmet⟩ := ht
  exact (if_neg (by simp [hen, hmet])).trans (if_pos hc)

/-- The code and the sector of a legal code, shown. -/
def shownCode (s : State) (h code : Nat) : State :=
  (s.wr (POS_HALL_STAT.CODE h) (code % 8)).wr (POS_HALL_STAT.SECTOR h) (s.hallSector h (code % 8))

/-- A legal code: the first one makes the sector known, a step to a neighbour is a crossing, and one over a sector fails. -/
theorem hallCodeTaken_legal (ht : HallTaken s h) (hc : ¬(code % 8 = 0 ∨ code % 8 = 7)) {a b : Nat} {u : State}
    (ha : s.rd (POS_HALL_STAT.SECTOR h) = a) (hb : s.hallSector h (code % 8) = b) (hu : shownCode s h code = u) :
    hallCodeTaken h code s
    = if (!(s.hall h).known) = true then u.setHall h { s.hall h with known := true }
      else if a = b then u
      else if b = (a + 1) % 6 then (u.setHall h { s.hall h with crossed := some (sectorStart b, u.now) }).hallComm h b true
      else if a = (b + 1) % 6 then (u.setHall h { s.hall h with crossed := some (sectorStart a, u.now) }).hallComm h b false
      else hallFailed s ((u.setFlag (POS_HALL_STAT.SEQ h) true).count (POS_HALL_STAT.SEQ_CNT h)) h := by
  obtain ⟨hen, hmet⟩ := ht
  subst ha hb hu
  exact (if_neg (by simp [hen, hmet])).trans (if_neg hc)

/-! ### Readmission (R156) -/

theorem sourceReadmitted_back (h : s.bit (POS_VSTAT.PEND m) i = true ∧ 64 ≤ lookup (s.pos m).goods 0 i)
    (hu : (((s.setBit (POS_VSTAT.PEND m) i false).setBit (POS_CTL.READMIT m) i false).setBit (POS_VSTAT.DROP m) i false).setPos m
      { s.pos m with drops := erase (s.pos m).drops i, goods := erase (s.pos m).goods i } = u) :
    sourceReadmitted m i s = if u.rd (POS_VSTAT.DROP m) = 0 then u.lower srcPosDrop m else u := by
  subst hu
  exact if_pos h

end

/-- Settles O43. -/
theorem sensorWordsAndCodes : Obligations.sensor_words_and_codes := by
  unfold Obligations.sensor_words_and_codes
  intro p h code t0 x s
  refine ⟨pulseMeets_iff s, rfl, fun he hr => ?word, fun h => next_congr (encoderWordRelease_none h), ?hall⟩
  case word =>
    extract_lets -descend q a b ended split word u met result
    have release {t z : State} (hz : (if q.late = true then b else b.judgeWord p t0 x) = z) (ht : ended z = t) :
        exec (.encoderWordRelease p x) s = completes s t := next_congr ((encoderWordRelease_ends he hr (b := b) rfl hz).trans ht)
    have onTime {t z : State} (hl : q.late = false) (hz : b.judgeWord p t0 x = z) (ht : ended z = t) :
        exec (.encoderWordRelease p x) s = completes s t := release ((if_neg (Bool.eq_false_iff.mp hl)).trans hz) ht
    refine ⟨fun hl => release (if_pos hl) rfl, fun hl hm => onTime hl (judgeWord_met hm) rfl,
      fun hl hm hr => onTime hl (judgeWord_checked hm (result := result) rfl) ?_,
      fun hl hm hr => onTime hl (judgeWord_checked hm (result := result) rfl) ?_⟩
    · rw [if_pos hr]
      rfl
    · rw [if_neg hr]
      rfl
  case hall =>
    extract_lets -descend taken c legal old a b u failed
    have legally (ht : taken) (hc : legal) := hallCodeTaken_legal (a := a) (b := b) (u := u) ht
      (fun hn => hn.elim hc.1 hc.2) rfl rfl rfl
    have known {t : State} (ht : taken) (hc : legal) (hk : old.known = true) (hz : (if a = b then u
        else if b = (a + 1) % 6 then (u.setHall h { old with crossed := some (sectorStart b, u.now) }).hallComm h b true
        else if a = (b + 1) % 6 then (u.setHall h { old with crossed := some (sectorStart a, u.now) }).hallComm h b false
        else failed ((u.setFlag (POS_HALL_STAT.SEQ h) true).count (POS_HALL_STAT.SEQ_CNT h))) = t) :
        exec (.hallCodeTaken h code) s = completes s t :=
      next_congr ((legally ht hc).trans ((if_neg (by rw [show (s.hall h).known = true from hk]; decide)).trans hz))
    refine ⟨fun ht => next_congr (hallCodeTaken_not ht), fun ht hc => next_congr (hallCodeTaken_illegal ht ?_),
      fun ht hc hk => next_congr ((legally ht hc).trans (if_pos (by rw [show (s.hall h).known = false from hk]; rfl))),
      fun ht hc hk => ⟨fun h1 => known ht hc hk (if_pos h1), fun h1 h2 => known ht hc hk ((if_neg h1).trans (if_pos h2)),
        fun h1 h2 h3 => known ht hc hk ((if_neg h1).trans ((if_neg h2).trans (if_pos h3))),
        fun h1 h2 h3 => known ht hc hk ((if_neg h1).trans ((if_neg h2).trans (if_neg h3)))⟩⟩
    by_contra hn
    exact hc (not_or.mp hn)

/-- Settles O44: a command acts at its count and does nothing below it. -/
theorem positionVotes : Obligations.position_votes := by
  unfold Obligations.position_votes
  intro m i mask w s
  extract_lets -descend drops dis one none_ back
  have hdrops : (s.sourceOn m i ∧ !s.bit (POS_VSTAT.DROP m) i ∧ max 1 (s.rd (POS_VOTE.VOTE_M m)) ≤ lookup (s.pos m).drops 0 i) ↔ drops := by
    simp [drops]
  refine ⟨rfl, fun h => next_congr (if_pos (hdrops.mpr h)), fun h => next_congr (if_neg (mt hdrops.mp h)),
    fun h => next_congr (if_pos h), fun h => next_congr (if_neg h), fun h => next_congr (if_pos h), fun h => next_congr (if_neg h),
    fun h => next_congr (if_pos h), fun h => next_congr (if_neg h), fun h => next_congr (asWriter_taken h), fun h => ?_,
    fun h => next_congr (if_neg h), fun h => next_congr (asWriter_taken h), fun hm h => ?_⟩
  · extract_lets -descend p v u
    have hu := sourceReadmitted_back h (u := u) rfl
    exact ⟨fun hd => next_congr (hu.trans (if_pos hd)), fun hd => next_congr (hu.trans (if_neg hd))⟩
  · have hoff : 0x0CB4 + 0x40 * m < 0x2800 ∨ 0x2C00 ≤ 0x0CB4 + 0x40 * m := by omega
    exact ⟨next_congr (asWriter_met hoff h), next_congr (asWriter_met hoff h)⟩

end Sys2Proof.Positions


/-! SUPPORT. The motor sequencer: catch, timed states, starts, host steps and the locked rotor (R283 to R297). -/

namespace Sys2Proof.Sequencer

open Sys2Proof Sys2Proof.Machine Sys2Proof.Safety Sys2Proof.Laws Sys2Proof.Writes

section
variable {s : State} {m : Nat}

/-! ### The catch (R286, R287) -/

/-- The catch window of a motor is over. -/
def CatchDue (s : State) (m : Nat) : Prop := s.chState m = chCatch ∧ s.rd (FIELD_CATCH.CATCH_T m) * 40000 ≤ (s.chan m).timer

theorem catchDecision_open (h : ¬CatchDue s m) : catchDecision m s = s := by
  have hopen : s.chState m ≠ chCatch ∨ (s.chan m).timer < s.rd (FIELD_CATCH.CATCH_T m) * 40000 := by
    rcases not_and_or.mp h with h | h
    · exact .inl h
    · exact .inr (not_le.mp h)
  exact if_pos hopen

theorem catchDecision_due (h : CatchDue s m) {t : State} (ht : (
    if s.peakAboveBus m = true then
      (((((((s.wr (FIELD_STAT.CATCH_RES m) 3).setCh m chRefuse).setFlag (FIELD_STAT.REFUSED m) true).count
        (FIELD_CNT.REFUSE_CNT m)).setChan m { s.chan m with timer := 0, busHist := [], refuseShort := false }).report srcFieldRefuse
          m).settle m)
    else if s.standstill m = true ∨ ((s.catchSpeed m).natAbs : Int) < (s.rd (FIELD_CATCH.CATCH_LOW m) : Int) * 65536 then
      (if (s.wr (FIELD_STAT.CATCH_RES m) 0).sensored m = true then (s.wr (FIELD_STAT.CATCH_RES m) 0).enterRun m
        else (s.wr (FIELD_STAT.CATCH_RES m) 0).enterStart m).settle m
    else if (0 < s.catchSpeed m) = !(s.chan m).dir then
      ((s.wr (FIELD_STAT.CATCH_RES m) 1).enterSync m (s.catchSpeed m)).settle m
    else (((s.wr (FIELD_STAT.CATCH_RES m) 2).setCh m chBrake).setChan m
      { s.chan m with timer := 0, shortOff := false, shortNext := false }).settle m) = t) : catchDecision m s = t := by
  have hclosed : ¬(s.chState m ≠ chCatch ∨ (s.chan m).timer < s.rd (FIELD_CATCH.CATCH_T m) * 40000) := by
    rintro (hn | hn)
    · exact hn h.1
    · exact absurd h.2 (not_le.mpr hn)
  exact (if_neg hclosed).trans ht

/-- The rotor turns in the commanded direction. -/
theorem forward_iff (w : Int) (dir : Bool) : ((0 < w) = !dir) ↔ (0 < w ↔ dir = false) := by
  cases dir <;> simp

/-! ### Host steps (R296) -/

variable {x y : HStep}

theorem hstepStepEnd_none (h : (s.chan m).step = none) : hstepStepEnd m s = s := by
  simp only [hstepStepEnd, h]

/-- The end of a running step has come. -/
def StepEnds (s : State) (m : Nat) (x : HStep) : Prop := s.chState m = chHstep ∧ max 1 x.dur ≤ (s.chan m).stepTicks

theorem hstepStepEnd_running (h : (s.chan m).step = some x) (he : ¬StepEnds s m x) : hstepStepEnd m s = s := by
  have hrun : s.chState m ≠ chHstep ∨ (s.chan m).stepTicks < max 1 x.dur := by
    rcases not_and_or.mp he with he | he
    · exact .inl he
    · exact .inr (not_le.mp he)
  simp only [hstepStepEnd, h]
  exact if_pos hrun

theorem not_running (he : StepEnds s m x) : ¬(s.chState m ≠ chHstep ∨ (s.chan m).stepTicks < max 1 x.dur) := by
  rintro (h | h)
  · exact h he.1
  · exact absurd he.2 (not_le.mpr h)

theorem hstepStepEnd_handover (h : (s.chan m).step = some x) (he : StepEnds s m x) (hk : x.kind = 4) :
    hstepStepEnd m s = (if s.handoverDue m = true then s.handover m else s.failStart m).settle m := by
  simp only [hstepStepEnd, h]
  exact (if_neg (not_running he)).trans (if_pos hk)

theorem hstepStepEnd_next (h : (s.chan m).step = some x) (he : StepEnds s m x) (hk : x.kind ≠ 4) (hq : (s.chan m).queued = some y) :
    hstepStepEnd m s = (s.beginStep m y).settle m := by
  simp only [hstepStepEnd, h, hq]
  exact (if_neg (not_running he)).trans (if_neg hk)

theorem hstepStepEnd_missed (h : (s.chan m).step = some x) (he : StepEnds s m x) (hk : x.kind ≠ 4) (hq : (s.chan m).queued = none) :
    hstepStepEnd m s = ((s.setChan m { s.chan m with step := none }).setFlag (FIELD_STAT.HSTEP_MISS m) true).settle m := by
  unfold hstepStepEnd
  extract_lets c
  rw [show c.step = some x from h]
  refine (if_neg (not_running he)).trans ((if_neg hk).trans ?_)
  rw [show c.queued = none from hq]

end

/-- Settles O45: each command acts where its condition holds and does nothing otherwise. -/
theorem motorStartsAndStops : Obligations.motor_starts_and_stops := by
  unfold Obligations.motor_starts_and_stops
  refine ⟨fun m s => ?caught, fun m s => ?timed, fun w m kind dur param x y s => ?steps⟩
  case caught =>
    extract_lets -descend due w slow c
    have decided {t : State} (h : due) := catchDecision_due (t := t) h
    refine ⟨fun h hp => next_congr (decided h (if_pos hp)), fun h hp hs => ?_,
      fun h hp hs hd => next_congr (decided h ((if_neg (Bool.eq_false_iff.mp hp)).trans ((if_neg hs).trans (if_pos ((forward_iff _ _).mpr hd))))),
      fun h hp hs hd => next_congr (decided h ((if_neg (Bool.eq_false_iff.mp hp)).trans ((if_neg hs).trans (if_neg (mt (forward_iff _ _).mp hd))))),
      fun h => next_congr (catchDecision_open h)⟩
    extract_lets -descend u
    have slowly {t : State} (ht : (if u.sensored m = true then u.enterRun m else u.enterStart m).settle m = t) :
        exec (.catchDecision m) s = completes s t :=
      next_congr (decided h ((if_neg (Bool.eq_false_iff.mp hp)).trans ((if_pos hs).trans ht)))
    exact ⟨fun hn => slowly (by rw [if_pos hn]), fun hn => slowly (by rw [if_neg (Bool.eq_false_iff.mp hn)])⟩
  case timed =>
    extract_lets -descend c brake refuse align pause
    have hbrake : (s.chState m = chBrake ∧ !s.sensored m ∧ s.brkSeg m ≤ (s.chan m).timer) ↔ brake := by simp [brake, c]
    refine ⟨fun h => next_congr (if_pos (hbrake.mpr h)), fun h => next_congr (if_neg (mt hbrake.mp h)),
      fun h => next_congr (if_pos h), fun h => next_congr (if_neg h), fun h => next_congr (if_pos h), fun h => next_congr (if_neg h),
      fun h hb => next_congr ((if_pos h).trans (if_pos ?_)), fun h hb => next_congr ((if_pos h).trans (if_neg ?_)),
      fun h => next_congr (if_neg h)⟩
    · rw [show (s.chan m).blockedEn = false from hb]
      rfl
    · rw [show (s.chan m).blockedEn = true from hb]
      decide
  case steps =>
    extract_lets -descend c timeout ends watched once twice
    have htimeout : (s.starting m ∧ (s.chan m).startOn ∧ s.rd (FIELD_HAND.START_TMO m) * 10 * cecPerMs ≤ (s.chan m).startTimer
        ∧ !s.handoverDue m) ↔ timeout := by simp [timeout, c, cecPerMs]
    refine ⟨fun h => next_congr (if_pos h), fun h => next_congr (if_neg (Bool.eq_false_iff.mp h)),
      fun h => next_congr (if_pos (htimeout.mpr h)), fun h => next_congr (if_neg (mt htimeout.mp h)),
      fun h => next_congr (asWriter_taken h), fun hm h => next_congr (asWriter_met (by omega) h),
      fun h => next_congr (hstepStepEnd_none h), fun h => ⟨fun he => next_congr (hstepStepEnd_running h he),
        fun he hk hq => next_congr (hstepStepEnd_next h he hk hq), fun he hk hq => next_congr (hstepStepEnd_missed h he hk hq),
        fun he hk hd => next_congr ((hstepStepEnd_handover h he hk).trans (by rw [if_pos hd])),
        fun he hk hd => next_congr ((hstepStepEnd_handover h he hk).trans (by rw [if_neg (Bool.eq_false_iff.mp hd)]))⟩,
      fun h => next_congr (if_pos ?_), fun h => next_congr (if_neg ?_), fun h => next_congr (if_pos ?_), fun h => next_congr (if_neg ?_)⟩
    · exact and_assoc.mp h
    · exact mt and_assoc.mpr h
    · exact and_assoc.mp h
    · exact mt and_assoc.mpr h

end Sys2Proof.Sequencer


/-! SUPPORT. Monitors of the power stage, the chopper, overvoltage and the series switches (chapter 12). -/

namespace Sys2Proof.PowerStage

open Sys2Proof Sys2Proof.Machine Sys2Proof.Safety Sys2Proof.Laws Sys2Proof.Writes

section
variable {s : State} {g p n t : Nat}

/-! ### Monitors of switches and cut-offs (R312 to R318) -/

theorem gdXcmd_reported (h : ∃ g ∈ phaseGates p, g ∈ s.gd.refused) : gdXcmd p s = s := if_pos (by simpa using h)

theorem gdXcmd_refuses (h : ∀ g ∈ phaseGates p, g ∉ s.gd.refused) {off : List Nat}
    (ho : (phaseGates p).filter (fun g => !s.gateOn g) = off) : gdXcmd p s
    = ((({ s with gd := { s.gd with refused := s.gd.refused ++ off, waitingOn := s.gd.waitingOn.filter (!off.contains ·) } } :
        State).setBit (GDM_EVT.XCMD (p / 3)) (p % 3) true).count (GDM_CNT.XCMD_CNT (p / 3))).report srcGdXcmd p := by
  subst ho
  exact if_neg (by simpa using h)

theorem cutoffForcedOpen_waiting (h : (s.cut p).waiting = some n) : cutoffForcedOpen p s
    = if max 1 (s.rd (GDM_CUT.CUT_DLY (p / 3))) ≤ n then
        ((s.setCut p ⟨false, none⟩).senseCut p false).setBit (GDM_EVT.CUT_FORCED (p / 3)) (p % 3) true
      else s := by
  rw [cutoffForcedOpen, h]

theorem cutoffForcedOpen_none (h : (s.cut p).waiting = none) : cutoffForcedOpen p s = s := by
  rw [cutoffForcedOpen, h]

/-! ### The chopper (R319, R320) -/

theorem chopperOff_follows (h : ∀ x, s.gd.test = some x → x.aborted = true) :
    chopperOff s = ({ s with gd := { s.gd with busHigh := false } } : State).chopFollow := by
  refine if_pos ?_
  change (s.gd.test.map (·.aborted)).getD true = true
  cases ht : s.gd.test with
  | none => rfl
  | some x => exact h x ht

theorem chopperOff_tested {x : SluiceTest} (ht : s.gd.test = some x) (h : x.aborted = false) :
    chopperOff s = { s with gd := { s.gd with busHigh := false } } := by
  refine if_neg ?_
  change ¬(s.gd.test.map (·.aborted)).getD true = true
  rw [ht]
  exact Bool.eq_false_iff.mp h

/-- The chopper after its rest, with the fault ended. -/
def rested (s : State) : State := ({ s with gd := { s.gd with chopRestUntil := none } } : State).lower srcGdChot 0

theorem chopperRestEnd_some (h : s.gd.chopRestUntil = some t) : chopperRestEnd s
    = if t ≤ s.now then if (rested s).gd.test.isNone = true then (rested s).chopFollow else rested s else s := by
  rw [chopperRestEnd, h]
  rfl

theorem chopperRestEnd_none (h : s.gd.chopRestUntil = none) : chopperRestEnd s = s := by
  rw [chopperRestEnd, h]

theorem gdChs_leak (h : s.flag GD_STAT.CHOP_ON = false ∧ s.gd.test = none) : gdChs true s
    = ((s.setFlag GD_EVT.CHS true).setFlag GD_STAT.CHOP_I true).openHs.raise srcGdChs 0 := by
  refine (if_pos rfl).trans (if_pos ?_)
  simpa using h

theorem gdChs_seen (h : ¬(s.flag GD_STAT.CHOP_ON = false ∧ s.gd.test = none)) : gdChs true s = s.setFlag GD_STAT.CHOP_I true := by
  refine (if_pos rfl).trans (if_neg ?_)
  simpa using h

/-! ### The test of the series switches (R330, R381) -/

variable {x : SluiceMeas} {y : SluiceTest}

theorem sluiceTestEnd_none (h : s.gd.test = none) : sluiceTestEnd x s = s := by
  rw [sluiceTestEnd, h]

theorem sluiceTestEnd_goes_on (h : s.gd.test = some y) (hg : sluiceGoesOn y.aborted x = true) :
    sluiceTestEnd x s = (s.testStep (max y.step x.stop)).senseSluice x := by
  unfold sluiceTestEnd
  simp only [h, hg, if_true]

/-- No test runs any more. -/
def clearTest (o : State) : State := { o with gd := { o.gd with test := none } }

/-- The end of the test: its result is shown, the switches open, and the chopper follows the bus again. -/
def tested (s : State) (x : SluiceMeas) (y : SluiceTest) : State :=
  let r := sluiceResult y.aborted x
  let o := ((((((s.wr GD_SLTEST.RESULT r.1).wr GD_SLTEST.STEP r.2).wr SAFE_SLT.RESULT r.1).setFlag SAFE_SLT.RUN false).senseSluice
    x).openSluice)
  (clearTest o).chopFollow

/-- The test of an arming gives its verdict to the arming. -/
def judgedBy (z : State) (res : Nat) : State := { z with pwr := { z.pwr with trans := .armJudge (res == 0) } }

theorem sluiceTestEnd_ends (h : s.gd.test = some y) (hg : sluiceGoesOn y.aborted x = false) {v : State} (hv : tested s x y = v) :
    sluiceTestEnd x s = if y.arming = true ∧ v.pwr.trans = .armTesting then
        judgedBy (if (sluiceResult y.aborted x).1 = 0 then v.closeSluice else v) (sluiceResult y.aborted x).1
      else v := by
  unfold sluiceTestEnd
  rw [h]
  refine (if_neg (Bool.eq_false_iff.mp hg)).trans ?_
  subst hv
  unfold tested
  generalize sluiceResult y.aborted x = r
  obtain ⟨res, step⟩ := r
  dsimp -zeta only
  extract_lets u o gd v z
  have hv : v = (clearTest o).chopFollow := rfl
  have hz : z = if res = 0 then v.closeSluice else v := rfl
  clear_value z
  change (if y.arming = true ∧ v.pwr.trans = .armTesting then judgedBy z res else v) = _
  rw [← hv, ← hz]

end

/-- Settles O48: each monitor is the branch of its row that its condition chooses. -/
theorem gateMonitorsAndChopper : Obligations.gate_monitors_and_chopper := by
  unfold Obligations.gate_monitors_and_chopper
  refine ⟨fun g p n s => ?monitors, fun t s => ?chopper⟩
  case monitors =>
    exact ⟨rfl, fun h => next_congr (gdXcmd_reported h), fun h => next_congr (gdXcmd_refuses h rfl),
      fun h => next_congr ((if_pos rfl).trans (if_pos h)),
      fun h => next_congr ((if_pos rfl).trans (if_neg (Bool.eq_false_iff.mp h))), rfl, rfl, rfl, rfl, rfl, rfl, rfl, rfl,
      fun h hd => next_congr ((cutoffForcedOpen_waiting h).trans (if_pos hd)),
      fun h hd => next_congr ((cutoffForcedOpen_waiting h).trans (if_neg (not_le.mpr hd))),
      fun h => next_congr (cutoffForcedOpen_none h)⟩
  case chopper =>
    extract_lets -descend tmax over_ misses leaks low
    have hmisses : (s.flag GD_STAT.CHOP_ON ∧ s.gd.test = none ∧ !s.gd.choSeen) ↔ misses := by simp [misses]
    refine ⟨rfl, fun h => next_congr (chopperOff_follows h), fun x ht h => next_congr (chopperOff_tested ht h),
      fun h => next_congr (if_pos h), fun h => next_congr (if_neg h), ?rest, fun h => next_congr (if_pos (hmisses.mpr h)),
      fun h => next_congr (if_neg (mt hmisses.mp h)), fun h => next_congr (gdChs_leak h), fun h => next_congr (gdChs_seen h), rfl⟩
    extract_lets -descend u
    exact ⟨fun h ht hn => next_congr ((chopperRestEnd_some h).trans ((if_pos ht).trans (if_pos hn))),
      fun h ht hn => next_congr ((chopperRestEnd_some h).trans ((if_pos ht).trans (if_neg (Bool.eq_false_iff.mp hn)))),
      fun h ht => next_congr ((chopperRestEnd_some h).trans (if_neg (not_le.mpr ht))),
      fun h => next_congr (chopperRestEnd_none h)⟩

/-- Settles O49. -/
theorem overvoltageAndSeriesSwitches : Obligations.overvoltage_and_series_switches := by
  unfold Obligations.overvoltage_and_series_switches
  intro w x hs above y s
  extract_lets -descend shorts ends runs cmd seen
  have hshorts : (max 1 (s.rd GD_OV2.OV_SHORT_N) ≤ s.gd.ovsRun ∧ !s.flag GD_STAT.OVS_ACT) ↔ shorts := by simp [shorts]
  have hcmd : (cmd && above) = true ↔ cmd = true ∧ above = true := Bool.and_eq_true _ _ ▸ Iff.rfl
  refine ⟨fun h => next_congr (if_pos (hshorts.mpr h)), fun h => next_congr (if_neg (mt hshorts.mp h)),
    fun h => next_congr (if_pos h), fun h => next_congr (if_neg h), fun h => next_congr (if_pos h),
    fun h => next_congr (if_neg (Bool.eq_false_iff.mp h)), rfl, fun hc ha => next_congr (if_pos (hcmd.mpr ⟨hc, ha⟩)),
    fun h => next_congr (if_neg fun hn => ?_), fun h => next_congr (sluiceTestEnd_none h),
    fun h hg => next_congr (sluiceTestEnd_goes_on h hg), fun h hg => ?ends, fun h hr => next_congr ((asWriter_taken h).trans (if_pos hr)),
    fun h hr => next_congr ((asWriter_taken h).trans (if_neg hr)), fun h => next_congr (asWriter_met (by decide) h)⟩
  case ends =>
    extract_lets -descend r u o v judged forArming
    have hend : sluiceTestEnd x s = if forArming then judgedBy (if r.1 = 0 then v.closeSluice else v) r.1 else v :=
      sluiceTestEnd_ends h hg (v := v) (show (clearTest o).chopFollow = v from rfl)
    clear_value v
    refine ⟨fun ha hr => next_congr ?_, fun ha hr => next_congr ?_, fun ha => next_congr ?_⟩
    · rw [hend, if_pos ha, if_pos hr]
      rfl
    · rw [hend, if_pos ha, if_neg hr]
      rfl
    · rw [hend, if_neg ha]
  obtain ⟨hc, ha⟩ := hcmd.mp hn
  rcases h with h | h
  · exact absurd (h.symm.trans hc) (by decide)
  · exact absurd (h.symm.trans ha) (by decide)

end Sys2Proof.PowerStage


/-! SUPPORT. Release of reactions, host answers, self-fault, monitors and restarts (chapter 13). -/

namespace Sys2Proof.FaultCollection

open Sys2Proof Sys2Proof.Machine Sys2Proof.Safety Sys2Proof.Laws Sys2Proof.Writes Sys2Proof.Accesses

section
variable {s u : State} {w : Nat} {fs : List Fld}

/-! ### Release (R354 to R356, R475) -/

/-- The reactions of phases dropped, and those of motors released. -/
def weakReleased (s : State) : State :=
  (s.quietRefresh.dropReactions ((s.fc.active.filter s.releaseDue).filter fun r => r.level != 4 && r.level < 5)).releaseMotors
    ((s.fc.active.filter s.releaseDue).filter (·.level == 4))

/-- The due reactions of the half. -/
def strongDue (s : State) : List Reaction := (s.fc.active.filter s.releaseDue).filter fun r => 5 ≤ r.level

theorem reactionRelease_eq (s : State) : reactionRelease s
    = if (weakReleased s).half = .safe then
        if (weakReleased s).fc.active.all (strongDue s).contains = true ∧ (weakReleased s).flag FC_STAT.SAFE = true then
          if (weakReleased s).recoveryBlocked = true then (weakReleased s).enterLockout
          else ((((weakReleased s).dropReactions (strongDue s)).dropEqual.recover).enterStandby true).freeChannels (weakReleased s).usedMotors
        else (weakReleased s).dropReactions (strongDue s)
      else (weakReleased s).dropReactions (strongDue s) := rfl

/-! ### Host answers (R351, R352) -/

theorem answer_fields (h : s.reach 0x2064 = some fs) : fs = [FC_HANS.REACT, FC_HANS.SEQ] := by
  have hfields : fieldsAt 0x2064 = some [FC_HANS.REACT, FC_HANS.SEQ] := by decide
  simp only [State.reach, hfields] at h
  grind

/-- A write of fields that are events, and that nothing refuses, stores nothing itself. -/
theorem writeFields_events {v : Word} {off : Nat} (he : ∀ f ∈ fs, eventField f = true)
    (hr : ∀ f ∈ fs, ∀ val, s.refused w f val = false) : s.writeFields w off fs v = s := by
  unfold State.writeFields
  extract_lets val bad t
  have hbad : bad = [] := by
    refine List.filter_eq_nil_iff.mpr fun f hf => ?_
    have hf' := hr f hf val
    cases f.cls <;> simp [hf']
  have hfold : ∀ (l : List Fld) (t : State), (∀ f ∈ l, eventField f = true) →
      l.foldl (fun (t : State) f => if (bad.contains f || eventField f) = true then t else t.writeField w f (intended v f)) t = t := by
    intro l
    induction l with
    | nil => exact fun _ _ => rfl
    | cons f l ih =>
      intro t hl
      obtain ⟨hf, hl⟩ := List.forall_mem_cons.mp hl
      rw [List.foldl_cons, hf, Bool.or_true, if_pos rfl]
      exact ih t hl
  rw [if_pos (List.isEmpty_iff.mpr hbad)]
  exact hfold fs s he

/-- The word of an answer holds its number and its level. -/
theorem answer_word (q r : Nat) (hq : q < 256) (hr : r < 8) :
    (BitVec.ofNat 32 (256 * r + q)).toNat % 256 = q ∧ (BitVec.ofNat 32 (256 * r + q)).toNat / 256 % 8 = r := by
  rw [BitVec.toNat_ofNat, Nat.mod_eq_of_lt (by omega : 256 * r + q < 2 ^ 32)]
  omega

theorem refused_answer (s : State) (w : Nat) (f : Fld) (hf : f ∈ [FC_HANS.REACT, FC_HANS.SEQ]) (val : Fld → Nat) :
    s.refused w f val = false := by
  rcases List.mem_pair.mp hf with rfl | rfl
  · have hrange : s.badRange FC_HANS.REACT (val FC_HANS.REACT) = false := rfl
    have hjoint : s.badJoint FC_HANS.REACT val = false := rfl
    rw [State.refused, hrange, hjoint]
    exact Bool.and_false _
  · have hrange : s.badRange FC_HANS.SEQ (val FC_HANS.SEQ) = false := rfl
    have hjoint : s.badJoint FC_HANS.SEQ val = false := rfl
    rw [State.refused, hrange, hjoint]
    exact Bool.and_false _

variable {seq react : Nat}

theorem afterWrite_answer (v : Word) : s.afterWrite w 0x2064 v = hostAnswer w (v.toNat % 256) (v.toNat / 256 % 8) s := by
  simp [State.afterWrite]

/-- An answer that is taken is judged. -/
theorem swWrite_answer (h : s.takesWrite w 0x2064 = true) :
    s.swWrite w 0x2064 (BitVec.ofNat 32 (256 * (react % 8) + seq % 256)) = (hostAnswer w (seq % 256) (react % 8) s).keepSys s := by
  obtain ⟨hopen, hreach, hdead⟩ : s.turnedAway w 0x2064 = false ∧ (s.reach 0x2064).isSome = true ∧ s.deadBrine 0x2064 = false := by
    simpa [State.takesWrite, and_assoc] using h
  obtain ⟨fs, hfs⟩ := Option.isSome_iff_exists.mp hreach
  have hkeep : s.keepSchedule 0x2064 = s := if_neg (by simp)
  obtain ⟨hseq, hreact⟩ := answer_word (seq % 256) (react % 8) (Nat.mod_lt _ (by decide)) (Nat.mod_lt _ (by decide))
  rw [swWrite_taken hopen hfs hdead (by decide) (by decide), hkeep, answer_fields hfs,
    writeFields_events (by decide) (refused_answer s w), afterWrite_answer, hseq, hreact]

/-- One that is not taken meets what any write meets, and counts against its writer where it could be reached. -/
theorem swWrite_answer_met {v : Word} (h : s.takesWrite w 0x2064 = false) : s.swWrite w 0x2064 v
    = if s.turnedAway w 0x2064 = true ∧ (s.meetWrite w 0x2064).permitted w = false ∧ ((s.meetWrite w 0x2064).reach 0x2064).isSome = true
      then (s.meetWrite w 0x2064).count FC_HCNT.BAD else s.meetWrite w 0x2064 := by
  cases hs : s.turnedAway w 0x2064 with
  | false =>
    have hreach : s.reach 0x2064 = none := by
      have hdead := deadBrine_outside s (off := 0x2064) (by decide)
      simpa [State.takesWrite, hs, hdead] using h
    rw [if_neg (fun hc => absurd hc.1 (by decide)), swWrite_unreached hs hreach, meetWrite_unreached hs hreach]
  | true =>
    rw [swWrite_turned_away hs]
    by_cases hc : (s.meetWrite w 0x2064).permitted w = false ∧ ((s.meetWrite w 0x2064).reach 0x2064).isSome = true
    · obtain ⟨hp, hr⟩ := hc
      obtain ⟨fs, hfs⟩ := Option.isSome_iff_exists.mp hr
      rw [if_pos ⟨rfl, hp, hr⟩, barredWrite_answer rfl hp hfs]
      exact if_neg fun hg => absurd (hg.2.2.2.2.2.symm.trans hp) (by decide)
    · rw [if_neg fun hn => hc hn.2]
      cases hp : (s.meetWrite w 0x2064).permitted w with
      | true => exact barredWrite_permitted hp
      | false =>
        refine barredWrite_unreached ?_
        simpa [hp] using hc

/-- The answer fits the pending request. -/
def GoodAnswer (s : State) (q r : Nat) : Prop := s.flag FC_HREQ.PEND = true ∧ s.now - s.fc.requestAt ≤ s.rd CE_MODE.GRACE * 400
  ∧ s.rd FC_HREQ.SEQ = q ∧ srcFloor (s.rd FC_HREQ.SRC) ≤ r ∧ r ≤ 6

theorem hostAnswer_good (hg : GoodAnswer s (seq % 256) (react % 8)) (hp : s.permitted w = true)
    (hu : (s.wr FC_HANS.SEQ (seq % 256)).wr FC_HANS.REACT (react % 8) = u) : hostAnswer w (seq % 256) (react % 8) s
    = ((u.endRequest).count FC_HCNT.ANS).atBoundary (u.requestReaction (react % 8)) := by
  obtain ⟨hpend, htime, hseq, hfloor, htop⟩ := hg
  subst hu
  rw [hostAnswer, Nat.mod_mod, Nat.mod_mod, if_pos ⟨hpend, htime, hseq, hfloor, htop, hp⟩]

theorem hostAnswer_bad (hg : ¬GoodAnswer s (seq % 256) (react % 8)) :
    hostAnswer w (seq % 256) (react % 8) s = s.count FC_HCNT.BAD := by
  rw [hostAnswer, Nat.mod_mod, Nat.mod_mod]
  exact if_neg fun ⟨hpend, htime, hseq, hfloor, htop, _⟩ => hg ⟨hpend, htime, hseq, hfloor, htop⟩

end

/-- Settles O50. -/
theorem reactionsAndHostRequests : Obligations.reactions_and_host_requests := by
  unfold Obligations.reactions_and_host_requests
  refine ⟨fun s => ?release, fun w seq react answered s => ?answers⟩
  case release =>
    extract_lets -descend due strong u leaves kept back done
    have hdone {t : State} (h : reactionRelease s = t) : done t := by
      subst h
      exact next_congr rfl
    have hrel := reactionRelease_eq s
    refine ⟨fun h => hdone (hrel.trans ?_), fun ⟨hs, ha, hf⟩ hb => hdone (hrel.trans ((if_pos hs).trans ((if_pos ⟨ha, hf⟩).trans
      (if_neg (Bool.eq_false_iff.mp hb))))), fun ⟨hs, ha, hf⟩ hb => hdone (hrel.trans ((if_pos hs).trans ((if_pos ⟨ha, hf⟩).trans (if_pos hb))))⟩
    by_cases hs : u.half = .safe
    · exact (if_pos hs).trans (if_neg fun hn => h ⟨hs, hn⟩)
    · exact if_neg hs
  case answers =>
    extract_lets -descend q r good u over_
    have hover : (s.flag FC_HREQ.PEND ∧ !answered ∧ s.rd CE_MODE.GRACE * cecPerUs ≤ s.now - s.fc.requestAt) ↔ over_ := by
      simp [over_, cecPerUs]
    have hpermitted (h : s.takesWrite w 0x2064 = true) : s.permitted w = true := by
      have hopen : s.turnedAway w 0x2064 = false := by
        simp only [State.takesWrite, Bool.and_eq_true, Bool.not_eq_true'] at h
        exact h.1.1
      exact (turnedAway_eq_false_iff.mp hopen).1
    refine ⟨fun h hg => next_congr ((swWrite_answer h).trans ?_), fun h hg => next_congr ((swWrite_answer h).trans ?_), fun h => ?_,
      fun h => next_congr (if_pos (hover.mpr h)), fun h => next_congr (if_neg (mt hover.mp h))⟩
    · rw [hostAnswer_good hg (hpermitted h) (u := u) rfl]
      rfl
    · rw [hostAnswer_bad hg]
    · extract_lets -descend t counts
      have hmet := swWrite_answer_met (v := BitVec.ofNat 32 (256 * (react % 8) + seq % 256)) h
      exact ⟨fun hc => next_congr (hmet.trans (if_pos hc)), fun hc => next_congr (hmet.trans (if_neg hc))⟩


/-! ### Self-fault and the latch (R348, R349, R353) -/

section
variable {s u : State} {us : Nat} {either : Bool}

/-- The occurrences of the present CEC, and the first of them by rank. -/
def freshReacts (s : State) := s.fc.lastReact.filter fun o => o.time == s.now

theorem firstClr_none (h : ((freshReacts s).find? fun o => (freshReacts s).all fun p => latchRank o.src o.inst ≤ latchRank p.src p.inst) = none) :
    firstClr s = s.clearFirst := by
  unfold firstClr
  extract_lets fresh
  rw [show (fresh.find? fun o => fresh.all fun p => latchRank o.src o.inst ≤ latchRank p.src p.inst) = none from h]

theorem firstClr_some {o : Taken}
    (h : ((freshReacts s).find? fun o => (freshReacts s).all fun p => latchRank o.src o.inst ≤ latchRank p.src p.inst) = some o) :
    firstClr s = (s.clearFirst.writeFirst o.src o.inst o.level).setFlag FC_FIRST.OVF (1 < (freshReacts s).length) := by
  unfold firstClr
  extract_lets fresh
  rw [show (fresh.find? fun o => fresh.all fun p => latchRank o.src o.inst ≤ latchRank p.src p.inst) = some o from h]
  rfl

/-! ### RESTART (R124, R358) -/

theorem restartAccepted_iff (us : Nat) (either : Bool) : restartAccepted us either = true
    ↔ (21000 ≤ us ∧ us ≤ 1980000) ∨ (¬(us < 19000 ∨ 2020000 < us) ∧ either = true) := by
  unfold restartAccepted
  split
  · next h => exact iff_of_true rfl (.inl h)
  · next h =>
    split
    · next hb => exact iff_of_false (by decide) (by rintro (hg | ⟨hn, -⟩); exacts [h hg, hn hb])
    · next hb => simp [h, hb]

/-- The high time shown, where its register is powered. -/
def highShown (s : State) (us : Nat) : State := if s.domOn 3 = true then s.wr FC_RESTART.HIGH_MS (min 4095 (us / 1000)) else s

theorem restartEdge_accepted (h : s.half ≠ .off) (ha : restartAccepted us either = true)
    (hu : (highShown s us).logEvent 0x03 deviceWriter 1 (dataOf [(2, min 4095 (us / 1000)), (10, 0)]) = u) :
    (u.half = .lockout → restartEdge us either s
      = if u.running = true then if u.fc.halfReq.isSome = true then u else { u with fc := { u.fc with halfReq := some 4 } }
        else u.leaveLockout.settleUsed)
    ∧ (u.half = .bootFail → restartEdge us either s = u.halfResetDue)
    ∧ (u.half ≠ .lockout → u.half ≠ .bootFail → restartEdge us either s = u) := by
  unfold restartEdge
  rw [if_neg h]
  extract_lets ms v z
  have hz : z = u := hu
  clear_value z
  subst hz
  rw [if_pos ha]
  refine ⟨fun hl => ?_, fun hb => ?_, fun hl hb => ?_⟩
  · rw [hl]
  · rw [hb]
  · split
    · next hl' => exact absurd hl' hl
    · next hb' => exact absurd hb' hb
    · rfl

theorem restartEdge_rejected (h : s.half ≠ .off) (ha : restartAccepted us either = false) :
    restartEdge us either s = if (highShown s us).domOn 3 = true then (highShown s us).count FC_RESTART.REJ_CNT else highShown s us :=
  (if_neg h).trans (if_neg (Bool.eq_false_iff.mp ha))

end

/-- Settles O51. -/
theorem selfFaultAndMonitors : Obligations.self_fault_and_monitors := by
  unfold Obligations.self_fault_and_monitors
  refine ⟨fun w lost k temps vals s => ?monitors, fun us either s => ?restart⟩
  case monitors =>
    extract_lets -descend asleep
    refine ⟨fun h => next_congr (if_pos h), fun h => next_congr (if_neg h), fun h => ?_, fun h => next_congr (asWriter_met (by decide) h),
      fun h => next_congr (if_pos h), fun h => next_congr (if_neg (Bool.eq_false_iff.mp h)), ⟨rfl, rfl⟩, ⟨rfl, rfl⟩, rfl,
      fun h => ⟨next_congr (if_pos h), next_congr (if_pos h)⟩, fun h => next_congr (if_neg h), fun h => next_congr (if_neg h)⟩
    extract_lets -descend c fresh first
    exact ⟨fun hf => next_congr ((asWriter_taken h).trans (firstClr_none hf)),
      fun o hf => next_congr ((asWriter_taken h).trans (firstClr_some hf))⟩
  case restart =>
    extract_lets -descend ms v u good bad accepts rejects
    have haccepts (h : accepts) : restartAccepted us either = true := (restartAccepted_iff us either).mpr h.2
    have hrejects (h : rejects) : restartAccepted us either = false := by
      refine Bool.eq_false_iff.mpr (mt (restartAccepted_iff us either).mp ?_)
      rintro (hg | ⟨hn, he⟩)
      · exact h.2.1 hg
      · rcases h.2.2 with hb | hb
        · exact hn hb
        · exact absurd (he.symm.trans hb) (by decide)
    have locked (h : accepts) (hl : u.half = .lockout) := (restartEdge_accepted h.1 (haccepts h) (u := u) rfl).1 hl
    refine ⟨fun h => next_congr (if_pos h), fun h hl hr => next_congr ((locked h hl).trans (if_neg (Bool.eq_false_iff.mp hr))),
      fun h hl hr hq => next_congr ((locked h hl).trans ((if_pos hr).trans (if_neg (by rw [hq]; decide)))),
      fun h hl hr hq => next_congr ((locked h hl).trans ((if_pos hr).trans (if_pos (Option.isSome_iff_ne_none.mpr hq)))),
      fun h hb => next_congr ((restartEdge_accepted h.1 (haccepts h) (u := u) rfl).2.1 hb),
      fun h hl hb => next_congr ((restartEdge_accepted h.1 (haccepts h) (u := u) rfl).2.2 hl hb),
      fun h hd => next_congr ((restartEdge_rejected h.1 (hrejects h)).trans (if_pos hd)),
      fun h hd => next_congr ((restartEdge_rejected h.1 (hrejects h)).trans (if_neg (Bool.eq_false_iff.mp hd)))⟩

end Sys2Proof.FaultCollection


/-! SUPPORT. Evidence about the partner, the limp timer, test pulses and the unlock (chapter 14). -/

namespace Sys2Proof.SafetyFunctions

open Sys2Proof Sys2Proof.Machine Sys2Proof.Safety Sys2Proof.Laws Sys2Proof.Writes

section
variable {s : State} {w k mv : Nat}

/-! ### The limp timer (R370, R371) -/

theorem dual_iff (s : State) : s.dual = true ↔ s.part = .hx962d := by simp [State.dual]

theorem limpRestart_idle (h : ¬(s.flag LIMP_TIMER.RUN || s.flag LIMP_TIMER.EXPIRED) = true) : limpRestart w s = s.ignored 0x2410 := by
  refine if_pos ?_
  simpa [State.limpOn, State.limpRuns, State.limpExpired] using h

theorem limpRestart_on (h : (s.flag LIMP_TIMER.RUN || s.flag LIMP_TIMER.EXPIRED) = true) : limpRestart w s
    = if (s.flag LIMP_TIMER.USED || s.flag LIMP_TIMER.EXPIRED) = true then (s.ignored 0x2410).logRedundancy 2 w
      else (s.setRestartUsed true).setLimp (s.setRestartUsed true).limpFull := by
  have hon : (!s.limpOn) = false := by rw [show s.limpOn = true from h]; rfl
  exact if_neg (Bool.eq_false_iff.mp hon)

/-- The timer expires: it is at its end in an episode that has not expired, and no restart of the CEC is still unused. -/
def LimpExpires (s : State) (restarted : Bool) : Prop := ¬(restarted = true ∧ s.flag LIMP_TIMER.USED = false)
  ∧ s.flag LIMP_TIMER.RUN = true ∧ s.rd LIMP_TIMER.LEFT = 0 ∧ s.flag LIMP_TIMER.EXPIRED = false

theorem limpExpiry_not {restarted : Bool} (h : ¬LimpExpires s restarted) : limpExpiry restarted s = s := by
  unfold limpExpiry
  split
  · rfl
  · next hr =>
    refine if_neg fun ⟨hrun, hleft, hexp⟩ => h ⟨fun ⟨ha, hb⟩ => hr ⟨ha, ?_⟩, hrun, hleft, ?_⟩
    · rw [State.restartUsed, hb]
      rfl
    · simpa [State.limpExpired] using hexp

theorem limpExpiry_expires {restarted : Bool} (h : LimpExpires s restarted) {u : State}
    (hu : ((s.setFlag SAFE_REVT.LIMP_END true).setLimpRun false).logRedundancy 3 deviceWriter = u) : limpExpiry restarted s
    = u.setLimpEnd true (if u.rd SAFE_LIMP.LIMP_END = 1 then some (max 1 (u.rd SAFE_LIMP.LIMP_RAMP) * 10 * cecPerMs) else none) := by
  obtain ⟨hunused, hrun, hleft, hexp⟩ := h
  subst hu
  have hr : ¬(restarted = true ∧ (!s.restartUsed) = true) := fun ⟨ha, hb⟩ => hunused ⟨ha, by simpa [State.restartUsed] using hb⟩
  have he : (!s.limpExpired) = true := by simpa [State.limpExpired] using hexp
  exact (if_neg hr).trans (if_pos ⟨hrun, hleft, he⟩)

theorem limpRamp_ended_iff (s : State) : s.limpRamp = some 0 ↔ s.flag LIMP_TIMER.RAMP_ON = true ∧ s.rd LIMP_TIMER.RAMP = 0 := by
  unfold State.limpRamp
  split
  · next h => simp [h]
  · next h => simp [h]

/-! ### Test pulses (R377, R378) -/

theorem supplyOn_iff (s : State) (k : Nat) : s.supplyOn k = true
    ↔ s.bit SAFE_SSUP.EN k = true ∧ s.domOn 10 = true ∧ s.safe.pulsing.contains k = false := by
  simp [State.supplyOn, and_assoc]

/-- A slot lies between two instants exactly when the last one before the second does. -/
theorem last_slot_iff {period first now before : Nat} (hp : 0 < period) :
    (first ≤ now ∧ before < first + (now - first) / period * period) ↔ ∃ n, n * period + first ≤ now ∧ before < n * period + first := by
  constructor
  · rintro ⟨hf, hb⟩
    have hdiv := Nat.div_mul_le_self (now - first) period
    exact ⟨(now - first) / period, by omega, by omega⟩
  · rintro ⟨n, hn, hb⟩
    have hle : n ≤ (now - first) / period := (Nat.le_div_iff_mul_le hp).mpr (by omega)
    have hmul : n * period ≤ (now - first) / period * period := Nat.mul_le_mul_right period hle
    exact ⟨by omega, by omega⟩

theorem pulseDue_iff (s : State) (k : Nat) :
    let period := s.rd SAFE_TP.TP_PERIOD * 400000
    let slot (n : Nat) := n * period + k * period / 4;
    s.pulseDue k = true ↔ s.running = true ∧ s.cec = 0 ∧ 0 < period ∧ ∃ n, slot n ≤ s.now ∧ s.rake.boundaryBefore < slot n := by
  intro period slot
  have hslot : (s.pulseSlot k).any (fun t => decide (s.rake.boundaryBefore < t)) = true
      ↔ 0 < period ∧ ∃ n, slot n ≤ s.now ∧ s.rake.boundaryBefore < slot n := by
    change ((if period = 0 ∨ s.now < k * period / 4 then none
      else some (k * period / 4 + (s.now - k * period / 4) / period * period)).any _ = true) ↔ _
    by_cases hp : 0 < period
    · have hlast := last_slot_iff (first := k * period / 4) (now := s.now) (before := s.rake.boundaryBefore) hp
      by_cases hf : s.now < k * period / 4
      · rw [if_pos (.inr hf)]
        exact iff_of_false Bool.false_ne_true fun hn => absurd (hlast.mpr hn.2).1 (not_le.mpr hf)
      · rw [if_neg (by omega), Option.any_some, decide_eq_true_iff]
        exact ⟨fun hb => ⟨hp, hlast.mp ⟨not_lt.mp hf, hb⟩⟩, fun hn => (hlast.mpr hn.2).2⟩
    · rw [if_pos (.inl (by omega))]
      exact iff_of_false Bool.false_ne_true fun hn => hp hn.1
  rw [State.pulseDue, Bool.and_eq_true, Bool.and_eq_true, hslot, beq_iff_eq, and_assoc]

/-- A supply after its pulse has been sampled: the last finding is shown and reported, and none ends the fault. -/
def pulseJudged (u : State) (k : Nat) (found : List Nat) : State :=
  found.getLast?.elim (u.lower srcSsupShort k) fun i =>
    ((((u.setBit SAFE_TP_STAT.SHORT k true).count SAFE_TP_STAT.SHORT_CNT).wr SAFE_TP_STAT.INPUT i).report srcSsupShort k).setSource
      srcSsupShort k true

/-- The state at the sampling instant of a pulse. -/
def atSample (s : State) (k : Nat) : State :=
  { s with now := max s.now (lookup s.safe.pulseAt 0 k + (s.rd SAFE_TP.TP_WIDTH - 5) * 400),
           cec := s.cec + (max s.now (lookup s.safe.pulseAt 0 k + (s.rd SAFE_TP.TP_WIDTH - 5) * 400) - s.now) }

/-- The pulse of a supply is over. -/
def pulseOver (y : State) (k : Nat) : State := { y with safe := { y.safe with pulsing := y.safe.pulsing.filter (· != k) } }

theorem testPulseSample_pulsing {low : List Bool} {ain : List Nat} (h : s.safe.pulsing.contains k = true) {y v : State}
    (hy : atSample s k = y)
    (hv : pulseJudged (pulseOver y k) k ((List.range 18).filter fun i => y.inputFinding k i (atOffLevel low ain i)) = v) :
    testPulseSample k low ain mv s
      = if v.supplyNominal k < 10 * mv then (v.setBit SAFE_TP_STAT.RANGE k true).raise srcSsupRange k else v := by
  subst hy hv
  unfold testPulseSample
  rw [if_pos h]
  extract_lets t y found safe u v
  have hv : v = pulseJudged u k found := by
    unfold v pulseJudged
    cases found.getLast? <;> rfl
  clear_value v
  subst hv
  rfl

/-! ### The unlock (R382 to R388) -/

variable {v hi lo : Word} {w0 t : Nat}

theorem keyWrite_refused (h : ¬(s.keyState = true ∧ s.rd SAFE_UNL.STATE = 0)) : keyWrite w v s = s.ignored 0x2428 := by
  refine if_pos ?_
  rcases not_and_or.mp h with h | h
  · exact .inl (by simpa using h)
  · exact .inr h

/-- A key word is held, with its writer and its time. -/
def heldKey (s : State) (k : Option (Word × Nat × Nat)) : State := { s with safe := { s.safe with keyHi := k } }

theorem keyWrite_first (h : s.keyState = true ∧ s.rd SAFE_UNL.STATE = 0) (hk : s.safe.keyHi = none) :
    keyWrite w v s = heldKey s (some (v, w, s.now)) := by
  unfold keyWrite
  rw [if_neg (by simp [h.1, h.2]), hk]
  rfl

theorem keyWrite_second (h : s.keyState = true ∧ s.rd SAFE_UNL.STATE = 0) (hk : s.safe.keyHi = some (hi, w0, t)) : keyWrite w v s
    = if 100 * 400000 < s.now - t then heldKey s (some (v, w, s.now))
      else if w = w0 then { s.wr SAFE_UNL.STATE 1 with safe := { s.safe with keyLo := some v, keyWriter := w } }
      else s.ignored 0x2428 := by
  unfold keyWrite
  rw [if_neg (by simp [h.1, h.2]), hk]
  rfl

theorem keyTimeout_held (hk : s.safe.keyHi = some (hi, w0, t)) (hl : s.safe.keyLo = none) :
    keyTimeout s = if 100 * 400000 ≤ s.now - t then heldKey s none else s := by
  unfold keyTimeout
  rw [hk, hl]
  rfl

theorem keyTimeout_none (h : s.safe.keyHi = none ∨ s.safe.keyLo ≠ none) : keyTimeout s = s := by
  unfold keyTimeout
  split
  · next hk hl =>
    rcases h with h | h
    · exact absurd (hk.symm.trans h) (Option.some_ne_none _)
    · exact absurd hl h
  · rfl

theorem keyCheck_none (h : s.safe.keyHi = none ∨ s.safe.keyLo = none) : keyCheck s = s := by
  unfold keyCheck
  split
  · next hk hl =>
    rcases h with h | h
    · exact absurd (hk.symm.trans h) (Option.some_ne_none _)
    · exact absurd (hl.symm.trans h) (Option.some_ne_none _)
  · rfl

/-- The attempt is judged: the password opens the unlock, a wrong one is counted, and the fifth blocks. -/
theorem keyCheck_judged (hk : s.safe.keyHi = some (hi, w0, t)) (hl : s.safe.keyLo = some lo) {u n o : State} {by_ : Nat}
    (hu : s.dropKey.wr SAFE_UNL.STATE 0 = u) (hb : s.safe.keyWriter = by_) (hn : u.count SAFE_UNL.WRONG_CNT = n)
    (ho : ((u.wr SAFE_UNL.STATE 2).wr SAFE_UNL.WRITER by_).wr SAFE_UNL.WRONG_CNT 0 = o) : keyCheck s
    = if (!u.keyState) = true then u
      else if u.activeHash = List.replicate 32 0 then u.logUnlock 2 by_
      else if sha256 ((leBytes 4 hi.toNat).reverse ++ (leBytes 4 lo.toNat).reverse ++ u.keepArea.pwSalt) = u.activeHash then
        { o.logUnlock 0 by_ with safe := { o.safe with memberAt := o.now } }
      else (if 5 ≤ n.rd SAFE_UNL.WRONG_CNT then n.wr SAFE_UNL.STATE 3 else n).logUnlock 1 by_ := by
  subst hn ho
  unfold keyCheck
  rw [hk, hl]
  subst hu hb
  rfl

theorem closeUnlock_open (h : s.rd SAFE_UNL.STATE = 2) : s.closeUnlock = (s.wr SAFE_UNL.STATE 0).wr SAFE_UNL.WRITER 0 := if_pos h

theorem closeUnlock_closed (h : s.rd SAFE_UNL.STATE ≠ 2) : s.closeUnlock = s := if_neg h

theorem pwSet_refused (h : ¬(s.rd SAFE_UNL.STATE = 2 ∧ s.rd SAFE_UNL.WRITER = w)) : pwSet w s = s.ignored 0x242C := if_neg h

end

/-- Settles O52. -/
theorem partnerEvidenceAndTestPulses : Obligations.partner_evidence_and_test_pulses := by
  unfold Obligations.partner_evidence_and_test_pulses
  refine ⟨fun w restarted s => ?limp, fun k mv low ain s => ?pulses⟩
  case limp =>
    extract_lets -descend edges lost silent may on_ used expires ramped
    have hedges : (s.dual ∧ s.flag SAFE_RCFG.PA_EN) ↔ edges := and_congr_left' (dual_iff s)
    have hramped : (s.limpRamp = some 0 ∧ s.inService ∧ s.pwr.trans ≠ .toSafe) ↔ ramped := by
      rw [limpRamp_ended_iff, and_assoc]
    refine ⟨fun h => next_congr (if_pos (hedges.mpr h)), fun h => next_congr (if_neg (mt hedges.mp h)), fun h => next_congr (if_pos h),
      fun h => next_congr (if_neg h), fun h => next_congr (if_pos h), fun h => next_congr (if_neg h),
      fun h => next_congr (asWriter_met (by decide) (Bool.eq_false_iff.mpr h)),
      fun h ho => next_congr ((asWriter_taken h).trans (limpRestart_idle ho)),
      fun h ho hu => next_congr ((asWriter_taken h).trans ((limpRestart_on ho).trans (if_pos hu))),
      fun h ho hu => next_congr ((asWriter_taken h).trans ((limpRestart_on ho).trans (if_neg hu))), fun h => ?_,
      fun h => next_congr (limpExpiry_not h), fun h => next_congr (if_pos (hramped.mpr h)), fun h => next_congr (if_neg (mt hramped.mp h))⟩
    extract_lets -descend u x
    have hu := limpExpiry_expires h (u := u) rfl
    refine ⟨fun he => next_congr (hu.trans ?_), fun he => next_congr (hu.trans ?_)⟩
    · rw [if_pos he]
      rfl
    · rw [if_neg he]
      rfl
  case pulses =>
    extract_lets -descend isOn period slot due starts at_ y found u v outside
    have hon := supplyOn_iff s k
    have hstarts : (s.bit SAFE_TP.TP_EN k ∧ s.supplyOn k ∧ s.pulseDue k ∧ s.half ≠ .boot ∧ s.half ≠ .selftest
        ∧ !s.pwr.stopped.contains 5) ↔ starts := by
      have hdue : s.pulseDue k = true ↔ due := pulseDue_iff s k
      rw [hon, hdue, Bool.not_eq_true']
    have hv : pulseJudged u k found = v := by
      unfold v pulseJudged
      cases found.getLast? <;> rfl
    have hsample (h : s.safe.pulsing.contains k = true) := testPulseSample_pulsing (mv := mv) (low := low) (ain := ain) h (y := y) rfl hv
    refine ⟨fun h => next_congr (if_pos (hstarts.mpr h)), fun h => next_congr (if_neg (mt hstarts.mp h)),
      fun h hr => next_congr ((hsample h).trans (if_pos hr)), fun h hr => next_congr ((hsample h).trans (if_neg (not_lt.mpr hr))),
      fun h => next_congr (if_neg (Bool.eq_false_iff.mp h)), fun h ho => next_congr ((if_neg ?_).trans (if_pos ho)),
      fun h ho => next_congr ((if_neg ?_).trans (if_neg ho)), fun h => next_congr (if_pos ?_)⟩
    · rw [hon.mpr h]
      decide
    · rw [hon.mpr h]
      decide
    · rw [Bool.eq_false_iff.mpr (mt hon.mp h)]
      rfl

/-- Settles O53. -/
theorem unlockCommands : Obligations.unlock_commands := by
  unfold Obligations.unlock_commands
  intro w v hi lo w0 t s
  extract_lets -descend held may sets takes fresh shut mine
  have second (h : takes) (hk : s.safe.keyHi = some (hi, w0, t)) := (asWriter_taken h.1).trans (keyWrite_second (v := v) (w := w) h.2 hk)
  refine ⟨fun h => ⟨fun hk => next_congr ((asWriter_taken h.1).trans (keyWrite_first h.2 hk)),
      fun hk hf => next_congr ((second h hk).trans (if_pos (not_le.mp hf))),
      fun hk hf hw => next_congr ((second h hk).trans ((if_neg (not_lt.mpr hf)).trans (if_pos hw))),
      fun hk hf hw => next_congr ((second h hk).trans ((if_neg (not_lt.mpr hf)).trans (if_neg hw)))⟩,
    fun h hn => next_congr ((asWriter_taken h).trans (keyWrite_refused fun hs => hn ⟨h, hs⟩)),
    fun h => next_congr (asWriter_met (by decide) (Bool.eq_false_iff.mpr h)),
    fun hk hl ht => next_congr ((keyTimeout_held hk hl).trans (if_pos ht)),
    fun hk hl ht => next_congr ((keyTimeout_held hk hl).trans (if_neg (not_le.mpr ht))), fun h => next_congr (keyTimeout_none h),
    fun h => next_congr (keyCheck_none h), fun hk hl => ?check, fun h hs => next_congr ((asWriter_taken h).trans (closeUnlock_open hs)),
    fun h hs => next_congr ((asWriter_taken h).trans (closeUnlock_closed hs)),
    fun h => next_congr (asWriter_met (by decide) (Bool.eq_false_iff.mpr h)), fun h => next_congr (if_pos h), fun h => next_congr (if_neg h),
    fun h => next_congr ((asWriter_taken h.1).trans (if_pos h.2)),
    fun h hm => next_congr ((asWriter_taken h).trans (pwSet_refused fun hs => hm ⟨h, hs⟩)),
    fun h => next_congr (asWriter_met (by decide) (Bool.eq_false_iff.mpr h))⟩
  case check =>
    extract_lets -descend by_ u blank right o n
    have hj := keyCheck_judged hk hl (u := u) (n := n) (o := o) (by_ := by_) rfl rfl rfl rfl
    have judged (hs : u.keyState = true) := hj.trans (if_neg (by rw [hs]; decide))
    refine ⟨fun hs => next_congr (hj.trans (if_pos (by rw [hs]; rfl))), fun hs hb => next_congr ((judged hs).trans (if_pos hb)),
      fun hs hb hr => next_congr ((judged hs).trans ((if_neg hb).trans (if_pos hr))),
      fun hs hb hr hn => next_congr ((judged hs).trans ((if_neg hb).trans ((if_neg hr).trans ?_))),
      fun hs hb hr hn => next_congr ((judged hs).trans ((if_neg hb).trans ((if_neg hr).trans ?_)))⟩
    · rw [if_neg (not_le.mpr hn)]
    · rw [if_pos hn]

end Sys2Proof.SafetyFunctions


/-! SUPPORT. The states of the Brine link and the frames on its lanes (chapter 15). -/

namespace Sys2Proof.BrineLink

open Sys2Proof Sys2Proof.Machine Sys2Proof.Safety Sys2Proof.Laws Sys2Proof.Writes

section
variable {s : State} {w : Nat}

/-! ### Writes of the control register of the link (R81, R117, R395) -/

theorem deadBrine_control (s : State) : s.deadBrine 0x2800 = true ↔ s.part = .hx961s := by
  simp [State.deadBrine]

theorem taken_part (h : s.takesWrite w 0x2800 = true) : s.part ≠ .hx961s := by
  intro hp
  simp [State.takesWrite, (deadBrine_control s).mpr hp] at h

/-- A write that is not taken: ignored where the part has no link, and met as any write otherwise. -/
theorem asWriter_control_away {f : State → State} (h : ¬s.takesWrite w 0x2800 = true) : s.asWriter w 0x2800 f
    = if s.part = .hx961s ∧ (s.reach 0x2800).isSome = true then (s.ignored 0x2800).keepSys s else s.meetWrite w 0x2800 := by
  refine (if_neg h).trans (if_congr ?_ rfl rfl)
  rw [Bool.and_eq_true, deadBrine_control]

theorem brineEnable_ignored {en : Bool} (h : s.inService = true) : brineEnable en s = s.ignored 0x2800 := if_pos (.inr h)

theorem brineEnable_on (hp : s.part ≠ .hx961s) (h : s.inService = false) : brineEnable true s
    = if (s.setFlag BRINE_CTRL.EN true).link = linkDisabled then (s.setFlag BRINE_CTRL.EN true).enterLink linkDown
      else s.setFlag BRINE_CTRL.EN true :=
  if_neg fun hs => hs.elim hp fun hi => Bool.false_ne_true (h.symm.trans hi)

theorem brineEnable_off (hp : s.part ≠ .hx961s) (h : s.inService = false) : brineEnable false s
    = if (s.setFlag BRINE_CTRL.EN false).link = linkDisabled then s.setFlag BRINE_CTRL.EN false
      else (s.setFlag BRINE_CTRL.EN false).enterLink linkDisabled :=
  if_neg fun hs => hs.elim hp fun hi => Bool.false_ne_true (h.symm.trans hi)

theorem retrain_ignored (h : s.inService = true) : retrain s = s.ignored 0x2800 := if_pos (.inr h)

theorem retrain_free (hp : s.part ≠ .hx961s) (h : s.inService = false) : retrain s
    = if s.link = linkDisabled then s else s.enterLink linkDown :=
  if_neg fun hs => hs.elim hp fun hi => Bool.false_ne_true (h.symm.trans hi)

theorem wakeTx_up (h : s.link = linkUp) : wakeTx s = s.ignored 0x2800 := if_pos (.inr h)

theorem wakeTx_sends (hp : s.part ≠ .hx961s) (h : s.link ≠ linkUp) : wakeTx s = if s.domOn 11 = true
    then { s with wire := s.wire ++ [.wake], brine := { s.brine with wakeAt := some s.now } } else s := by
  refine (if_neg fun hs => hs.elim hp h).trans (if_congr ?_ rfl rfl)
  rw [Bool.and_eq_true, bne_iff_ne]
  exact and_iff_left h

/-! ### Training (R396, R397) -/

/-- What the lanes show of training sets, or of none on a lane, and of symbol errors. -/
def setsSeen (lane0 lane1 : Option TrainSet) (wrong : Nat) (s : State) : State :=
  ((if s.link ≠ linkDisabled then s.codeErrors wrong else s).setFlag BRINE_STAT.SIG0 lane0.isSome).setFlag BRINE_STAT.SIG1 lane1.isSome

theorem hears_iff (h : s.domOn 11 = true) : s.linkHears = true ↔ s.link ≠ linkDisabled := by simp [State.linkHears, h]

variable {lane0 lane1 : Option TrainSet} {trip wrong : Nat} {x : TrainSet}

theorem trainingSetRx_off (h : s.domOn 11 = false) : trainingSetRx lane0 lane1 trip wrong s = s := if_neg (Bool.eq_false_iff.mp h)

theorem setsSeen_heard (h : s.domOn 11 = true) : ((if s.linkHears = true then s.codeErrors wrong else s).setFlag BRINE_STAT.SIG0
    lane0.isSome).setFlag BRINE_STAT.SIG1 lane1.isSome = setsSeen lane0 lane1 wrong s := by
  unfold setsSeen
  rw [if_congr (hears_iff h) rfl rfl]

theorem trainingSetRx_begins (h : s.domOn 11 = true) {u v : State} (hu : setsSeen lane0 lane1 wrong s = u)
    (hb : u.link = linkDown ∧ lane0.isSome = true ∧ lane1.isSome = true) (hv : u.enterLink linkTrain = v) :
    trainingSetRx lane0 lane1 trip wrong s = { v with wire := v.wire ++ [.training (v.ownSet v.brine.token) 0] } := by
  subst hu hv
  unfold trainingSetRx
  rw [if_pos h]
  extract_lets t u v
  have hu : setsSeen lane0 lane1 wrong s = u := (setsSeen_heard h).symm
  rw [hu] at hb ⊢
  exact if_pos hb

theorem trainingSetRx_other (h : s.domOn 11 = true) {u : State} (hu : setsSeen lane0 lane1 wrong s = u)
    (hb : ¬(u.link = linkDown ∧ lane0.isSome = true ∧ lane1.isSome = true))
    (hm : ¬∃ x, lane0 = some x ∧ lane1 = some x ∧ u.link = linkTrain) : trainingSetRx lane0 lane1 trip wrong s = u := by
  subst hu
  unfold trainingSetRx
  rw [if_pos h]
  extract_lets t u v
  have hu : setsSeen lane0 lane1 wrong s = u := (setsSeen_heard h).symm
  rw [hu] at hb hm ⊢
  rw [if_neg hb]
  split
  · next x y =>
    exact if_neg fun ⟨hl, he⟩ => hm ⟨x, rfl, congrArg some he.symm, hl⟩
  · rfl

theorem trainingSetRx_meets (h : s.domOn 11 = true) {u : State} (hu : setsSeen (some x) (some x) wrong s = u)
    (hl : u.link = linkTrain) : trainingSetRx (some x) (some x) trip wrong s = u.takeSet x trip := by
  subst hu
  unfold trainingSetRx
  rw [if_pos h]
  extract_lets t u v
  have hu : setsSeen (some x) (some x) wrong s = u := (setsSeen_heard h).symm
  rw [hu] at hl ⊢
  rw [if_neg fun hb => absurd (hl.symm.trans hb.1) (by decide)]
  exact if_pos ⟨hl, rfl⟩

/-- The lanes are aligned, and a set shows the partner's step. -/
def alignedBy (x : TrainSet) (s : State) : State := { s with brine := { s.brine with aligned := true, peerDone := x.done } }

/-- The own token has come back: half the round trip without the turnaround is the delay. -/
def delayMeasured (trip : Nat) (s : State) : State :=
  { s.wr BRINE_DLY.LINK_DLY ((trip - 320) / 2) with brine := { s.brine with measured := true } }

/-- A training set leaves after `delay` symbols. -/
def sendSet (token delay : Nat) (s : State) : State := { s with wire := s.wire ++ [.training (s.ownSet token) delay] }

theorem takeSet_foreign (h : x.token ≠ s.brine.token) : s.takeSet x trip = sendSet x.token 8 (alignedBy x s) := if_pos h

theorem takeSet_measured (h : x.token = s.brine.token) (hm : s.brine.measured = true) : s.takeSet x trip = alignedBy x s :=
  (if_neg (not_not.mpr h)).trans (if_pos hm)

theorem takeSet_returns (h : x.token = s.brine.token) (hm : s.brine.measured = false) :
    s.takeSet x trip = sendSet x.token 0 (delayMeasured trip (alignedBy x s)) := by
  rw [h]
  exact (if_neg (not_not.mpr h)).trans (if_neg (Bool.eq_false_iff.mp hm))

theorem trainDone_not (h : ¬(s.link = linkTrain ∧ s.brine.aligned = true ∧ s.brine.measured = true ∧ s.brine.peerDone = true)) :
    trainDone s = s := if_neg h

theorem trainTimeout_before (h : s.link ≠ linkTrain ∨ s.now - s.brine.trainAt < 400000) : trainTimeout s = s :=
  if_neg fun ⟨hl, ht⟩ => h.elim (fun hn => hn hl) fun hlt => absurd ht (by unfold cecPerMs; omega)

theorem beacon_not (h : s.link ≠ linkDown ∨ s.domOn 11 = false) : beacon s = s :=
  if_neg fun ⟨hl, hd⟩ => h.elim (fun hn => hn hl) fun hf => Bool.false_ne_true (hf.symm.trans hd)

end

/-! ### Frames on the lanes (R393, R394) -/

/-- The bytes that the slots of a frame carry, pair by pair. -/
def bytePairs (b : List Byte) : List LaneSlot :=
  (List.range (b.length / 2)).map fun i => (Sym.d (b.getD (2 * i) 0), Sym.d (b.getD (2 * i + 1) 0))

theorem stripe_eq : ∀ b : List Byte, stripe b = bytePairs b
  | [] => rfl
  | [_] => by simp [stripe, bytePairs]
  | x :: y :: r => by
    have hlen : (x :: y :: r).length / 2 = r.length / 2 + 1 := by
      simp only [List.length_cons]
      omega
    rw [stripe, stripe_eq r, bytePairs, bytePairs, hlen, List.range_succ_eq_map, List.map_cons, List.map_map]
    rfl

theorem stripe_length (b : List Byte) : (stripe b).length = b.length / 2 := by simp [stripe_eq, bytePairs]

theorem mem_stripe {b : List Byte} {p : LaneSlot} (h : p ∈ stripe b) : ∃ x y, p = (Sym.d x, Sym.d y) := by
  rw [stripe_eq, bytePairs, List.mem_map] at h
  obtain ⟨i, _, rfl⟩ := h
  exact ⟨_, _, rfl⟩

theorem laneBytes_stripe : ∀ b : List Byte, b.length % 2 = 0 → laneBytes (stripe b) = b.map some
  | [], _ => rfl
  | [_], h => absurd h (by simp)
  | x :: y :: r, h => by
    have hr := laneBytes_stripe r (by simp only [List.length_cons] at h; omega)
    unfold laneBytes at hr ⊢
    extract_lets at hr ⊢
    rw [stripe, List.flatMap_cons, hr]
    rfl

theorem dropResume_none {l : List LaneSlot} (h : ∀ p ∈ l, p ≠ (.k286, .k286)) : dropResume l = l := by
  induction l with
  | nil => rfl
  | cons p r ih =>
    rw [dropResume, if_neg (h p List.mem_cons_self), ih fun q hq => h q (List.mem_cons_of_mem _ hq)]

theorem foldl_add_map_eq_zero {α : Type} {f : α → Nat} {l : List α} (h : ∀ x ∈ l, f x = 0) : (l.map f).foldl (· + ·) 0 = 0 := by
  induction l with
  | nil => rfl
  | cons x r ih =>
    rw [List.map_cons, List.foldl_cons, h x List.mem_cons_self]
    exact ih fun y hy => h y (List.mem_cons_of_mem _ hy)

section
variable {start : Sym} {b : List Byte} {gap : List LaneSlot} {n : Nat}

theorem frameSlots_length (start : Sym) (b : List Byte) : (frameSlots start b).length = frameSymbols b.length := by
  simp [frameSlots, frameSymbols, stripe_length]

theorem start_ne_idle (hs : start = .k277 ∨ start = .k282 ∨ start = .k283) : ∀ p ∈ gap, p = (Sym.k285, Sym.k285) →
    (p != (start, start)) = true := by
  rintro p _ rfl
  rcases hs with rfl | rfl | rfl <;> decide

theorem fromStart_idle (hs : start = .k277 ∨ start = .k282 ∨ start = .k283) (hg : ∀ p ∈ gap, p = (Sym.k285, Sym.k285)) :
    fromStart start (gap ++ frameSlots start b) = frameSlots start b := by
  unfold fromStart
  rw [List.dropWhile_append_of_pos fun p hp => start_ne_idle hs p hp (hg p hp)]
  simp [frameSlots]

theorem before_idle (hs : start = .k277 ∨ start = .k282 ∨ start = .k283) (hg : ∀ p ∈ gap, p = (Sym.k285, Sym.k285)) :
    (gap ++ frameSlots start b).takeWhile (· != (start, start)) = gap := by
  rw [List.takeWhile_append_of_pos fun p hp => start_ne_idle hs p hp (hg p hp)]
  simp [frameSlots]

theorem frameSlots_resumes_nowhere (hs : start = .k277 ∨ start = .k282 ∨ start = .k283) :
    ∀ p ∈ frameSlots start b, p ≠ (.k286, .k286) := by
  intro p hp
  rcases List.mem_cons.mp hp with rfl | hp
  · rcases hs with rfl | rfl | rfl <;> decide
  · rcases List.mem_append.mp hp with hp | hp
    · obtain ⟨x, y, rfl⟩ := mem_stripe hp
      exact fun h => absurd (congrArg Prod.fst h) Sym.noConfusion
    · rw [List.mem_singleton.mp hp]
      decide

theorem frameIn_idle (hs : start = .k277 ∨ start = .k282 ∨ start = .k283) (hg : ∀ p ∈ gap, p = (Sym.k285, Sym.k285)) :
    frameIn start (gap ++ frameSlots start b) = frameSlots start b := by
  unfold frameIn
  rw [fromStart_idle hs hg, dropResume_none (frameSlots_resumes_nowhere hs), ite_self]

/-- Every slot of a frame stands at its place. -/
theorem frameSlots_placed (start : Sym) (b : List Byte) :
    ∀ x ∈ (some start :: (List.replicate (b.length / 2) none ++ [some Sym.k297])).zip (frameSlots start b),
      placeErrors x.1 x.2 = 0 := by
  intro x hx
  rw [frameSlots, List.zip_cons_cons, List.zip_append (by rw [List.length_replicate, stripe_length])] at hx
  rcases List.mem_cons.mp hx with rfl | hx
  · simp [placeErrors]
  · rcases List.mem_append.mp hx with hx | hx
    · obtain ⟨want, p⟩ := x
      obtain ⟨hw, hp⟩ := List.of_mem_zip hx
      obtain ⟨u, v, rfl⟩ := mem_stripe hp
      rw [List.eq_of_mem_replicate hw]
      rfl
    · rw [List.mem_singleton.mp hx]
      rfl

theorem frameErrors_own (start : Sym) (b : List Byte) : frameErrors start b.length (frameSlots start b) = 0 := by
  unfold frameErrors
  extract_lets want
  rw [foldl_add_map_eq_zero (frameSlots_placed start b), if_pos (frameSlots_length start b)]

theorem frameErrors_length (h : n ≠ b.length) (hn : n % 2 = 0) (hb : b.length % 2 = 0) :
    frameErrors start n (frameSlots start b) ≠ 0 := by
  unfold frameErrors
  extract_lets want
  have hlen : (frameSlots start b).length ≠ frameSymbols n := by
    rw [frameSlots_length]
    unfold frameSymbols
    omega
  rw [if_neg hlen]
  exact Nat.succ_ne_zero _

theorem gapErrors_idle (hg : ∀ p ∈ gap, p = (Sym.k285, Sym.k285)) : (gap.map gapErrors).foldl (· + ·) 0 = 0 :=
  foldl_add_map_eq_zero fun p hp => by rw [hg p hp]; rfl

theorem symbolErrors_own (hs : start = .k277 ∨ start = .k282 ∨ start = .k283) (hg : ∀ p ∈ gap, p = (Sym.k285, Sym.k285)) :
    symbolErrors start b.length (gap ++ frameSlots start b) = 0 := by
  unfold symbolErrors
  rw [before_idle hs hg, gapErrors_idle hg, frameIn_idle hs hg, frameErrors_own, ite_self]

theorem heardFrame_own (hs : start = .k277 ∨ start = .k282 ∨ start = .k283) (hg : ∀ p ∈ gap, p = (Sym.k285, Sym.k285))
    (hb : b.length % 2 = 0) : heardFrame start b.length (gap ++ frameSlots start b) = some b := by
  unfold heardFrame
  extract_lets f
  have hf : f = frameSlots start b := frameIn_idle hs hg
  rw [hf, if_pos ⟨List.cons_ne_nil _ _, frameErrors_own start b⟩, frameSlots, List.drop_one, List.tail_cons,
    List.take_left' (stripe_length b), laneBytes_stripe b hb]
  simp

theorem heardFrame_length (hs : start = .k277 ∨ start = .k282 ∨ start = .k283) (hg : ∀ p ∈ gap, p = (Sym.k285, Sym.k285))
    (h : n ≠ b.length) (hn : n % 2 = 0) (hb : b.length % 2 = 0) : heardFrame start n (gap ++ frameSlots start b) = none := by
  unfold heardFrame
  extract_lets f
  have hf : f = frameSlots start b := frameIn_idle hs hg
  exact if_neg fun ⟨_, he⟩ => frameErrors_length h hn hb (by rw [← hf]; exact he)

end

/-- Settles O54: each row is the function of its command by cases, and the receiver's passes over the lanes are undone one by one:
the idle symbols, the start symbol, the pairs of bytes and the end symbol each stand where they are asked for. -/
theorem linkStates : Obligations.link_states := by
  unfold Obligations.link_states
  refine ⟨fun w trip wrong en lane0 lane1 s => ?rows, fun start n b gap x s => ?lanes⟩
  case lanes =>
    extract_lets -descend k whole idle
    intro hb hs hg
    have hw : frameSlots start b = whole := by rw [frameSlots, stripe_eq]; rfl
    rw [← hw]
    exact ⟨rfl, rfl, heardFrame_own hs hg hb, symbolErrors_own hs hg, fun h hn => heardFrame_length hs hg h hn hb⟩
  case rows =>
    extract_lets -descend takes away may half heard seen begins meets done sends on off
    have hseen : setsSeen lane0 lane1 wrong s = seen := rfl
    have away_of {f : State → State} (h : ¬takes) : s.asWriter w 0x2800 f = away := asWriter_control_away h
    refine ⟨fun h hl => next_congr ((asWriter_taken h.1).trans ((brineEnable_on (taken_part h.1) h.2).trans (if_pos hl))),
      fun h hl => next_congr ((asWriter_taken h.1).trans ((brineEnable_on (taken_part h.1) h.2).trans (if_neg hl))),
      fun h hl => next_congr ((asWriter_taken h.1).trans ((brineEnable_off (taken_part h.1) h.2).trans (if_neg hl))),
      fun h hl => next_congr ((asWriter_taken h.1).trans ((brineEnable_off (taken_part h.1) h.2).trans (if_pos hl))),
      fun h hl => next_congr ((asWriter_taken h.1).trans ((retrain_free (taken_part h.1) h.2).trans (if_neg hl))),
      fun h hl => next_congr ((asWriter_taken h.1).trans ((retrain_free (taken_part h.1) h.2).trans (if_pos hl))),
      fun h hi => ⟨next_congr ((asWriter_taken h).trans (brineEnable_ignored hi)),
        next_congr ((asWriter_taken h).trans (retrain_ignored hi))⟩,
      fun h => ⟨next_congr (away_of h), next_congr (away_of h), next_congr (away_of h)⟩,
      fun hl hd => next_congr (if_pos ⟨hl, hd⟩), fun h => next_congr (beacon_not h), fun hd hb => ?begins, fun x hd hm => ?meets,
      fun hd hb hm => next_congr (trainingSetRx_other hd hseen hb hm), fun hd => next_congr (trainingSetRx_off hd),
      fun h => next_congr (if_pos h), fun h => next_congr (trainDone_not h), fun hl ht => next_congr (if_pos ⟨hl, ht⟩),
      fun h => next_congr (trainTimeout_before h),
      fun h hl hd => next_congr ((asWriter_taken h).trans ((wakeTx_sends (taken_part h) hl).trans (if_pos hd))),
      fun h hl hd => next_congr ((asWriter_taken h).trans ((wakeTx_sends (taken_part h) hl).trans (if_neg (Bool.eq_false_iff.mp hd)))),
      fun h hl => next_congr ((asWriter_taken h).trans (wakeTx_up hl))⟩
    case begins => exact next_congr (trainingSetRx_begins hd hseen hb rfl)
    case meets =>
      extract_lets -descend y z rx
      obtain ⟨h0, h1, hl⟩ := hm
      have hrx : trainingSetRx lane0 lane1 trip wrong s = seen.takeSet x trip := by
        rw [h0, h1] at hseen ⊢
        exact trainingSetRx_meets hd hseen hl
      exact ⟨fun ht => next_congr (hrx.trans (takeSet_foreign ht)), fun ht hm => next_congr (hrx.trans (takeSet_measured ht hm)),
        fun ht hm => next_congr (hrx.trans (takeSet_returns ht hm))⟩

end Sys2Proof.BrineLink


/-! SUPPORT. Per-tick frames, command frames and bulk units of the Brine link (chapter 15). -/

namespace Sys2Proof.BrineFrames

open Sys2Proof Sys2Proof.Machine Sys2Proof.Safety Sys2Proof.Laws Sys2Proof.Writes

section
variable {s : State} {slots : List LaneSlot} {b : List Byte}

/-! ### What the lanes bring -/

/-- Activity and `errors` symbol errors, where the receivers of the half work. -/
def heardLanes (slots : List LaneSlot) (errors : Nat) (s : State) : State :=
  if s.domOn 11 = true ∧ s.link ≠ linkDisabled then (s.showActivity slots).codeErrors errors else s

theorem linkHears_iff (s : State) : s.linkHears = true ↔ s.domOn 11 = true ∧ s.link ≠ linkDisabled := by simp [State.linkHears]

theorem hear_eq (start : Sym) (n : Nat) : s.hear start n slots = heardLanes slots (symbolErrors start n slots) s :=
  if_congr (linkHears_iff s) rfl rfl

/-! ### The per-tick frame, sending (R400, R401, R406) -/

section
variable {v : State} {bytes : Nat → List Byte}

/-- The per-tick frame leaves at `at_`, with the frame that it holds for that wait. -/
def sendsAlone (bytes : Nat → List Byte) (v : State) : State :=
  let at_ := 8 * v.now + v.symbolWait
  { v with brine := { v.brine with span := some ⟨at_, 66, at_ + 2640⟩ },
           wire := v.wire ++ [.perTick (frameSlots .k277 (bytes v.symbolWait))] }

theorem launchPerTick_idle (hv : s.txRun = v) (h : v.brine.span = none) : s.launchPerTick bytes = sendsAlone bytes v := by
  subst hv
  unfold State.launchPerTick
  extract_lets v lofs at_ frame alone
  rw [show v.brine.span = none from h]
  rfl

theorem launchPerTick_after {sp : TxSpan} (hv : s.txRun = v) (h : v.brine.span = some sp)
    (hs : sp.symbols ≤ (8 * v.now + v.symbolWait - sp.begin_) / 40) : s.launchPerTick bytes = sendsAlone bytes v := by
  subst hv
  unfold State.launchPerTick
  extract_lets v lofs at_ frame alone
  rw [show v.brine.span = some sp from h]
  exact if_neg (not_lt.mpr hs)

theorem launchPerTick_cuts {sp : TxSpan} (hv : s.txRun = v) (h : v.brine.span = some sp)
    (hs : (8 * v.now + v.symbolWait - sp.begin_) / 40 < sp.symbols) : s.launchPerTick bytes
    = { v with brine := { v.brine with span := some ⟨sp.begin_ + 2680, sp.symbols, sp.until_ + 2680⟩ },
               wire := v.wire ++ [.cut ((8 * v.now + v.symbolWait - sp.begin_) / 40),
                 .perTick (frameSlots .k277 (bytes v.symbolWait)), .resume] } := by
  subst hv
  unfold State.launchPerTick
  extract_lets v lofs at_ frame alone
  rw [show v.brine.span = some sp from h]
  exact if_pos hs

end

/-! ### The per-tick frame, receiving (R57, R58, R394, R398, R403) -/

/-- A frame valid for `tick` has come. -/
def validFor (tick : Nat) (s : State) : State := { s with brine := { s.brine with valid := some tick } }

/-- The partner's BRINE_PHASE and LOFS as its frame gives them. -/
def partnerSays (b : List Byte) (s : State) : State :=
  { s with brine := { s.brine with peer := some (frameNat b 6 2, frameNat b 9 1) } }

/-- The tick that a frame of now serves. -/
def servedTick (s : State) : Nat := if s.cec < s.rd RAKE_TSTART.TSTART then s.tick else (s.tick + 1) % 2 ^ 32

/-- The phase, from the beginning of this tick, at which that tick's T-program starts. -/
def dueAt (s : State) : Nat :=
  if s.cec < s.rd RAKE_TSTART.TSTART then s.rd RAKE_TSTART.TSTART else s.rake.tickLen + s.rd RAKE_TSTART.TSTART

/-- What a per-tick frame must show, one after the other. -/
def Checked (b : List Byte) : Prop := frameNat b 0x7C 4 = crc32c (b.take 0x7C)
def Formed (b : List Byte) : Prop := frameNat b 0 1 = 1 ∧ frameNat b 0x0C 4 = 0
def FromPartner (b : List Byte) (s : State) : Prop := frameNat b 3 1 = 1 - s.halfNumber
def IsNew (b : List Byte) (s : State) : Prop := s.brine.heard = true → frameNat b 1 1 ≠ s.rd BRINE_STAT.RX_ALIVE
def Matches (b : List Byte) (s : State) : Prop :=
  frameNat b 4 2 = s.rd RAKE_TICK.TICK_PERIOD ∧ frameNat b 8 1 % 2 = s.rd RAKE_TICK.PWM_TICKS

section
variable {v : State}

theorem judgePerTick_crc (h : ¬Checked b) : s.judgePerTick b = s.crcError := if_pos h

theorem judgePerTick_form (hv : validFor (servedTick s) s = v) (hc : Checked b) (h : ¬Formed b) :
    s.judgePerTick b = v.crcError := by
  subst hv
  unfold State.judgePerTick
  extract_lets tstart tick due written v z
  exact (if_neg (not_not.mpr hc)).trans (if_pos (not_and_or.mp h))

theorem judgePerTick_self (hv : validFor (servedTick s) s = v) (hc : Checked b) (hf : Formed b) (h : ¬FromPartner b v) :
    s.judgePerTick b = v.setFlag BRINE_EVT.SELF true := by
  subst hv
  unfold State.judgePerTick
  extract_lets tstart tick due written v z
  exact (if_neg (not_not.mpr hc)).trans ((if_neg fun hn => not_and_or.mpr hn hf).trans (if_pos h))

theorem judgePerTick_stale (hv : validFor (servedTick s) s = v) (hc : Checked b) (hf : Formed b) (ho : FromPartner b v)
    (h : ¬IsNew b v) : s.judgePerTick b = v.setFlag BRINE_EVT.STALE true := by
  subst hv
  unfold State.judgePerTick
  extract_lets tstart tick due written v z
  exact (if_neg (not_not.mpr hc)).trans ((if_neg fun hn => not_and_or.mpr hn hf).trans
    ((if_neg (not_not.mpr ho)).trans (if_pos ((Classical.not_imp.mp h).imp_right not_not.mp))))

theorem judgePerTick_period (hv : validFor (servedTick s) s = v) (hc : Checked b) (hf : Formed b) (ho : FromPartner b v)
    (hn : IsNew b v) (h : ¬Matches b v) : s.judgePerTick b = (v.setFlag RAKE_EVT.PERIOD_MM true).brineLate := by
  subst hv
  unfold State.judgePerTick
  extract_lets tstart tick due written v z
  exact (if_neg (not_not.mpr hc)).trans ((if_neg fun hn => not_and_or.mpr hn hf).trans
    ((if_neg (not_not.mpr ho)).trans ((if_neg fun ⟨hh, he⟩ => hn hh he).trans (if_pos (not_and_or.mp h)))))

theorem judgePerTick_fits (hv : validFor (servedTick s) s = v) (hc : Checked b) (hf : Formed b) (ho : FromPartner b v)
    (hn : IsNew b v) (h : Matches b v) : s.judgePerTick b = if dueAt s < s.writeStart s.cec + 32 then (partnerSays b v).brineLate
      else (partnerSays b v).acceptFrame b (servedTick s) (decide (dueAt s < s.writeStart s.cec + 32 + 16)) := by
  subst hv
  unfold State.judgePerTick
  extract_lets tstart tick due written v z
  exact (if_neg (not_not.mpr hc)).trans ((if_neg fun hn => not_and_or.mpr hn hf).trans
    ((if_neg (not_not.mpr ho)).trans ((if_neg fun ⟨hh, he⟩ => hn hh he).trans (if_neg fun hm => not_and_or.mpr hm h))))

end

section
variable {at_ : Nat} {h : State}

theorem judged_iff (h : State) : (!h.linkFrames || !h.running) = true ↔ ¬(h.linkFrames = true ∧ h.running = true) := by
  cases h.linkFrames <;> cases h.running <;> decide

theorem perTickFrameRx_unjudged (hh : heardLanes slots (symbolErrors .k277 128 slots) s = h)
    (hj : ¬(h.linkFrames = true ∧ h.running = true)) : perTickFrameRx slots at_ s = h := by
  subst hh
  rw [← hear_eq] at hj ⊢
  exact if_pos ((judged_iff _).mpr hj)

theorem perTickFrameRx_none (hh : heardLanes slots (symbolErrors .k277 128 slots) s = h)
    (hj : h.linkFrames = true ∧ h.running = true) (hn : heardFrame .k277 128 slots = none) :
    perTickFrameRx slots at_ s = h.advanceTo (at_ + 8) := by
  subst hh
  rw [← hear_eq] at hj ⊢
  unfold perTickFrameRx
  extract_lets h u
  rw [hn]
  exact if_neg fun hb => (judged_iff _).mp hb hj

theorem perTickFrameRx_whole (hh : heardLanes slots (symbolErrors .k277 128 slots) s = h)
    (hj : h.linkFrames = true ∧ h.running = true) (hb : heardFrame .k277 128 slots = some b) :
    perTickFrameRx slots at_ s = (h.advanceTo (at_ + 8)).judgePerTick b := by
  subst hh
  rw [← hear_eq] at hj ⊢
  unfold perTickFrameRx
  extract_lets h u
  rw [hb]
  exact if_neg fun hb => (judged_iff _).mp hb hj

end

/-- The accepted frame is taken to be written, or not. -/
def takenToWrite (s : State) : State := { s with brine := { s.brine with rx := none } }

/-- The write of a frame for `t` can end before the T-program of its tick starts. -/
def WrittenInTime (t : Nat) (u : State) : Prop :=
  (t = u.tick ∧ u.writeStart u.cec + 32 ≤ u.rd RAKE_TSTART.TSTART)
    ∨ (t = (u.tick + 1) % 2 ^ 32 ∧ u.rd RAKE_TSTART.TSTART ≤ u.writeStart u.cec)

section
variable {t : Nat} {u : State}

theorem brineRxXwrite_none (h : s.brine.rx = none) : brineRxXwrite s = s := by
  unfold brineRxXwrite
  rw [h]

theorem brineRxXwrite_writes (h : s.brine.rx = some (b, t)) (hu : takenToWrite s = u) (ht : WrittenInTime t u) {v : State}
    (hv : (u.advanceTo (u.writeStart u.cec)).writeFrame b = v) :
    brineRxXwrite s = { v with brine := { v.brine with written := some t } } := by
  subst hu hv
  unfold brineRxXwrite
  rw [h]
  exact if_pos ht

theorem brineRxXwrite_late (h : s.brine.rx = some (b, t)) (hu : takenToWrite s = u) (ht : ¬WrittenInTime t u) :
    brineRxXwrite s = [0, 1, 2].foldl (fun s m => s.undoSplit t m)
      { u.brineLate with brine := { u.brine with got := none }, partnerAt := none } := by
  subst hu
  unfold brineRxXwrite
  rw [h]
  exact if_neg ht

theorem brineFrameMissing_off (h : s.running = false ∨ s.domOn 11 = false) : brineFrameMissing s = s := by
  refine if_pos ?_
  rcases h with h | h
  · rw [h]
    rfl
  · rw [h, Bool.or_eq_true]
    exact .inr rfl

theorem missing_runs (hr : s.running = true) (hd : s.domOn 11 = true) : ¬(!s.running || !s.domOn 11) = true := by
  rw [hr, hd]
  decide

theorem brineFrameMissing_written (hr : s.running = true) (hd : s.domOn 11 = true)
    (hu : s.advanceTo (s.rd RAKE_TSTART.TSTART - 1) = u) (h : u.brine.written = some u.tick) : brineFrameMissing s = u := by
  subst hu
  exact (if_neg (missing_runs hr hd)).trans (if_pos h)

theorem brineFrameMissing_unwritten (hr : s.running = true) (hd : s.domOn 11 = true)
    (hu : s.advanceTo (s.rd RAKE_TSTART.TSTART - 1) = u) (h : u.brine.written ≠ some u.tick) {v : State}
    (hv : u.setXPair (u.rd BRINE_XMAP.RXBASE * 128) 0 = v) : brineFrameMissing s
      = if v.linkFrames = true ∧ v.brine.got ≠ some v.tick
        then ([0, 1, 2].foldl State.holdSplit (if v.brine.valid = some v.tick then v else v.brineLate)).lostFrame else v := by
  subst hu hv
  refine (if_neg (missing_runs hr hd)).trans ((if_neg h).trans (if_congr ?_ rfl rfl))
  rw [Bool.and_eq_true, bne_iff_ne]

end

/-! ### Command frames (R404) -/

section
variable {code flags : Nat} {payload : List Byte} {c : CmdOut} {h : State}

theorem commandFrameTx_down (hl : s.link ≠ linkUp) : commandFrameTx code payload s = s.failCommand := if_pos hl

theorem isSome_iff_ne_none (o : Option CmdOut) : o.isSome = true ↔ o ≠ none := by cases o <;> simp

theorem commandFrameTx_busy (hl : s.link = linkUp) (hb : s.brine.cmdOut ≠ none ∨ s.pwr.stopped.contains 3 = true) :
    commandFrameTx code payload s = s :=
  (if_neg (not_not.mpr hl)).trans (if_pos (hb.imp_left (isSome_iff_ne_none _).mpr))

theorem commandFrameTx_sends (hl : s.link = linkUp) (hb : ¬(s.brine.cmdOut ≠ none ∨ s.pwr.stopped.contains 3 = true)) {q : Nat}
    (hq : (s.brine.cmdSeq + 1) % 256 = q) {f : List Byte} (hf : commandBytes q code 0 payload = f) :
    commandFrameTx code payload s = ({ s with brine := { s.brine with cmdSeq := q, cmdOut := some ⟨f, 0, s.tick⟩, cmdFailed := false } }
      : State).sendFrame .command .k282 f := by
  subst hq hf
  exact (if_neg (not_not.mpr hl)).trans (if_neg fun hs => hb (hs.imp_left (isSome_iff_ne_none _).mp))

theorem takeCommand_none (hh : heardLanes slots (symbolErrors .k282 32 slots) s = h)
    (hn : heardFrame .k282 32 slots = none ∨ h.link ≠ linkUp) : s.takeCommand slots = h := by
  subst hh
  rw [← hear_eq] at hn ⊢
  unfold State.takeCommand
  extract_lets h
  split
  · next b hb => exact if_pos (hn.resolve_left (by rw [hb]; exact Option.some_ne_none b))
  · rfl

theorem takeCommand_whole (hh : heardLanes slots (symbolErrors .k282 32 slots) s = h) (hb : heardFrame .k282 32 slots = some b)
    (hl : h.link = linkUp) : s.takeCommand slots
      = if frameNat b 0x1C 4 ≠ crc32c (b.take 0x1C) ∨ frameNat b 0 1 ≠ 2 then h.crcError
        else if frameNat b 3 1 % 4 = 0 then h.deliverCommand b
        else h.takeAnswer (frameNat b 1 1) ((frameNat b 3 1).testBit 0) := by
  subst hh
  rw [← hear_eq] at hl ⊢
  unfold State.takeCommand
  rw [hb]
  exact if_neg (not_not.mpr hl)

theorem deliverCommand_seen (h : s.brine.cmdSeen = some (frameNat b 1 1)) : s.deliverCommand b = s.answerCommand (frameNat b 1 1) true :=
  if_pos h

theorem deliverCommand_new (h : s.brine.cmdSeen ≠ some (frameNat b 1 1)) (hq : s.brine.cmdQueue.length < 4) : s.deliverCommand b
    = State.answerCommand { s with brine := { s.brine with cmdSeen := some (frameNat b 1 1), cmdQueue := s.brine.cmdQueue ++ [b] } }
      (frameNat b 1 1) true := (if_neg h).trans (if_pos hq)

theorem deliverCommand_full (h : s.brine.cmdSeen ≠ some (frameNat b 1 1)) (hq : 4 ≤ s.brine.cmdQueue.length) :
    s.deliverCommand b = s.answerCommand (frameNat b 1 1) false := (if_neg h).trans (if_neg (not_lt.mpr hq))

theorem takeAnswer_mine {q : Nat} {ok : Bool} (h : s.brine.cmdOut = some c) (hq : frameNat c.bytes 1 1 = q) : s.takeAnswer q ok
    = if ok = true then { s with brine := { s.brine with cmdOut := none } } else s.repeatCommand c := by
  unfold State.takeAnswer
  rw [h]
  exact if_neg (not_not.mpr hq)

theorem takeAnswer_other {q : Nat} {ok : Bool} (h : s.brine.cmdOut = none ∨ (s.brine.cmdOut = some c ∧ frameNat c.bytes 1 1 ≠ q)) :
    s.takeAnswer q ok = s := by
  unfold State.takeAnswer
  rcases h with h | ⟨h, hq⟩
  · rw [h]
  · rw [h]
    exact if_pos hq

theorem commandRetryTimeout_none (h : s.brine.cmdOut = none) : commandRetryTimeout s = s := by
  unfold commandRetryTimeout
  rw [h]

theorem commandRetryTimeout_some (h : s.brine.cmdOut = some c) : commandRetryTimeout s
    = if 4 ≤ (s.tick + 2 ^ 32 - c.sentTick) % 2 ^ 32 then s.repeatCommand c else s := by
  unfold commandRetryTimeout
  rw [h]

end

/-! ### Bulk units (R83, R405, R453) -/

section
variable {payload : List Byte} {bs : List Beside} {h : State}

/-- A unit of the class may leave: the link is UP, its class enabled and a credit held, and sending is not stopped. -/
def MaySend (enabled : Bool) (cls1 : Bool) (s : State) : Prop :=
  s.link = linkUp ∧ enabled = true ∧ s.credit cls1 ≠ 0 ∧ ¬s.pwr.stopped.contains 3 = true

theorem maySend_iff (enabled cls1 : Bool) (s : State) : MaySend enabled cls1 s
    ↔ ¬(s.link ≠ linkUp ∨ (!enabled) = true ∨ s.credit cls1 = 0 ∨ s.pwr.stopped.contains 3 = true) := by
  simp [MaySend]

theorem bulkUnitTx_class1 (hm : MaySend (s.flag BRINE_CTRL.BULK1_EN) true s) (hp : payload ≠ []) : bulkUnitTx true payload s
    = (s.setCredit true (s.credit true - 1)).sendFrame .bulk .k283 (unitBytes 1 3 (payload.take 64)) :=
  (if_neg ((maySend_iff _ _ _).mp hm)).trans (if_neg hp)

theorem bulkUnitTx_class1_not (h : ¬MaySend (s.flag BRINE_CTRL.BULK1_EN) true s ∨ payload = []) : bulkUnitTx true payload s = s := by
  unfold bulkUnitTx
  extract_lets enabled u v
  split
  · rfl
  · next hs => exact if_pos (h.resolve_left (not_not.mpr ((maySend_iff _ _ _).mpr hs)))

theorem bulkUnitTx_class0_not (h : ¬MaySend (s.flag BRINE_CTRL.BULK0_EN) false s) : bulkUnitTx false payload s = s :=
  if_pos (not_not.mp fun hn => h ((maySend_iff _ _ _).mpr hn))

theorem bulkUnitTx_class0_empty (hm : MaySend (s.flag BRINE_CTRL.BULK0_EN) false s) {l : State} (hl : s.loadUnits = l)
    (he : l.brine.txUnits = []) : bulkUnitTx false payload s = l := by
  subst hl
  unfold bulkUnitTx
  extract_lets enabled u v
  rw [he]
  exact if_neg ((maySend_iff _ _ _).mp hm)

theorem bulkUnitTx_class0 (hm : MaySend (s.flag BRINE_CTRL.BULK0_EN) false s) {l v w : State} {k : Nat} {d : List Byte}
    {rest : List (Nat × List Byte)} (hl : s.loadUnits = l) (hu : l.brine.txUnits = (k, d) :: rest)
    (hv : l.setCredit false (l.credit false - 1) = v)
    (hw : State.sendFrame { v with brine := { v.brine with txUnits := rest } } .bulk .k283 (unitBytes 0 k d) = w) :
    bulkUnitTx false payload s
      = if rest = [] then State.showTransit { w with pan := { w.pan with transit := dropCrossing w.pan.transit } } else w := by
  subst hl hv hw
  unfold bulkUnitTx
  extract_lets enabled u v
  rw [hu]
  exact if_neg ((maySend_iff _ _ _).mp hm)

theorem bulkUnitRx_down (hh : heardLanes slots (symbolErrors .k283 72 slots) s = h) (hl : h.link ≠ linkUp) :
    bulkUnitRx slots bs s = h := by
  subst hh
  rw [← hear_eq] at hl ⊢
  exact if_pos hl

theorem bulkUnitRx_none (hh : heardLanes slots (symbolErrors .k283 72 slots) s = h) (hl : h.link = linkUp)
    (hn : heardFrame .k283 72 slots = none) : bulkUnitRx slots bs s = (h.unitClass slots).2.discardUnit (h.unitClass slots).1 := by
  subst hh
  rw [← hear_eq] at hl ⊢
  unfold bulkUnitRx
  rw [hn]
  exact if_neg (not_not.mpr hl)

theorem bulkUnitRx_whole (hh : heardLanes slots (symbolErrors .k283 72 slots) s = h) (hl : h.link = linkUp)
    (hb : heardFrame .k283 72 slots = some b) : bulkUnitRx slots bs s = h.takeUnit b bs := by
  subst hh
  rw [← hear_eq] at hl ⊢
  unfold bulkUnitRx
  rw [hb]
  exact if_neg (not_not.mpr hl)

/-- What a unit must show: its CRC, its form, a class and a length. -/
def UnitSound (b : List Byte) : Prop := frameNat b 0x44 4 = crc32c (b.take 0x44) ∧ frameNat b 0 1 = 3 ∧ frameNat b 1 1 ≤ 1
  ∧ frameNat b 2 1 ≠ 0 ∧ frameNat b 2 1 ≤ 64

theorem unitSound_iff (b : List Byte) : UnitSound b ↔ ¬(frameNat b 0x44 4 ≠ crc32c (b.take 0x44) ∨ frameNat b 0 1 ≠ 3
    ∨ 1 < frameNat b 1 1 ∨ frameNat b 2 1 = 0 ∨ 64 < frameNat b 2 1) := by
  simp [UnitSound]

theorem takeUnit_unsound (h : ¬UnitSound b) : s.takeUnit b bs = s.crcError.discardUnit (frameNat b 1 1 % 2) :=
  if_pos (not_not.mp fun hn => h ((unitSound_iff b).mpr hn))

theorem takeUnit_class1 (h : UnitSound b) (h1 : frameNat b 1 1 = 1) : s.takeUnit b bs
    = (s.produce (s.rd PAN_CTRL.TRACE_FLOW) 0 ((b.drop 4).take (frameNat b 2 1))).giveCredit 1 1 :=
  (if_neg ((unitSound_iff b).mp h)).trans (if_pos h1)

theorem takeUnit_class0 (h : UnitSound b) (h1 : frameNat b 1 1 ≠ 1) {u : State}
    (hu : s.wr BRINE_BULK.RX_USED0 (s.rd BRINE_BULK.RX_USED0 + 1) = u) : s.takeUnit b bs
    = u.moveUnits bs (u.brine.rxWait ++ [(frameNat b 3 1, (b.drop 4).take (frameNat b 2 1))]) := by
  subst hu
  exact (if_neg ((unitSound_iff b).mp h)).trans (if_neg h1)

variable {cls n : Nat}

theorem creditSet_heard (hh : heardLanes slots (creditErrors slots) s = h) :
    (if s.linkHears = true then (s.showActivity slots).codeErrors (creditErrors slots) else s) = h :=
  (if_congr (linkHears_iff s) rfl rfl).trans hh

theorem creditSet_gives (hh : heardLanes slots (creditErrors slots) s = h) (hl : h.link = linkUp) (hc : creditIn slots = some (cls, n))
    (hr : cls ≤ 1 ∧ n ≠ 0 ∧ n ≤ 16) : creditSet slots s = h.setCredit (cls == 1) (min 16 (h.credit (cls == 1) + n)) := by
  unfold creditSet
  rw [creditSet_heard hh, hc]
  refine if_neg ?_
  rintro (hn | hn | hn | hn)
  · exact hn hl
  all_goals omega

theorem creditSet_none (hh : heardLanes slots (creditErrors slots) s = h) (hn : h.link ≠ linkUp ∨ creditIn slots = none
    ∨ (creditIn slots = some (cls, n) ∧ ¬(cls ≤ 1 ∧ n ≠ 0 ∧ n ≤ 16))) : creditSet slots s = h := by
  unfold creditSet
  rw [creditSet_heard hh]
  split
  · next c m hc =>
    refine if_pos (hn.imp_right fun hn => ?_)
    rcases hn with hn | ⟨he, hr⟩
    · exact absurd (hc.symm.trans hn) (Option.some_ne_none _)
    · obtain ⟨rfl, rfl⟩ := Prod.mk.inj (Option.some.inj (hc.symm.trans he))
      omega
  · rfl

end

end

/-! ### The exchange at BRINE_PHASE (R400, R401) -/

theorem brineExchange_silent {s u : State} (hu : s.advanceTo (s.rd RAKE_BRINE.BRINE_PHASE) = u) (h : u.linkFrames = false) :
    brineExchange s = u := by
  subst hu
  exact if_neg (Bool.eq_false_iff.mp h)

/-- The per-tick frame of a half with the next ALIVE, for a wait. -/
def ownFrame (u : State) (alive off : Nat) : List Byte :=
  let body := u.frameHeader alive off ++ u.brine.txData
  body ++ leBytes 4 (crc32c body)

theorem brineExchange_launches {s u : State} (hu : s.advanceTo (s.rd RAKE_BRINE.BRINE_PHASE) = u) (h : u.linkFrames = true) {alive : Nat}
    (ha : (u.rd BRINE_STAT.TX_ALIVE + 1) % 256 = alive) : brineExchange s
    = (u.wr BRINE_STAT.TX_ALIVE alive).launchPerTick (ownFrame u alive) := by
  subst hu ha
  exact if_pos h

/-- Settles O55: the per-tick frame, its reception, the command frames and the bulk units, each by the cases of its function. -/
theorem linkFramesAndUnits : Obligations.link_frames_and_units := by
  unfold Obligations.link_frames_and_units
  refine ⟨fun s => ?send, fun at_ t b slots s => ?receive, fun code payload b slots c s => ?commands,
    fun cls n payload b slots bs s => ?bulk⟩
  case send =>
    extract_lets -descend u alive v lofs body f at_ spans alone
    have launches (h : u.linkFrames = true) : brineExchange s = (u.wr BRINE_STAT.TX_ALIVE alive).launchPerTick (ownFrame u alive) :=
      brineExchange_launches rfl h rfl
    refine ⟨fun h => next_congr (brineExchange_silent rfl h), fun h hn => next_congr ((launches h).trans (launchPerTick_idle rfl hn)),
      fun sp h hs => ?_⟩
    extract_lets sent
    exact ⟨fun hc => next_congr ((launches h).trans (launchPerTick_cuts rfl hs hc)),
      fun hc => next_congr ((launches h).trans (launchPerTick_after rfl hs hc))⟩
  case receive =>
    extract_lets -descend hears h judged u tstart now_ tick due ends whole sound v form other news fits z rx
    have hh : heardLanes slots (symbolErrors .k277 128 slots) s = h := rfl
    have hrx (hj : judged) (hb : whole) : perTickFrameRx slots at_ s = u.judgePerTick b := perTickFrameRx_whole hh hj hb
    have hv : validFor (servedTick u) u = v := rfl
    have hother : other ↔ form ∧ FromPartner b v := by
      refine and_congr_right fun _ => ?_
      unfold FromPartner State.halfNumber
      cases v.halfId <;> exact Iff.rfl
    have hform (hs : sound) : form ↔ Formed b := and_iff_right hs
    have hnews (ho : other) : news ↔ IsNew b v := and_iff_right ho
    have hfits (hn : news) : fits ↔ Matches b v := and_iff_right hn
    refine ⟨fun hj => next_congr (perTickFrameRx_unjudged hh hj), fun hj hn => next_congr (perTickFrameRx_none hh hj hn),
      fun hj hw hs => next_congr ((hrx hj hw).trans (judgePerTick_crc fun hc => hs ⟨hw, hc⟩)),
      fun hj hs hf => next_congr ((hrx hj hs.1).trans (judgePerTick_form hv hs.2 fun hc => hf ((hform hs).mpr hc))),
      fun hj hf ho => next_congr ((hrx hj hf.1.1).trans (judgePerTick_self hv hf.1.2 hf.2 fun hc => ho (hother.mpr ⟨hf, hc⟩))),
      fun hj ho hn => ?stale, fun hj hn hf => ?period, fun hj hf hd => ?late, fun hj hf hd => ?accepted,
      fun hr => next_congr (brineRxXwrite_none hr), fun hr => ?write,
      fun ho => next_congr (brineFrameMissing_off ho), fun hr hd => ?missing⟩
    case stale =>
      obtain ⟨hf, hp⟩ := hother.mp ho
      exact next_congr ((hrx hj hf.1.1).trans (judgePerTick_stale hv hf.1.2 hf.2 hp fun hc => hn ((hnews ho).mpr hc)))
    case period =>
      obtain ⟨hfo, hp⟩ := hother.mp hn.1
      exact next_congr ((hrx hj hfo.1.1).trans
        (judgePerTick_period hv hfo.1.2 hfo.2 hp ((hnews hn.1).mp hn) fun hc => hf ((hfits hn).mpr hc)))
    case late =>
      obtain ⟨hfo, hp⟩ := hother.mp hf.1.1
      exact next_congr ((hrx hj hfo.1.1).trans
        ((judgePerTick_fits hv hfo.1.2 hfo.2 hp ((hnews hf.1.1).mp hf.1) ((hfits hf.1).mp hf)).trans (if_pos hd)))
    case accepted =>
      obtain ⟨hfo, hp⟩ := hother.mp hf.1.1
      exact next_congr ((hrx hj hfo.1.1).trans
        ((judgePerTick_fits hv hfo.1.2 hfo.2 hp ((hnews hf.1.1).mp hf.1) ((hfits hf.1).mp hf)).trans (if_neg (not_lt.mpr hd))))
    case write =>
      extract_lets -descend u start tstart inTime
      refine ⟨fun ht => ?_, fun ht => next_congr (brineRxXwrite_late hr rfl ht)⟩
      exact next_congr (brineRxXwrite_writes hr rfl ht rfl)
    case missing =>
      extract_lets -descend u v lost
      have unwritten (h : u.brine.written ≠ some u.tick) := brineFrameMissing_unwritten hr hd rfl h rfl
      exact ⟨fun h => next_congr (brineFrameMissing_written hr hd rfl h),
        fun h hl => next_congr ((unwritten h).trans (if_neg hl)),
        fun h hl hv => next_congr ((unwritten h).trans ((if_pos hl).trans (by rw [if_pos hv]))),
        fun h hl hv => next_congr ((unwritten h).trans ((if_pos hl).trans (by rw [if_neg hv])))⟩
  case commands =>
    extract_lets -descend up busy next f h whole sound q flags news answer answered mine stale again both
    have hh : heardLanes slots (symbolErrors .k282 32 slots) s = h := rfl
    have both_of {t : State} (ht : s.takeCommand slots = t) : both t := ⟨next_congr ht, next_congr ht⟩
    have sound_iff (hw : whole) : sound ↔ ¬(frameNat b 0x1C 4 ≠ crc32c (b.take 0x1C) ∨ frameNat b 0 1 ≠ 2) := by
      rw [not_or, not_not, not_not]
      exact and_iff_right hw
    have taken (hs : sound) := (takeCommand_whole hh hs.1.1 hs.1.2).trans (if_neg ((sound_iff hs.1).mp hs))
    have delivered (hn : news) : s.takeCommand slots = h.deliverCommand b := (taken hn.1).trans (if_pos hn.2)
    have answers (ha : answer) : s.takeCommand slots = h.takeAnswer q (flags.testBit 0) := (taken ha.1).trans (if_neg ha.2)
    exact ⟨fun hu => next_congr (commandFrameTx_down hu), fun hu hb => next_congr (commandFrameTx_busy hu hb),
      fun hu hb => next_congr (commandFrameTx_sends hu hb rfl rfl), fun hn => both_of (takeCommand_none hh hn),
      fun hw hs => both_of ((takeCommand_whole hh hw.1 hw.2).trans (if_pos (not_not.mp fun hn => hs ((sound_iff hw).mpr hn)))),
      fun hn hq => both_of ((delivered hn).trans (deliverCommand_seen hq)),
      fun hn hq hl => both_of ((delivered hn).trans (deliverCommand_new hq hl)),
      fun hn hq hl => both_of ((delivered hn).trans (deliverCommand_full hq hl)),
      fun ha hm hk => both_of ((answers ha).trans ((takeAnswer_mine hm.1 hm.2).trans (if_pos hk))),
      fun ha hm hk => both_of ((answers ha).trans ((takeAnswer_mine hm.1 hm.2).trans (if_neg (Bool.eq_false_iff.mp hk)))),
      fun ha hm => both_of ((answers ha).trans (takeAnswer_other hm)),
      fun hc ht => next_congr ((commandRetryTimeout_some hc).trans (if_pos ht)),
      fun hc => next_congr (hc.elim commandRetryTimeout_none fun hc => (commandRetryTimeout_some hc.1).trans (if_neg hc.2))⟩
  case bulk =>
    extract_lets -descend up stopped may0 may1 l heard h whole len sound data rx cred back
    have hh : heardLanes slots (symbolErrors .k283 72 slots) s = h := rfl
    have hcred : heardLanes slots (creditErrors slots) s = cred := rfl
    have sound_iff (hw : whole) : sound ↔ UnitSound b := and_iff_right hw
    have drained {u v : State} (hu : u = v) : completes s (u.drainUnits []) = completes s (v.drainUnits []) := by rw [hu]
    refine ⟨fun hm hp => drained (bulkUnitTx_class1 hm hp), fun hn => drained (bulkUnitTx_class1_not hn),
      fun hn => drained (bulkUnitTx_class0_not hn), fun hm he => drained (bulkUnitTx_class0_empty hm rfl he),
      fun k d rest hm hu => ?unit, fun hl => next_congr (bulkUnitRx_down hh hl), fun hl hn => next_congr (bulkUnitRx_none hh hl hn),
      fun hw hs => next_congr ((bulkUnitRx_whole hh hw.2 hw.1).trans (takeUnit_unsound fun hc => hs ((sound_iff hw).mpr hc))),
      fun hs h1 => next_congr ((bulkUnitRx_whole hh hs.1.2 hs.1.1).trans (takeUnit_class1 hs.2 h1)),
      fun hs h1 => next_congr ((bulkUnitRx_whole hh hs.1.2 hs.1.1).trans (takeUnit_class0 hs.2 h1 rfl)),
      fun hb => next_congr (creditSet_gives hcred hb.1 hb.2.1 hb.2.2), fun hn => next_congr (creditSet_none hcred hn)⟩
    case unit =>
      extract_lets -descend v w
      have sent := bulkUnitTx_class0 (payload := payload) hm rfl hu rfl rfl
      exact ⟨fun hr => drained (sent.trans (if_pos hr)), fun hr => drained (sent.trans (if_neg hr))⟩

end Sys2Proof.BrineFrames


/-! SUPPORT. Frames of the fabric: their arrival and their delivery by type (chapter 16). -/

namespace Sys2Proof.FabricFrames

open Sys2Proof Sys2Proof.Machine Sys2Proof.Safety Sys2Proof.Laws Sys2Proof.Writes

section
variable {s u v w z : State} {q : Nat} {idle : Bool} {f : FabFrame} {bs : List Beside}

/-! ### Arrival (R414, R425) -/

/-- The port works. -/
def PortWorks (q : Nat) (s : State) : Prop := s.portEn q = true ∧ s.domOn 8 = true

theorem not_portWorks_iff : (!s.portEn q) = true ∨ (!s.domOn 8) = true ↔ ¬PortWorks q s := by
  unfold PortWorks
  cases s.portEn q <;> cases s.domOn 8 <;> decide

theorem arrive_off (h : ¬PortWorks q s) : s.arrive q idle f = (false, s) := if_pos (not_portWorks_iff.mpr h)

theorem arrive_returned (h : PortWorks q s) (hu : (if f.fcs = true then s.heardPort q else s) = u) (hr : u.returned f = true) :
    s.arrive q idle f = (false, u.count NET_CNT0.HOP_DROP) := by
  subst hu
  exact (if_neg fun hn => not_portWorks_iff.mp hn h).trans (if_pos hr)

theorem arrive_forwarded (h : PortWorks q s) (hu : (if f.fcs = true then s.heardPort q else s) = u) (hr : u.returned f = false)
    (hv : u.forward q idle f = v) : s.arrive q idle f = if (f.fcs && v.forMe f) = true then v.takeNew f else (false, v) := by
  subst hu hv
  exact (if_neg fun hn => not_portWorks_iff.mp hn h).trans (if_neg (Bool.eq_false_iff.mp hr))

theorem takeNew_old (h : v.fresh f = false) : v.takeNew f = (false, v.count NET_CNT0.DUP_DROP) := if_pos (by rw [h]; rfl)

theorem takeNew_new (h : v.fresh f = true) : v.takeNew f
    = if f.crc ≠ e2eCrc f then (false, v.count NET_CNT1.E2E_CRC_CNT) else (true, v.noteSeq f) := if_neg (by rw [h]; decide)

/-! ### Delivery (R415, R419, R423, R443) -/

theorem dataFrame_arrived (h : s.arrive q idle f = (true, w)) : dataFrame q idle f s = w.deliverData f := by
  unfold dataFrame
  rw [h]

theorem dataFrame_dropped (h : s.arrive q idle f = (false, w)) : dataFrame q idle f s
    = if (f.fcs && s.fresh f && f.crc != e2eCrc f && s.forMe f && !s.returned f && s.portEn q) = true then w.noteBad f else w := by
  unfold dataFrame
  rw [h]

theorem regRsp_arrived (h : s.arrive q idle f = (true, w)) : regRsp q idle f s = w.deliverRecord f := by
  unfold regRsp
  rw [h]

theorem regRsp_dropped (h : s.arrive q idle f = (false, w)) : regRsp q idle f s = w := by
  unfold regRsp
  rw [h]

theorem mboxRsp_arrived (h : s.arrive q idle f = (true, w)) : mboxRsp q idle f s = w.deliverRecord f := by
  unfold mboxRsp
  rw [h]

theorem mboxRsp_dropped (h : s.arrive q idle f = (false, w)) : mboxRsp q idle f s = w := by
  unfold mboxRsp
  rw [h]

theorem takesRequest_iff : w.takesRequest f = true ↔ w.heldAddr ≠ 0 ∨ f.dst % 64 = 0 := by simp [State.takesRequest]

theorem regReq_arrived (h : s.arrive q idle f = (true, w)) : regReq q idle f bs s
    = if w.takesRequest f = true then w.registerRequest (w.fabricReply q f) f.payload bs else w := by
  unfold regReq
  rw [h]

theorem regReq_dropped (h : s.arrive q idle f = (false, w)) : regReq q idle f bs s = w := by
  unfold regReq
  rw [h]

theorem mboxReq_arrived (h : s.arrive q idle f = (true, w)) : mboxReq q idle f s
    = if w.takesRequest f = true then w.mailboxRequest (w.fabricReply q f) f.payload else w := by
  unfold mboxReq
  rw [h]

theorem mboxReq_dropped (h : s.arrive q idle f = (false, w)) : mboxReq q idle f s = w := by
  unfold mboxReq
  rw [h]

theorem registerRequest_admitted {r : Reply} {payload : List Byte} (h : (w.admitRequest r).1 = true) : w.registerRequest r payload bs
    = (((w.admitRequest r).2.runRecords r.writer bs 64 64 payload).2.serveRest 1
        ((w.admitRequest r).2.runRecords r.writer bs 64 64 payload).2.sys.waiting.length).respond r 2
        ((w.admitRequest r).2.runRecords r.writer bs 64 64 payload).1 := by
  unfold State.registerRequest
  rw [show w.admitRequest r = (true, (w.admitRequest r).2) from Prod.ext h rfl]

theorem registerRequest_refused {r : Reply} {payload : List Byte} (h : (w.admitRequest r).1 = false) :
    w.registerRequest r payload bs = (w.admitRequest r).2 := by
  unfold State.registerRequest
  rw [show w.admitRequest r = (false, (w.admitRequest r).2) from Prod.ext h rfl]

theorem mailboxRequest_admitted {r : Reply} {payload : List Byte} (h : (w.admitRequest r).1 = true) :
    w.mailboxRequest r payload = (w.admitRequest r).2.mboxPost r payload := by
  unfold State.mailboxRequest
  rw [show w.admitRequest r = (true, (w.admitRequest r).2) from Prod.ext h rfl]

theorem mailboxRequest_refused {r : Reply} {payload : List Byte} (h : (w.admitRequest r).1 = false) :
    w.mailboxRequest r payload = (w.admitRequest r).2 := by
  unfold State.mailboxRequest
  rw [show w.admitRequest r = (false, (w.admitRequest r).2) from Prod.ext h rfl]

theorem ringEvt_arrived (h : s.arrive q idle f = (true, w)) (hz : w.setFlag NET_EVT.RING_EVT true = z) : ringEvt q idle f s
    = (((List.range 64).filter fun n => z.flag (seenFld n q) && decide (f.hops + 1 < z.rd (hopsFld n q))).foldl
        (fun s n => s.clearSeen n q) z).showRing := by
  subst hz
  unfold ringEvt
  rw [h]

theorem ringEvt_dropped (h : s.arrive q idle f = (false, w)) : ringEvt q idle f s = w := by
  unfold ringEvt
  rw [h]

/-! ### Frames that go on (R425 to R427) -/

theorem frameForward_reserved (h : 8 ≤ f.typ ∨ s.forMe f = false) : frameForward q idle f s = (s.arrive q idle f).2 :=
  if_pos (h.imp_right fun h => by rw [h]; rfl)

theorem own_typed (ht : f.typ < 8) (hf : s.forMe f = true) : ¬(8 ≤ f.typ ∨ (!s.forMe f) = true) := by
  rw [hf]
  exact fun h => h.elim (not_le.mpr ht) Bool.false_ne_true

theorem frameForward_off (ht : f.typ < 8) (hf : s.forMe f = true) (h : ¬PortWorks q s) : frameForward q idle f s = s :=
  (if_neg (own_typed ht hf)).trans (if_pos (not_portWorks_iff.mpr h))

theorem frameForward_on (ht : f.typ < 8) (hf : s.forMe f = true) (h : PortWorks q s)
    (hu : (if f.fcs = true then s.heardPort q else s) = u) : frameForward q idle f s
    = if u.returned f = true then u.count NET_CNT0.HOP_DROP else u.forward q idle f := by
  subst hu
  exact (if_neg (own_typed ht hf)).trans (if_neg fun hn => not_portWorks_iff.mp hn h)

/-! ### Announcements (R418 to R422) -/

/-- An announcement of the own ring that is whole: its claim is judged, and its direction learned. -/
def announced (q : Nat) (f : FabFrame) (s : State) : State :=
  let mine := s.portEn q && s.domOn 8 && f.fcs && f.crc == e2eCrc f && f.dst / 64 % 2 == s.ring
  let a := if mine = true then s.judgeClaim f else s
  if (mine && !a.returned f) = true then (a.learnRoute q f).showRing else a

theorem announce_arrived (h : ((announced q f s).arrive q idle f).1 = true) :
    announce q idle f s = ((announced q f s).arrive q idle f).2.keepIdentity f := by
  unfold announce
  extract_lets mine a b
  rw [show b.arrive q idle f = (true, (b.arrive q idle f).2) from Prod.ext h rfl]
  rfl

theorem announce_dropped (h : ((announced q f s).arrive q idle f).1 = false) :
    announce q idle f s = ((announced q f s).arrive q idle f).2 := by
  unfold announce
  extract_lets mine a b
  rw [show b.arrive q idle f = (false, (b.arrive q idle f).2) from Prod.ext h rfl]
  rfl

end

/-- Settles O56: the arrival by its checks in their order, and the delivery of what has arrived by the type of the frame. -/
theorem framesAreDelivered : Obligations.frames_are_delivered := by
  unfold Obligations.frames_are_delivered
  intro q idle f bs s
  extract_lets -descend on u v me arrives done
  have forwarded (h : on) (hr : u.returned f = false) := arrive_forwarded (idle := idle) h rfl hr (v := v) rfl
  have mine_of (hm : me) : (f.fcs && v.forMe f) = true := Bool.and_eq_true_iff.mpr hm
  refine ⟨arrive_off, fun h hr => arrive_returned h rfl hr,
    fun h hr hm => (forwarded h hr).trans (if_neg fun hb => hm (Bool.and_eq_true_iff.mp hb)),
    fun h hr hm hf => (forwarded h hr).trans ((if_pos (mine_of hm)).trans (takeNew_old hf)),
    fun h hr hm hf hc => (forwarded h hr).trans ((if_pos (mine_of hm)).trans ((takeNew_new hf).trans (if_pos hc))),
    fun h hr hm hf hc => (forwarded h hr).trans ((if_pos (mine_of hm)).trans ((takeNew_new hf).trans (if_neg (not_not.mpr hc)))),
    fun w hw => ?arrived, fun w hw => ?dropped, fun h => next_congr (frameForward_reserved h), fun ht hf => ?goesOn, ?announce⟩
  case arrived =>
    extract_lets -descend answers from_ r out a far
    refine ⟨next_congr (dataFrame_arrived hw), next_congr (regRsp_arrived hw), next_congr (mboxRsp_arrived hw),
      fun ha hr => ⟨?_, ?_⟩, fun ha hr => ⟨?_, ?_⟩, fun ha => ⟨?_, ?_⟩, next_congr (ringEvt_arrived hw rfl)⟩
    · exact next_congr ((regReq_arrived hw).trans ((if_pos (takesRequest_iff.mpr ha)).trans (registerRequest_admitted hr)))
    · exact next_congr ((mboxReq_arrived hw).trans ((if_pos (takesRequest_iff.mpr ha)).trans (mailboxRequest_admitted hr)))
    · exact next_congr ((regReq_arrived hw).trans ((if_pos (takesRequest_iff.mpr ha)).trans (registerRequest_refused hr)))
    · exact next_congr ((mboxReq_arrived hw).trans ((if_pos (takesRequest_iff.mpr ha)).trans (mailboxRequest_refused hr)))
    · exact next_congr ((regReq_arrived hw).trans (if_neg fun hn => ha (takesRequest_iff.mp hn)))
    · exact next_congr ((mboxReq_arrived hw).trans (if_neg fun hn => ha (takesRequest_iff.mp hn)))
  case dropped =>
    extract_lets -descend bad
    exact ⟨fun hb => next_congr ((dataFrame_dropped hw).trans (if_pos hb)),
      fun hb => next_congr ((dataFrame_dropped hw).trans (if_neg (Bool.eq_false_iff.mp hb))), next_congr (regRsp_dropped hw),
      next_congr (mboxRsp_dropped hw), next_congr (regReq_dropped hw), next_congr (mboxReq_dropped hw),
      next_congr (ringEvt_dropped hw)⟩
  case goesOn =>
    exact ⟨fun h => next_congr (frameForward_off ht hf h), fun h hr => next_congr ((frameForward_on ht hf h rfl).trans (if_pos hr)),
      fun h hr => next_congr ((frameForward_on ht hf h rfl).trans (if_neg (Bool.eq_false_iff.mp hr)))⟩
  case announce =>
    extract_lets -descend mine a b r
    exact ⟨fun h => next_congr (announce_arrived h), fun h => next_congr (announce_dropped h)⟩

end Sys2Proof.FabricFrames


/-! SUPPORT. Ports, neighbours, claims and routes of the fabric, and its CAN FD controllers (chapter 16). -/

namespace Sys2Proof.FabricPorts

open Sys2Proof Sys2Proof.Machine Sys2Proof.Safety Sys2Proof.Laws Sys2Proof.Writes Sys2Proof.FabricFrames

section
variable {s u z : State} {q p : Nat} {f : FabFrame} {frame : List Byte}

/-! ### Neighbours and other EtherTypes (R412, R414, R423) -/

/-- A NEIGHBOR frame on an enabled port that is link-local, whole and of another node. -/
def SoundNeighbor (q : Nat) (f : FabFrame) (s : State) : Prop :=
  s.portEn q = true ∧ f.fcs = true ∧ f.crc = e2eCrc f ∧ f.dst % 64 = 0 ∧ s.returned f = false

theorem soundNeighbor_iff : (s.portEn q && f.fcs && f.crc == e2eCrc f && f.dst % 64 == 0 && !s.returned f) = true
    ↔ SoundNeighbor q f s := by simp [SoundNeighbor, and_assoc]

theorem neighbor_sound (h : SoundNeighbor q f s) : neighbor q f s
    = ((((s.setFlag (nbFld q) true).lower srcNetRing q).lower srcNetRing 2).showRing.arrive q false f).2 :=
  congrArg (fun t : State => (t.arrive q false f).2) (if_pos (soundNeighbor_iff.mpr h))

theorem neighbor_unsound (h : ¬SoundNeighbor q f s) : neighbor q f s = (s.arrive q false f).2 :=
  congrArg (fun t : State => (t.arrive q false f).2) (if_neg fun hn => h (soundNeighbor_iff.mp hn))

theorem neighbor_off (h : ¬s.portEn q = true) : neighbor q f s = s := by
  rw [neighbor_unsound fun hs => h hs.1, arrive_off fun hp => h hp.1]

theorem otherEthertype_off (h : ¬s.portEn q = true) : otherEthertype q frame s = s :=
  if_pos (by rw [Bool.eq_false_iff.mpr h]; rfl)

theorem otherEthertype_on (h : s.portEn q = true) (hu : s.heardPort q = u) : otherEthertype q frame s
    = if u.flag NET_CTRL.FWD_OTHER = true then (if u.portUp (1 - q) = true then u.otherToTransit (1 - q) frame else u)
      else u.count NET_CNT2.OTHER_DROP_CNT := by
  subst hu
  exact if_neg (by rw [h]; decide)

theorem otherToTransit_room (h : u.transitUsed + (frame.length + 63) / 64 ≤ u.rd PAN_CTRL.XBUF) : u.otherToTransit p frame
    = State.showTransit { u with pan := { u.pan with others := u.pan.others ++ [(p, frame)] } } := if_pos (decide_eq_true h)

theorem otherToTransit_full (h : ¬u.transitUsed + (frame.length + 63) / 64 ≤ u.rd PAN_CTRL.XBUF) : u.otherToTransit p frame
    = (u.count PAN_CNT0.XBUF_DROP_CNT).setFlag PAN_STAT.XBUF_FULL true := if_neg (by rw [State.poolRoom, decide_eq_false h]; decide)

/-! ### Loss of a neighbour, claims and routes (R418, R422 to R424) -/

section
variable {down : Bool}

/-- A neighbour shown on port `p` is lost. -/
def NeighborLost (p : Nat) (down : Bool) (z : State) : Prop :=
  z.flag (nbFld p) = true ∧ (down = true ∨ max 1 (z.rd NET_TIM.NB_N) ≤ lookup z.net.silent 0 p)

theorem neighborLost_iff : (z.flag (nbFld p) && (down || decide (max 1 (z.rd NET_TIM.NB_N) ≤ lookup z.net.silent 0 p))) = true
    ↔ NeighborLost p down z := by
  simp [NeighborLost]

theorem neighborLoss_not
    (hz : (if down = true then (((s.setFlag (linkFld p) false).setPtp p .init).chooseMaster) else s) = z) (h : ¬NeighborLost p down z) :
    neighborLoss p down s = z := by
  subst hz
  exact if_neg fun hn => h (neighborLost_iff.mp hn)

/-- The neighbour of port `p` is reported lost; with none on the other port either, the ring is. -/
def reportLost (p : Nat) (z : State) : State :=
  let a := ((z.setFlag (nbFld p) false).setFlag (if p = 0 then NET_EVT.NB0_LOST else NET_EVT.NB1_LOST) true).raise srcNetRing p
  if a.flag (nbFld (1 - p)) = true then a else a.raise srcNetRing 2

theorem neighborLoss_lost
    (hz : (if down = true then (((s.setFlag (linkFld p) false).setPtp p .init).chooseMaster) else s) = z) (h : NeighborLost p down z)
    (hu : (List.range 64).foldl (fun s n => if s.flag (seenFld n p) then s.clearSeen n p else s) (reportLost p z) = u) :
    neighborLoss p down s = ({ u with net := { u.net with ringOwed := u.net.ringOwed ++ [p] } } : State).showRing := by
  subst hz hu
  exact if_pos (neighborLost_iff.mpr h)

end

end

/-! ### Frames of a CAN FD controller (R436, R440, R451) -/

section
variable {s z u : State} {c k : Nat} {evs : List CanEvent} {x : CanFrame} {bs : List Beside}

/-- Controller `c` is enabled, and on the bus. -/
def OnBus (c : Nat) (z : State) : Prop :=
  z.flag (NET_CAN_CFG.EN c) = true ∧ z.domOn 9 = true ∧ z.rd (NET_CAN_STAT.BUS c) ≠ 2

theorem not_onBus_iff : (!z.flag (NET_CAN_CFG.EN c) || !z.domOn 9 || z.busOff c) = true ↔ ¬OnBus c z := by
  simp only [OnBus, State.busOff, Bool.or_eq_true, Bool.not_eq_true', beq_iff_eq, not_and_or, Bool.not_eq_true, not_not, or_assoc]

/-- A CAN FD frame that meets FD = 0. -/
def Alien (c : Nat) (x : CanFrame) (z : State) : Prop := x.fd = true ∧ z.flag (NET_CAN_CFG.FD c) = false

theorem alien_iff (h : OnBus c z) : (x.fd && !z.canOn c) = true ↔ Alien c x z := by
  simp [Alien, State.canOn, h.1]

theorem canFrameRx_off (hz : evs.foldl (State.canEvent c) s = z) (h : ¬OnBus c z) : canFrameRx c evs x bs s = z := by
  subst hz
  exact if_pos (not_onBus_iff.mpr h)

theorem canFrameRx_alien (hz : evs.foldl (State.canEvent c) s = z) (h : OnBus c z) (ha : Alien c x z) :
    canFrameRx c evs x bs s = z.canEvent c .rxError := by
  subst hz
  exact (if_neg fun hn => not_onBus_iff.mp hn h).trans (if_pos ((alien_iff h).mpr ha))

theorem canFrameRx_unmapped (hz : evs.foldl (State.canEvent c) s = z) (h : OnBus c z) (ha : ¬Alien c x z) (hu : z.canHeard c = u)
    (hk : u.canEntry c x = none) : canFrameRx c evs x bs s = u := by
  subst hz hu
  unfold canFrameRx
  extract_lets z u
  rw [show u.canEntry c x = _ from hk]
  exact (if_neg fun hn => not_onBus_iff.mp hn h).trans (if_neg fun hn => ha ((alien_iff h).mp hn))

theorem canFrameRx_damaged (hz : evs.foldl (State.canEvent c) s = z) (h : OnBus c z) (ha : ¬Alien c x z) (hu : z.canHeard c = u)
    (hk : u.canEntry c x = some k) (hw : canWhole x = false) : canFrameRx c evs x bs s = u.count (canDisc c) := by
  subst hz hu
  unfold canFrameRx
  extract_lets z u
  rw [show u.canEntry c x = _ from hk]
  exact (if_neg fun hn => not_onBus_iff.mp hn h).trans ((if_neg fun hn => ha ((alien_iff h).mp hn)).trans
    (if_pos (by rw [hw]; rfl)))

/-- The answer to a request on CAN FD goes back through its entry. -/
def canReply (c k : Nat) (x : CanFrame) (u : State) : Reply :=
  ⟨2 + c, 0, false, u.rd (NET_CAN_CFG.NODE c), canFlow u c k, leNat ((x.data.drop 2).take 2), 0x20 + c⟩

/-- What a whole frame carries between its header and its CRC. -/
def canPayload (x : CanFrame) : List Byte := (x.data.take (x.data.length - 4)).drop 4

section
variable (hz : evs.foldl (State.canEvent c) s = z) (h : OnBus c z) (ha : ¬Alien c x z) (hu : z.canHeard c = u)
  (hk : u.canEntry c x = some k) (hw : canWhole x = true)
include hz h ha hu hk hw

theorem canFrameRx_record (ht : (x.data.getD 1 0).toNat = 0 ∨ (x.data.getD 1 0).toNat = 2 ∨ (x.data.getD 1 0).toNat = 4) :
    canFrameRx c evs x bs s = u.canRecord c (canFlow u c k) (x.data.getD 0 0).toNat (canPayload x) := by
  subst hz hu
  unfold canFrameRx
  extract_lets z u
  rw [show u.canEntry c x = _ from hk]
  refine (if_neg fun hn => not_onBus_iff.mp hn h).trans ((if_neg fun hn => ha ((alien_iff h).mp hn)).trans
    ((if_neg (by rw [hw]; decide)).trans ?_))
  rcases ht with ht | ht | ht <;> rw [ht] <;> rfl

theorem canFrameRx_register (ht : (x.data.getD 1 0).toNat = 1) :
    canFrameRx c evs x bs s = u.registerRequest (canReply c k x u) (canPayload x) bs := by
  subst hz hu
  unfold canFrameRx
  extract_lets z u
  rw [show u.canEntry c x = _ from hk, ht]
  exact (if_neg fun hn => not_onBus_iff.mp hn h).trans ((if_neg fun hn => ha ((alien_iff h).mp hn)).trans
    (if_neg (by rw [hw]; decide)))

theorem canFrameRx_mailbox (ht : (x.data.getD 1 0).toNat = 3) :
    canFrameRx c evs x bs s = u.mailboxRequest (canReply c k x u) (canPayload x) := by
  subst hz hu
  unfold canFrameRx
  extract_lets z u
  rw [show u.canEntry c x = _ from hk, ht]
  exact (if_neg fun hn => not_onBus_iff.mp hn h).trans ((if_neg fun hn => ha ((alien_iff h).mp hn)).trans
    (if_neg (by rw [hw]; decide)))

theorem canFrameRx_reserved (ht : 4 < (x.data.getD 1 0).toNat) : canFrameRx c evs x bs s = u := by
  subst hz hu
  unfold canFrameRx
  extract_lets z u
  rw [show u.canEntry c x = _ from hk]
  refine (if_neg fun hn => not_onBus_iff.mp hn h).trans ((if_neg fun hn => ha ((alien_iff h).mp hn)).trans
    ((if_neg (by rw [hw]; decide)).trans ?_))
  split
  case h_6 => rfl
  all_goals omega

end

/-- Entry `k` of controller `c` sends a record: it is an enabled transmit entry of a flow that holds one. -/
def SendsRecord (c k : Nat) (z : State) : Prop := OnBus c z ∧ z.flag (NET_CAN_CFG.FD c) = true ∧ (canId z c k).1 = true
  ∧ (canId z c k).2.1 = true ∧ z.flowOn (canFlow z c k) = true ∧ z.fill (canFlow z c k) ≠ 0

theorem sendsRecord_iff : (z.canOn c && z.domOn 9 && !z.busOff c && (canId z c k).1 && (canId z c k).2.1 && z.flowOn (canFlow z c k)
    && z.fill (canFlow z c k) != 0) = true ↔ SendsRecord c k z := by
  simp only [SendsRecord, OnBus, State.canOn, State.busOff, Bool.and_eq_true, Bool.not_eq_true', bne_iff_ne, beq_eq_false_iff_ne]
  tauto

theorem canFrameTx_idle (hz : evs.foldl (State.canEvent c) s = z) (h : ¬SendsRecord c k z) : canFrameTx c k evs s = z := by
  subst hz
  exact if_neg fun hn => h (sendsRecord_iff.mp hn)

variable {out : Nat} {r : List Byte}

theorem canFrameTx_tick (hz : evs.foldl (State.canEvent c) s = z) (h : SendsRecord c k z) (ho : canFlow z c k = out)
    (h3 : z.kindOf out = 3) (hr : z.entryRecord out 0 = r) : canFrameTx c k evs s
    = if r.length ≤ 56 then (z.stepSeq out).sendCan c k (z.rd (FLOW_W6.SEQ out)) 0 0 r else z.dropEntry out := by
  subst hz ho hr
  exact (if_pos (sendsRecord_iff.mpr h)).trans (if_pos h3)

theorem canFrameTx_queue (hz : evs.foldl (State.canEvent c) s = z) (h : SendsRecord c k z) (ho : canFlow z c k = out)
    (h2 : z.kindOf out = 2 ∧ (z.doneFor out).contains (2 + c) = false) (hr : z.entryRecord out (z.rd (FLOW_W5.RPTR out)) = r) :
    canFrameTx c k evs s = if r.length ≤ 56 then ((z.headSeq out).2.sendCan c k (z.headSeq out).1 0 0 r).pathDone out (2 + c)
      else (z.dropHead out).pathDone out (2 + c) := by
  subst hz ho hr
  exact (if_pos (sendsRecord_iff.mpr h)).trans ((if_neg (by rw [h2.1]; decide)).trans (if_pos ⟨h2.1, by rw [h2.2]; rfl⟩))

theorem canFrameTx_other (hz : evs.foldl (State.canEvent c) s = z) (ho : canFlow z c k = out)
    (h : z.kindOf out ≠ 3 ∧ ¬(z.kindOf out = 2 ∧ (z.doneFor out).contains (2 + c) = false)) : canFrameTx c k evs s = z := by
  by_cases hs : SendsRecord c k z
  · subst hz ho
    refine (if_pos (sendsRecord_iff.mpr hs)).trans ((if_neg h.1).trans (if_neg fun hn => h.2 ⟨hn.1, ?_⟩))
    exact Bool.not_eq_true' _ ▸ hn.2
  · exact canFrameTx_idle hz hs

/-! ### The error state of a CAN FD controller (R435) -/

/-- Controller `c` works. -/
def CanEnabled (c : Nat) (s : State) : Prop := s.domOn 9 = true ∧ s.flag (NET_CAN_CFG.EN c) = true

theorem not_canEnabled_iff : (!s.domOn 9) = true ∨ (!s.flag (NET_CAN_CFG.EN c)) = true ↔ ¬CanEnabled c s := by
  unfold CanEnabled
  cases s.domOn 9 <;> cases s.flag (NET_CAN_CFG.EN c) <;> decide

theorem canEvent_disabled {e : CanEvent} (h : ¬CanEnabled c s) : s.canEvent c e = s := if_pos (not_canEnabled_iff.mpr h)

theorem busOff_of (h : s.rd (NET_CAN_STAT.BUS c) = 2) : s.busOff c = true := beq_iff_eq.mpr h

theorem busOff_not (h : s.rd (NET_CAN_STAT.BUS c) ≠ 2) : s.busOff c = false := beq_eq_false_iff_ne.mpr h

theorem canEvent_recovers {n : Nat} (h : CanEnabled c s) (ho : s.rd (NET_CAN_STAT.BUS c) = 2) : s.canEvent c (.idle n)
    = if 128 ≤ lookup s.net.canIdle 0 c + n then
        ((({ s with net := { s.net with canIdle := erase s.net.canIdle c } } : State).wr (NET_CAN_STAT.TEC c) 0).wr (NET_CAN_STAT.REC c) 0).wr
          (NET_CAN_STAT.BUS c) 0
      else { s with net := { s.net with canIdle := place s.net.canIdle c (lookup s.net.canIdle 0 c + n) } } := by
  unfold State.canEvent
  rw [busOff_of ho]
  exact if_neg fun hn => not_canEnabled_iff.mp hn h

theorem canEvent_off_bus {e : CanEvent} (h : CanEnabled c s) (ho : s.rd (NET_CAN_STAT.BUS c) = 2)
    (he : e = .txError ∨ e = .rxError ∨ e = .rxDominant) : s.canEvent c e = s := by
  unfold State.canEvent
  rw [busOff_of ho]
  rcases he with rfl | rfl | rfl <;> exact if_neg fun hn => not_canEnabled_iff.mp hn h

theorem canEvent_idle {n : Nat} (h : CanEnabled c s) (ho : s.rd (NET_CAN_STAT.BUS c) ≠ 2) : s.canEvent c (.idle n) = s := by
  unfold State.canEvent
  rw [busOff_not ho]
  exact if_neg fun hn => not_canEnabled_iff.mp hn h

theorem canEvent_txError (h : CanEnabled c s) (ho : s.rd (NET_CAN_STAT.BUS c) ≠ 2) : s.canEvent c .txError
    = if 256 ≤ s.rd (NET_CAN_STAT.TEC c) + 8 then
        (({ s with net := { s.net with canIdle := erase s.net.canIdle c } } : State).wr (NET_CAN_STAT.TEC c) 255).wr (NET_CAN_STAT.BUS c) 2
      else (s.wr (NET_CAN_STAT.TEC c) (s.rd (NET_CAN_STAT.TEC c) + 8)).showCan c := by
  unfold State.canEvent
  rw [busOff_not ho]
  exact if_neg fun hn => not_canEnabled_iff.mp hn h

theorem canEvent_rxError (h : CanEnabled c s) (ho : s.rd (NET_CAN_STAT.BUS c) ≠ 2) : s.canEvent c .rxError
    = (s.count (NET_CAN_STAT.REC c)).showCan c := by
  unfold State.canEvent
  rw [busOff_not ho]
  exact if_neg fun hn => not_canEnabled_iff.mp hn h

theorem canEvent_rxDominant (h : CanEnabled c s) (ho : s.rd (NET_CAN_STAT.BUS c) ≠ 2) : s.canEvent c .rxDominant
    = (s.countN (NET_CAN_STAT.REC c) 8).showCan c := by
  unfold State.canEvent
  rw [busOff_not ho]
  exact if_neg fun hn => not_canEnabled_iff.mp hn h

end

/-- Settles O57: ports and neighbours, CAN FD frames and the error counters of their controllers, each row by the cases of its
function. -/
theorem portsAndNeighbours : Obligations.ports_and_neighbours := by
  unfold Obligations.ports_and_neighbours
  refine ⟨fun q p f frame down s => ?ports, fun c k p speed evs x bs s => ?frames, fun c n e s => ?errors⟩
  case ports =>
    extract_lets -descend on u sound shown claimed
    refine ⟨fun h => ⟨next_congr (neighbor_off h), next_congr (otherEthertype_off h)⟩, fun h => next_congr (neighbor_sound h),
      fun h => next_congr (neighbor_unsound h),
      fun h hf => next_congr ((otherEthertype_on h rfl).trans (if_neg (Bool.eq_false_iff.mp hf))),
      fun h hf hp => next_congr ((otherEthertype_on h rfl).trans ((if_pos hf).trans (if_neg (Bool.eq_false_iff.mp hp)))),
      fun h hf hp => ?other, ?loss, fun h => next_congr (if_pos h), fun h => next_congr (if_neg h), rfl⟩
    case other =>
      extract_lets room
      have passed : otherEthertype q frame s = u.otherToTransit (1 - q) frame :=
        (otherEthertype_on h rfl).trans ((if_pos hf).trans (if_pos hp))
      exact ⟨fun hr => next_congr (passed.trans (otherToTransit_room hr)), fun hr => next_congr (passed.trans (otherToTransit_full hr))⟩
    case loss =>
      extract_lets -descend z lost a b c
      exact ⟨fun h => next_congr (neighborLoss_lost rfl h rfl), fun h => next_congr (neighborLoss_not rfl h)⟩
  case frames =>
    extract_lets -descend z on alien u flow payload from_ typ rx tx out id sends record head due carries
    refine ⟨fun h => next_congr (canFrameRx_off rfl h), fun h ha => next_congr (canFrameRx_alien rfl h ha),
      fun h ha hk => next_congr (canFrameRx_unmapped rfl h ha rfl hk), fun h ha hk => ?mapped,
      fun h h3 hr => next_congr ((canFrameTx_tick rfl h rfl h3 rfl).trans (if_pos hr)),
      fun h h3 hr => next_congr ((canFrameTx_tick rfl h rfl h3 rfl).trans (if_neg (not_le.mpr hr))),
      fun h h2 hr => next_congr ((canFrameTx_queue rfl h rfl h2 rfl).trans (if_pos hr)),
      fun h h2 hr => next_congr ((canFrameTx_queue rfl h rfl h2 rfl).trans (if_neg (not_le.mpr hr))),
      fun h => next_congr (h.elim (canFrameTx_idle rfl) (canFrameTx_other rfl rfl)),
      fun h => next_congr (if_pos h), fun h => next_congr (if_neg (Bool.eq_false_iff.mp h))⟩
    case mapped =>
      exact ⟨fun hw => next_congr (canFrameRx_damaged rfl h ha rfl hk hw),
        fun hw ht => next_congr (canFrameRx_record rfl h ha rfl hk hw ht),
        fun hw ht => next_congr (canFrameRx_register rfl h ha rfl hk hw ht),
        fun hw ht => next_congr (canFrameRx_mailbox rfl h ha rfl hk hw ht),
        fun hw ht => next_congr (canFrameRx_reserved rfl h ha rfl hk hw ht)⟩
  case errors =>
    extract_lets -descend on off tec rec_ seen state idle
    exact ⟨canEvent_disabled, fun h ho hs => (canEvent_recovers h ho).trans (if_pos hs),
      fun h ho hs => (canEvent_recovers h ho).trans (if_neg (not_le.mpr hs)), canEvent_off_bus, canEvent_idle,
      fun h ho ht => (canEvent_txError h ho).trans (if_pos ht), fun h ho ht => (canEvent_txError h ho).trans (if_neg (not_le.mpr ht)),
      canEvent_rxError, canEvent_rxDominant, rfl, fun hr => if_neg (not_le.mpr hr), fun hr => if_pos hr⟩

end Sys2Proof.FabricPorts


/-! SUPPORT. The fabric cycle and the time-aware system (chapter 16). -/

namespace Sys2Proof.FabricCycle

open Sys2Proof Sys2Proof.Machine Sys2Proof.Safety Sys2Proof.Laws Sys2Proof.Writes

section
variable {s u g : State} {k p : Nat} {w : Window} {f : FabFrame}

/-! ### The start of a cycle, its windows and its bulk phase (R418, R423, R429 to R432) -/

/-- Window `k` sends: it is enabled in a valid schedule of a synchronised half with an address, for a TX_TICK flow to a node. -/
def WindowSends (w : Window) (s : State) : Prop :=
  w.en = true ∧ s.net.windowsOk = true ∧ s.inSync = true ∧ s.heldAddr ≠ 0 ∧ s.flowOn w.flow = true
    ∧ s.kindOf w.flow = 3 ∧ s.rd (FLOW_W2.NODE w.flow) ≠ 0 ∧ s.panStopped = false

theorem windowSends_iff : (w.en = true ∧ s.net.windowsOk = true ∧ s.inSync = true ∧ s.heldAddr ≠ 0 ∧ s.flowOn w.flow = true
    ∧ s.kindOf w.flow = 3 ∧ s.rd (FLOW_W2.NODE w.flow) ≠ 0 ∧ (!s.panStopped) = true) ↔ WindowSends w s := by
  rw [WindowSends, Bool.not_eq_true']

/-- The frame of a window: the newest record of its flow, or zeros. -/
def windowFrame (w : Window) (s : State) : FabFrame :=
  let record := if s.fill w.flow = 0 then [] else s.entryRecord w.flow 0
  { s.flowFrame w.flow 7 (fitBytes w.len record) with time := lookup s.pan.sampled s.gptpNow w.flow }

theorem scheduledWindow_none (h : s.net.windows[k]? = none) : scheduledWindow k s = s := by
  unfold scheduledWindow
  rw [h]

theorem scheduledWindow_idle (h : s.net.windows[k]? = some w) (hn : ¬WindowSends w s) : scheduledWindow k s = s := by
  unfold scheduledWindow
  rw [h]
  exact if_neg fun hw => hn (windowSends_iff.mp hw)

theorem scheduledWindow_sends (h : s.net.windows[k]? = some w) (hw : WindowSends w s) (hg : windowFrame w s = f)
    (hu : s.stepSeq w.flow = u) : scheduledWindow k s = if f.dst / 64 % 2 ≠ u.ring then u.crossOut true (sealFrame { f with pcp := 3 })
      else ([0, 1].filter fun p => w.ports.testBit p && s.portEn p).foldl (fun s p => s.emit p (portCopy p f)) u := by
  subst hg hu
  unfold scheduledWindow
  rw [h]
  exact if_pos (windowSends_iff.mpr hw)

/-! ### Bulk frames (R426, R432, R450) -/

theorem bulkFrameSend_idle (h : s.portUp p = false ∨ s.panStopped = true) : bulkFrameSend p s = s :=
  if_pos (h.imp_left fun h => by rw [h]; rfl)

theorem bulkFrameSend_next (h : ¬(s.portUp p = false ∨ s.panStopped = true)) (hg : (if s.inSync = true then s.gptpTurn p else s) = g) :
    bulkFrameSend p s = g.sendNext p := by
  subst hg
  exact if_neg fun hn => h (hn.imp_left (Bool.not_eq_true' _).mp)

theorem sendNext_stored {r : Nat} (h : g.storedFor p = some (r, f)) : g.sendNext p
    = if g.gateOpen f = true then g.sendStored p r f else g := by
  unfold State.sendNext
  rw [h]

theorem sendNext_other (h : g.storedFor p = none) (hn : g.inSync = false ∨ g.nextFlow p = none) : g.sendNext p = g.sendOther p := by
  have hf : (if g.inSync = true then g.nextFlow p else none) = none := by
    rcases hn with hn | hn
    · exact if_neg (Bool.eq_false_iff.mp hn)
    · rw [hn, ite_self]
  unfold State.sendNext
  rw [h, hf]

/-- Flow `k` was the last served on a port. -/
def servedLast (p k : Nat) (s : State) : State := { s with pan := { s.pan with served := place s.pan.served p k } }

theorem sendNext_flow (h : g.storedFor p = none) (hs : g.inSync = true) (hf : g.nextFlow p = some k) (hu : servedLast p k g = u) :
    g.sendNext p = if g.fits (g.nextLen k) = true then (if u.kindOf k = 3 then u.sendTick k else u.sendHead k p) else g := by
  subst hu
  unfold State.sendNext
  rw [h, if_pos hs, hf]
  rfl

/-! ### The end-to-end check (R433) -/

/-- The scheduled receive flows. -/
def checkedFlows (s : State) : List Nat :=
  (List.range 256).filter fun k => s.flowOn k && s.flag (FLOW_W0.SCHED k) && (s.kindOf k == 0 || s.kindOf k == 1)

/-- Each scheduled flow is judged for this cycle. -/
def flowsJudged (s : State) : State := (checkedFlows s).foldl (fun s k =>
  let e := s.e2eOf k
  s.setE2e k { e with got := false, bad := false, run := if !e.got || e.bad then e.run + 1 else 0 }) s

/-- Those that have failed for E2E_N cycles. -/
def failedFlows (s : State) : List Nat :=
  (checkedFlows s).filter fun k => decide (max 1 ((flowsJudged s).rd NET_TIM.E2E_N) ≤ ((flowsJudged s).e2eOf k).run)

theorem e2eCheck_passes (h : (failedFlows s).getLast? = none) : e2eCheck s = (flowsJudged s).lower srcNetE2e 0 := by
  unfold e2eCheck
  extract_lets flows judged n failed
  rw [show failed.getLast? = none from h]
  rfl

theorem e2eCheck_fails (h : (failedFlows s).getLast? = some k) : e2eCheck s
    = (((((flowsJudged s).setFlag NET_EVT.E2E true).wr NET_E2E_INFO.FLOW k).wr NET_E2E_INFO.SRC ((flowsJudged s).e2eSource k)).raise
        srcNetE2e 0) := by
  unfold e2eCheck
  extract_lets flows judged n failed
  rw [show failed.getLast? = some k from h]
  rfl

end

/-! ### Messages of the time-aware system (R410, R412, R428) -/

section
variable {s u z : State} {q domain seq n : Nat} {m : PtpMsg} {v w : PtpVector} {path : List Nat} {o c t d t1 t2 t3 t4 : Int} {two : Bool}

theorem gptpFrame_off (h : ¬s.portEn q = true) : gptpFrame q domain m s = s := if_pos (by rw [Bool.eq_false_iff.mpr h]; rfl)

theorem port_on (h : s.portEn q = true) : ¬(!s.portEn q) = true := by rw [h]; decide

theorem gptpFrame_domain (h : s.portEn q = true) (hd : domain ≠ 0) : gptpFrame q domain m s = s.heardPort q :=
  (if_neg (port_on h)).trans (if_pos hd)

theorem gptpFrame_announce (h : s.portEn q = true) (hu : s.heardPort q = u) : gptpFrame q 0 (.announce v path) s = u.takeMaster q v path := by
  subst hu
  exact (if_neg (port_on h)).trans (if_neg (not_not.mpr rfl))

theorem gptpFrame_sync (h : s.portEn q = true) (hu : s.heardPort q = u) : gptpFrame q 0 (.sync seq two) s
    = if two = true ∧ u.net.slave = some q then u.setPtp q { u.ptp q with sync := some (seq, u.rxStamp q) } else u := by
  subst hu
  exact (if_neg (port_on h)).trans (if_neg (not_not.mpr rfl))

theorem gptpFrame_followUp (h : s.portEn q = true) (hu : s.heardPort q = u) : gptpFrame q 0 (.followUp seq o c) s = u.takeTime q seq o c := by
  subst hu
  exact (if_neg (port_on h)).trans (if_neg (not_not.mpr rfl))

theorem gptpFrame_pdelayReq (h : s.portEn q = true) (hu : s.heardPort q = u) : gptpFrame q 0 (.pdelayReq seq) s
    = u.setPtp q { u.ptp q with owed := (u.ptp q).owed ++ [(seq, u.rxStamp q)] } := by
  subst hu
  exact (if_neg (port_on h)).trans (if_neg (not_not.mpr rfl))

theorem gptpFrame_pdelayResp (h : s.portEn q = true) (hu : s.heardPort q = u) : gptpFrame q 0 (.pdelayResp seq t2) s
    = if ((u.ptp q).req.any (·.1 == seq)) = true then u.setPtp q { u.ptp q with resp := some (t2, u.rxStamp q) } else u := by
  subst hu
  exact (if_neg (port_on h)).trans (if_neg (not_not.mpr rfl))

theorem gptpFrame_delay (h : s.portEn q = true) (hu : s.heardPort q = u) (hq : (u.ptp q).req = some (seq, t1))
    (hr : (u.ptp q).resp = some (t2, t4)) : gptpFrame q 0 (.pdelayRespFollowUp seq t3) s
      = u.setPtp q { u.ptp q with delay := some (peerDelay t1 t2 t3 t4), req := none, resp := none } := by
  subst hu
  unfold gptpFrame
  extract_lets u x
  rw [if_neg (port_on h), if_neg (not_not.mpr rfl), show x.req = _ from hq, show x.resp = _ from hr]
  exact if_pos rfl

theorem gptpFrame_noDelay (h : s.portEn q = true) (hu : s.heardPort q = u)
    (hn : (u.ptp q).req = none ∨ (u.ptp q).resp = none ∨ ((u.ptp q).req = some (n, t1) ∧ n ≠ seq)) :
    gptpFrame q 0 (.pdelayRespFollowUp seq t3) s = u := by
  subst hu
  unfold gptpFrame
  extract_lets u x
  rw [if_neg (port_on h), if_neg (not_not.mpr rfl)]
  dsimp only
  split
  · next n' a b e hq hr =>
    refine if_neg ?_
    rcases hn with hn | hn | ⟨hn, hne⟩
    · exact (Option.some_ne_none _ (hq.symm.trans hn)).elim
    · exact (Option.some_ne_none _ (hr.symm.trans hn)).elim
    · rw [← (Prod.mk.inj (Option.some.inj (hn.symm.trans hq))).1]
      exact hne
  · rfl

/-! ### The grandmaster and its time (R428) -/

/-- An Announce can lead: its port has a measured delay, and the half is not on its path. -/
def CanLead (q : Nat) (v : PtpVector) (path : List Nat) (u : State) : Prop :=
  (u.ptp q).delay ≠ none ∧ v.steps < 255 ∧ v.src ≠ u.ownClock.id ∧ path.contains u.ownClock.id = false

theorem not_canLead_iff : ((u.ptp q).delay.isNone = true ∨ 255 ≤ v.steps ∨ v.src = u.ownClock.id ∨ path.contains u.ownClock.id = true)
    ↔ ¬CanLead q v path u := by
  rw [CanLead, Option.isNone_iff_eq_none, ← not_lt]
  simp only [not_and_or, not_not, ne_eq, Bool.not_eq_false]

theorem takeMaster_leads (h : CanLead q v path u) : u.takeMaster q v path
    = (u.setPtp q { u.ptp q with best := some (v, path) }).chooseMaster := if_neg fun hn => not_canLead_iff.mp hn h

theorem takeMaster_not (h : ¬CanLead q v path u) : u.takeMaster q v path = u := if_pos (not_canLead_iff.mpr h)

/-- The offset from the grandmaster is taken out of the own time. -/
def timeTaken (ofs : Int) (b : State) : State := { b with net := { b.net with timeOfs := b.net.timeOfs - ofs } }

theorem takeTime_mine (h : u.net.slave = some q) (hs : (u.ptp q).sync = some (seq, t)) (hd : (u.ptp q).delay = some d) {ofs : Int}
    (ho : t + u.net.timeOfs - (o + c + d) = ofs) {a : State} (ha : u.setPtp q { u.ptp q with sync := none } = a) :
    u.takeTime q seq o c = timeTaken ofs
      (((a.setPtp (1 - q) { a.ptp (1 - q) with relay := some (o, c + d, t) }).wr NET_STAT.GPTP 2).wrInt NET_PTP_OFS.OFFSET ofs) := by
  subst ho
  unfold State.takeTime
  extract_lets x
  rw [show x.sync = _ from hs, show x.delay = _ from hd]
  subst ha
  exact if_pos (⟨rfl, h⟩ : seq = seq ∧ u.net.slave = some q)

theorem takeTime_not (h : ¬u.net.slave = some q ∨ (u.ptp q).sync = none ∨ (u.ptp q).delay = none ∨ ((u.ptp q).sync = some (n, t) ∧ n ≠ seq)) :
    u.takeTime q seq o c = u := by
  unfold State.takeTime
  extract_lets x
  split
  · next n' t' d' hs hd =>
    refine if_neg fun hnm => ?_
    obtain ⟨hn, hm⟩ := hnm
    rcases h with h | h | h | ⟨h, hne⟩
    · exact h hm
    · exact (Option.some_ne_none _ (hs.symm.trans h)).elim
    · exact (Option.some_ne_none _ (hd.symm.trans h)).elim
    · exact hne ((Prod.mk.inj (Option.some.inj (h.symm.trans hs))).1.trans hn)
  · rfl

/-- A port of the half can send. -/
def SomePortUp (z : State) : Prop := z.portUp 0 = true ∨ z.portUp 1 = true

theorem not_somePortUp_iff : (!z.portUp 0 && !z.portUp 1) = true ↔ ¬SomePortUp z := by simp [SomePortUp]

theorem chooseMaster_down (h : ¬SomePortUp z) : z.chooseMaster = z := if_pos (not_somePortUp_iff.mpr h)

/-- The half follows the master on a port, or none. -/
def follows (slave : Option Nat) (z : State) : State := { z with net := { z.net with slave := slave } }

/-- What NET_STAT.GPTP shows of a best master. -/
def gptpState (best : Option (Option Nat × PtpVector)) (z : State) : Nat :=
  let slave := best.bind (·.1)
  if (best.isSome && slave.isNone) = true then 3
  else if (z.rd NET_STAT.GPTP == 2 && slave.isSome && slave == z.net.slave) = true then 2 else 1

theorem gptpState_lt (best : Option (Option Nat × PtpVector)) (z : State) : gptpState best z < 8 := by
  unfold gptpState
  extract_lets slave
  split_ifs <;> decide

theorem chooseMaster_up (h : SomePortUp z) :
    z.chooseMaster = (follows (z.bestMaster.bind (·.1)) z).wr NET_STAT.GPTP (gptpState z.bestMaster z) :=
  if_neg fun hn => not_somePortUp_iff.mp hn h

theorem chooseMaster_slave (h : SomePortUp z) : z.chooseMaster.net.slave = z.bestMaster.bind (·.1) := by
  rw [chooseMaster_up h, wr_net]
  rfl

theorem chooseMaster_state (h : SomePortUp z) : z.chooseMaster.rd NET_STAT.GPTP = gptpState z.bestMaster z := by
  rw [chooseMaster_up h, wr_rd_self]
  exact Nat.mod_eq_of_lt (gptpState_lt _ _)

theorem gptpState_follows : gptpState (some (some n, w)) z = if z.rd NET_STAT.GPTP = 2 ∧ z.net.slave = some n then 2 else 1 := by
  have stays : (z.rd NET_STAT.GPTP == 2 && (some n).isSome && some n == z.net.slave) = true
      ↔ z.rd NET_STAT.GPTP = 2 ∧ z.net.slave = some n := by
    rw [Bool.and_eq_true, Bool.and_eq_true, beq_iff_eq, beq_iff_eq, eq_comm (a := some n), Option.isSome_some]
    exact and_congr_left fun _ => and_iff_left rfl
  exact if_congr stays rfl rfl

end

section
variable {s : State}

/-! ### The start of a cycle and the loss of Sync -/

/-- What the start of a cycle takes from the schedule, and what it begins anew. -/
def cycleTaken (x : Sched) (ok : Bool) (a : State) : State :=
  { a with
    net := { a.net with
      cycles := a.net.cycles + 1, cycleAt := a.now, bulk := false, fabCycle := x.fab
      schedLen := x.len, annPeriod := x.ann, windows := x.windows, windowsOk := ok
      pref := (List.range 64).map fun n => (n, a.rd (ROUTE.PREF n))
      silent := [0, 1].map fun p => (p, lookup a.net.silent 0 p + 1)
      e2e := a.net.e2e.map fun e => (e.1, { e.2 with got := false, bad := false }) }
    pan := { a.pan with tickSent := [] }
    safe := { a.safe with recAge := a.safe.recAge + 1 } }

/-- The start of a cycle, but for what a half that is not synchronised sends at it. -/
def cycleStarted (s : State) : State :=
  let x := s.scheduleTaken
  let ok := windowsValid x.fab x.len x.windows
  let b := cycleTaken x ok (if ok = true then s else s.setFlag NET_EVT.SCHED_ERR true)
  ([0, 1, 2].foldl State.takeLanes (((List.range 256).filter b.flowOn).foldl State.refill b)).chooseMaster

theorem fabricCycleStart_eq (s : State) : fabricCycleStart s
    = if (cycleStarted s).inSync = true then cycleStarted s else (cycleStarted s).localStart := rfl

theorem gptpSyncLoss_synchronised (h : s.rd NET_STAT.GPTP = 2) : gptpSyncLoss s
    = (State.wr (follows none (s.net.slave.elim s fun q => s.setPtp q { s.ptp q with best := none, sync := none, relay := none }))
        NET_STAT.GPTP 1).chooseMaster := by
  unfold gptpSyncLoss
  rw [if_pos h]
  cases s.net.slave <;> rfl

end

/-- Settles O58: the rows of the cycle and of the time-aware system, each by the cases of its function. -/
theorem fabricCycle : Obligations.fabric_cycle := by
  unfold Obligations.fabric_cycle
  refine ⟨fun k p w s => ⟨?start, fun h => next_congr (scheduledWindow_none h), fun h => ?window, fun h => next_congr (if_pos h),
    fun h => next_congr (if_neg (Bool.eq_false_iff.mp h)), ?bulk, ?check⟩,
    fun q domain seq n two v w path o c t d t1 t2 t3 t4 m s z => ?ptp⟩
  case start =>
    extract_lets -descend x ok a net b c
    have hx : x = s.scheduleTaken := by
      dsimp only [x]
      unfold State.scheduleTaken
      rcases s.net.winOld with _ | ⟨t, old⟩ <;> rfl
    have hc : cycleStarted s = c := by
      unfold cycleStarted
      rw [← hx]
      rfl
    clear_value c
    subst hc
    exact ⟨fun h => next_congr ((fabricCycleStart_eq s).trans (if_pos h)),
      fun h => next_congr ((fabricCycleStart_eq s).trans (if_neg (Bool.eq_false_iff.mp h)))⟩
  case window =>
    extract_lets -descend sends record g ports u
    exact ⟨fun hw hd => next_congr ((scheduledWindow_sends h hw rfl rfl).trans (if_neg (not_not.mpr hd))),
      fun hw hd => next_congr ((scheduledWindow_sends h hw rfl rfl).trans (if_pos hd)),
      fun hw => next_congr (scheduledWindow_idle h hw)⟩
  case bulk =>
    extract_lets -descend idle g sends
    have sent {t : State} (ht : bulkFrameSend p s = t) : sends t := congrArg (fun u : State => completes s (u.drainUnits [])) ht
    refine ⟨fun h => sent (bulkFrameSend_idle h), fun r f h hf => ?_, fun h hn ho => ?_, fun f h hn hs hf => ?_⟩
    · have stored := (bulkFrameSend_next h rfl).trans (sendNext_stored (g := g) hf)
      exact ⟨fun ho => sent (stored.trans (if_pos ho)), fun ho => sent (stored.trans (if_neg (Bool.eq_false_iff.mp ho)))⟩
    · exact sent ((bulkFrameSend_next h rfl).trans (sendNext_other (g := g) hn ho))
    · extract_lets -descend u
      have served := (bulkFrameSend_next h rfl).trans (sendNext_flow (g := g) hn hs hf (u := u) rfl)
      exact ⟨fun hr => sent (served.trans (if_neg (Bool.eq_false_iff.mp hr))),
        fun hr hk => sent (served.trans ((if_pos hr).trans (if_pos hk))),
        fun hr hk => sent (served.trans ((if_pos hr).trans (if_neg hk)))⟩
  case check =>
    extract_lets -descend flows judged failed
    exact ⟨fun h => next_congr (e2eCheck_passes h), fun h => next_congr (e2eCheck_fails h)⟩
  case ptp =>
    extract_lets -descend on u x now_ rx leads mine ofs up
    have hnow : now_ = u.rxStamp q := congrArg (· - ((u.rd (NET_PTPLAT.RX_LAT q) : Nat) : Int)) (Nat.cast_mul 2 _)
    have req_iff : x.req.any (·.1 == seq) = true ↔ ∃ t1, x.req = some (seq, t1) := by
      rw [Option.any_eq_true]
      simp
    refine ⟨fun h => next_congr (gptpFrame_off h), fun h hd => next_congr (gptpFrame_domain h hd),
      fun h hl => next_congr ((gptpFrame_announce h rfl).trans (takeMaster_leads hl)),
      fun h hl => next_congr ((gptpFrame_announce h rfl).trans (takeMaster_not hl)),
      fun h ht hm => ?sync, fun h hn => ?noSync, fun h hm hs hd => ?followUp,
      fun h hn => next_congr ((gptpFrame_followUp h rfl).trans (takeTime_not hn)), fun h => ?pdelayReq, fun h hr => ?pdelayResp,
      fun h hn => ?noResp, fun h hq hr => next_congr (gptpFrame_delay h rfl hq hr),
      fun h hn => next_congr (gptpFrame_noDelay h rfl hn), fun h hb => ?grand, fun h hb => ?alone, fun h hb => ?slave,
      chooseMaster_down, fun h => ?loss, fun h => next_congr (if_neg h)⟩
    case sync =>
      rw [hnow]
      exact next_congr ((gptpFrame_sync h rfl).trans (if_pos ⟨ht, hm⟩))
    case noSync =>
      refine next_congr ((gptpFrame_sync h rfl).trans (if_neg fun ⟨ht, hm⟩ => ?_))
      exact hn.elim (fun hf => Bool.false_ne_true (hf.symm.trans ht)) fun hf => hf hm
    case followUp =>
      extract_lets -descend a b
      exact next_congr ((gptpFrame_followUp h rfl).trans (takeTime_mine hm hs hd rfl rfl))
    case pdelayReq =>
      rw [hnow]
      exact next_congr (gptpFrame_pdelayReq h rfl)
    case pdelayResp =>
      rw [hnow]
      exact next_congr ((gptpFrame_pdelayResp h rfl).trans (if_pos (req_iff.mpr ⟨t1, hr⟩)))
    case noResp =>
      refine next_congr ((gptpFrame_pdelayResp h rfl).trans (if_neg fun hr => ?_))
      obtain ⟨t, ht⟩ := req_iff.mp hr
      rcases hn with hn | ⟨hn, hne⟩
      · exact (Option.some_ne_none _ (ht.symm.trans hn)).elim
      · exact hne (Prod.mk.inj (Option.some.inj (hn.symm.trans ht))).1
    case grand =>
      rw [chooseMaster_state h, chooseMaster_slave h, hb]
      exact ⟨rfl, rfl⟩
    case alone =>
      rw [chooseMaster_state h, chooseMaster_slave h, hb]
      refine ⟨?_, rfl⟩
      unfold gptpState
      simp
    case slave =>
      rw [chooseMaster_state h, chooseMaster_slave h, hb]
      exact ⟨rfl, gptpState_follows⟩
    case loss =>
      extract_lets -descend a
      have ha : (s.net.slave.elim s fun q => s.setPtp q { s.ptp q with best := none, sync := none, relay := none }) = a := by
        dsimp only [a]
        cases s.net.slave <;> rfl
      refine next_congr ((gptpSyncLoss_synchronised h).trans ?_)
      rw [ha]
      rfl

end Sys2Proof.FabricCycle


/-! SUPPORT. Flows: their descriptors, their operations and their delivery to X (chapter 17). -/

namespace Sys2Proof.FlowOperations

open Sys2Proof Sys2Proof.Machine Sys2Proof.Safety Sys2Proof.Laws Sys2Proof.Writes

section
variable {s u : State} {w f len slot : Nat} {op : State → State}

/-! ### Writes of a descriptor (R72, R74, R81) -/

/-- A write of a descriptor is taken, and its domain is on. -/
def DescriptorWrite (w : Nat) (s : State) : Prop := s.takesWrite w idxDataOff = true ∧ s.domOn 8 = true

theorem asFlowWriter_taken (h : DescriptorWrite w s) : s.asFlowWriter w op = op s := (asWriter_taken h.1).trans (if_pos h.2)

theorem asFlowWriter_met (h : s.takesWrite w idxDataOff = false) : s.asFlowWriter w op = s.meetWrite w idxDataOff :=
  asWriter_met (by decide) h

theorem asFlowWriter_off (h : s.takesWrite w idxDataOff = true) (hd : s.domOn 8 = false) : s.asFlowWriter w op = s.addrErr :=
  (asWriter_taken h).trans (if_neg (Bool.eq_false_iff.mp hd))

/-! ### Enabling, disabling and lengths (R441, R454) -/

theorem flowEnable_nothing (h : f = 0 ∨ s.flag (FLOW_W0.EN f) = true) : flowEnable f s = s := if_pos h

theorem enables (h0 : f ≠ 0) (h : s.flag (FLOW_W0.EN f) = false) : ¬(f = 0 ∨ s.flag (FLOW_W0.EN f) = true) :=
  fun hn => hn.elim h0 fun hf => Bool.false_ne_true (h.symm.trans hf)

/-- A flow starts empty, with its length and credit live. -/
def startedFlow (f : Nat) (s : State) : State :=
  let a := (s.setFlag (FLOW_W0.EN f) true).wr (FLOW_W1.PLEN_LIVE f) (s.rd (FLOW_W1.PLEN f))
  (((a.wr (FLOW_W5.WPTR f) 0).wr (FLOW_W5.RPTR f) 0).wr (FLOW_W4.CRED_NOW f) (a.rd (FLOW_W4.CRED f))).setFill f 0

theorem flowEnable_accepted (h0 : f ≠ 0) (h : s.flag (FLOW_W0.EN f) = false) (hc : s.enableCheck f = 0) :
    flowEnable f s = startedFlow f s := (if_neg (enables h0 h)).trans (if_neg (not_not.mpr hc))

theorem flowEnable_refused (h0 : f ≠ 0) (h : s.flag (FLOW_W0.EN f) = false) (hc : s.enableCheck f ≠ 0) : flowEnable f s
    = (((s.setFlag PAN_STAT.ENREJ true).wr PAN_STAT.REJ_FLOW f).wr PAN_STAT.REJ_CODE (s.enableCheck f)).ignored idxDataOff :=
  (if_neg (enables h0 h)).trans (if_pos hc)

theorem flowDisable_off (h : s.flowOn f = false) : flowDisable f s = s := if_neg (Bool.eq_false_iff.mp h)

theorem plenWrite_zero : plenWrite 0 len s = s := if_pos rfl

theorem plenWrite_off (h0 : f ≠ 0) (h : s.flowOn f = false) : plenWrite f len s
    = (s.wr (FLOW_W1.PLEN f) len).wr (FLOW_W1.PLEN_LIVE f) len := (if_neg h0).trans (if_pos (by rw [h]; rfl))

/-- A length does not fit its flow. -/
def BadLength (f n : Nat) (s : State) : Prop :=
  n % s.esize f ≠ 0 ∨ n < s.esize f ∨ s.panInRange f n = false ∨ s.panOverlaps f n = true

theorem badLength_iff {n : Nat} : (n % s.esize f ≠ 0 ∨ n < s.esize f ∨ (!s.panInRange f n) = true ∨ s.panOverlaps f n = true)
    ↔ BadLength f n s := by
  rw [BadLength, Bool.not_eq_true']

theorem flow_on (h : s.flowOn f = true) : ¬(!s.flowOn f) = true := by rw [h]; decide

theorem plenWrite_bad (h0 : f ≠ 0) (h : s.flowOn f = true) (hb : BadLength f (len % 2 ^ 13) s) :
    plenWrite f len s = s.ignored idxDataOff :=
  (if_neg h0).trans ((if_neg (flow_on h)).trans (if_pos (badLength_iff.mpr hb)))

section
variable {n : Nat} (h0 : f ≠ 0) (h : s.flowOn f = true) (hn : len % 2 ^ 13 = n) (hb : ¬BadLength f n s)
  (hu : s.wr (FLOW_W1.PLEN f) n = u)
include h0 h hn hb hu

theorem plenWrite_queue (hq : u.isQueue f = true) {before : Option Nat}
    (hp : (if s.flag (FLOW_W1.PEND f) = true then some (s.rd (FLOW_W1.PLEN f)) else none) = before) : plenWrite f len s
      = State.setFlag { u with pan := { u.pan with lenAt := place u.pan.lenAt f (u.now, before) } } (FLOW_W1.PEND f) true := by
  subst hn hu hp
  exact (if_neg h0).trans ((if_neg (flow_on h)).trans ((if_neg fun hn => hb (badLength_iff.mp hn)).trans (if_pos hq)))

theorem plenWrite_slots (hq : u.isQueue f = false) {gone : List Nat} (hg : ((u.usedSlots f).filter fun i => n ≤ i * s.esize f) = gone)
    {x : State} (hx : ((gone.foldl (fun z i => z.clearSlot f i) u).discard f gone.length).wr (FLOW_W1.PLEN_LIVE f) n = x) :
    plenWrite f len s = x.setFill f (x.fill f) := by
  subst hn hu hg hx
  exact (if_neg h0).trans ((if_neg (flow_on h)).trans ((if_neg fun hn => hb (badLength_iff.mp hn)).trans
    (if_neg (Bool.eq_false_iff.mp hq))))

end

/-! ### Operations (R445) -/

theorem kind_beq {n : Nat} (h : s.kindOf f = n) : (s.kindOf f == n) = true := beq_iff_eq.mpr h

theorem panPop_opErr (h : s.flowOn f = false ∨ s.kindOf f ≠ 0) : panPop f s = s.opErr := by
  refine if_neg fun hn => ?_
  obtain ⟨hf, hk⟩ := Bool.and_eq_true_iff.mp hn
  exact h.elim (fun h => Bool.false_ne_true (h.symm.trans hf)) fun h => h (beq_iff_eq.mp hk)

theorem panPop_room (h : s.flowOn f = true) (hk : s.kindOf f = 0) (hr : s.fill f < s.capacity f) : panPop f s = s.removeHead f :=
  (if_pos (Bool.and_eq_true_iff.mpr ⟨h, kind_beq hk⟩)).trans (if_neg (by rw [decide_eq_false (not_le.mpr hr)]; decide))

theorem panPop_full (h : s.flowOn f = true) (hk : s.kindOf f = 0) (hr : s.capacity f ≤ s.fill f) (hu : s.removeHead f = u) :
    panPop f s = { u with pan := { u.pan with popped := [(f, u.now)] } } := by
  subst hu
  exact (if_pos (Bool.and_eq_true_iff.mpr ⟨h, kind_beq hk⟩)).trans (if_pos (decide_eq_true hr))

theorem panFlush_opErr (h : s.flowOn f = false) : panFlush f s = s.opErr := if_neg (Bool.eq_false_iff.mp h)

theorem panFlush_queue (h : s.flowOn f = true) (hk : s.kindOf f ≠ 1) : panFlush f s = (s.discard f (s.fill f)).emptyPan f :=
  (if_pos h).trans (if_neg hk)

theorem panFlush_slots (h : s.flowOn f = true) (hk : s.kindOf f = 1) : panFlush f s
    = ((s.usedSlots f).foldl (fun s i => s.clearSlot f i) s).discard f (s.usedSlots f).length := (if_pos h).trans (if_pos hk)

theorem panClear_opErr (h : s.flowOn f = false ∨ s.kindOf f ≠ 1) : panClear f slot s = s.opErr := by
  refine if_neg fun hn => ?_
  obtain ⟨hf, hk⟩ := Bool.and_eq_true_iff.mp hn
  exact h.elim (fun h => Bool.false_ne_true (h.symm.trans hf)) fun h => h (beq_iff_eq.mp hk)

theorem panClear_slot (h : s.flowOn f = true) (hk : s.kindOf f = 1) : panClear f slot s
    = if (s.slotSrc f slot).isSome = true then s.clearSlot f slot else s := if_pos (Bool.and_eq_true_iff.mpr ⟨h, kind_beq hk⟩)

/-! ### PUSH (R445, R457) -/

/-- The flow is an enabled queue. -/
def EnabledQueue (f : Nat) (s : State) : Prop := s.flowOn f = true ∧ s.isQueue f = true

theorem stopped_not (h : s.panStopped = false) : ¬s.panStopped = true := Bool.eq_false_iff.mp h

theorem panPush_stopped (h : s.panStopped = true) : panPush f s = s := if_pos h

theorem panPush_opErr (h : s.panStopped = false) (hq : ¬EnabledQueue f s) : panPush f s = s.opErr :=
  (if_neg (stopped_not h)).trans (if_neg fun hn => hq (Bool.and_eq_true_iff.mp hn))

theorem panPush_here (h : s.panStopped = false) (hq : EnabledQueue f s)
    (ha : ∀ q, s.pan.lastAppend = some (f, s.now, q) → False) : panPush f s = s.pushHere f := by
  refine (if_neg (stopped_not h)).trans ((if_pos (Bool.and_eq_true_iff.mpr hq)).trans ?_)
  split
  · next g t w before hl =>
    refine if_neg fun hn => ?_
    obtain ⟨rfl, ht⟩ := hn
    exact ha (w, before) (by rw [hl, ht])
  · rfl

/-- A POP of this CEC takes the entry that is being stored: its overwrite took the only one. -/
def PopOwed (f : Nat) (s : State) : Prop := s.flag (FLOW_W0.OVW f) = true ∧ s.poppedFull f = true ∧ s.fill f = 0

theorem popOwed_iff : s.popOwed f = true ↔ PopOwed f s := by simp [State.popOwed, PopOwed, and_assoc]

/-- The entry at WPTR joins a queue that has room. -/
def joinedQueue (f : Nat) (s : State) : State :=
  ((s.makeRoom f).2.putWritten f (s.rd (FLOW_W5.WPTR f)) (s.sram.bytes 0 (s.panAddr f (s.rd (FLOW_W5.WPTR f))) (64 * s.esize f))).advanceWrite f

theorem pushHere_room (h : (s.makeRoom f).1 = true) : s.pushHere f = (joinedQueue f s).settlePop (s.popOwed f) f := if_pos h

theorem pushHere_full (h : (s.makeRoom f).1 = false) : s.pushHere f = (s.makeRoom f).2 := if_neg (Bool.eq_false_iff.mp h)

theorem settlePop_owed (h : PopOwed f s) : u.settlePop (s.popOwed f) f = u.removeHead f := if_pos (popOwed_iff.mpr h)

theorem settlePop_not (h : ¬PopOwed f s) : u.settlePop (s.popOwed f) f = u := if_neg fun hn => h (popOwed_iff.mp hn)

theorem panPush_after {at_ : Nat} {before : List Byte} (h : s.panStopped = false) (hq : EnabledQueue f s)
    (ha : s.pan.lastAppend = some (f, s.now, at_, before)) {x : Bool × State}
    (hx : (State.putWritten { s with pan := { s.pan with lastAppend := none } } f at_ before).makeRoom f = x) : ∀ record,
    s.sram.bytes 0 (s.panAddr f at_) (64 * s.esize f) = record → panPush f s = if x.1 = true then State.advanceWrite
      { x.2 with sram := x.2.sram.setBytes 0 (x.2.panAddr f (x.2.rd (FLOW_W5.WPTR f))) record } f else x.2 := by
  rintro _ rfl
  subst hx
  refine (if_neg (stopped_not h)).trans ((if_pos (Bool.and_eq_true_iff.mpr hq)).trans ?_)
  rw [ha]
  exact if_pos ⟨rfl, rfl⟩

/-! ### Delivery to X (R448) -/

/-- A record of `held` words with what waits before it can go to X: its flow delivers, and every word can drain in time. -/
def DeliversToX (f held : Nat) (s : State) : Prop := s.flowOn f = true ∧ s.kindOf f = 0 ∧ s.flag (FLOW_W0.XDLV f) = true ∧ s.fill f ≠ 0
  ∧ held ≤ 64 ∧ (s.running = false ∨ (s.mayDrain = true ∧ held ≤ s.drainLeft))

/-- Words of the record at the head that go to X. -/
def deliveredWords (f : Nat) (s : State) : Nat := min ((s.entryRecord f (s.rd (FLOW_W5.RPTR f))).length / 4) (s.rd (FLOW_W3.XLEN f))

theorem flowDelivers_iff : (s.flowOn f && s.kindOf f == 0 && s.flag (FLOW_W0.XDLV f) && s.fill f != 0) = true
    ↔ s.flowOn f = true ∧ s.kindOf f = 0 ∧ s.flag (FLOW_W0.XDLV f) = true ∧ s.fill f ≠ 0 := by simp [and_assoc]

theorem drains_iff {held : Nat} : (decide (held ≤ 64) && (!s.running || (s.mayDrain && decide (held ≤ s.drainLeft)))) = true
    ↔ held ≤ 64 ∧ (s.running = false ∨ (s.mayDrain = true ∧ held ≤ s.drainLeft)) := by simp

theorem xDelivery_goes (h : DeliversToX f (s.sys.xQueue.length + 2 * deliveredWords f s) s) : xDelivery f s
    = (s.queueWords (4 * s.rd (FLOW_W3.XIDX f)) (wordsLe (deliveredWords f s) (s.entryRecord f (s.rd (FLOW_W5.RPTR f))))).removeHead f := by
  obtain ⟨hf, hk, hx, hn, hheld, htime⟩ := h
  exact (if_pos (flowDelivers_iff.mpr ⟨hf, hk, hx, hn⟩)).trans (if_pos (drains_iff.mpr ⟨hheld, htime⟩))

theorem xDelivery_stays (h : ¬DeliversToX f (s.sys.xQueue.length + 2 * deliveredWords f s) s) : xDelivery f s = s := by
  unfold xDelivery
  split
  · next hf =>
    obtain ⟨hf, hk, hx, hn⟩ := flowDelivers_iff.mp hf
    exact if_neg fun hd => h ⟨hf, hk, hx, hn, drains_iff.mp hd⟩
  · rfl

end

/-- Settles O59: each operation by the cases of its function, under the test that every write of its register meets. -/
theorem flowOperations : Obligations.flow_operations := by
  unfold Obligations.flow_operations
  refine ⟨fun w f len slot s => ?descriptors, fun w f s => ?push⟩
  case descriptors =>
    extract_lets -descend desc op
    have taken {g : State → State} {t : State} (h : desc) (ht : g s = t) : s.asFlowWriter w g = t := (asFlowWriter_taken h).trans ht
    have done {g : State → State} {t : State} (h : op) (ht : g s = t) : s.asWriter w 0x3004 g = t := (asWriter_taken h).trans ht
    refine ⟨?writes, ?metOps, fun h he => next_congr (taken h (flowEnable_nothing he)),
      fun h h0 he => ⟨fun hc => next_congr (taken h (flowEnable_accepted h0 he hc)),
        fun hc => next_congr (taken h (flowEnable_refused h0 he hc))⟩,
      fun h hf => next_congr (taken h (if_pos hf)), fun h hf => next_congr (taken h (flowDisable_off hf)), fun h hf => ?opErr,
      fun h h0 => ?zero, fun h h0 hf => next_congr (taken h (plenWrite_off h0 hf)), fun h h0 hf => ?length, fun h hf => ?ops⟩
    case writes =>
      intro i hi
      simp only [List.mem_cons, List.not_mem_nil, or_false] at hi
      rcases hi with rfl | rfl | rfl <;>
        exact ⟨fun h => next_congr (asFlowWriter_met h), fun h hd => next_congr (asFlowWriter_off h hd)⟩
    case metOps =>
      intro i hi h
      simp only [List.mem_cons, List.not_mem_nil, or_false] at hi
      rcases hi with rfl | rfl | rfl <;> exact next_congr (asWriter_met (by decide) h)
    case opErr =>
      intro i hi
      simp only [List.mem_cons, List.not_mem_nil, or_false] at hi
      rcases hi with rfl | rfl | rfl
      · exact next_congr (done h (panPop_opErr (.inl hf)))
      · exact next_congr (done h (panFlush_opErr hf))
      · exact next_congr (done h (panClear_opErr (.inl hf)))
    case zero =>
      subst h0
      exact next_congr (taken h plenWrite_zero)
    case length =>
      extract_lets -descend n bad before u gone v x
      exact ⟨fun hb => next_congr (taken h (plenWrite_bad h0 hf hb)),
        fun hb hq => next_congr (taken h (plenWrite_queue h0 hf rfl hb rfl hq rfl)),
        fun hb hq => next_congr (taken h (plenWrite_slots h0 hf rfl hb rfl hq rfl rfl))⟩
    case ops =>
      exact ⟨fun hk hr => next_congr (done h (panPop_room hf hk hr)), fun hk hr => next_congr (done h (panPop_full hf hk hr rfl)),
        fun hk => next_congr (done h (panPop_opErr (.inr hk))), fun hk => next_congr (done h (panFlush_queue hf hk)),
        fun hk => next_congr (done h (panFlush_slots hf hk)),
        fun hk hs => next_congr (done h ((panClear_slot hf hk).trans (if_pos hs))),
        fun hk hs => next_congr (done h ((panClear_slot hf hk).trans (if_neg (Bool.eq_false_iff.mp hs)))),
        fun hk => next_congr (done h (panClear_opErr (.inr hk)))⟩
  case push =>
    extract_lets -descend queue op runs size b owed
    have done {t : State} (h : op) (ht : panPush f s = t) : s.asWriter w 0x3004 (panPush f) = t := (asWriter_taken h).trans ht
    refine ⟨fun h => next_congr (asWriter_met (by decide) h), fun h hs => next_congr (done h (panPush_stopped hs)),
      fun h hq => next_congr (done h.1 (panPush_opErr h.2 hq)), fun h hq ha => ?here, fun at_ before h hq ha => ?after, ?delivery⟩
    case here =>
      extract_lets -descend joined
      have pushed := panPush_here h.2 hq ha
      exact ⟨fun hr ho => next_congr (done h.1 (pushed.trans ((pushHere_room hr).trans (settlePop_not ho)))),
        fun hr ho => next_congr (done h.1 (pushed.trans ((pushHere_room hr).trans (settlePop_owed ho)))),
        fun hr => next_congr (done h.1 (pushed.trans (pushHere_full hr)))⟩
    case after =>
      extract_lets -descend record x y
      have pushed := panPush_after h.2 hq ha (x := x) rfl record rfl
      exact ⟨fun hr => next_congr (done h.1 (pushed.trans (if_pos hr))),
        fun hr => next_congr (done h.1 (pushed.trans (if_neg (Bool.eq_false_iff.mp hr))))⟩
    case delivery =>
      extract_lets -descend record n held inTime goes
      exact ⟨fun h => next_congr (xDelivery_goes h), fun h => next_congr (xDelivery_stays h)⟩

end Sys2Proof.FlowOperations


/-! SUPPORT. Mailbox services, the log, and the handover of motors (chapter 19). -/

namespace Sys2Proof.Services

open Sys2Proof Sys2Proof.Machine Sys2Proof.Safety Sys2Proof.Laws Sys2Proof.Writes

/-! ### Which request a service serves (R477 to R480) -/

/-- The commands of the services, by number. -/
def serviceRows (held : Option (List Byte)) : List (Nat × Instr) :=
  [(0x01, .ident), (0x02, .status), (0x10, .logRead), (0x11, .logMark), (0x20, .sensors), (0x30, .flashErase),
    (0x31, .flashWrite held), (0x32, .flashRead), (0x33, .verify), (0x34, .imgCommit), (0x35, .imgRepair), (0x40, .halfReset),
    (0x41, .updateEnter), (0x42, .updateEnd), (0x50, .handover), (0x60, .provisionKey held)]

/-- Each of them serves the head request with an action of its own. -/
theorem serviceRows_serve {held : Option (List Byte)} {row : Nat × Instr} (h : row ∈ serviceRows held) :
    ∃ act, ∀ s, exec row.2 s = completes s (s.serve row.1 act) := by
  simp only [serviceRows, List.mem_cons, List.not_mem_nil, or_false] at h
  rcases h with rfl | rfl | rfl | rfl | rfl | rfl | rfl | rfl | rfl | rfl | rfl | rfl | rfl | rfl | rfl | rfl <;>
    exact ⟨_, fun _ => rfl⟩

section
variable {s u : State} {m : MboxReq} {rest : List MboxReq} {svc : Nat} {act : Reply → List Byte → State → State}

/-- The head request is taken off the queue. -/
def headTaken (rest : List MboxReq) (s : State) : State :=
  { s.dropUnknown s.mgmt.queue with mgmt := { (s.dropUnknown s.mgmt.queue).mgmt with queue := rest } }

/-- A service admits the request it takes off the queue. -/
def Admits (svc : Nat) (m : MboxReq) (u : State) : Prop :=
  svcOf m.bytes = svc ∧ lenOk svc m.bytes = true ∧ u.stateOk svc (argsOf m.bytes) = true ∧ u.writerOk svc m.reply = true

theorem serve_other (hq : (s.dropUnknown s.mgmt.queue).mgmt.queue = m :: rest) (h : svcOf m.bytes ≠ svc) :
    s.serve svc act = s.dropUnknown s.mgmt.queue := (serve_head s m rest svc act hq).trans (if_pos h)

theorem not_of_eq_false {b : Bool} (h : b = false) : (!b) = true := by rw [h]; rfl

theorem not_not_of_eq_true {b : Bool} (h : b = true) : ¬(!b) = true := by rw [h]; decide

theorem serve_badLen (hq : (s.dropUnknown s.mgmt.queue).mgmt.queue = m :: rest) (hu : headTaken rest s = u)
    (h : svcOf m.bytes = svc) (hl : lenOk svc m.bytes = false) : s.serve svc act = u.answer m.reply svc mbBadLen 0 [] := by
  subst hu
  exact (serve_head s m rest svc act hq).trans ((if_neg (not_not.mpr h)).trans (if_pos (not_of_eq_false hl)))

theorem serve_state (hq : (s.dropUnknown s.mgmt.queue).mgmt.queue = m :: rest) (hu : headTaken rest s = u)
    (h : svcOf m.bytes = svc) (hl : lenOk svc m.bytes = true) (hs : u.stateOk svc (argsOf m.bytes) = false) :
    s.serve svc act = u.answer m.reply svc mbState u.half.code [] := by
  subst hu
  exact (serve_head s m rest svc act hq).trans ((if_neg (not_not.mpr h)).trans ((if_neg (not_not_of_eq_true hl)).trans
    (if_pos (not_of_eq_false hs))))

theorem serve_writer (hq : (s.dropUnknown s.mgmt.queue).mgmt.queue = m :: rest) (hu : headTaken rest s = u)
    (h : svcOf m.bytes = svc) (hl : lenOk svc m.bytes = true) (hs : u.stateOk svc (argsOf m.bytes) = true)
    (hw : u.writerOk svc m.reply = false) : s.serve svc act = u.answer m.reply svc mbWriter 0 [] := by
  subst hu
  exact (serve_head s m rest svc act hq).trans ((if_neg (not_not.mpr h)).trans ((if_neg (not_not_of_eq_true hl)).trans
    ((if_neg (not_not_of_eq_true hs)).trans (if_pos (not_of_eq_false hw)))))

theorem serve_admitted (hq : (s.dropUnknown s.mgmt.queue).mgmt.queue = m :: rest) (hu : headTaken rest s = u) (h : Admits svc m u) :
    s.serve svc act = act m.reply (argsOf m.bytes) u := by
  subst hu
  exact serve_act s m rest hq svc act h

end

/-! ### Long services and the log (R480, R487, R488, R491) -/

section
variable {s u b : State} {fails : Bool} {l : LongSvc} {held : Option (List Byte)} {e : LogEvent} {es : List LogEvent}

theorem longServiceDone_none (h : s.mgmt.long = none) : longServiceDone fails s = s := by
  unfold longServiceDone
  rw [h]

theorem longServiceDone_erase (h : s.mgmt.long = some l) (hl : l.svc = 0x30) : longServiceDone fails s
    = s.endLong l (if fails = true then mbFlash else mbOk) (0x10000 * l.count) := by
  unfold longServiceDone
  rw [h]
  exact if_pos hl

theorem longServiceDone_verify (h : s.mgmt.long = some l) (hl : l.svc = 0x33) : longServiceDone fails s
    = (s.wr MGMT_UPD.CHECK (s.verifyCode l.region)).endLong l mbOk regionSize := by
  unfold longServiceDone
  rw [h]
  exact (if_neg (by rw [hl]; decide)).trans (if_pos hl)

theorem longServiceDone_stopped (h : s.mgmt.long = some l) (hl : l.svc = 0x34) (hc : s.rd MGMT_UPD.CHECK ≠ 0) : longServiceDone fails s
    = s.draw.2.endLong l (s.draw.1 % 256) 0 := by
  unfold longServiceDone
  rw [h]
  exact (if_neg (by rw [hl]; decide)).trans ((if_neg (by rw [hl]; decide)).trans (if_pos ⟨hl, hc⟩))

theorem longServiceDone_copy (h : s.mgmt.long = some l) (hl : l.svc = 0x35 ∨ (l.svc = 0x34 ∧ s.rd MGMT_UPD.CHECK = 0))
    (hu : (if fails = true then s else s.copyRegion l.region) = u) : longServiceDone fails s
      = u.endLong l (if fails = true ∨ u.copyDiff.isSome = true then mbFlash else mbOk) regionSize := by
  subst hu
  have ne : l.svc ≠ 0x30 ∧ l.svc ≠ 0x33 ∧ ¬(l.svc = 0x34 ∧ s.rd MGMT_UPD.CHECK ≠ 0) := by
    rcases hl with hl | ⟨hl, hc⟩
    · rw [hl]
      exact ⟨by decide, by decide, fun hn => absurd hn.1 (by decide)⟩
    · rw [hl]
      exact ⟨by decide, by decide, fun hn => hn.2 hc⟩
  unfold longServiceDone
  rw [h]
  exact (if_neg ne.1).trans ((if_neg ne.2.1).trans (if_neg ne.2.2))

theorem logWrite_nothing (h : s.logQueue = [] ∨ svcState s.half = false) : logWrite held s = s := by
  unfold logWrite
  split
  · rfl
  · next e es hq => exact if_pos (not_of_eq_false (h.resolve_left (by rw [hq]; exact List.cons_ne_nil e es)))

/-- The times of the entries of the last second. -/
def recentEntries (s : State) : List Nat := s.mgmt.logTimes.filter fun t => s.now - t < 1000 * 400000

theorem logWrite_late (hq : s.logQueue = e :: es) (hs : svcState s.half = true) (hr : 2000 ≤ (recentEntries s).length) :
    logWrite held s = s.loseEntry := by
  unfold logWrite
  rw [hq]
  exact (if_neg (not_not_of_eq_true hs)).trans (if_pos hr)

/-- The line for the next entry, and what the entry is to read there. -/
def entryLine (s : State) : Nat := s.nextLine (s.rd MGMT_LOG_STAT.HEAD)
def entrySeq (s : State) : Nat := (s.rd MGMT_LOG_SEQ.NEWEST + 1) % 2 ^ 32

/-- A line has been written, and reads back as `got`. -/
def lineWritten (got : List Byte) (s : State) : State :=
  { s with mram := s.mram.setBytes 0 (32 * entryLine s) got, mgmt := { s.mgmt with logTimes := s.now :: recentEntries s } }

section
variable (hq : s.logQueue = e :: es) (hs : svcState s.half = true) (hr : (recentEntries s).length < 2000) {want got : List Byte}
  (hw : s.entryBytes (entrySeq s) e = want) (hg : fitBytes 32 (held.getD want) = got) (hu : lineWritten got s = u)
include hq hs hr hw hg hu

theorem logWrite_good (he : got = want) : logWrite held s
    = { (u.wr MGMT_LOG_SEQ.NEWEST (entrySeq s)).wr MGMT_LOG_STAT.HEAD (entryLine s) with logQueue := u.logQueue.drop 1 } := by
  subst hw hg hu
  unfold logWrite
  split
  · next hn => exact absurd (hq.symm.trans hn) (List.cons_ne_nil e es)
  · next hc =>
    obtain ⟨rfl, rfl⟩ := List.cons.inj (hq.symm.trans hc)
    exact (if_neg (not_not_of_eq_true hs)).trans ((if_neg (not_le.mpr hr)).trans (if_pos he))

theorem logWrite_bad (he : got ≠ want) (hb : u.report srcLogFail 0 = b) : logWrite held s
    = if 64 ≤ b.keepArea.badLines.length then b.loseEntry
      else State.wr { b with keepArea := { b.keepArea with badLines := b.keepArea.badLines ++ [entryLine s] } } MGMT_LOG_STAT.BAD_LINES
        (b.keepArea.badLines ++ [entryLine s]).length := by
  subst hw hg hu hb
  unfold logWrite
  split
  · next hn => exact absurd (hq.symm.trans hn) (List.cons_ne_nil e es)
  · next hc =>
    obtain ⟨rfl, rfl⟩ := List.cons.inj (hq.symm.trans hc)
    exact (if_neg (not_not_of_eq_true hs)).trans ((if_neg (not_le.mpr hr)).trans (if_neg he))

end

end

/-! ### The handover (R493 to R498) -/

section
variable {s u x : State} {p : List Byte}

/-- The commands that take the frame at the head of the MP's queue, by its CODE. -/
theorem headless_row {row : Nat × Instr} (h : row ∈ [(0x10, Instr.hoReq), (0x11, .hoAck), (0x12, .hoNak), (0x13, .hoOut),
    (0x15, .hoAbort), (0x14, .hoBack), (0x20, .updNext)]) (hn : s.headCommand row.1 = none) : exec row.2 s = completes s s := by
  simp only [List.mem_cons, List.not_mem_nil, or_false] at h
  rcases h with rfl | rfl | rfl | rfl | rfl | rfl | rfl <;> refine next_congr ?_
  · unfold hoReq
    rw [hn]
  · unfold hoAck
    rw [hn]
  · unfold hoNak
    rw [hn]
  · unfold hoOutRx
    rw [hn]
  · unfold hoAbort
    rw [hn]
  · exact if_neg (by rw [hn]; decide)
  · exact if_neg (by rw [hn]; decide)

theorem hoReq_head (h : s.headCommand 0x10 = some p)
    (hx : (if s.dropCommand.hstate = hoAsk ∧ s.dropCommand.halfId = .b then s.dropCommand.failHo 5 else s.dropCommand) = x) {v : State}
    (hv : ((x.sendHo 0x11 (leBytes 2 (payNat p 0 2))).wr MGMT_HO.HO_ID (payNat p 0 2)).wr MGMT_HO.REASON 0 = v) : hoReq s
      = if x.hoReason = 0 then
          ({ v with ho := { v.ho with mask := payNat p 2 1, ramp := false, since := v.now, out := false } } : State).enterHo hoPartner
        else x.sendHo 0x12 (dataOf [(2, payNat p 0 2), (1, x.hoReason)]) := by
  subst hx hv
  unfold hoReq
  rw [h]

theorem hoAck_head (h : s.headCommand 0x11 = some p) (hu : s.dropCommand = u) : hoAck s
    = if u.hstate = hoAsk ∧ payNat p 0 2 = u.rd MGMT_HO.HO_ID then
        ({ u with ho := { u.ho with since := u.now } } : State).enterHo hoRamp else u := by
  subst hu
  unfold hoAck
  rw [h]

theorem hoNak_head (h : s.headCommand 0x12 = some p) (hu : s.dropCommand = u) : hoNak s
    = if u.hstate = hoAsk ∧ payNat p 0 2 = u.rd MGMT_HO.HO_ID then u.failHo (payNat p 2 1) else u := by
  subst hu
  unfold hoNak
  rw [h]

theorem hoOutRx_head (h : s.headCommand 0x13 = some p) (hu : s.dropCommand = u) : hoOutRx s
    = if u.hstate = hoPartner ∧ payNat p 0 2 = u.rd MGMT_HO.HO_ID then
        ({ u with ho := { u.ho with out := true } } : State).logHandover else u := by
  subst hu
  unfold hoOutRx
  rw [h]

theorem hoAbort_head (h : s.headCommand 0x15 = some p) (hu : s.dropCommand = u) : hoAbort s
    = if (u.inRamp = true ∨ u.hstate = hoAsk) ∧ payNat p 0 2 = u.rd MGMT_HO.HO_ID then u.failHo (payNat p 2 1) else u := by
  subst hu
  unfold hoAbort
  rw [h]

theorem hoBack_head (h : s.headCommand 0x14 = some p) : hoBack s = s.dropCommand.partnerBack := if_pos (by rw [h]; rfl)

theorem updNext_head (h : s.headCommand 0x20 = some p) : updNext s = s.dropCommand.setFlag MGMT_HO.NEXT true := if_pos (by rw [h]; rfl)

end

/-- Settles O60: a service acts on the head request that it admits and answers one that it does not; the actions, the end of long
services, the log and the handover are each taken by their cases. -/
theorem servicesAndHandover : Obligations.services_and_handover := by
  unfold Obligations.services_and_handover
  refine ⟨fun held m rest svc i s hi => ?requests, fun m rest s hq => ?answers, fun m rest held s hq => ?changes,
    fun fails held l e es s => ?long, fun m rest p s => ?handover⟩
  case requests =>
    extract_lets -descend u v a r
    obtain ⟨act, hact⟩ := serviceRows_serve hi
    have run {t : State} (ht : s.serve svc act = t) : exec i s = completes s t := (hact s).trans (congrArg (completes s) ht)
    exact ⟨fun hq => run (serve_none s svc act hq), fun hq => ⟨fun h => run (serve_other hq h), fun h hl => run (serve_badLen hq rfl h hl),
      fun h hl hs => run (serve_state hq rfl h hl hs), fun h hl hs hw => run (serve_writer hq rfl h hl hs hw)⟩⟩
  case answers =>
    extract_lets -descend a r u for_
    have run (svc : Nat) (act : Reply → List Byte → State → State) (h : for_ svc) : s.serve svc act = act r a u :=
      serve_admitted hq rfl h
    clear_value u
    refine ⟨fun h => next_congr (run _ _ h), fun h => next_congr (run _ _ h), fun h => next_congr (run _ _ h),
      fun h => next_congr (run _ _ h), fun h => next_congr (run _ _ h), ?read, fun h => next_congr (run _ _ h),
      fun h => next_congr (run _ _ h), fun h => next_congr (run _ _ h)⟩
    case read =>
      extract_lets bad
      exact ⟨fun h hb => next_congr ((run _ _ h).trans (if_pos hb)), fun h hb => next_congr ((run _ _ h).trans (if_neg hb))⟩
  case changes =>
    extract_lets -descend a r u region case busy for_
    have run (svc : Nat) (act : Reply → List Byte → State → State) (h : for_ svc) : s.serve svc act = act r a u :=
      serve_admitted hq rfl h
    clear_value u
    refine ⟨?erase, ?write, fun h hb => next_congr ((run _ _ h).trans (if_pos hb)),
      fun h hb hr => next_congr ((run _ _ h).trans ((if_neg hb).trans (if_pos hr))),
      fun h hb hr => next_congr ((run _ _ h).trans ((if_neg hb).trans (if_neg (not_lt.mpr hr)))),
      fun h hb => next_congr ((run _ _ h).trans (if_pos hb)), fun h hb => ?commit,
      fun h hb => next_congr ((run _ _ h).trans (if_pos hb)),
      fun h hb hc => next_congr ((run _ _ h).trans ((if_neg hb).trans (if_pos hc))),
      fun h hb hc => ?repair1, fun h hb hc => ?repair0,
      fun h hb h2 h3 h4 => next_congr ((run _ _ h).trans ((if_neg hb).trans ((if_neg h4).trans (if_neg (not_or.mpr ⟨h2, h3⟩))))),
      fun h hk => next_congr ((run _ _ h).trans (if_pos (not_of_eq_false hk))),
      fun h hk => next_congr ((run _ _ h).trans (if_neg (not_not_of_eq_true hk)))⟩
    case erase =>
      extract_lets -descend bad flash
      exact ⟨fun h hb => next_congr ((run _ _ h).trans (if_pos hb)),
        fun h hb hl => next_congr ((run _ _ h).trans ((if_neg hb).trans (if_pos hl))),
        fun h hb hl => next_congr ((run _ _ h).trans ((if_neg hb).trans (if_neg hl)))⟩
    case write =>
      extract_lets -descend n bad got v st
      exact ⟨fun h hb => next_congr ((run _ _ h).trans (if_pos hb)), fun h hb => next_congr ((run _ _ h).trans (if_neg hb))⟩
    case commit =>
      extract_lets -descend code v
      exact ⟨fun hc => next_congr ((run _ _ h).trans ((if_neg hb).trans (if_pos hc))),
        fun hc => next_congr ((run _ _ h).trans ((if_neg hb).trans (if_neg hc)))⟩
    case repair1 =>
      have h4 : case ≠ 4 := by rw [hc]; decide
      exact next_congr ((run _ _ h).trans ((if_neg hb).trans ((if_neg h4).trans
        ((if_pos (.inl hc)).trans (congrArg (fun c => u.startLong r ⟨0x35, c, 0, 0, r.writer⟩) (if_pos hc))))))
    case repair0 =>
      have h2 : case ≠ 2 := by rw [hc]; decide
      have h4 : case ≠ 4 := by rw [hc]; decide
      exact next_congr ((run _ _ h).trans ((if_neg hb).trans ((if_neg h4).trans
        ((if_pos (.inr hc)).trans (congrArg (fun c => u.startLong r ⟨0x35, c, 0, 0, r.writer⟩) (if_neg h2))))))
  case long =>
    refine ⟨fun h => next_congr (longServiceDone_none h), fun h => ⟨fun hl => next_congr (longServiceDone_erase h hl),
      fun hl => next_congr (longServiceDone_verify h hl), fun hl hc => next_congr (longServiceDone_stopped h hl hc), fun hl => ?copy⟩,
      fun h => next_congr (logWrite_nothing h), fun hq hs => ?line⟩
    case copy =>
      extract_lets u
      refine ⟨fun hf => next_congr ((longServiceDone_copy h hl (if_pos hf)).trans ?_),
        fun hf => next_congr ((longServiceDone_copy h hl (if_neg (Bool.eq_false_iff.mp hf))).trans ?_)⟩
      · rw [if_pos (.inl hf)]
      · rw [if_congr (or_iff_right (Bool.eq_false_iff.mp hf)) rfl rfl]
    case line =>
      extract_lets -descend recent line seq want got mgmt u b lines
      exact ⟨fun hr => next_congr (logWrite_late hq hs hr), fun hr he => next_congr (logWrite_good hq hs hr rfl rfl rfl he),
        fun hr he hb => next_congr ((logWrite_bad hq hs hr rfl rfl rfl he rfl).trans (if_pos hb)),
        fun hr he hb => next_congr ((logWrite_bad hq hs hr rfl rfl rfl he rfl).trans (if_neg (not_le.mpr hb)))⟩
  case handover =>
    extract_lets -descend u same
    refine ⟨fun hq hm hl => ?starts, fun row hr hn => headless_row hr hn, fun h => ?req,
      fun h => ⟨fun hs => next_congr ((hoAck_head h rfl).trans (if_pos hs)), fun hs => next_congr ((hoAck_head h rfl).trans (if_neg hs))⟩,
      fun h => ⟨fun hs => next_congr ((hoNak_head h rfl).trans (if_pos hs)), fun hs => next_congr ((hoNak_head h rfl).trans (if_neg hs))⟩,
      ?ramp, fun h => ⟨fun hs => next_congr ((hoOutRx_head h rfl).trans (if_pos hs)),
        fun hs => next_congr ((hoOutRx_head h rfl).trans (if_neg hs))⟩,
      ?late, fun h => ?abort, fun h => ⟨fun hs => next_congr ((hoBack_head h).trans (if_pos hs)),
        fun hs => next_congr ((hoBack_head h).trans (if_neg hs))⟩, fun h => next_congr (updNext_head h)⟩
    case starts =>
      extract_lets -descend q a mask shares aborts bad id v w
      intro hst hwr
      have run (act : Reply → List Byte → State → State) : s.serve 0x50 act = act m.reply a q := serve_admitted hq rfl ⟨hm, hl, hst, hwr⟩
      have hbad : (mask = 0 ∨ 8 ≤ mask ∨ secNat a 1 1 ≠ 1 ∨ (!([0, 1, 2].all shares)) = true) ↔ bad := by rw [Bool.not_eq_true']
      clear_value q
      exact ⟨fun ha => next_congr ((run _).trans (if_pos ha)),
        fun ha hb => next_congr ((run _).trans ((if_neg ha).trans (if_pos (hbad.mpr hb)))),
        fun ha hb hc => next_congr ((run _).trans ((if_neg ha).trans ((if_neg fun hn => hb (hbad.mp hn)).trans (if_pos hc)))),
        fun ha hb hc hi => next_congr ((run _).trans ((if_neg ha).trans ((if_neg fun hn => hb (hbad.mp hn)).trans
          (if_neg (not_or.mpr ⟨not_not.mpr hc, not_not.mpr hi⟩)))))⟩
    case req =>
      extract_lets -descend x id
      exact ⟨fun hr => next_congr ((hoReq_head h rfl rfl).trans (if_pos hr)), fun hr => next_congr ((hoReq_head h rfl rfl).trans (if_neg hr))⟩
    case ramp =>
      extract_lets -descend v
      exact ⟨fun h => next_congr (if_pos h), fun h => next_congr (if_neg h)⟩
    case late =>
      extract_lets late
      exact ⟨fun h => next_congr (if_pos h), fun h => next_congr (if_neg h)⟩
    case abort =>
      extract_lets ends
      exact ⟨fun hs => next_congr ((hoAbort_head h rfl).trans (if_pos hs)), fun hs => next_congr ((hoAbort_head h rfl).trans (if_neg hs))⟩

end Sys2Proof.Services
